-- ==== Sys2Proof/Word.lean ====
section
/-!
DEFINITION. The register word and the byte.
-/
namespace Sys2Proof

/-- A register of the CTRL and SEAT windows: 32 bits (R17). -/
abbrev Word := BitVec 32

/-- A byte of a record, a frame, a message or device DRAM. -/
abbrev Byte := BitVec 8

end Sys2Proof
end

