-- ==== Sys2Proof/Syntax.lean ====
section
/-!
DEFINITION. The commands of the block: one constructor of `Instr` for each row of opcode_table.json. A command is a
register write, an event on a link, a port or a pin, or an instant that the timebase reaches; its operands are what
the outside world brings to it.
-/
namespace Sys2Proof

/-- The raw codes of local channel `j` in one measure-link frame (R67, R68). -/
structure RawSample where
  j : Nat
  v : Int
  i : Int
  deriving DecidableEq, Repr

/-- What the fabric's speed and its faults make of one stroke (R30, R31): channels whose service is not done by the
deadline, channels at whose service the two lanes, or the two guard copies, disagree, channels whose step entry reads
uncorrectable, an uncorrectable directory error, the stroke slack in ticks and the time of the last service in
units of 32 ns. -/
structure StrokeEnv where
  missed   : List Nat := []
  laneBad  : List Nat := []
  guardBad : List Nat := []
  storeBad : List Nat := []
  dirBad   : Bool := false
  slack    : Nat := 65535
  svc      : Nat := 0
  deriving DecidableEq, Repr

/-- The combined results of one reduction (R232). -/
structure RedResult where
  count   : Nat := 0
  sum     : Int := 0
  sumSq   : Nat := 0
  min     : Int := 0
  minChan : Nat := 0
  minDev  : Nat := 0
  max     : Int := 0
  maxChan : Nat := 0
  maxDev  : Nat := 0
  isPartial : Bool := false
  deriving DecidableEq, Repr, Inhabited

/-- Crew traffic over the Bruil fabric (R224 to R233). -/
inductive CrewMsg where
  | register (crew count : Nat)
  | sealAck (crew gen : Nat)
  | deregister (crew : Nat)
  | heartbeat (crew : Nat)
  | report (crew gen arrived withdrawn : Nat)
  | release (crew gen mark : Nat)
  | trans (crew op mark : Nat)
  | contrib (crew src param mark : Nat) (vals : List (Nat × Int))
  | result (crew src param mark : Nat) (r : RedResult)
  | rank (crew src param mark : Nat) (ranks : List (Nat × Nat))
  deriving DecidableEq, Repr

/-- A request of class WREQ (R333, R340): a read, a write, a lock or an unlock of a far space. -/
structure WReq where
  win   : Nat
  /-- 0 an access, 1 a lock, 2 an unlock. -/
  kind  : Nat := 0
  write : Bool := false
  /-- 0 CTRL, 1 DRAM. -/
  space : Nat := 0
  addr  : Nat := 0
  size  : Nat := 0
  data  : List (BitVec 8) := []
  deriving DecidableEq, Repr, Inhabited

/-- What a packet carries (R310); the manual gives most of these payloads no byte layout. -/
inductive Load where
  | crew (m : CrewMsg)
  /-- Link-state announcement (R308): the device that it is of, its serial number and its neighbours. -/
  | announce (dev serial : Nat) (nbrs : List Nat)
  /-- Sleep agreement (R326). -/
  | vote (on : Bool)
  | agree (mark : Nat)
  | abort
  | wreq (r : WReq)
  | wcpl (win code : Nat) (data : List (BitVec 8))
  /-- R317: the writes of an initiator are delivered or refused up to an `ESEQ`. -/
  | ack (init upTo : Nat)
  /-- R318: the error return of a posted write. -/
  | err (init code addr : Nat)
  /-- A posted write of a DMA chunk to DRAM (R395). -/
  | write (addr : Nat) (data : List (BitVec 8))
  /-- A message of the bridges with its hop count (R344, R352). -/
  | message (id hop : Nat) (data : List (BitVec 8))
  /-- A segment of a tunnelled frame (R425): frame number, segment, last, bytes. -/
  | eth (frame seg : Nat) (last : Bool) (data : List (BitVec 8))
  deriving DecidableEq, Repr

/-- A packet (R309). -/
structure Packet where
  dst  : Nat
  src  : Nat
  /-- Class of R310. -/
  cls  : Nat
  vc   : Nat := 0
  alt  : Bool := false
  adir : Nat := 0
  init : Nat := 64
  eseq : Nat := 0
  tag  : Nat := 0
  load : Load
  deriving DecidableEq, Repr

/-- What a peer sends in IDENT (R306); `id` is none while it has no identifier. -/
structure Peer where
  id   : Option Nat := none
  x    : Nat := 0
  y    : Nat := 0
  z    : Nat := 0
  /-- X, Y, Z and the wrap flags of x, y, z at bits 0 to 2. -/
  sx   : Nat := 1
  sy   : Nat := 1
  sz   : Nat := 1
  wrap : Nat := 0
  dir  : Nat := 0
  link : Nat := 0
  serial : Nat := 0
  deriving DecidableEq, Repr, Inhabited

/-- A window access as its requester makes it (R332): seat `s` at an offset of its aperture, or the management
firmware at an offset of window `w`. -/
inductive WinAddr where
  | seat (s off : Nat)
  | firmware (w off : Nat)
  deriving DecidableEq, Repr

/-- Where a message reaches the message bridge from (R350). -/
inductive MsgSrc where
  | can (port : Nat) (ide : Bool)
  | fabric (dev hop : Nat)
  | seat (s : Nat)
  deriving DecidableEq, Repr

/-- A CAN frame (R440, R443). -/
structure CanFrame where
  ide  : Bool := false
  fdf  : Bool := false
  brs  : Bool := false
  rtr  : Bool := false
  id   : Nat
  data : List (BitVec 8) := []
  deriving DecidableEq, Repr, Inhabited

/-- What the field die measures for one upstream frame: FV24, LSV and DOV in 0.2 V, its temperature in °C, and for each
load switch its junction temperature in °C and current in mA (R466, R495, R498). -/
structure FieldMeas where
  fv24 : Nat := 0
  lsv  : Nat := 0
  dov  : Nat := 0
  temp : Int := 0
  ls   : List (Nat × Nat × Nat) := []
  deriving DecidableEq, Repr, Inhabited

/-- The commands of the Krasum. -/
inductive Instr where
  -- Architecture: page life cycle, registers, governor (01_architecture.md)
  /-- R58: `PG_CTRL` = RUN to page `p`. -/
  | pgRun (p : Nat)
  /-- R58: `PG_CTRL` = STOP to page `p`. -/
  | pgStop (p : Nat)
  /-- R58: `PG_CTRL` = SRST to page `p`. -/
  | pgSrst (p : Nat)
  /-- R59: STARTING of page `p` ends its checks; `envOk` says whether what lies outside the registers (a journal, a
  device memory) passes them. -/
  | pgStartDone (p : Nat) (envOk : Bool)
  /-- R59: STOPPING of page `p` ends. -/
  | pgStopDone (p : Nat)
  /-- R60: STARTING of page `p` outlasts its bound. -/
  | startTimeout (p : Nat)
  /-- R60: STOPPING of page `p` outlasts its bound. -/
  | stopTimeout (p : Nat)
  /-- R54: a write of `v` to `PG_EVSET` of page `p`. -/
  | pgEvsetWrite (p : Nat) (v : Word)
  /-- R50: a write that sets `PG_LOCK` of page `p`. -/
  | pgLockSet (p : Nat)
  /-- R20: a 32-bit write of `v` at the CTRL-window offset `addr`. -/
  | registerWrite (addr : Nat) (v : Word)
  /-- R48: a CTRL-window access of an unsupported size or alignment. -/
  | badAccess
  /-- R37: the end of a 100 µs window of the governor. -/
  | governorWindow
  /-- R39: a write of `v` to `PWR.SLACK_CLR`. -/
  | slackClr (v : Word)
  -- Cell measurement and calibration (02_measurement.md)
  /-- R65: a base strobe of both measure dies. -/
  | baseStrobe
  /-- R69: a measure-link frame of die `d` arrives with the raw codes of the latest strobe; `good` is its CRC-32C. -/
  | measureFrameRx (d : Nat) (good : Bool) (samples : List RawSample)
  /-- R102: the frame of the latest strobe of die `d` is not good 2 µs after the strobe. -/
  | measureFrameDeadline (d : Nat)
  /-- R76: the thermistor conversion of channel `k` ends with the ratio `rho` / 2^22. -/
  | tsConversionDone (k rho : Nat)
  /-- R71: a write of `odr` to `MCFG.ODR` of channel `k`. -/
  | odrWrite (k odr : Nat)
  /-- R79: die `d` has been in its band for 10 s. -/
  | ovenRegulated (d : Nat)
  /-- R79: a regulated die has been outside its band for more than 1 s. -/
  | ovenDegraded (d : Nat)
  /-- R79: the heater or the oven sensor of die `d` fails its check. -/
  | ovenFault (d : Nat)
  /-- R81: the cross-check of die `d`: each reference within its monitor window, their difference in 0.01 ppm, and
  REF2 / REF1 in Q2.30. -/
  | refCrossCheck (d : Nat) (ok1 ok2 : Bool) (diff : Int) (ratio : Word)
  /-- R98: the start strobe of the sense-open check of channel `k`. -/
  | senseOpenCheckStart (k : Nat)
  /-- R97: the six CHK samples of channel `k` have arrived. -/
  | senseOpenCheckDone (k : Nat)
  /-- R91: op 0 of `CAL[d].CMD`. -/
  | calNop (d : Nat)
  /-- R91: op 1. -/
  | calConnect (d : Nat)
  /-- R91: CONNECT has settled for 32 base strobes. -/
  | calConnectSettled (d : Nat)
  /-- R91: op 2. -/
  | calMeasure (d : Nat)
  /-- R96: the last usable sample of MEASURE has arrived. -/
  | calMeasureDone (d : Nat)
  /-- R91: op 3. -/
  | calRelease (d : Nat)
  /-- R91: op 4. -/
  | calRead (d : Nat)
  /-- R94: op 5. -/
  | calCommit (d : Nat)
  /-- R110: op 6. -/
  | calRestoreFactory (d : Nat)
  /-- R94: the journal write of COMMIT or RESTORE_FACTORY ends; `ok` says whether it could be made. -/
  | calJournalDone (d : Nat) (ok : Bool)
  /-- R91: op 7. -/
  | calReadFactory (d : Nat)
  /-- R91: a reserved op, 8 to 15. -/
  | calReservedOp (d op : Nat)
  -- Loop engine, channels and step programs (03_control_engine.md, 04_step_programs.md)
  /-- R111: a stroke boundary; `env` is what the fabric's speed and its faults make of the stroke. -/
  | strokeBoundary (env : StrokeEnv)
  /-- R31: the stroke deadline passes. -/
  | strokeDeadline
  /-- R131: a write of `v` to `LOOP.GAIN_COMMIT`. -/
  | gainCommit (v : Word)
  /-- R135: a write of `LOOP.ACC_SEL` with `GO` set and `CHAN` = `k`. -/
  | accSelGo (k : Nat)
  /-- R135: the base strobe after a GO. -/
  | accLatch
  /-- R138: channel `k` executes an op that seat `seat` issued (so for the rows that follow). -/
  | chNop (k seat : Nat)
  | chArm (k seat : Nat)
  | chStart (k seat : Nat)
  | chPause (k seat : Nat)
  | chResume (k seat : Nat)
  | chStop (k seat : Nat)
  | chSafe (k seat : Nat)
  | chClear (k seat : Nat)
  | chHold (k seat : Nat)
  /-- R138: an op from 9 to 15. -/
  | chReservedOp (k seat op : Nat)
  /-- R138: the ramp to 0 of channel `k` has ended. -/
  | rampToIdle (k : Nat)
  /-- R161: `STEP.PCMD` with op 0 and slot `slot`, written through the CTRL window (so for the rows that follow). -/
  | progNop (slot : Nat)
  | progDefine (slot : Nat)
  | progUndefine (slot : Nat)
  | progOpen (slot : Nat)
  | progWrite (slot : Nat)
  /-- `readBad`: the entry reads uncorrectable. -/
  | progRead (slot : Nat) (readBad : Bool)
  | progSeal (slot : Nat)
  | progInfo (slot : Nat)
  /-- R161: an op from 8 to 15. -/
  | progReservedOp (slot op : Nat)
  /-- R161: the op in progress reaches its completion. -/
  | progOpComplete
  -- Impedance spectroscopy and rest trends (05_impedance_and_rest.md)
  /-- R190: `EIS.TCMD` with op 0 and table `t` (so for the rows that follow). -/
  | eisTableNop (t : Nat)
  | eisTableOpen (t : Nat)
  | eisTableWrite (t : Nat)
  | eisTableRead (t : Nat)
  | eisTableSeal (t : Nat)
  | eisTableClear (t : Nat)
  /-- R190: an op from 6 to 15. -/
  | eisTableReservedOp (t op : Nat)
  /-- R190: the table op in progress completes. -/
  | eisTableOpComplete
  /-- R199: the result of the oldest finished point of channel `k` is stored. -/
  | eisPointResult (k : Nat)
  /-- R212: a wake instant of the trend of channel `k`. -/
  | restTrendWake (k : Nat)
  /-- R214: in Feather, die `d` powers its converters for the channels in trend. -/
  | trendConverterPowerUp (d : Nat)
  -- Crews, grading and records (06_crews_and_records.md)
  /-- R221: `CREW.CMD` with op 0 and entry `e` (so for the rows that follow). -/
  | crewNop (e : Nat)
  | crewJoin (e : Nat)
  | crewSetmask (e : Nat)
  | crewSeal (e : Nat)
  /-- R221: the coordinator acknowledges the registration of entry `e`. -/
  | crewSealAck (e gen : Nat)
  /-- R222: 10 ms pass without an acknowledgement. -/
  | crewSealTimeout (e : Nat)
  | crewOpen (e : Nat)
  | crewLeave (e : Nat)
  | crewTrans (e : Nat)
  | crewReduce (e : Nat)
  | crewGrade (e : Nat)
  | crewInfo (e : Nat)
  /-- R221: an op from 10 to 15. -/
  | crewReservedOp (e op : Nat)
  /-- R224: a heartbeat of the coordinator of `crew` arrives. -/
  | crewHeartbeatRx (crew : Nat)
  /-- R224: 10 ms without a heartbeat of the coordinator of entry `e`. -/
  | coordHeartbeatTimeout (e : Nat)
  /-- R225: device `dev` reports its members of `crew` in generation `gen`: arrived, and withdrawn. -/
  | crewArrivalRx (crew dev gen arrived withdrawn : Nat)
  /-- R226: the release of generation `gen` of `crew`, with its mark number. -/
  | crewReleaseRx (crew gen mark : Nat)
  /-- R229: a forwarded transition of `crew`. -/
  | crewTransRx (crew op mark : Nat)
  /-- R232: mark T of reduction context `c` is reached. -/
  | reductionMark (c : Nat)
  /-- R232: device `dev` contributes to the reduction of context `c` of this coordinator: (channel, value). -/
  | reductionContribRx (c dev : Nat) (vals : List (Nat × Int))
  /-- R233: 5 ms after T. -/
  | reductionDeadline (c : Nat)
  /-- R233: the combined results reach context `c`. -/
  | reductionResultRx (c : Nat) (r : RedResult)
  /-- R233: the ranks reach context `c`: (channel, rank). -/
  | reductionRankRx (c : Nat) (ranks : List (Nat × Nat))
  /-- R363: seat `s` writes `v` to `SA.RING_CONS[r]`. -/
  | ringConsumerWrite (s r v : Nat)
  /-- R226: a mark. -/
  | crewMark
  /-- R224: device `dev` registers `count` members of `crew`, or deregisters (`none`). -/
  | crewRegistrationRx (crew dev : Nat) (count : Option Nat)
  /-- R224: this device sends its heartbeats. -/
  | coordHeartbeatSend
  -- Stage links (07_stage_links.md)
  /-- R252: the launch tick of a downstream frame of link `n`; `ready` says whether its content is ready, with the
  slack in ticks. -/
  | stageFrameLaunch (n : Nat) (ready : Bool) (slack : Nat)
  /-- R257: a telemetry frame of link `n` arrives `rtt` ns after the launch it answers: its 84 characters, and
  whether delimiters, codes and disparity were right. -/
  | telemetryRx (n : Nat) (clean : Bool) (bytes : List Byte) (rtt : Nat)
  /-- R253: the telemetry deadline of link `n` passes with nothing received. -/
  | telemetryDeadline (n : Nat)
  /-- R267: the receiver of link `n` loses comma alignment or signal. -/
  | stageRxSignalLoss (n : Nat)
  /-- R261: 100 µs in LOST. -/
  | stageLostTimeout (n : Nat)
  /-- R260: the descriptor is read again. -/
  | descReread (n : Nat)
  /-- R258: the oldest unanswered op of link `n` has waited 4 frames. -/
  | mopRetry (n : Nat)
  /-- R643: a write of `v` to `SL[n].MREQ`. -/
  | mreqWrite (n : Nat) (v : Word)
  /-- R274: the transmit PLL of the link of page `p` (a stage link or a Bruil link) loses lock. -/
  | serdesUnlock (p : Nat)
  -- Timebase, schedule slots and catch units (08_timebase.md)
  /-- R277: a write of `v` to `TB.INC_LO`. -/
  | tbIncLoWrite (v : Word)
  /-- R277: a write of `v` to `TB.INC_HI`. -/
  | tbIncHiWrite (v : Word)
  /-- R278: a read of `TB.SEC_LO`. -/
  | tbSecLoRead
  /-- R280: a write of `v` to `TB.STEP_GO`. -/
  | tbStepGo (v : Word)
  /-- R281: the step tick. -/
  | stepTick
  /-- R282: a write of `v` to `TB.OFS_IN`. -/
  | tbOfsInWrite (v : Word)
  /-- R282: an edge on `TIO_IN`. -/
  | tioInEdge (rise : Bool)
  /-- R284: `HOLD_TO` × 100 ms without an offset. -/
  | servoHoldoverTimeout
  /-- R275: reference `r` (0 REFA) gives no edge for 200 ns. -/
  | refEdgeLoss (r : Nat)
  /-- R275: the 10 ms comparison: REFB − REFA in 0.01 ppm, and the reference that deviates more from the holdover
  frequency. -/
  | refFreqCheck (diff : Int) (worse : Nat)
  /-- R276: reference `r` has stayed unfailed for 10 ms. -/
  | refReturn (r : Nat)
  /-- R296: the timebase PLL loses lock. -/
  | pllUnlock
  /-- R289: `SCH.CMD` op 0 for slot `slot`, issued by `seat` (so for the rows that follow). -/
  | schNop (slot seat : Nat)
  | schAlloc (slot seat : Nat)
  | schArm (slot seat : Nat)
  | schDisarm (slot seat : Nat)
  | schFree (slot seat : Nat)
  /-- R289: an op from 5 to 15. -/
  | schReservedOp (slot seat op : Nat)
  /-- R291: the tick at which slot `slot` is due; `ready` says whether its work is ready, and `offs` are the launch
  offsets that a STROBE finds: die A, die B, stage-link transmitters. -/
  | slotFire (slot : Nat) (ready : Bool) (slack : Nat) (offs : Int × Int × Int)
  /-- R290: the pulse of slot `slot` ends. -/
  | tioPulseEnd (slot : Nat)
  /-- R292: `CAT.CMD` op 0 for unit `u`, issued by `seat` (so for the rows that follow). -/
  | catNop (u seat : Nat)
  | catAlloc (u seat : Nat)
  | catArm (u seat : Nat)
  | catDisarm (u seat : Nat)
  | catFree (u seat : Nat)
  /-- R299: a read of `CAT[u].E_SEC_LO`. -/
  | catFifoRead (u : Nat)
  /-- R294: the backup counter reaches `BK_ALARM`. -/
  | bkAlarm
  /-- R294: a whole second of the timebase. -/
  | wholeSecond
  -- The Bruil fabric (09_bruil_fabric.md)
  /-- R313: the 64 bytes of a flit arrive on link `n`. -/
  | bruilFlitRx (n : Nat) (bytes : List (BitVec 8))
  /-- R313: `ACK` of link `n` has not advanced for `ACK_TO`. -/
  | bruilAckTimeout (n : Nat)
  /-- R313: link `n` has lost block lock or signal for 100 ns. -/
  | bruilSignalLoss (n : Nat)
  /-- R303: a DEPART flit arrives on link `n`. -/
  | departRx (n : Nat)
  /-- R306: the identity of the peer of link `n`. -/
  | bruilIdentRx (n : Nat) (p : Peer)
  /-- R302: 1 ms after link `n` entered FAILED. -/
  | bruilFailedRetrain (n : Nat)
  /-- R302: the 100 ms re-check of an EXCLUDED link. -/
  | bruilExclRecheck (n : Nat)
  /-- R308: device `dev` announces its serial number and its neighbours. -/
  | linkStateAnnounceRx (dev serial : Nat) (nbrs : List Nat)
  /-- R311: the router receives a packet on link `n`. -/
  | bruilPacketRx (n : Nat) (p : Packet)
  /-- R315: a gap of source `src` in class `cls` has been open for 4 µs. -/
  | seqGapTimeout (src cls : Nat)
  /-- R317: this device sends its acknowledgements. -/
  | perrAckSend
  /-- R318: device `dev` acknowledges the posted writes of initiator `init` up to an `ESEQ`, or returns an error with
  its `TAG`, code and address. -/
  | perrRx (dev init : Nat) (upTo : Option Nat) (err : Option (Nat × Nat × Nat))
  /-- R312: 20 µs without a packet for `dst` on its alternate. -/
  | routeReturn (dst : Nat)
  /-- R319: a write of `v` to `RT.FENCE`. -/
  | rtFence (v : Word)
  /-- R319: every destination has acknowledged past the writes of `init`. -/
  | fenceComplete (init : Nat)
  /-- R319: 10 ms. -/
  | fenceTimeout (init : Nat)
  /-- R322: a TIME flit arrives on link `n`: whether its CRC is good, the local arrival and the peer's launch in 10 ps,
  the peer's arrival time of this device's previous TIME flit, and the peer's time depth. -/
  | timeFlitRx (n : Nat) (good : Bool) (aL lP : Nat) (aP : Option Nat) (depth : Nat)
  /-- R326: a write that sets or clears `RT.SLP_CTRL.VOTE`. -/
  | sleepVoteWrite (on : Bool)
  /-- R326: the leader receives the vote of device `dev`. -/
  | sleepVoteRx (dev : Nat) (on : Bool)
  /-- R326: AGREE with the mark of C. -/
  | sleepAgreeRx (mark : Nat)
  /-- R326: ABORT from device `dev`. -/
  | sleepAbortRx (dev : Nat)
  /-- R326: the instant Z. -/
  | sleepInstant
  /-- R327: a wake request of a source. -/
  | wakeRequest (src : Nat)
  /-- R327: a write that sets `RT.SLP_CTRL.WAKE`. -/
  | slpWakeWrite
  /-- R327: link `n` detects a wake beacon with the identifier of its origin. -/
  | wakeBeaconRx (n dev : Nat)
  /-- R331: a read of `RT.RERR0`. -/
  | rerrLogRead
  -- Window and message bridges (10_bridges.md)
  /-- R335: a read of `size` bytes through a window, from port `port` (2: the firmware). -/
  | windowRead (port : Nat) (a : WinAddr) (size : Nat)
  /-- R335: a write through a window. -/
  | windowWrite (port : Nat) (a : WinAddr) (data : List (BitVec 8))
  /-- R339: the WCPL of the request with a tag arrives for window `w`, with its code and data. -/
  | windowCompletionRx (w tag code : Nat) (data : List (BitVec 8))
  /-- R336: the oldest request of window `w` reaches `TOUT`; `busy`: it waited for the lock of another initiator. -/
  | windowTimeout (w : Nat) (busy : Bool)
  /-- R338: a window request of initiator `init` of device `src` arrives. -/
  | inboundRequest (src init tag : Nat) (r : WReq)
  /-- R340: LOCK and UNLOCK of window `w` by `WB.LOCKCMD`. -/
  | wbLock (w : Nat)
  | wbUnlock (w : Nat)
  /-- R342: a lock or unlock request of window `w` of device `src` arrives. -/
  | lockRequestRx (src init tag : Nat) (r : WReq)
  /-- R343: the lock of a space has been held for `LOCK_TO`, or its holder is unreachable. -/
  | lockHoldTimeout (space : Nat)
  /-- R344: a write of `v` to `WB.SIG_TX`. -/
  | sigTxWrite (v : Word)
  /-- R344: the window writes before the oldest held message that can go have completed. -/
  | messageRelease
  /-- R345: a write of `v` to `WB.WCOMMIT`. -/
  | windowCommit (v : Word)
  /-- R345: the window has drained, or `TOUT` has passed. -/
  | windowCommitApply (timeout : Bool)
  /-- R345: a write of `v` to `WB.INCOMMIT`. -/
  | inboundCommit (v : Word)
  | inboundCommitApply (timeout : Bool)
  /-- R351: the oldest message at the message bridge is matched; `lat` is its time to delivery in 100 ns. -/
  | messageMatch (lat : Nat)
  /-- R354: `MB.TCMD` ops. -/
  | mbTableNop
  | mbTableWrite
  | mbTableRead
  | mbTableReservedOp
  /-- R347: a read of `WB.ELOG0`. -/
  | werrLogRead
  -- Seats, the coxswain and the host ports (11_seats_and_host_ports.md)
  /-- R362: seat `s` writes `v` to `SA.SQ_TAIL[q]`. -/
  | sqDoorbell (s q v : Nat)
  /-- R362: seat `s` writes `v` to `SA.CQ_HEAD[q]`. -/
  | cqDoorbell (s q v : Nat)
  /-- R362: seat `s` writes `v` to `SA.EQ_HEAD`. -/
  | eqDoorbell (s v : Nat)
  /-- R378: a deficit round-robin round begins. -/
  | arbRoundStart
  /-- R365: the entry at the head of submission queue `q` of seat `s` is fetched; `e` is the 64 bytes that memory
  holds, and `host` the table words of the walk as in `dmaChunkStart`. -/
  | sqEntryFetch (s q : Nat) (e : List Byte) (host : List (Nat × Nat))
  /-- R366: a started NOP of seat `s`, named by its queue and `CID`, is executed (so for the other `sqe` rows). -/
  | sqeNop (s q cid : Nat)
  | sqeChanCmd (s q cid : Nat)
  /-- `buf`: the 64 bytes of the seat's buffer, read for WRITE. -/
  | sqeProg (s q cid : Nat) (buf : List Byte)
  | sqeStepMsg (s q cid : Nat)
  /-- `data`: the message bytes at the seat address, read when the length is above 40. -/
  | sqeMsgTx (s q cid : Nat) (data : List Byte)
  | sqeFence (s q cid : Nat)
  | sqeWinLock (s q cid : Nat)
  | sqeRegRd (s q cid : Nat)
  | sqeRegWr (s q cid : Nat)
  /-- R365: a started entry with an opcode from 10 to 255. -/
  | sqeBadOpc (s q cid : Nat)
  /-- R358: port `p` goes down; `d3` says that its function entered D3hot. -/
  | portDown (p : Nat) (d3 : Bool)
  /-- R358: a Function Level Reset of port `p`. -/
  | pcieFlr (p : Nat)
  /-- R388: port `p` returns to up at a rate (1 to 4) and width. -/
  | pcieLinkUp (p rate width : Nat)
  /-- R360: seat `s` has been DETACHED for `LOSTTO` seconds. -/
  | seatLostTimeout (s : Nat)
  /-- R374: the mailbox ops; their operands stand in `COX.ARG`. -/
  | mbxNop
  | seatOpen
  | seatClose
  | seatReset
  /-- R380: the outstanding reads of seat `s` have ended. -/
  | seatResetDone (s : Nat)
  | seatShare
  | seatBind
  /-- R383: the chunks of seat `s` on its old port have finished. -/
  | seatBindDone (s : Nat)
  | seatLost
  | queueSet
  | queueDel
  | ringSet
  | ringDel
  | grant
  | revoke
  | seatInfo
  | mbxBadOp
  /-- R373: the firmware finishes the mailbox command. -/
  | mbxCommandDone
  /-- R357: a read by the device on port `p` gets no completion within 10 ms; `e` is the engine that made it, none for
  the queue engine. -/
  | pcieCompletionTimeout (p : Nat) (e : Option Nat)
  /-- R385: host software unmasks vector `v` of the MSI-X table of port `p`. -/
  | msixUnmask (p v : Nat)
  -- DMA engines and the seat map unit (12_dma_and_seat_map.md)
  /-- R393: a started DMA entry of seat `s` is executed. -/
  | sqeDma (s q cid : Nat)
  /-- R391: engine `e` picks transfer `x`; `host` holds the 64-bit words that host memory answers to the walk (a bus
  address that is not listed answers with an error). -/
  | dmaChunkStart (e x : Nat) (host : List (Nat × Nat))
  /-- R391: the source data of the chunk that engine `e` holds arrives, or an error. -/
  | dmaReadCompletion (e : Nat) (data : Option (List (BitVec 8)))
  /-- R392: the writes of the chunk of engine `e` are issued. -/
  | dmaChunkComplete (e : Nat)
  /-- R405: 2 µs after a reset of seat `s` started. -/
  | seatResetChunkDeadline (s : Nat)
  /-- R399: XLATE_SET, and the end of the chunks that use the old translation. -/
  | xlateSet
  | xlateSetDone
  /-- R400: XLATE_INV, and the end of the chunks that used a removed entry. -/
  | xlateInv
  | xlateInvDone
  /-- R403: RETRY and ABORT written to `SMU.RESUME` for seat `s`. -/
  | smuResumeRetry (s : Nat)
  | smuResumeAbort (s : Nat)
  /-- R409: a read of `SMU.FLOG0`. -/
  | faultLogRead
  -- Ethernet switch core (13_switch_core.md)
  /-- R412: a frame without its FCS arrives on switch port `p` (0 to 11, or 20), with its ingress timestamp in ns. -/
  | ethFrameRx (p : Nat) (bytes : List Byte) (fcsOk : Bool) (ts : Nat)
  /-- R418: the scheduler of switch port `p` takes its next copy; `ts` is the egress timestamp. -/
  | egressTransmit (p ts : Nat)
  /-- R425: segment `seg` of frame `frame` reaches tunnel `t`. -/
  | tunnelSegmentRx (t frame seg : Nat) (last : Bool) (data : List Byte) (ts : Nat)
  /-- R425: 100 µs after the first segment of frame `frame` of tunnel `t`. -/
  | tunnelReassemblyTimeout (t frame : Nat)
  /-- R422: switch port `p` loses its link; its flush ends, `ready` saying whether its link has been present for 10 ms;
  its link has been present for 10 ms. -/
  | ethLinkDown (p : Nat)
  | ethFlushDone (p : Nat) (ready : Bool)
  | ethLinkUp (p : Nat)
  /-- R413: the dynamic entry of an address and VID has not been refreshed for `AGE` seconds. -/
  | macAgeOut (mac vid : Nat)
  /-- R432: `MAC.CMD` ops 1 to 6. -/
  | macAdd
  | macDel
  | macLookup
  | macFlushPort
  | macFlushAll
  | macRead
  /-- R433: the two bits of `VLAN.VCOMMIT`. -/
  | vlanApply
  | vlanRead
  /-- R434: `MTR.CMD` ops 1 to 4 with meter `m`. -/
  | mtrAlloc
  | mtrFree (m : Nat)
  | mtrWrite (m : Nat)
  | mtrRead (m : Nat)
  /-- R430: a write of `v` to `PORT[p].TSCTL` that sets `ARM`. -/
  | portTsArm (p : Nat) (v : Word)
  /-- R427: the interface of seat `s` reads the descriptor at its index, of the receive ring (`rx`) or the transmit ring;
  `buf` is what memory holds at the transmit buffer, `host` the table words of the walk. -/
  | snicPoll (s : Nat) (rx : Bool) (desc : List Byte) (buf : List Byte) (host : List (Nat × Nat))
  -- CAN FD, TIA-485 and network wake (14_can_serial_and_wake.md)
  /-- R443: port `c` receives a correct frame that it did not send, with the timebase ns of its start. -/
  | canFrameRx (c : Nat) (f : CanFrame) (sof : Nat)
  /-- R444: the controller starts its next frame. -/
  | canTxStart (c : Nat)
  /-- R444: how the frame ended: 0 sent, 1 arbitration lost, 2 error. -/
  | canTxDone (c how : Nat)
  /-- R445: a bus error: 0 bit, 1 stuff, 2 form or CRC, 3 acknowledgement; as transmitter or receiver; `heavy` says that a
  receiver's error counts 8. -/
  | canBusError (c kind : Nat) (tx heavy : Bool)
  /-- R445: the recovery from bus-off ends. -/
  | canBusoffRecovered (c : Nat)
  /-- R461: the transmitter has held the bus dominant for 5 ms. -/
  | txdDominant (c : Nat)
  /-- R446: 11 recessive bits after the return to Run. -/
  | canResume (c : Nat)
  /-- R447: the decoder of port `c` sees the wake-up pattern. -/
  | canWupDetected (c : Nat)
  /-- R448: the decoder of port `c` reads a correct classic frame. -/
  | canWakeFrameMatch (c : Nat) (f : CanFrame) (sof : Nat)
  /-- R449: a classic frame with a stuff, form or CRC error. -/
  | canWakeFrameError (c sof : Nat)
  /-- R450: the confirmation window ends. -/
  | canConfirmWindowExpiry (c : Nat)
  /-- R452. -/
  | awakeTimerExpiry
  | nsConfirm
  /-- R455: a write of `v` to `SER[u].TXD`. -/
  | serTxdWrite (u : Nat) (v : Word)
  /-- R455: the line has been idle for `GAP` and a closed frame starts; `LAG` after its last stop bit it is done. -/
  | serFrameTxStart (u : Nat)
  | serFrameTxDone (u : Nat)
  /-- R456: a character arrives with its parity and framing errors; `ns` is the timebase at its start bit. -/
  | serCharRx (u ch : Nat) (perr ferr : Bool) (ns : Nat)
  /-- R456: the line has been idle for `GAP`. -/
  | serIdleGap (u : Nat)
  /-- R462: reads of `SER[u].RXD` and `SER[u].RXFR`. -/
  | serRxdRead (u : Nat)
  | serRxfrRead (u : Nat)
  -- Field die (15_field_die.md)
  /-- R466: the launch tick of a downstream frame; `ready` says whether its content is ready, with the slack in ticks. -/
  | fieldDownstreamLaunch (ready : Bool) (slack : Nat)
  /-- R466: the downstream frame under way reaches the field die; `good` is its CRC. -/
  | fieldDownstreamRx (good : Bool)
  /-- R466: the field die launches an upstream frame. -/
  | fieldUpstreamLaunch (m : FieldMeas)
  /-- R467: the upstream frame under way reaches the core with a good CRC. -/
  | fieldUpstreamRx
  /-- R469: an upstream frame is missing, or fails its CRC. -/
  | fieldUpstreamMissing (crcBad : Bool)
  /-- R495: 10 ms without a good upstream frame. -/
  | barrierFail
  /-- R470: `WDT` without a good downstream frame. -/
  | fieldWatchdogExpiry
  /-- R472, R495: the bits of `FL.CTRL`. -/
  | flResume
  | flForce
  | flFrst
  /-- R473: rail `r` (0 FV24, 1 LSV, 2 DOV) has been below 16.5 V for 100 µs. -/
  | railUndervoltage (r : Nat)
  /-- R475: rail `r` has been above 17.5 V for 10 ms. -/
  | railRecovered (r : Nat)
  /-- R475: tr + n ms. -/
  | outputStaggerSlot (n : Nat)
  /-- R474. -/
  | fv24Loss
  | fv24Return
  /-- R477: input `n` has held the sampled level `raw` for `DEBOUNCE`; `ns` is the first sample's time. -/
  | diEdgeAccepted (n : Nat) (raw : Bool) (ns : Nat)
  /-- R479. -/
  | doOvertemp (n : Nat)
  | doAutoRestart (n : Nat)
  /-- R497: writes of `v` to `DO.SET`, `DO.CLR` and `DO.FLT` with seat `seat` (so for the load switches). -/
  | doSetWrite (seat : Nat) (v : Word)
  | doClrWrite (seat : Nat) (v : Word)
  | doFltClear (seat : Nat) (v : Word)
  /-- R487, R484: `LS[n].CMD.ON` and `LS[n].CTRL.CLR`. -/
  | lsCmdWrite (n seat : Nat) (on : Bool)
  | lsClr (n seat : Nat)
  /-- R482: the current of channel `n` crosses its active limit, or falls back. -/
  | lsLimiting (n : Nat) (on : Bool)
  | lsOvercurrent (n : Nat)
  | lsShort (n : Nat)
  /-- R483. -/
  | lsRetry (n : Nat)
  | lsInrushEnd (n : Nat)
  | lsRleftReload (n : Nat)
  /-- R484: the junction of channel `n` reaches 175 °C; `mj` is the energy dissipated. -/
  | lsThermal (n mj : Nat)
  /-- R486: what the check of an off channel finds: open load, short to supply, backfeed. -/
  | lsDiagCheck (n : Nat) (openLoad toSupply backfeed : Bool)
  /-- R476: the 1 s mean of the sum of the load-switch currents in mA. -/
  | lsumUpdate (mean : Nat)
  /-- R492, R499. -/
  | ztRelease (v : Word)
  | ztTest (v : Word)
  -- Secure boot, keys and attestation (16_security.md)
  /-- R509: `KEY.CMD` ops with `SLOT`, `ANY` and `PEND`. -/
  | keyNop (slot : Nat) (any pend : Bool)
  | keyGenerate (slot : Nat) (any pend : Bool)
  | keyDerive (slot : Nat) (any pend : Bool)
  | keyLoad (slot : Nat) (any pend : Bool)
  | keyExport (slot : Nat) (any pend : Bool)
  | keyCommit (slot : Nat) (any pend : Bool)
  | keyDiscard (slot : Nat) (any pend : Bool)
  | keyInvalidate (slot : Nat) (any pend : Bool)
  | keyRestore (slot : Nat) (any pend : Bool)
  | keyLoadPub (slot : Nat) (any pend : Bool)
  | keyReservedOp (slot op : Nat)
  /-- R509: the command under way finishes; `ok` says whether its journal record could be written (R513). -/
  | keyCmdComplete (ok : Bool)
  /-- R515: a glaze cycle; `bad` lists the slots whose shares fail their check value. -/
  | glazeCycle (bad : List Nat)
  /-- R516: `CRY.GO` with the op of `CRY.JOB`; `uncorr` says that the source reads uncorrectable. -/
  | crySha512
  | cryHmac512
  | cryGcmEnc
  | cryGcmDec
  | cryKw
  | cryKwu
  | cryPssSign
  | cryPssVerify
  | cryBadOp
  | cryJobDone
  /-- R524: `ATT.CMD` ops. -/
  | attNop
  | attReport
  | attReportDone
  | attCert
  | attExtend
  /-- R518: AUTH_CMD CHALLENGE, and EXECUTE with the token that seat 0's memory holds (none: it could not be read), by the
  operation that the token names (R519). -/
  | authChallenge
  | authInjArm (tok : Option (List Byte))
  | authInjDisarm (tok : Option (List Byte))
  | authDebugUnlock (tok : Option (List Byte))
  | authDebugLock (tok : Option (List Byte))
  | authSvnCommit (tok : Option (List Byte)) (ok : Bool)
  | authOwnerSet (tok : Option (List Byte))
  | authNonceExpiry
  | authThrottleExpiry
  -- Check-value units, detectors and injection (17_integrity_and_injection.md)
  /-- R529: START of check-value unit `u`. -/
  | cvuStart (u : Nat)
  /-- R529: data writes of `v` to unit `u`. -/
  | cvuDin1 (u : Nat) (v : Word)
  | cvuDin2 (u : Nat) (v : Word)
  | cvuDin4 (u : Nat) (v : Word)
  /-- R530: END of unit `u`. -/
  | cvuEnd (u : Nat)
  /-- R533: RELEASE of unit `u`. -/
  | cvuRelease (u : Nat)
  /-- R542: a write of `v` to `PG_INJARM` of page `p`. -/
  | injArmWrite (p : Nat) (v : Word)
  /-- R542: the timed global arm expires. -/
  | injArmExpiry
  /-- R539: a read of `INJ.LOG0`. -/
  | injLogRead
  /-- R536: a handshake of page `p` stays open for 100 µs; `sub` names the lane pair of page 0x030 or the core pair of
  page 0x000. -/
  | stallDetected (p sub : Nat)
  -- Resets, power states and start-up (18_reset_power_and_boot.md)
  /-- R546: the required supplies become valid. -/
  | powerOn
  /-- R554: a required supply (a bit 0 to 4 of `PWR.SUPPLY`) leaves its range. -/
  | supplyLoss (bit : Nat)
  /-- R564. -/
  | vbkpLoss
  /-- R547: `RESET_N` has been low for 1 µs. -/
  | resetNLow
  /-- R576: writes of `v` to `RST.CTRL` with `DEVRST` or `MGMTRST`. -/
  | rstDevrst (v : Word)
  | rstMgmtrst (v : Word)
  /-- R548: 1 ms after a reset trigger. -/
  | domainDClear
  /-- R554: domain D is released: the identity straps, the fitted DRAM in GiB, whether the life store's boot record reads
  (0), has no valid copy (1), or the layout header fails its check (2), and the banks whose flash reads fail. -/
  | domainDRelease (straps fitted life : Nat) (readBad : List Nat)
  /-- R566. -/
  | bootComplete
  /-- R567. -/
  | bootTimerExpiry
  | bootHashFail
  /-- R550. -/
  | mgmtWatchdogExpiry
  | watchdogReset
  /-- R546: 1 ms after REC_RESTART. -/
  | firmwareReset
  /-- R561: a write of `v` to `PWR.BACKUP`. -/
  | backupRequest (v : Word)
  /-- R563. -/
  | backupWakeN
  | backupTioWake
  /-- R557. -/
  | dozeEntry
  | dozeExit
  /-- R558 to R560. -/
  | featherEntry
  | featherCheckWindow
  | featherExit
  /-- R571. -/
  | easyAnnounce
  /-- R572: recovery commands of the mailbox; `data` is what host memory holds, `readOk` whether the flash reads
  succeed. -/
  | recInfo
  | recErase
  | recWrite (data : List Byte)
  | recVerify (readOk : Bool)
  | recSelect (readOk : Bool)
  | recRestart (readOk : Bool)
  /-- R633, R79: the measure supplies of die `d`. -/
  | measureSupplyInvalid (d : Nat)
  | measureSupplyValid (d : Nat)
  /-- R520: EXTEST, CLAMP or HIGHZ through the JTAG port. -/
  | jtagExtest
  /-- R43: a lockstep compare or stall detector of management core pair `p`. -/
  | mgmtPairFail (p : Nat)
  /-- R642: the scrubber meets single errors and uncorrectable words at addresses. -/
  | dramScrub (corr : Nat) (uncorr : List Nat)
  -- Life store and crumb records (19_life_store_and_crumbs.md)
  /-- R588: the firmware meets a fatal error with a fault code. -/
  | fatalError (code : Word)
  /-- R580: journal `j` (0 calibration, 1 key) reaches 75 % full. -/
  | journalCompactionStart (j : Nat)
  /-- R580: its compaction ends. -/
  | journalCompactionEnd (j : Nat)
  /-- R581: 60 s have passed. -/
  | lifeTotalsFlush
  /-- R581: 3,600 s have passed. -/
  | lifeHourlyFlush
  /-- R584: the 24 h scrub, with the single and double errors that it meets. -/
  | lifeScrub (corr uncorr : Nat)
  /-- R583: the three bits of `LIFE.LEAP_CMD`. -/
  | leapWrite
  | leapRead
  | leapClear
  /-- R585: a write of `v` to the crumb-area register at `addr`. -/
  | crumbAreaWrite (addr : Nat) (v : Word)
  /-- R591: a read of `LIFE.WIN_DATA`. -/
  | lifeWinRead
  deriving DecidableEq, Repr

end Sys2Proof
end

