-- ==== Sys2Proof/Decode.lean ====
section
/-!
DEFINITION. The opcode table gives none of its rows any bits: no word spells a command.
-/
namespace Sys2Proof

/-- The command that a word spells by the bits of the opcode table: none has any. -/
def decodeTableWord (_nbits _w : Nat) : Option Instr := none

end Sys2Proof
end

