-- ==== Sys2Proof/Machine/Bits.lean ====
section
/-!
DEFINITION. Fields of a word by bit range [hi:lo] (R17), signs, saturation, and byte order.
-/
namespace Sys2Proof

/-- The field [hi:lo] of a word, as a number (R17). -/
def Word.fld (w : Word) (hi lo : Nat) : Nat := (w.toNat / 2 ^ lo) % 2 ^ (hi + 1 - lo)

/-- The word with its field [hi:lo] replaced by `v`, cut to the width of the field. -/
def Word.setFld (w : Word) (hi lo v : Nat) : Word :=
  BitVec.ofNat 32
    (w.toNat / 2 ^ (hi + 1) * 2 ^ (hi + 1) + v % 2 ^ (hi + 1 - lo) * 2 ^ lo + w.toNat % 2 ^ lo)

/-- A field read as a two's complement number of `width` bits. -/
def Word.signed (width v : Nat) : Int :=
  if v < 2 ^ (width - 1) then v else (v : Int) - 2 ^ width

/-- The two's complement field of `width` bits of a number. -/
def Word.unsigned (width : Nat) (v : Int) : Nat := (v % (2 ^ width : Int)).toNat

/-- A whole number held at the bounds of a signed number of `width` bits. -/
def satSigned (width : Nat) (v : Int) : Int :=
  max (-(2 ^ (width - 1) : Int)) (min v ((2 ^ (width - 1) : Int) - 1))

/-- A whole number held at the largest value of an unsigned field of `width` bits. -/
def satNat (width v : Nat) : Nat := min v (2 ^ width - 1)

/-- The little-endian bytes of a number, `n` of them (R17). -/
def leBytes : Nat → Nat → List Byte
  | 0, _ => []
  | n + 1, v => BitVec.ofNat 8 v :: leBytes n (v / 256)

/-- The number that little-endian bytes spell (R17). -/
def ofLeBytes : List Byte → Nat
  | [] => 0
  | b :: bs => b.toNat + 256 * ofLeBytes bs

end Sys2Proof
end

