-- ==== Sys2Proof/Machine/Crypt.lean ====
section
/-!
DEFINITION. The algorithms that the manual takes from standards (R500, R505, R508, R516): SHA-512 and HMAC (FIPS 180-4,
FIPS 198-1), AES-256 (FIPS 197), GCM (SP 800-38D), KWP (SP 800-38F), RSASSA-PSS with SHA-512 (RFC 8017).
-/
namespace Sys2Proof.Machine

/-- Big-endian bytes of a number, and back. -/
def ofBe (b : List Byte) : Nat := b.foldl (fun a x => a * 256 + x.toNat) 0
def toBe (n v : Nat) : List Byte := (leBytes n v).reverse

/-- Byte-wise exclusive or, as long as the shorter list. -/
def xorBytes (a b : List Byte) : List Byte := List.zipWith (fun (x y : Byte) => x ^^^ y) a b

/-! ### SHA-512 -/

abbrev W64 := BitVec 64

/-- The round constants. -/
def shaK : List W64 :=
  [0x428A2F98D728AE22, 0x7137449123EF65CD, 0xB5C0FBCFEC4D3B2F, 0xE9B5DBA58189DBBC,
    0x3956C25BF348B538, 0x59F111F1B605D019, 0x923F82A4AF194F9B, 0xAB1C5ED5DA6D8118] ++
  [0xD807AA98A3030242, 0x12835B0145706FBE, 0x243185BE4EE4B28C, 0x550C7DC3D5FFB4E2,
    0x72BE5D74F27B896F, 0x80DEB1FE3B1696B1, 0x9BDC06A725C71235, 0xC19BF174CF692694] ++
  [0xE49B69C19EF14AD2, 0xEFBE4786384F25E3, 0x0FC19DC68B8CD5B5, 0x240CA1CC77AC9C65,
    0x2DE92C6F592B0275, 0x4A7484AA6EA6E483, 0x5CB0A9DCBD41FBD4, 0x76F988DA831153B5] ++
  [0x983E5152EE66DFAB, 0xA831C66D2DB43210, 0xB00327C898FB213F, 0xBF597FC7BEEF0EE4,
    0xC6E00BF33DA88FC2, 0xD5A79147930AA725, 0x06CA6351E003826F, 0x142929670A0E6E70] ++
  [0x27B70A8546D22FFC, 0x2E1B21385C26C926, 0x4D2C6DFC5AC42AED, 0x53380D139D95B3DF,
    0x650A73548BAF63DE, 0x766A0ABB3C77B2A8, 0x81C2C92E47EDAEE6, 0x92722C851482353B] ++
  [0xA2BFE8A14CF10364, 0xA81A664BBC423001, 0xC24B8B70D0F89791, 0xC76C51A30654BE30,
    0xD192E819D6EF5218, 0xD69906245565A910, 0xF40E35855771202A, 0x106AA07032BBD1B8] ++
  [0x19A4C116B8D2D0C8, 0x1E376C085141AB53, 0x2748774CDF8EEB99, 0x34B0BCB5E19B48A8,
    0x391C0CB3C5C95A63, 0x4ED8AA4AE3418ACB, 0x5B9CCA4F7763E373, 0x682E6FF3D6B2B8A3] ++
  [0x748F82EE5DEFB2FC, 0x78A5636F43172F60, 0x84C87814A1F0AB72, 0x8CC702081A6439EC,
    0x90BEFFFA23631E28, 0xA4506CEBDE82BDE9, 0xBEF9A3F7B2C67915, 0xC67178F2E372532B] ++
  [0xCA273ECEEA26619C, 0xD186B8C721C0C207, 0xEADA7DD6CDE0EB1E, 0xF57D4F7FEE6ED178,
    0x06F067AA72176FBA, 0x0A637DC5A2C898A6, 0x113F9804BEF90DAE, 0x1B710B35131C471B] ++
  [0x28DB77F523047D84, 0x32CAAB7B40C72493, 0x3C9EBE0A15C9BEBC, 0x431D67C49C100D4C,
    0x4CC5D4BECB3E42B6, 0x597F299CFC657E2A, 0x5FCB6FAB3AD6FAEC, 0x6C44198C4A475817]

/-- The initial hash value. -/
def shaInit : List W64 :=
  [0x6A09E667F3BCC908, 0xBB67AE8584CAA73B, 0x3C6EF372FE94F82B, 0xA54FF53A5F1D36F1,
    0x510E527FADE682D1, 0x9B05688C2B3E6C1F, 0x1F83D9ABFB41BD6B, 0x5BE0CD19137E2179]

/-- The message schedule: sixteen words of a block, then each from those before it; newest first. -/
def shaSchedule (block : List W64) : List W64 :=
  let next := fun (w : List W64) =>
    let a := w.getD 14 0
    let b := w.getD 1 0
    let s0 := a.rotateRight 1 ^^^ a.rotateRight 8 ^^^ (a >>> 7)
    let s1 := b.rotateRight 19 ^^^ b.rotateRight 61 ^^^ (b >>> 6)
    (w.getD 15 0 + s0 + w.getD 6 0 + s1) :: w
  ((List.range 64).foldl (fun w _ => next w) block.reverse).reverse

/-- One round, on the working variables a to h. -/
def shaRound (v : List W64) (kw : W64 × W64) : List W64 :=
  match v with
  | [a, b, c, d, e, f, g, h] =>
    let s1 := e.rotateRight 14 ^^^ e.rotateRight 18 ^^^ e.rotateRight 41
    let t1 := h + s1 + ((e &&& f) ^^^ (~~~e &&& g)) + kw.1 + kw.2
    let s0 := a.rotateRight 28 ^^^ a.rotateRight 34 ^^^ a.rotateRight 39
    let t2 := s0 + ((a &&& b) ^^^ (a &&& c) ^^^ (b &&& c))
    [t1 + t2, a, b, c, d + t1, e, f, g]
  | _ => v

/-- The hash value after one block of 128 bytes. -/
def shaBlock (h : List W64) (block : List Byte) : List W64 :=
  let ws := (List.range 16).map fun i => BitVec.ofNat 64 (ofBe ((block.drop (8 * i)).take 8))
  List.zipWith (fun (x y : W64) => x + y) h ((List.zip shaK (shaSchedule ws)).foldl shaRound h)

/-- The padded message. -/
def shaPad (m : List Byte) : List Byte :=
  m ++ [0x80] ++ List.replicate ((239 - m.length % 128) % 128) 0 ++ toBe 16 (8 * m.length)

/-- Blocks of a padded message, one after another. -/
def shaFold : Nat → List W64 → List Byte → List W64
  | 0, h, _ => h
  | n + 1, h, b => shaFold n (shaBlock h (b.take 128)) (b.drop 128)

/-- SHA-512. -/
def sha512 (m : List Byte) : List Byte :=
  let p := shaPad m
  ((shaFold (p.length / 128) shaInit p).map fun (w : W64) => toBe 8 w.toNat).flatten

/-- HMAC-SHA-512. -/
def hmac512 (key m : List Byte) : List Byte :=
  let k := if 128 < key.length then sha512 key else key
  let k := k ++ List.replicate (128 - k.length) 0
  sha512 (xorBytes k (List.replicate 128 0x5C) ++ sha512 (xorBytes k (List.replicate 128 0x36) ++ m))

/-! ### AES -/

/-- The product in GF(2^8). -/
def gfMul (a b : Byte) : Byte :=
  ((List.range 8).foldl
    (fun (p : Byte × Byte) i =>
      let (acc, x) := p
      (if b.getLsbD i then acc ^^^ x else acc, (x <<< 1) ^^^ (if x.getLsbD 7 then 0x1B else 0))) (0, a)).1

/-- The inverse, 0 of 0: the power 254. -/
def gfInv (a : Byte) : Byte :=
  (List.range 6).foldl (fun r _ => gfMul (gfMul r r) a) a |> fun x => gfMul x x

def aesSub (a : Byte) : Byte :=
  let x := gfInv a
  x ^^^ x.rotateLeft 1 ^^^ x.rotateLeft 2 ^^^ x.rotateLeft 3 ^^^ x.rotateLeft 4 ^^^ 0x63

def aesUnsub (a : Byte) : Byte := gfInv (a.rotateLeft 1 ^^^ a.rotateLeft 3 ^^^ a.rotateLeft 6 ^^^ 0x05)

/-- The expanded key of a key of `nk` words, newest word first. -/
def aesExpand (nk rounds : Nat) (key : List Byte) : List (List Byte) :=
  let first := ((List.range nk).map fun i => (key.drop (4 * i)).take 4).reverse
  let next := fun (ws : List (List Byte)) (i : Nat) =>
    let t := ws.headD []
    let rcon := (List.range (i / nk - 1)).foldl (fun (r : Byte) _ => gfMul r 2) 1
    let t := if i % nk = 0 then xorBytes ((t.drop 1 ++ t.take 1).map aesSub) [rcon, 0, 0, 0]
      else if 6 < nk && i % nk = 4 then t.map aesSub else t
    xorBytes (ws.getD (nk - 1) []) t :: ws
  (List.range (4 * (rounds + 1) - nk)).foldl (fun ws j => next ws (nk + j)) first

/-- The sixteen bytes of round key `r`. -/
def aesRoundKey (ws : List (List Byte)) (r : Nat) : List Byte := ((ws.drop (4 * r)).take 4).flatten

/-- The column mixed by a row of four factors, rotated for each byte. -/
def aesMix (f : List Byte) (b : List Byte) : List Byte :=
  (List.range 16).map fun i =>
    (List.range 4).foldl (fun (x : Byte) j => x ^^^ gfMul (f.getD ((j + 4 - i % 4) % 4) 0) (b.getD (i / 4 * 4 + j) 0)) 0

def aesShift (b : List Byte) : List Byte := (List.range 16).map fun i => b.getD ((i + 4 * (i % 4)) % 16) 0
def aesUnshift (b : List Byte) : List Byte := (List.range 16).map fun i => b.getD ((i + 12 * (i % 4)) % 16) 0

/-- One block enciphered, and deciphered; 14 rounds for a key of 32 bytes. -/
def aesEncrypt (key block : List Byte) : List Byte :=
  let nk := key.length / 4
  let n := nk + 6
  let ws := (aesExpand nk n key).reverse
  let b := (List.range (n - 1)).foldl
    (fun b r => xorBytes (aesMix [2, 3, 1, 1] (aesShift (b.map aesSub))) (aesRoundKey ws (r + 1)))
    (xorBytes block (aesRoundKey ws 0))
  xorBytes (aesShift (b.map aesSub)) (aesRoundKey ws n)

def aesDecrypt (key block : List Byte) : List Byte :=
  let nk := key.length / 4
  let n := nk + 6
  let ws := (aesExpand nk n key).reverse
  let b := (List.range (n - 1)).foldl
    (fun b r => aesMix [14, 11, 13, 9] (xorBytes ((aesUnshift b).map aesUnsub) (aesRoundKey ws (n - 1 - r))))
    (xorBytes block (aesRoundKey ws n))
  xorBytes ((aesUnshift b).map aesUnsub) (aesRoundKey ws 0)

/-! ### GCM -/

/-- The product in GF(2^128), bit 0 the most significant. -/
def ghashMul (x y : Nat) : Nat :=
  ((List.range 128).foldl
    (fun (p : Nat × Nat) i =>
      let (z, v) := p
      (if x.testBit (127 - i) then z ^^^ v else z, (v / 2) ^^^ (if v.testBit 0 then 0xE1 * 2 ^ 120 else 0))) (0, y)).1

/-- GHASH over data padded to whole blocks. -/
def ghashFold (h : Nat) : Nat → Nat → List Byte → Nat
  | 0, y, _ => y
  | n + 1, y, b => ghashFold h n (ghashMul (y ^^^ ofBe ((b.take 16) ++ List.replicate (16 - b.length) 0)) h) (b.drop 16)

def blocksOf (b : List Byte) : Nat := (b.length + 15) / 16

/-- The key stream over data, from counter `c` of the IV on. -/
def ctrFold (key iv : List Byte) : Nat → Nat → List Byte → List Byte
  | 0, _, _ => []
  | n + 1, c, b => xorBytes (b.take 16) (aesEncrypt key (iv ++ toBe 4 c)) ++ ctrFold key iv n (c + 1) (b.drop 16)

def gcmCrypt (key iv data : List Byte) : List Byte := ctrFold key iv (blocksOf data) 2 data

def gcmTag (key iv aad cipher : List Byte) : List Byte :=
  let h := ofBe (aesEncrypt key (List.replicate 16 0))
  let y := ghashFold h (blocksOf aad) 0 aad
  let y := ghashFold h (blocksOf cipher) y cipher
  let y := ghashMul (y ^^^ (8 * aad.length * 2 ^ 64 + 8 * cipher.length)) h
  xorBytes (toBe 16 y) (aesEncrypt key (iv ++ toBe 4 1))

/-! ### Key wrap with padding -/

/-- One step of the wrapping function: step number `t` on A and the semiblocks. -/
def wrapStep (key : List Byte) (p : List Byte × List (List Byte)) (t : Nat) : List Byte × List (List Byte) :=
  let b := aesEncrypt key (p.1 ++ p.2.headD [])
  (xorBytes (b.take 8) (toBe 8 t), p.2.drop 1 ++ [b.drop 8])

def unwrapStep (key : List Byte) (p : List Byte × List (List Byte)) (t : Nat) : List Byte × List (List Byte) :=
  let b := aesDecrypt key (xorBytes p.1 (toBe 8 t) ++ p.2.getLastD [])
  (b.take 8, b.drop 8 :: p.2.dropLast)

def semiblocks (b : List Byte) : List (List Byte) := (List.range (b.length / 8)).map fun i => (b.drop (8 * i)).take 8

def kwpIcv : List Byte := [0xA6, 0x59, 0x59, 0xA6]

/-- KWP of one byte and more. -/
def kwpWrap (key m : List Byte) : List Byte :=
  let aiv := kwpIcv ++ toBe 4 m.length
  let p := m ++ List.replicate ((8 - m.length % 8) % 8) 0
  if p.length ≤ 8 then aesEncrypt key (aiv ++ p)
  else
    let r := (List.range (6 * (p.length / 8))).foldl (fun x i => wrapStep key x (i + 1)) (aiv, semiblocks p)
    r.1 ++ r.2.flatten

/-- The message that a KWP cipher text holds, none where its integrity check fails. -/
def kwpUnwrap (key c : List Byte) : Option (List Byte) :=
  if c.length < 16 || c.length % 8 ≠ 0 then none
  else
    let n := c.length / 8 - 1
    let r := if n = 1 then
        let b := aesDecrypt key c
        (b.take 8, b.drop 8)
      else
        let r := (List.range (6 * n)).foldl (fun x i => unwrapStep key x (6 * n - i)) (c.take 8, semiblocks (c.drop 8))
        (r.1, r.2.flatten)
    let len := ofBe (r.1.drop 4)
    if r.1.take 4 == kwpIcv && decide (8 * (n - 1) < len) && decide (len ≤ 8 * n) && (r.2.drop len).all fun b => b == 0 then
      some (r.2.take len)
    else none

/-! ### RSASSA-PSS, 4,096 bits, SHA-512, salt of 64 bytes -/

/-- A power modulo `n`, by the bits of the exponent, least significant first. -/
def powMod (n : Nat) : Nat → Nat → Nat → Nat → Nat
  | 0, _, _, acc => acc
  | f + 1, b, e, acc => powMod n f (b * b % n) (e / 2) (if e % 2 = 1 then acc * b % n else acc)

def mgf1 (seed : List Byte) (n : Nat) : List Byte :=
  ((List.range ((n + 63) / 64)).map fun i => sha512 (seed ++ toBe 4 i)).flatten.take n

/-- A byte list with the most significant bit of its first byte cleared. -/
def clearTop : List Byte → List Byte
  | [] => []
  | b :: t => (b &&& 0x7F) :: t

/-- The signature in `sig` is one of the message with hash `digest`. -/
def pssVerify (modulus e : Nat) (digest sig : List Byte) : Bool :=
  let em := toBe 512 (powMod modulus 4096 (ofBe sig % modulus) e 1)
  let h := (em.drop 447).take 64
  let db := clearTop (xorBytes (em.take 447) (mgf1 h 447))
  decide (sig.length = 512) && decide (ofBe sig < modulus) && em.getLast? == some 0xBC && !(em.headD 0).getLsbD 7 &&
    db.take 383 == List.replicate 382 0 ++ [1] &&
    sha512 (List.replicate 8 0 ++ digest ++ db.drop 383) == h

/-- The signature made with a salt and the primes, exponents and coefficient of a private key. -/
def pssSign (p q dp dq qinv : Nat) (digest salt : List Byte) : List Byte :=
  let h := sha512 (List.replicate 8 0 ++ digest ++ salt)
  let db := List.replicate 382 0 ++ [1] ++ salt
  let c := ofBe (clearTop (xorBytes db (mgf1 h 447)) ++ h ++ [0xBC])
  let m1 := powMod p 2048 (c % p) dp 1
  let m2 := powMod q 2048 (c % q) dq 1
  toBe 512 (m2 + q * (qinv * (m1 + p - m2 % p) % p))

end Sys2Proof.Machine
end

