-- ==== Sys2Proof/Machine/Bounds.lean ====
section
/-!
DEFINITION. The operands that a command of the manual can have: its pages, channels, links, seats, and so on.
-/
namespace Sys2Proof.Machine

/-- A window access of a port (2 is the firmware): in the window region of a seat, or by window (R332). -/
def wfWin (port : Nat) (a : WinAddr) (n : Nat) : Bool :=
  decide (port < 3) && decide (1 ≤ n) &&
    match a with
    | .seat i off => decide (i < 64) && decide (0x8000 ≤ off) && decide (off + n ≤ 0x10000)
    | .firmware w _ => decide (w < 64)

/-- A Bruil link (R299). -/
def wfBl (n : Nat) : Bool := decide (n < 8)

/-- A measure die (R3). -/
def wfDie (d : Nat) : Bool := decide (d < 2)

/-- A CAN port. -/
def wfCan (c : Nat) : Bool := decide (c < 4)

/-- Operands that a frame can have (R440). -/
def wfCanFrame (f : CanFrame) : Bool :=
  decide (f.id < (if f.ide then 2 ^ 29 else 2 ^ 11)) && decide (f.data.length ≤ (if f.fdf then 64 else 8)) &&
    !(f.rtr && f.fdf)

/-- A TIA-485 port. -/
def wfSer (u : Nat) : Bool := decide (u < 4)

/-- The op of a transition is one of START, PAUSE, RESUME, STOP, SAFE and HOLD. -/
def transOp (op : Nat) : Bool := op == 2 || op == 3 || op == 4 || op == 5 || op == 6 || op == 8

/-- A crew entry number. -/
def wfEntry (e : Nat) : Bool := decide (e < 64)

/-- A load switch. -/
def wfLs (n : Nat) : Bool := decide (n < 16)

/-- A window request that a packet can carry (R309, R332, R333). -/
def wfInbound (src init tag : Nat) (r : WReq) : Bool :=
  decide (src < 512) && decide (init < 128) && decide (tag < 65536) && decide (r.win < 64) && decide (r.space < 2) &&
    decide (r.addr < 2 ^ 64) && decide (r.size ≤ 64)

/-- A check-value unit. -/
def wfCvu (u : Nat) : Bool := decide (u < 8)

/-- A key slot. -/
def wfKey (slot : Nat) : Bool := decide (slot < 64)

/-- Codes of a frame: local channels of a die, 24-bit codes (R67). -/
def wfSamples (l : List RawSample) : Bool :=
  l.all fun x => decide (x.j < 128) && decide (-8388608 ≤ x.v) && decide (x.v ≤ 8388607) && decide (-8388608 ≤ x.i) &&
    decide (x.i ≤ 8388607)

/-- A page of the CTRL window (R7). -/
def wfPage (p : Nat) : Bool := decide (p < 256)

/-- A program slot. -/
def wfSlot (slot : Nat) : Bool := decide (slot < 1024)

/-- A doorbell of a seat and a queue. -/
def wfDb (i q v : Nat) : Bool := decide (i < 64) && decide (q < 8) && decide (v < 2 ^ 32)

/-- A schedule slot and a seat. -/
def wfSch (i seat : Nat) : Bool := decide (i < 32) && decide (seat < 64)

/-- A stage link. -/
def wfLink (n : Nat) : Bool := decide (n < 16)

/-- A channel number and a seat number. -/
def wfChan (k seat : Nat) : Bool := decide (k < 256) && decide (seat < 64)

/-- A seat, a queue and a command identifier. -/
def wfSqe (i q cid : Nat) : Bool := decide (i < 64) && decide (q < 8) && decide (cid < 65536)

/-- An Ethernet port. -/
def wfEth (p : Nat) : Bool := decide (p < 12)

/-- A timestamp unit and a seat. -/
def wfCat (u seat : Nat) : Bool := decide (u < 16) && decide (seat < 64)

end Sys2Proof.Machine
end

