-- ==== Sys2Proof/Machine/RegMap.lean ====
section
/-!
DEFINITION. The register map: every register of the CTRL and SEAT windows by name, with its offset, its fields'
access types (R20), its reset domain (R23) and its reset value (R24), written from the register maps of the manual.
A register is named by its offset in the CTRL window, page × 0x1000 + offset (R46, R637); the SEAT window follows at
0x10_0000 and the MSI-X windows of P0 and P1 at 0x50_0000 and 0x51_0000 (the model's own places for them, log 1).
-/
namespace Sys2Proof

/-- The access types of R20. -/
inductive Acc where
  | rw | ro | w1c | w1s | wo | rwq | rwl
  deriving DecidableEq, Repr

/-- The reset domains of R23. -/
inductive Dom where
  | n | a | f | d | s | k
  deriving DecidableEq, Repr

/-- A row of a register map: `count` registers from `off` on, `stride` apart, each of `words` words; the fields that a
write reaches, by access type (bits in no mask are RO or reserved, R21); domain and reset value. -/
structure RegRow where
  name   : String
  off    : Nat
  stride : Nat
  count  : Nat
  words  : Nat
  fields : List (Acc × Word)
  dom    : Dom
  reset  : Word
  deriving DecidableEq, Repr

/-- A page kind of R635: its first page, how many pages, whether it has a life cycle (R57), its registers. -/
structure PageRow where
  first : Nat
  count : Nat
  life  : Bool
  rows  : List RegRow
  deriving DecidableEq, Repr

namespace Reg

/-- R50: `PG_ID` of page `p`. -/
def PG_ID (p : Nat) : Nat := p * 0x1000 + 0x000
/-- R50: `PG_REV` of page `p`. -/
def PG_REV (p : Nat) : Nat := p * 0x1000 + 0x004
/-- R50: `PG_CAP` of page `p`. -/
def PG_CAP (p : Nat) : Nat := p * 0x1000 + 0x008
/-- R50: `PG_CTRL` of page `p`. -/
def PG_CTRL (p : Nat) : Nat := p * 0x1000 + 0x00c
/-- R50: `PG_STAT` of page `p`. -/
def PG_STAT (p : Nat) : Nat := p * 0x1000 + 0x010
/-- R50: `PG_EVRAW` of page `p`. -/
def PG_EVRAW (p : Nat) : Nat := p * 0x1000 + 0x014
/-- R50: `PG_EVMASK` of page `p`. -/
def PG_EVMASK (p : Nat) : Nat := p * 0x1000 + 0x018
/-- R50: `PG_EVOUT` of page `p`. -/
def PG_EVOUT (p : Nat) : Nat := p * 0x1000 + 0x01c
/-- R50: `PG_EVSET` of page `p`. -/
def PG_EVSET (p : Nat) : Nat := p * 0x1000 + 0x020
/-- R50: `PG_INJSEL` of page `p`. -/
def PG_INJSEL (p : Nat) : Nat := p * 0x1000 + 0x024
/-- R50: `PG_INJARM` of page `p`. -/
def PG_INJARM (p : Nat) : Nat := p * 0x1000 + 0x028
/-- R50: `PG_FAULT` of page `p`. -/
def PG_FAULT (p : Nat) : Nat := p * 0x1000 + 0x02c
/-- R50: `PG_FCNT` of page `p`. -/
def PG_FCNT (p : Nat) : Nat := p * 0x1000 + 0x030
/-- R50: `PG_OWNER` of page `p`. -/
def PG_OWNER (p : Nat) : Nat := p * 0x1000 + 0x034
/-- R50: `PG_LOCK` of page `p`. -/
def PG_LOCK (p : Nat) : Nat := p * 0x1000 + 0x038
/-- R3: `DEV.PARTNUM`. -/
def DEV_PARTNUM : Nat := 0x00000 + 0x040
/-- R3: `DEV.CAPS`. -/
def DEV_CAPS : Nat := 0x00000 + 0x044
/-- R3: `DEV.CAPSX`. -/
def DEV_CAPSX : Nat := 0x00000 + 0x048
/-- R39: `PWR.GOV_CTRL`. -/
def PWR_GOV_CTRL : Nat := 0x01000 + 0x040
/-- R39: `PWR.GOV_THR`. -/
def PWR_GOV_THR : Nat := 0x01000 + 0x044
/-- R39: `PWR.GOV_STAT`. -/
def PWR_GOV_STAT : Nat := 0x01000 + 0x048
/-- R39: `PWR.SLACK_CLR`. -/
def PWR_SLACK_CLR : Nat := 0x01000 + 0x04c
/-- R39: `PWR.SLACK[0..3]`. -/
def PWR_SLACK (w : Nat) : Nat := 0x01000 + 4 * w + 0x050
/-- R575: `PWR.CTRL`. -/
def PWR_CTRL : Nat := 0x01000 + 0x060
/-- R575: `PWR.BACKUP`. -/
def PWR_BACKUP : Nat := 0x01000 + 0x064
/-- R575: `PWR.STATE`. -/
def PWR_STATE : Nat := 0x01000 + 0x068
/-- R575: `PWR.BLOCK`. -/
def PWR_BLOCK : Nat := 0x01000 + 0x06c
/-- R575: `PWR.FCFG`. -/
def PWR_FCFG : Nat := 0x01000 + 0x070
/-- R575: `PWR.SUPPLY`. -/
def PWR_SUPPLY : Nat := 0x01000 + 0x074
/-- R575: `PWR.BKWAKE`. -/
def PWR_BKWAKE : Nat := 0x01000 + 0x078
/-- R575: `PWR.BKCFG`. -/
def PWR_BKCFG : Nat := 0x01000 + 0x07c
/-- R575: `PWR.FTIME`. -/
def PWR_FTIME : Nat := 0x01000 + 0x080
/-- R619: `PWR.TEMP`. -/
def PWR_TEMP : Nat := 0x01000 + 0x084
/-- R104: `MEAS[d].OVEN_CTRL`. -/
def MEAS_OVEN_CTRL (d : Nat) : Nat := (0x010 + d) * 0x1000 + 0x040
/-- R104: `MEAS[d].OVEN_STAT`. -/
def MEAS_OVEN_STAT (d : Nat) : Nat := (0x010 + d) * 0x1000 + 0x044
/-- R104: `MEAS[d].OVEN_PWR`. -/
def MEAS_OVEN_PWR (d : Nat) : Nat := (0x010 + d) * 0x1000 + 0x048
/-- R104: `MEAS[d].REF_CTRL`. -/
def MEAS_REF_CTRL (d : Nat) : Nat := (0x010 + d) * 0x1000 + 0x04c
/-- R104: `MEAS[d].REF_STAT`. -/
def MEAS_REF_STAT (d : Nat) : Nat := (0x010 + d) * 0x1000 + 0x050
/-- R104: `MEAS[d].REF_DIFF`. -/
def MEAS_REF_DIFF (d : Nat) : Nat := (0x010 + d) * 0x1000 + 0x054
/-- R104: `MEAS[d].REF_RATIO`. -/
def MEAS_REF_RATIO (d : Nat) : Nat := (0x010 + d) * 0x1000 + 0x058
/-- R104: `MEAS[d].SOC_CFG`. -/
def MEAS_SOC_CFG (d : Nat) : Nat := (0x010 + d) * 0x1000 + 0x05c
/-- R104: `MEAS[d].KC_CFG`. -/
def MEAS_KC_CFG (d : Nat) : Nat := (0x010 + d) * 0x1000 + 0x060
/-- R104: `MEAS[d].MLINK_ERR`. -/
def MEAS_MLINK_ERR (d : Nat) : Nat := (0x010 + d) * 0x1000 + 0x064
/-- R104: `MEAS[d].SIDX_LO`. -/
def MEAS_SIDX_LO (d : Nat) : Nat := (0x010 + d) * 0x1000 + 0x068
/-- R104: `MEAS[d].SIDX_HI`. -/
def MEAS_SIDX_HI (d : Nat) : Nat := (0x010 + d) * 0x1000 + 0x06c
/-- R104: `MEAS[d].TSP_TYPE[p]`. -/
def MEAS_TSP_TYPE (d : Nat) (p : Nat) : Nat := (0x010 + d) * 0x1000 + 0x10 * p + 0x080
/-- R104: `MEAS[d].TSP_C1[p]`. -/
def MEAS_TSP_C1 (d : Nat) (p : Nat) : Nat := (0x010 + d) * 0x1000 + 0x10 * p + 0x084
/-- R104: `MEAS[d].TSP_C2[p]`. -/
def MEAS_TSP_C2 (d : Nat) (p : Nat) : Nat := (0x010 + d) * 0x1000 + 0x10 * p + 0x088
/-- R104: `MEAS[d].TSP_C3[p]`. -/
def MEAS_TSP_C3 (d : Nat) (p : Nat) : Nat := (0x010 + d) * 0x1000 + 0x10 * p + 0x08c
/-- R104: `MEAS[d].MCFG[j]`. -/
def MEAS_MCFG (d : Nat) (j : Nat) : Nat := (0x010 + d) * 0x1000 + 0x10 * j + 0x200
/-- R104: `MEAS[d].MSTAT[j]`. -/
def MEAS_MSTAT (d : Nat) (j : Nat) : Nat := (0x010 + d) * 0x1000 + 0x10 * j + 0x204
/-- R104: `MEAS[d].KRES[j]`. -/
def MEAS_KRES (d : Nat) (j : Nat) : Nat := (0x010 + d) * 0x1000 + 0x10 * j + 0x208
/-- R104: `MEAS[d].MTEMP[j]`. -/
def MEAS_MTEMP (d : Nat) (j : Nat) : Nat := (0x010 + d) * 0x1000 + 0x10 * j + 0x20c
/-- R108: `CAL[d].ARG`. -/
def CAL_ARG (d : Nat) : Nat := (0x012 + d) * 0x1000 + 0x040
/-- R108: `CAL[d].CMD`. -/
def CAL_CMD (d : Nat) : Nat := (0x012 + d) * 0x1000 + 0x044
/-- R108: `CAL[d].STAT`. -/
def CAL_STAT (d : Nat) : Nat := (0x012 + d) * 0x1000 + 0x048
/-- R108: `CAL[d].MEAN`. -/
def CAL_MEAN (d : Nat) : Nat := (0x012 + d) * 0x1000 + 0x04c
/-- R108: `CAL[d].SDEV`. -/
def CAL_SDEV (d : Nat) : Nat := (0x012 + d) * 0x1000 + 0x050
/-- R108: `CAL[d].MEANCAL`. -/
def CAL_MEANCAL (d : Nat) : Nat := (0x012 + d) * 0x1000 + 0x054
/-- R108: `CAL[d].VSRC`. -/
def CAL_VSRC (d : Nat) : Nat := (0x012 + d) * 0x1000 + 0x058
/-- R108: `CAL[d].ISRC`. -/
def CAL_ISRC (d : Nat) : Nat := (0x012 + d) * 0x1000 + 0x05c
/-- R108: `CAL[d].KV`. -/
def CAL_KV (d : Nat) : Nat := (0x012 + d) * 0x1000 + 0x060
/-- R108: `CAL[d].OV`. -/
def CAL_OV (d : Nat) : Nat := (0x012 + d) * 0x1000 + 0x064
/-- R108: `CAL[d].GI0`. -/
def CAL_GI0 (d : Nat) : Nat := (0x012 + d) * 0x1000 + 0x068
/-- R108: `CAL[d].OI0`. -/
def CAL_OI0 (d : Nat) : Nat := (0x012 + d) * 0x1000 + 0x06c
/-- R108: `CAL[d].GI1`. -/
def CAL_GI1 (d : Nat) : Nat := (0x012 + d) * 0x1000 + 0x070
/-- R108: `CAL[d].OI1`. -/
def CAL_OI1 (d : Nat) : Nat := (0x012 + d) * 0x1000 + 0x074
/-- R108: `CAL[d].SEQ`. -/
def CAL_SEQ (d : Nat) : Nat := (0x012 + d) * 0x1000 + 0x078
/-- R108: `CAL[d].TIME`. -/
def CAL_TIME (d : Nat) : Nat := (0x012 + d) * 0x1000 + 0x07c
/-- R108: `CAL[d].KI0_EFF`. -/
def CAL_KI0_EFF (d : Nat) : Nat := (0x012 + d) * 0x1000 + 0x080
/-- R108: `CAL[d].KI1_EFF`. -/
def CAL_KI1_EFF (d : Nat) : Nat := (0x012 + d) * 0x1000 + 0x084
/-- R108: `CAL[d].RREF10K`. -/
def CAL_RREF10K (d : Nat) : Nat := (0x012 + d) * 0x1000 + 0x088
/-- R108: `CAL[d].RREF1K`. -/
def CAL_RREF1K (d : Nat) : Nat := (0x012 + d) * 0x1000 + 0x08c
/-- R149: `LOOP.CFG`. -/
def LOOP_CFG : Nat := 0x30000 + 0x040
/-- R149: `LOOP.STAT`. -/
def LOOP_STAT : Nat := 0x30000 + 0x044
/-- R149: `LOOP.OVR_CNT`. -/
def LOOP_OVR_CNT : Nat := 0x30000 + 0x048
/-- R149: `LOOP.SVC`. -/
def LOOP_SVC : Nat := 0x30000 + 0x04c
/-- R149: `LOOP.LANE_ERR`. -/
def LOOP_LANE_ERR : Nat := 0x30000 + 0x050
/-- R149: `LOOP.RANGE`. -/
def LOOP_RANGE : Nat := 0x30000 + 0x054
/-- R149: `LOOP.GAIN_COMMIT`. -/
def LOOP_GAIN_COMMIT : Nat := 0x30000 + 0x058
/-- R149: `LOOP.ACC_SEL`. -/
def LOOP_ACC_SEL : Nat := 0x30000 + 0x05c
/-- R149: `LOOP.ACC_SIDX_LO`. -/
def LOOP_ACC_SIDX_LO : Nat := 0x30000 + 0x060
/-- R149: `LOOP.ACC_SIDX_HI`. -/
def LOOP_ACC_SIDX_HI : Nat := 0x30000 + 0x064
/-- R149: `LOOP.ACC[0..17]`. -/
def LOOP_ACC (w : Nat) : Nat := 0x30000 + 4 * w + 0x068
/-- R149: `LOOP.GAIN[g].KP`. -/
def LOOP_GAIN_KP (g : Nat) : Nat := 0x30000 + 0x10 * g + 0x100
/-- R149: `LOOP.GAIN[g].KI`. -/
def LOOP_GAIN_KI (g : Nat) : Nat := 0x30000 + 0x10 * g + 0x104
/-- R149: `LOOP.GAIN[g].CC`. -/
def LOOP_GAIN_CC (g : Nat) : Nat := 0x30000 + 0x10 * g + 0x108
/-- R149: `LOOP.GAIN[g].SLEW`. -/
def LOOP_GAIN_SLEW (g : Nat) : Nat := 0x30000 + 0x10 * g + 0x10c
/-- R153: `CHG[g].STCHG`. -/
def CHG_STCHG (g : Nat) : Nat := (0x020 + g) * 0x1000 + 0x040
/-- R153: `CHG[g].SUM`. -/
def CHG_SUM (g : Nat) : Nat := (0x020 + g) * 0x1000 + 0x044
/-- R153: `CHG[g].GCMD`. -/
def CHG_GCMD (g : Nat) : Nat := (0x020 + g) * 0x1000 + 0x048
/-- R154: `CH[k].CMD`. -/
def CH_CMD (k : Nat) : Nat := (0x020 + k / 16) * 0x1000 + 0x40 * (k % 16) + 0x100
/-- R154: `CH[k].STAT`. -/
def CH_STAT (k : Nat) : Nat := (0x020 + k / 16) * 0x1000 + 0x40 * (k % 16) + 0x104
/-- R154: `CH[k].CFG`. -/
def CH_CFG (k : Nat) : Nat := (0x020 + k / 16) * 0x1000 + 0x40 * (k % 16) + 0x108
/-- R154: `CH[k].PROT`. -/
def CH_PROT (k : Nat) : Nat := (0x020 + k / 16) * 0x1000 + 0x40 * (k % 16) + 0x10c
/-- R154: `CH[k].VMAX`. -/
def CH_VMAX (k : Nat) : Nat := (0x020 + k / 16) * 0x1000 + 0x40 * (k % 16) + 0x110
/-- R154: `CH[k].VMIN`. -/
def CH_VMIN (k : Nat) : Nat := (0x020 + k / 16) * 0x1000 + 0x40 * (k % 16) + 0x114
/-- R154: `CH[k].IMAX`. -/
def CH_IMAX (k : Nat) : Nat := (0x020 + k / 16) * 0x1000 + 0x40 * (k % 16) + 0x118
/-- R154: `CH[k].TLIM`. -/
def CH_TLIM (k : Nat) : Nat := (0x020 + k / 16) * 0x1000 + 0x40 * (k % 16) + 0x11c
/-- R154: `CH[k].DVDT`. -/
def CH_DVDT (k : Nat) : Nat := (0x020 + k / 16) * 0x1000 + 0x40 * (k % 16) + 0x120
/-- R154: `CH[k].VNOW`. -/
def CH_VNOW (k : Nat) : Nat := (0x020 + k / 16) * 0x1000 + 0x40 * (k % 16) + 0x124
/-- R154: `CH[k].INOW`. -/
def CH_INOW (k : Nat) : Nat := (0x020 + k / 16) * 0x1000 + 0x40 * (k % 16) + 0x128
/-- R154: `CH[k].DMD`. -/
def CH_DMD (k : Nat) : Nat := (0x020 + k / 16) * 0x1000 + 0x40 * (k % 16) + 0x12c
/-- R154: `CH[k].POS`. -/
def CH_POS (k : Nat) : Nat := (0x020 + k / 16) * 0x1000 + 0x40 * (k % 16) + 0x130
/-- R154: `CH[k].FCAUSE`. -/
def CH_FCAUSE (k : Nat) : Nat := (0x020 + k / 16) * 0x1000 + 0x40 * (k % 16) + 0x134
/-- R154: `CH[k].TRIP`. -/
def CH_TRIP (k : Nat) : Nat := (0x020 + k / 16) * 0x1000 + 0x40 * (k % 16) + 0x138
/-- R154: `CH[k].STEPT`. -/
def CH_STEPT (k : Nat) : Nat := (0x020 + k / 16) * 0x1000 + 0x40 * (k % 16) + 0x13c
/-- R185: `STEP.PCMD`. -/
def STEP_PCMD : Nat := 0x31000 + 0x040
/-- R185: `STEP.PBASE`. -/
def STEP_PBASE : Nat := 0x31000 + 0x044
/-- R185: `STEP.POPT`. -/
def STEP_POPT : Nat := 0x31000 + 0x048
/-- R185: `STEP.PIDX`. -/
def STEP_PIDX : Nat := 0x31000 + 0x04c
/-- R185: `STEP.PSTAT`. -/
def STEP_PSTAT : Nat := 0x31000 + 0x050
/-- R185: `STEP.PINFO0`. -/
def STEP_PINFO0 : Nat := 0x31000 + 0x054
/-- R185: `STEP.PINFO1`. -/
def STEP_PINFO1 : Nat := 0x31000 + 0x058
/-- R185: `STEP.PINFO2`. -/
def STEP_PINFO2 : Nat := 0x31000 + 0x05c
/-- R185: `STEP.PCRC`. -/
def STEP_PCRC : Nat := 0x31000 + 0x060
/-- R185: `STEP.FREE`. -/
def STEP_FREE : Nat := 0x31000 + 0x064
/-- R185: `STEP.LCTR_SEL`. -/
def STEP_LCTR_SEL : Nat := 0x31000 + 0x068
/-- R185: `STEP.LCTR01`. -/
def STEP_LCTR01 : Nat := 0x31000 + 0x06c
/-- R185: `STEP.LCTR23`. -/
def STEP_LCTR23 : Nat := 0x31000 + 0x070
/-- R185: `STEP.ECC`. -/
def STEP_ECC : Nat := 0x31000 + 0x074
/-- R185: `STEP.WIN[0..15]`. -/
def STEP_WIN (w : Nat) : Nat := 0x31000 + 4 * w + 0x080
/-- R205: `EIS.TCMD`. -/
def EIS_TCMD : Nat := 0x34000 + 0x040
/-- R205: `EIS.TSTAT`. -/
def EIS_TSTAT : Nat := 0x34000 + 0x044
/-- R205: `EIS.TIDX`. -/
def EIS_TIDX : Nat := 0x34000 + 0x048
/-- R205: `EIS.THDR`. -/
def EIS_THDR : Nat := 0x34000 + 0x04c
/-- R205: `EIS.TLEAD`. -/
def EIS_TLEAD : Nat := 0x34000 + 0x050
/-- R205: `EIS.PT_TYPE`. -/
def EIS_PT_TYPE : Nat := 0x34000 + 0x054
/-- R205: `EIS.PT_FREQ`. -/
def EIS_PT_FREQ : Nat := 0x34000 + 0x058
/-- R205: `EIS.PT_AMP`. -/
def EIS_PT_AMP : Nat := 0x34000 + 0x05c
/-- R205: `EIS.PT_CYC`. -/
def EIS_PT_CYC : Nat := 0x34000 + 0x060
/-- R205: `EIS.ACT`. -/
def EIS_ACT : Nat := 0x34000 + 0x064
/-- R205: `EIS.ERR`. -/
def EIS_ERR : Nat := 0x34000 + 0x068
/-- R205: `EIS.TINFO[t]`. -/
def EIS_TINFO (t : Nat) : Nat := 0x34000 + 0x4 * t + 0x080
/-- R205: `EIS.RSEL`. -/
def EIS_RSEL : Nat := 0x34000 + 0x0c0
/-- R205: `EIS.RZRE`. -/
def EIS_RZRE : Nat := 0x34000 + 0x0c4
/-- R205: `EIS.RZIM`. -/
def EIS_RZIM : Nat := 0x34000 + 0x0c8
/-- R205: `EIS.RUNC`. -/
def EIS_RUNC : Nat := 0x34000 + 0x0cc
/-- R205: `EIS.RIAMP`. -/
def EIS_RIAMP : Nat := 0x34000 + 0x0d0
/-- R205: `EIS.RFLAG`. -/
def EIS_RFLAG : Nat := 0x34000 + 0x0d4
/-- R205: `EIS.RTIME_LO`. -/
def EIS_RTIME_LO : Nat := 0x34000 + 0x0d8
/-- R205: `EIS.RTIME_HI`. -/
def EIS_RTIME_HI : Nat := 0x34000 + 0x0dc
/-- R205: `EIS.RPROG`. -/
def EIS_RPROG : Nat := 0x34000 + 0x0e0
/-- R216: `RT.SEL`. -/
def RT_SEL : Nat := 0x35000 + 0x040
/-- R216: `RT.N`. -/
def RT_N : Nat := 0x35000 + 0x044
/-- R216: `RT.SLOPE`. -/
def RT_SLOPE : Nat := 0x35000 + 0x048
/-- R216: `RT.SSIG`. -/
def RT_SSIG : Nat := 0x35000 + 0x04c
/-- R216: `RT.LASTV`. -/
def RT_LASTV : Nat := 0x35000 + 0x050
/-- R216: `RT.LASTT`. -/
def RT_LASTT : Nat := 0x35000 + 0x054
/-- R216: `RT.V0_LO`. -/
def RT_V0_LO : Nat := 0x35000 + 0x058
/-- R216: `RT.V0_HI`. -/
def RT_V0_HI : Nat := 0x35000 + 0x05c
/-- R216: `RT.FLAGS`. -/
def RT_FLAGS : Nat := 0x35000 + 0x060
/-- R216: `RT.S_LO`. -/
def RT_S_LO : Nat := 0x35000 + 0x064
/-- R216: `RT.S_HI`. -/
def RT_S_HI : Nat := 0x35000 + 0x068
/-- R216: `RT.PEND`. -/
def RT_PEND : Nat := 0x35000 + 0x06c
/-- R216: `RT.SX`. -/
def RT_SX : Nat := 0x35000 + 0x070
/-- R216: `RT.SXX`. -/
def RT_SXX (w : Nat) : Nat := 0x35000 + 4 * w + 0x074
/-- R216: `RT.SY`. -/
def RT_SY (w : Nat) : Nat := 0x35000 + 4 * w + 0x07c
/-- R216: `RT.SXY`. -/
def RT_SXY (w : Nat) : Nat := 0x35000 + 4 * w + 0x084
/-- R216: `RT.SYY`. -/
def RT_SYY (w : Nat) : Nat := 0x35000 + 4 * w + 0x08c
/-- R216: `RT.CFG[k]`. -/
def RT_CFG (k : Nat) : Nat := 0x35000 + 0x4 * k + 0x400
/-- R216: `RT.TCO[k]`. -/
def RT_TCO (k : Nat) : Nat := 0x35000 + 0x4 * k + 0x800
/-- R246: `CREW.CMD`. -/
def CREW_CMD : Nat := 0x36000 + 0x040
/-- R246: `CREW.ARG0`. -/
def CREW_ARG0 : Nat := 0x36000 + 0x044
/-- R246: `CREW.ARG1`. -/
def CREW_ARG1 : Nat := 0x36000 + 0x048
/-- R246: `CREW.ARG2`. -/
def CREW_ARG2 : Nat := 0x36000 + 0x04c
/-- R246: `CREW.STAT`. -/
def CREW_STAT : Nat := 0x36000 + 0x050
/-- R246: `CREW.LEAD`. -/
def CREW_LEAD : Nat := 0x36000 + 0x054
/-- R246: `CREW.INFO0`. -/
def CREW_INFO0 : Nat := 0x36000 + 0x058
/-- R246: `CREW.INFO1`. -/
def CREW_INFO1 : Nat := 0x36000 + 0x05c
/-- R246: `CREW.INFO2`. -/
def CREW_INFO2 : Nat := 0x36000 + 0x060
/-- R246: `CREW.INFO3`. -/
def CREW_INFO3 : Nat := 0x36000 + 0x064
/-- R246: `CREW.INFO4`. -/
def CREW_INFO4 : Nat := 0x36000 + 0x068
/-- R246: `CREW.MISS`. -/
def CREW_MISS : Nat := 0x36000 + 0x06c
/-- R246: `CREW.MASK[0..7]`. -/
def CREW_MASK (w : Nat) : Nat := 0x36000 + 4 * w + 0x080
/-- R247: `RED.SEL`. -/
def RED_SEL : Nat := 0x37000 + 0x040
/-- R247: `RED.CINFO`. -/
def RED_CINFO : Nat := 0x37000 + 0x044
/-- R247: `RED.COUNT`. -/
def RED_COUNT : Nat := 0x37000 + 0x048
/-- R247: `RED.SUM`. -/
def RED_SUM (w : Nat) : Nat := 0x37000 + 4 * w + 0x04c
/-- R247: `RED.SUMSQ`. -/
def RED_SUMSQ (w : Nat) : Nat := 0x37000 + 4 * w + 0x054
/-- R247: `RED.MIN`. -/
def RED_MIN : Nat := 0x37000 + 0x060
/-- R247: `RED.MINLOC`. -/
def RED_MINLOC : Nat := 0x37000 + 0x064
/-- R247: `RED.MAX`. -/
def RED_MAX : Nat := 0x37000 + 0x068
/-- R247: `RED.MAXLOC`. -/
def RED_MAXLOC : Nat := 0x37000 + 0x06c
/-- R247: `RED.MEAN`. -/
def RED_MEAN : Nat := 0x37000 + 0x070
/-- R247: `RED.SIGMA`. -/
def RED_SIGMA : Nat := 0x37000 + 0x074
/-- R247: `RED.MARK`. -/
def RED_MARK (w : Nat) : Nat := 0x37000 + 4 * w + 0x078
/-- R247: `GRD.GSEL`. -/
def GRD_GSEL : Nat := 0x37000 + 0x080
/-- R247: `GRD.W0`. -/
def GRD_W0 : Nat := 0x37000 + 0x084
/-- R247: `GRD.W1`. -/
def GRD_W1 : Nat := 0x37000 + 0x088
/-- R247: `GRD.W2`. -/
def GRD_W2 : Nat := 0x37000 + 0x08c
/-- R247: `GRD.THDR`. -/
def GRD_THDR : Nat := 0x37000 + 0x090
/-- R247: `RED.RANK[k]`. -/
def RED_RANK (k : Nat) : Nat := 0x37000 + 0x4 * k + 0x400
/-- R248: `REC.STAGE_LO`. -/
def REC_STAGE_LO : Nat := 0x38000 + 0x040
/-- R248: `REC.STAGE_HI`. -/
def REC_STAGE_HI : Nat := 0x38000 + 0x044
/-- R248: `REC.STAGE_SIZE`. -/
def REC_STAGE_SIZE : Nat := 0x38000 + 0x048
/-- R248: `REC.STAGE_USED`. -/
def REC_STAGE_USED : Nat := 0x38000 + 0x04c
/-- R248: `REC.STAGE_PEAK`. -/
def REC_STAGE_PEAK : Nat := 0x38000 + 0x050
/-- R248: `REC.RSEL`. -/
def REC_RSEL : Nat := 0x38000 + 0x054
/-- R248: `REC.RSTAT`. -/
def REC_RSTAT : Nat := 0x38000 + 0x058
/-- R248: `REC.RPROD`. -/
def REC_RPROD : Nat := 0x38000 + 0x05c
/-- R248: `REC.RCONS`. -/
def REC_RCONS : Nat := 0x38000 + 0x060
/-- R248: `REC.RHELD`. -/
def REC_RHELD : Nat := 0x38000 + 0x064
/-- R248: `REC.RLOSS`. -/
def REC_RLOSS : Nat := 0x38000 + 0x068
/-- R248: `REC.CHROUTE[k]`. -/
def REC_CHROUTE (k : Nat) : Nat := 0x38000 + 0x4 * k + 0x400
/-- R271: `SL[n].CFG`. -/
def SL_CFG (n : Nat) : Nat := (0x040 + n) * 0x1000 + 0x040
/-- R271: `SL[n].STAT`. -/
def SL_STAT (n : Nat) : Nat := (0x040 + n) * 0x1000 + 0x044
/-- R271: `SL[n].CHST`. -/
def SL_CHST (n : Nat) : Nat := (0x040 + n) * 0x1000 + 0x048
/-- R271: `SL[n].ERR`. -/
def SL_ERR (n : Nat) : Nat := (0x040 + n) * 0x1000 + 0x04c
/-- R271: `SL[n].ERR2`. -/
def SL_ERR2 (n : Nat) : Nat := (0x040 + n) * 0x1000 + 0x050
/-- R271: `SL[n].RTT`. -/
def SL_RTT (n : Nat) : Nat := (0x040 + n) * 0x1000 + 0x054
/-- R271: `SL[n].UPS`. -/
def SL_UPS (n : Nat) : Nat := (0x040 + n) * 0x1000 + 0x058
/-- R271: `SL[n].DWHY`. -/
def SL_DWHY (n : Nat) : Nat := (0x040 + n) * 0x1000 + 0x05c
/-- R271: `SL[n].MREQ`. -/
def SL_MREQ (n : Nat) : Nat := (0x040 + n) * 0x1000 + 0x060
/-- R271: `SL[n].MRSP`. -/
def SL_MRSP (n : Nat) : Nat := (0x040 + n) * 0x1000 + 0x064
/-- R271: `SL[n].DESC[0..31]`. -/
def SL_DESC (n : Nat) (w : Nat) : Nat := (0x040 + n) * 0x1000 + 4 * w + 0x080
/-- R271: `SL[n].VF[i]`. -/
def SL_VF (n : Nat) (i : Nat) : Nat := (0x040 + n) * 0x1000 + 0x4 * i + 0x100
/-- R271: `SL[n].CHFC[i]`. -/
def SL_CHFC (n : Nat) (i : Nat) : Nat := (0x040 + n) * 0x1000 + 0x4 * i + 0x140
/-- R296: `TB.CFG`. -/
def TB_CFG : Nat := 0x50000 + 0x040
/-- R296: `TB.STAT`. -/
def TB_STAT : Nat := 0x50000 + 0x044
/-- R296: `TB.SEC_LO`. -/
def TB_SEC_LO : Nat := 0x50000 + 0x048
/-- R296: `TB.SEC_HI`. -/
def TB_SEC_HI : Nat := 0x50000 + 0x04c
/-- R296: `TB.NS`. -/
def TB_NS : Nat := 0x50000 + 0x050
/-- R296: `TB.FRAC`. -/
def TB_FRAC : Nat := 0x50000 + 0x054
/-- R296: `TB.INC_LO`. -/
def TB_INC_LO : Nat := 0x50000 + 0x058
/-- R296: `TB.INC_HI`. -/
def TB_INC_HI : Nat := 0x50000 + 0x05c
/-- R296: `TB.STEP_SEC`. -/
def TB_STEP_SEC : Nat := 0x50000 + 0x060
/-- R296: `TB.STEP_NS`. -/
def TB_STEP_NS : Nat := 0x50000 + 0x064
/-- R296: `TB.STEP_GO`. -/
def TB_STEP_GO : Nat := 0x50000 + 0x068
/-- R296: `TB.OFS_IN`. -/
def TB_OFS_IN : Nat := 0x50000 + 0x06c
/-- R296: `TB.KP`. -/
def TB_KP : Nat := 0x50000 + 0x070
/-- R296: `TB.KI`. -/
def TB_KI : Nat := 0x50000 + 0x074
/-- R296: `TB.TRIM`. -/
def TB_TRIM : Nat := 0x50000 + 0x078
/-- R296: `TB.LIMITS`. -/
def TB_LIMITS : Nat := 0x50000 + 0x07c
/-- R296: `TB.LOCK`. -/
def TB_LOCK : Nat := 0x50000 + 0x080
/-- R296: `TB.OFS_LAST`. -/
def TB_OFS_LAST : Nat := 0x50000 + 0x084
/-- R296: `TB.ADJ`. -/
def TB_ADJ : Nat := 0x50000 + 0x088
/-- R296: `TB.BK_SEC_LO`. -/
def TB_BK_SEC_LO : Nat := 0x50000 + 0x08c
/-- R296: `TB.BK_SEC_HI`. -/
def TB_BK_SEC_HI : Nat := 0x50000 + 0x090
/-- R296: `TB.BK_SUB`. -/
def TB_BK_SUB : Nat := 0x50000 + 0x094
/-- R296: `TB.BK_ALARM_LO`. -/
def TB_BK_ALARM_LO : Nat := 0x50000 + 0x098
/-- R296: `TB.BK_ALARM_HI`. -/
def TB_BK_ALARM_HI : Nat := 0x50000 + 0x09c
/-- R296: `TB.REF`. -/
def TB_REF : Nat := 0x50000 + 0x0a0
/-- R296: `TB.REFMON`. -/
def TB_REFMON : Nat := 0x50000 + 0x0a4
/-- R296: `TB.SALIGN`. -/
def TB_SALIGN : Nat := 0x50000 + 0x0a8
/-- R297: `PTP.CLK`. -/
def PTP_CLK : Nat := 0x51000 + 0x040
/-- R297: `PTP.STAT`. -/
def PTP_STAT : Nat := 0x51000 + 0x044
/-- R297: `PTP.GM_LO`. -/
def PTP_GM_LO : Nat := 0x51000 + 0x048
/-- R297: `PTP.GM_HI`. -/
def PTP_GM_HI : Nat := 0x51000 + 0x04c
/-- R297: `PTP.TC`. -/
def PTP_TC : Nat := 0x51000 + 0x050
/-- R297: `PTP.MPD`. -/
def PTP_MPD : Nat := 0x51000 + 0x054
/-- R297: `PTP.PCFG[p]`. -/
def PTP_PCFG (p : Nat) : Nat := 0x51000 + 0x10 * p + 0x100
/-- R297: `PTP.LAT[p]`. -/
def PTP_LAT (p : Nat) : Nat := 0x51000 + 0x10 * p + 0x104
/-- R297: `PTP.ASYM[p]`. -/
def PTP_ASYM (p : Nat) : Nat := 0x51000 + 0x10 * p + 0x108
/-- R297: `PTP.CNT[p]`. -/
def PTP_CNT (p : Nat) : Nat := 0x51000 + 0x10 * p + 0x10c
/-- R298: `SCH.CMD`. -/
def SCH_CMD : Nat := 0x52000 + 0x040
/-- R298: `SCH.STAT`. -/
def SCH_STAT : Nat := 0x52000 + 0x044
/-- R298: `SCH.USED`. -/
def SCH_USED : Nat := 0x52000 + 0x048
/-- R298: `SCH.LATE`. -/
def SCH_LATE : Nat := 0x52000 + 0x04c
/-- R298: `SCH[s].CTRL`. -/
def SCH_CTRL (s : Nat) : Nat := 0x52000 + 0x40 * s + 0x100
/-- R298: `SCH[s].T_SEC_LO`. -/
def SCH_T_SEC_LO (s : Nat) : Nat := 0x52000 + 0x40 * s + 0x104
/-- R298: `SCH[s].T_SEC_HI`. -/
def SCH_T_SEC_HI (s : Nat) : Nat := 0x52000 + 0x40 * s + 0x108
/-- R298: `SCH[s].T_NS`. -/
def SCH_T_NS (s : Nat) : Nat := 0x52000 + 0x40 * s + 0x10c
/-- R298: `SCH[s].PER_LO`. -/
def SCH_PER_LO (s : Nat) : Nat := 0x52000 + 0x40 * s + 0x110
/-- R298: `SCH[s].PER_HI`. -/
def SCH_PER_HI (s : Nat) : Nat := 0x52000 + 0x40 * s + 0x114
/-- R298: `SCH[s].ARG`. -/
def SCH_ARG (s : Nat) : Nat := 0x52000 + 0x40 * s + 0x118
/-- R298: `SCH[s].STAT`. -/
def SCH_USTAT (s : Nat) : Nat := 0x52000 + 0x40 * s + 0x11c
/-- R298: `SCH[s].F_SEC_LO`. -/
def SCH_F_SEC_LO (s : Nat) : Nat := 0x52000 + 0x40 * s + 0x120
/-- R298: `SCH[s].F_SEC_HI`. -/
def SCH_F_SEC_HI (s : Nat) : Nat := 0x52000 + 0x40 * s + 0x124
/-- R298: `SCH[s].F_NS`. -/
def SCH_F_NS (s : Nat) : Nat := 0x52000 + 0x40 * s + 0x128
/-- R298: `SCH[s].SKIP`. -/
def SCH_SKIP (s : Nat) : Nat := 0x52000 + 0x40 * s + 0x12c
/-- R299: `CAT.CMD`. -/
def CAT_CMD : Nat := 0x53000 + 0x040
/-- R299: `CAT.STAT`. -/
def CAT_STAT : Nat := 0x53000 + 0x044
/-- R299: `CAT[u].CFG`. -/
def CAT_CFG (u : Nat) : Nat := 0x53000 + 0x20 * u + 0x100
/-- R299: `CAT[u].STAT`. -/
def CAT_USTAT (u : Nat) : Nat := 0x53000 + 0x20 * u + 0x104
/-- R299: `CAT[u].E_SEC_LO`. -/
def CAT_E_SEC_LO (u : Nat) : Nat := 0x53000 + 0x20 * u + 0x108
/-- R299: `CAT[u].E_SEC_HI`. -/
def CAT_E_SEC_HI (u : Nat) : Nat := 0x53000 + 0x20 * u + 0x10c
/-- R299: `CAT[u].E_NS`. -/
def CAT_E_NS (u : Nat) : Nat := 0x53000 + 0x20 * u + 0x110
/-- R299: `CAT[u].E_INFO`. -/
def CAT_E_INFO (u : Nat) : Nat := 0x53000 + 0x20 * u + 0x114
/-- R330: `BL[n].CFG`. -/
def BL_CFG (n : Nat) : Nat := (0x060 + n) * 0x1000 + 0x040
/-- R330: `BL[n].STAT`. -/
def BL_STAT (n : Nat) : Nat := (0x060 + n) * 0x1000 + 0x044
/-- R330: `BL[n].ERR`. -/
def BL_ERR (n : Nat) : Nat := (0x060 + n) * 0x1000 + 0x048
/-- R330: `BL[n].ERR2`. -/
def BL_ERR2 (n : Nat) : Nat := (0x060 + n) * 0x1000 + 0x04c
/-- R330: `BL[n].DELAY`. -/
def BL_DELAY (n : Nat) : Nat := (0x060 + n) * 0x1000 + 0x050
/-- R330: `BL[n].ASYM`. -/
def BL_ASYM (n : Nat) : Nat := (0x060 + n) * 0x1000 + 0x054
/-- R330: `BL[n].TOFS`. -/
def BL_TOFS (n : Nat) : Nat := (0x060 + n) * 0x1000 + 0x058
/-- R330: `BL[n].TCNT`. -/
def BL_TCNT (n : Nat) : Nat := (0x060 + n) * 0x1000 + 0x05c
/-- R331: `RT.CFG`. -/
def RTG_CFG : Nat := 0x68000 + 0x040
/-- R331: `RT.LDIR`. -/
def RT_LDIR : Nat := 0x68000 + 0x044
/-- R331: `RT.ID`. -/
def RT_ID : Nat := 0x68000 + 0x048
/-- R331: `RT.STAT`. -/
def RT_STAT : Nat := 0x68000 + 0x04c
/-- R331: `RT.ALT_SEL`. -/
def RT_ALT_SEL : Nat := 0x68000 + 0x050
/-- R331: `RT.ALT`. -/
def RT_ALT : Nat := 0x68000 + 0x054
/-- R331: `RT.FENCE`. -/
def RT_FENCE : Nat := 0x68000 + 0x058
/-- R331: `RT.FSTAT`. -/
def RT_FSTAT : Nat := 0x68000 + 0x05c
/-- R331: `RT.RERR_CNT`. -/
def RT_RERR_CNT : Nat := 0x68000 + 0x060
/-- R331: `RT.RERR0`. -/
def RT_RERR0 : Nat := 0x68000 + 0x064
/-- R331: `RT.RERR1`. -/
def RT_RERR1 : Nat := 0x68000 + 0x068
/-- R331: `RT.RERR2`. -/
def RT_RERR2 : Nat := 0x68000 + 0x06c
/-- R331: `RT.RERR3`. -/
def RT_RERR3 : Nat := 0x68000 + 0x070
/-- R331: `RT.DUP`. -/
def RT_DUP : Nat := 0x68000 + 0x074
/-- R331: `RT.SLP_CTRL`. -/
def RT_SLP_CTRL : Nat := 0x68000 + 0x078
/-- R331: `RT.SLP_STAT`. -/
def RT_SLP_STAT : Nat := 0x68000 + 0x07c
/-- R331: `RT.SLP_C_LO`. -/
def RT_SLP_C_LO : Nat := 0x68000 + 0x080
/-- R331: `RT.SLP_C_HI`. -/
def RT_SLP_C_HI : Nat := 0x68000 + 0x084
/-- R331: `RT.WAKESRC`. -/
def RT_WAKESRC : Nat := 0x68000 + 0x088
/-- R331: `RT.TALT`. -/
def RT_TALT : Nat := 0x68000 + 0x08c
/-- R347: `WB.CFG`. -/
def WB_CFG : Nat := 0x69000 + 0x040
/-- R347: `WB.STAT`. -/
def WB_STAT : Nat := 0x69000 + 0x044
/-- R347: `WB.WCOMMIT`. -/
def WB_WCOMMIT : Nat := 0x69000 + 0x048
/-- R347: `WB.INCOMMIT`. -/
def WB_INCOMMIT : Nat := 0x69000 + 0x04c
/-- R347: `WB.CSTAT`. -/
def WB_CSTAT : Nat := 0x69000 + 0x050
/-- R347: `WB.LOCKCMD`. -/
def WB_LOCKCMD : Nat := 0x69000 + 0x054
/-- R347: `WB.LOCKSTAT`. -/
def WB_LOCKSTAT : Nat := 0x69000 + 0x058
/-- R347: `WB.SIG_TX`. -/
def WB_SIG_TX : Nat := 0x69000 + 0x05c
/-- R347: `WB.ERRCNT`. -/
def WB_ERRCNT : Nat := 0x69000 + 0x060
/-- R347: `WB.ELOG0`. -/
def WB_ELOG0 : Nat := 0x69000 + 0x064
/-- R347: `WB.ELOG1`. -/
def WB_ELOG1 : Nat := 0x69000 + 0x068
/-- R347: `WB.ELOG2`. -/
def WB_ELOG2 : Nat := 0x69000 + 0x06c
/-- R347: `WIN[w].CFG`. -/
def WIN_CFG (w : Nat) : Nat := 0x69000 + 0x20 * w + 0x100
/-- R347: `WIN[w].TGT`. -/
def WIN_TGT (w : Nat) : Nat := 0x69000 + 0x20 * w + 0x104
/-- R347: `WIN[w].FBASE_LO`. -/
def WIN_FBASE_LO (w : Nat) : Nat := 0x69000 + 0x20 * w + 0x108
/-- R347: `WIN[w].FBASE_HI`. -/
def WIN_FBASE_HI (w : Nat) : Nat := 0x69000 + 0x20 * w + 0x10c
/-- R347: `WIN[w].STAT`. -/
def WIN_STAT (w : Nat) : Nat := 0x69000 + 0x20 * w + 0x110
/-- R347: `WIN[w].CNT`. -/
def WIN_CNT (w : Nat) : Nat := 0x69000 + 0x20 * w + 0x114
/-- R347: `WB.IN[e].SRC`. -/
def WB_IN_SRC (e : Nat) : Nat := 0x69000 + 0x10 * e + 0xa00
/-- R347: `WB.IN[e].SPC`. -/
def WB_IN_SPC (e : Nat) : Nat := 0x69000 + 0x10 * e + 0xa04
/-- R347: `WB.IN[e].BASE_LO`. -/
def WB_IN_BASE_LO (e : Nat) : Nat := 0x69000 + 0x10 * e + 0xa08
/-- R347: `WB.IN[e].BASE_HI`. -/
def WB_IN_BASE_HI (e : Nat) : Nat := 0x69000 + 0x10 * e + 0xa0c
/-- R355: `MB.CFG`. -/
def MB_CFG : Nat := 0x6a000 + 0x040
/-- R355: `MB.TIDX`. -/
def MB_TIDX : Nat := 0x6a000 + 0x044
/-- R355: `MB.TW[0..7]`. -/
def MB_TW (w : Nat) : Nat := 0x6a000 + 4 * w + 0x048
/-- R355: `MB.TCMD`. -/
def MB_TCMD : Nat := 0x6a000 + 0x068
/-- R355: `MB.TSTAT`. -/
def MB_TSTAT : Nat := 0x6a000 + 0x06c
/-- R355: `MB.CNT`. -/
def MB_CNT : Nat := 0x6a000 + 0x070
/-- R355: `MB.DROP`. -/
def MB_DROP : Nat := 0x6a000 + 0x074
/-- R355: `MB.LAT`. -/
def MB_LAT : Nat := 0x6a000 + 0x078
/-- R361: `SA.SQ_TAIL[q]`. -/
def SA_SQ_TAIL (s : Nat) (q : Nat) : Nat := 0x100000 + s * 0x10000 + 8 * q + 0x000
/-- R361: `SA.CQ_HEAD[q]`. -/
def SA_CQ_HEAD (s : Nat) (q : Nat) : Nat := 0x100000 + s * 0x10000 + 8 * q + 0x004
/-- R361: `SA.EQ_HEAD`. -/
def SA_EQ_HEAD (s : Nat) : Nat := 0x100000 + s * 0x10000 + 0x040
/-- R361: `SA.STAT`. -/
def SA_STAT (s : Nat) : Nat := 0x100000 + s * 0x10000 + 0x044
/-- R361: `SA.EV_EN`. -/
def SA_EV_EN (s : Nat) : Nat := 0x100000 + s * 0x10000 + 0x048
/-- R361: `SA.EV_LOST`. -/
def SA_EV_LOST (s : Nat) : Nat := 0x100000 + s * 0x10000 + 0x04c
/-- R361: `SA.RING_CONS[r]`. -/
def SA_RING_CONS (s : Nat) (r : Nat) : Nat := 0x100000 + s * 0x10000 + 4 * r + 0x050
/-- R361: `SA.SQ_HEAD[q]`. -/
def SA_SQ_HEAD (s : Nat) (q : Nat) : Nat := 0x100000 + s * 0x10000 + 4 * q + 0x060
/-- R361: `SA.ERR`. -/
def SA_ERR (s : Nat) : Nat := 0x100000 + s * 0x10000 + 0x080
/-- R386: `COX.ARG[0..15]`. -/
def COX_ARG (w : Nat) : Nat := 0x80000 + 4 * w + 0x040
/-- R386: `COX.GO`. -/
def COX_GO : Nat := 0x80000 + 0x080
/-- R386: `COX.STAT`. -/
def COX_STAT : Nat := 0x80000 + 0x084
/-- R386: `COX.RSP[0..3]`. -/
def COX_RSP (w : Nat) : Nat := 0x80000 + 4 * w + 0x088
/-- R386: `COX.RSTDONE_LO`. -/
def COX_RSTDONE_LO : Nat := 0x80000 + 0x098
/-- R386: `COX.RSTDONE_HI`. -/
def COX_RSTDONE_HI : Nat := 0x80000 + 0x09c
/-- R386: `COX.DET_LO`. -/
def COX_DET_LO : Nat := 0x80000 + 0x0a0
/-- R386: `COX.DET_HI`. -/
def COX_DET_HI : Nat := 0x80000 + 0x0a4
/-- R387: `ST[s].STAT`. -/
def ST_STAT (s : Nat) : Nat := (0x081 + s / 16) * 0x1000 + 0x40 * (s % 16) + 0x100
/-- R387: `ST[s].QSET`. -/
def ST_QSET (s : Nat) : Nat := (0x081 + s / 16) * 0x1000 + 0x40 * (s % 16) + 0x104
/-- R387: `ST[s].LOSTTO`. -/
def ST_LOSTTO (s : Nat) : Nat := (0x081 + s / 16) * 0x1000 + 0x40 * (s % 16) + 0x108
/-- R387: `ST[s].DETT`. -/
def ST_DETT (s : Nat) : Nat := (0x081 + s / 16) * 0x1000 + 0x40 * (s % 16) + 0x10c
/-- R387: `ST[s].CNT`. -/
def ST_CNT (s : Nat) : Nat := (0x081 + s / 16) * 0x1000 + 0x40 * (s % 16) + 0x110
/-- R387: `ST[s].CHUNKS`. -/
def ST_CHUNKS (s : Nat) : Nat := (0x081 + s / 16) * 0x1000 + 0x40 * (s % 16) + 0x114
/-- R387: `ST[s].GRANTS`. -/
def ST_GRANTS (s : Nat) : Nat := (0x081 + s / 16) * 0x1000 + 0x40 * (s % 16) + 0x118
/-- R387: `ST[s].EVLOST`. -/
def ST_EVLOST (s : Nat) : Nat := (0x081 + s / 16) * 0x1000 + 0x40 * (s % 16) + 0x11c
/-- R388: `PCIE[p].LSTAT`. -/
def PCIE_LSTAT (p : Nat) : Nat := (0x0f8 + p) * 0x1000 + 0x040
/-- R388: `PCIE[p].ERR`. -/
def PCIE_ERR (p : Nat) : Nat := (0x0f8 + p) * 0x1000 + 0x044
/-- R388: `PCIE[p].DOWNS`. -/
def PCIE_DOWNS (p : Nat) : Nat := (0x0f8 + p) * 0x1000 + 0x048
/-- R388: `PCIE[p].SEATS_LO`. -/
def PCIE_SEATS_LO (p : Nat) : Nat := (0x0f8 + p) * 0x1000 + 0x04c
/-- R388: `PCIE[p].SEATS_HI`. -/
def PCIE_SEATS_HI (p : Nat) : Nat := (0x0f8 + p) * 0x1000 + 0x050
/-- R408: `DMA[e].CFG`. -/
def DMA_CFG (e : Nat) : Nat := (0x090 + e) * 0x1000 + 0x040
/-- R408: `DMA[e].STAT`. -/
def DMA_STAT (e : Nat) : Nat := (0x090 + e) * 0x1000 + 0x044
/-- R408: `DMA[e].CHUNKS`. -/
def DMA_CHUNKS (e : Nat) : Nat := (0x090 + e) * 0x1000 + 0x048
/-- R408: `DMA[e].BYTES_LO`. -/
def DMA_BYTES_LO (e : Nat) : Nat := (0x090 + e) * 0x1000 + 0x04c
/-- R408: `DMA[e].BYTES_HI`. -/
def DMA_BYTES_HI (e : Nat) : Nat := (0x090 + e) * 0x1000 + 0x050
/-- R408: `DMA[e].PREEMPT`. -/
def DMA_PREEMPT (e : Nat) : Nat := (0x090 + e) * 0x1000 + 0x054
/-- R408: `DMA[e].ERR`. -/
def DMA_ERR (e : Nat) : Nat := (0x090 + e) * 0x1000 + 0x058
/-- R409: `SMU.DWIN_LO`. -/
def SMU_DWIN_LO : Nat := 0x98000 + 0x040
/-- R409: `SMU.DWIN_HI`. -/
def SMU_DWIN_HI : Nat := 0x98000 + 0x044
/-- R409: `SMU.DWIN_SIZE`. -/
def SMU_DWIN_SIZE : Nat := 0x98000 + 0x048
/-- R409: `SMU.TLB`. -/
def SMU_TLB : Nat := 0x98000 + 0x04c
/-- R409: `SMU.HITS`. -/
def SMU_HITS : Nat := 0x98000 + 0x050
/-- R409: `SMU.MISSES`. -/
def SMU_MISSES : Nat := 0x98000 + 0x054
/-- R409: `SMU.TLBERR`. -/
def SMU_TLBERR : Nat := 0x98000 + 0x058
/-- R409: `SMU.FCNT`. -/
def SMU_FCNT : Nat := 0x98000 + 0x05c
/-- R409: `SMU.FLOG0`. -/
def SMU_FLOG0 : Nat := 0x98000 + 0x060
/-- R409: `SMU.FLOG1`. -/
def SMU_FLOG1 : Nat := 0x98000 + 0x064
/-- R409: `SMU.FLOG2`. -/
def SMU_FLOG2 : Nat := 0x98000 + 0x068
/-- R409: `SMU.FLOG3`. -/
def SMU_FLOG3 : Nat := 0x98000 + 0x06c
/-- R409: `SMU.SUSP_LO`. -/
def SMU_SUSP_LO : Nat := 0x98000 + 0x070
/-- R409: `SMU.SUSP_HI`. -/
def SMU_SUSP_HI : Nat := 0x98000 + 0x074
/-- R409: `SMU.RESUME`. -/
def SMU_RESUME : Nat := 0x98000 + 0x078
/-- R409: `SMU.RSEL`. -/
def SMU_RSEL : Nat := 0x98000 + 0x07c
/-- R409: `SMU.ROOT_LO`. -/
def SMU_ROOT_LO : Nat := 0x98000 + 0x080
/-- R409: `SMU.ROOT_HI`. -/
def SMU_ROOT_HI : Nat := 0x98000 + 0x084
/-- R430: `ETH.LINK`. -/
def ETH_LINK : Nat := 0xa0000 + 0x040
/-- R430: `ETH.MODE`. -/
def ETH_MODE : Nat := 0xa0000 + 0x044
/-- R430: `PORT[p].CFG`. -/
def PORT_CFG (p : Nat) : Nat := 0xa0000 + 0x40 * p + 0x100
/-- R430: `PORT[p].VCFG`. -/
def PORT_VCFG (p : Nat) : Nat := 0xa0000 + 0x40 * p + 0x104
/-- R430: `PORT[p].STAT`. -/
def PORT_STAT (p : Nat) : Nat := 0xa0000 + 0x40 * p + 0x108
/-- R430: `PORT[p].TSCTL`. -/
def PORT_TSCTL (p : Nat) : Nat := 0xa0000 + 0x40 * p + 0x10c
/-- R430: `PORT[p].TS`. -/
def PORT_TS (p : Nat) (w : Nat) : Nat := 0xa0000 + 0x40 * p + 4 * w + 0x110
/-- R430: `PORT[p].RXF`. -/
def PORT_RXF (p : Nat) : Nat := 0xa0000 + 0x40 * p + 0x118
/-- R430: `PORT[p].RXO`. -/
def PORT_RXO (p : Nat) (w : Nat) : Nat := 0xa0000 + 0x40 * p + 4 * w + 0x11c
/-- R430: `PORT[p].TXF`. -/
def PORT_TXF (p : Nat) : Nat := 0xa0000 + 0x40 * p + 0x124
/-- R430: `PORT[p].TXO`. -/
def PORT_TXO (p : Nat) (w : Nat) : Nat := 0xa0000 + 0x40 * p + 4 * w + 0x128
/-- R430: `PORT[p].ERR`. -/
def PORT_ERR (p : Nat) : Nat := 0xa0000 + 0x40 * p + 0x130
/-- R430: `PORT[p].DROP`. -/
def PORT_DROP (p : Nat) : Nat := 0xa0000 + 0x40 * p + 0x134
/-- R430: `PORT[p].FLUSH`. -/
def PORT_FLUSH (p : Nat) : Nat := 0xa0000 + 0x40 * p + 0x138
/-- R431: `SW.CFG`. -/
def SW_CFG : Nat := 0xa1000 + 0x040
/-- R431: `SW.PCP2TC`. -/
def SW_PCP2TC : Nat := 0xa1000 + 0x044
/-- R431: `SW.BUF`. -/
def SW_BUF : Nat := 0xa1000 + 0x048
/-- R431: `SW.SPILL`. -/
def SW_SPILL (w : Nat) : Nat := 0xa1000 + 4 * w + 0x04c
/-- R431: `SW.SPILL_CFG`. -/
def SW_SPILL_CFG : Nat := 0xa1000 + 0x054
/-- R431: `SW.SPILL_STAT`. -/
def SW_SPILL_STAT : Nat := 0xa1000 + 0x058
/-- R431: `SW.DROPS`. -/
def SW_DROPS : Nat := 0xa1000 + 0x05c
/-- R432: `MAC.CMD`. -/
def MAC_CMD : Nat := 0xa2000 + 0x040
/-- R432: `MAC.KEY_LO`. -/
def MAC_KEY_LO : Nat := 0xa2000 + 0x044
/-- R432: `MAC.KEY_HI`. -/
def MAC_KEY_HI : Nat := 0xa2000 + 0x048
/-- R432: `MAC.DATA`. -/
def MAC_DATA : Nat := 0xa2000 + 0x04c
/-- R432: `MAC.MTR`. -/
def MAC_MTR : Nat := 0xa2000 + 0x050
/-- R432: `MAC.IDX`. -/
def MAC_IDX : Nat := 0xa2000 + 0x054
/-- R432: `MAC.STAT`. -/
def MAC_STAT : Nat := 0xa2000 + 0x058
/-- R432: `MAC.COUNT`. -/
def MAC_COUNT : Nat := 0xa2000 + 0x05c
/-- R433: `VLAN.VSEL`. -/
def VLAN_VSEL : Nat := 0xa3000 + 0x040
/-- R433: `VLAN.VMEMB`. -/
def VLAN_VMEMB : Nat := 0xa3000 + 0x044
/-- R433: `VLAN.VUNTAG`. -/
def VLAN_VUNTAG : Nat := 0xa3000 + 0x048
/-- R433: `VLAN.VFLAGS`. -/
def VLAN_VFLAGS : Nat := 0xa3000 + 0x04c
/-- R433: `VLAN.VCOMMIT`. -/
def VLAN_VCOMMIT : Nat := 0xa3000 + 0x050
/-- R434: `MTR.CMD`. -/
def MTR_CMD : Nat := 0xa4000 + 0x040
/-- R434: `MTR.STAT`. -/
def MTR_STAT : Nat := 0xa4000 + 0x044
/-- R434: `MTR.CIR`. -/
def MTR_CIR : Nat := 0xa4000 + 0x048
/-- R434: `MTR.PIR`. -/
def MTR_PIR : Nat := 0xa4000 + 0x04c
/-- R434: `MTR.CBS`. -/
def MTR_CBS : Nat := 0xa4000 + 0x050
/-- R434: `MTR.PBS`. -/
def MTR_PBS : Nat := 0xa4000 + 0x054
/-- R434: `MTR.MODE`. -/
def MTR_MODE : Nat := 0xa4000 + 0x058
/-- R434: `MTR.CNT[0..2]`. -/
def MTR_CNT (w : Nat) : Nat := 0xa4000 + 4 * w + 0x05c
/-- R434: `MTR.USED`. -/
def MTR_USED : Nat := 0xa4000 + 0x068
/-- R434: `MTR.PMAP[q]`. -/
def MTR_PMAP (q : Nat) : Nat := 0xa4000 + 0x4 * q + 0x200
/-- R435: `PQ[p].SCHED`. -/
def PQ_SCHED (p : Nat) : Nat := 0xa5000 + 0x20 * p + 0x100
/-- R435: `PQ[p].WGT`. -/
def PQ_WGT (p : Nat) (w : Nat) : Nat := 0xa5000 + 0x20 * p + 4 * w + 0x104
/-- R435: `PQ[p].PROF`. -/
def PQ_PROF (p : Nat) : Nat := 0xa5000 + 0x20 * p + 0x10c
/-- R435: `PQ[p].QLIM`. -/
def PQ_QLIM (p : Nat) : Nat := 0xa5000 + 0x20 * p + 0x110
/-- R435: `WRED[w].G`. -/
def WRED_G (w : Nat) : Nat := 0xa5000 + 0x20 * w + 0x800
/-- R435: `WRED[w].Y`. -/
def WRED_Y (w : Nat) : Nat := 0xa5000 + 0x20 * w + 0x804
/-- R435: `WRED[w].R`. -/
def WRED_R (w : Nat) : Nat := 0xa5000 + 0x20 * w + 0x808
/-- R435: `WRED[w].P`. -/
def WRED_P (w : Nat) : Nat := 0xa5000 + 0x20 * w + 0x80c
/-- R436: `MIR[m].CFG`. -/
def MIR_CFG (m : Nat) : Nat := 0xa6000 + 0x20 * m + 0x100
/-- R436: `MIR[m].SRC_RX`. -/
def MIR_SRC_RX (m : Nat) : Nat := 0xa6000 + 0x20 * m + 0x104
/-- R436: `MIR[m].SRC_TX`. -/
def MIR_SRC_TX (m : Nat) : Nat := 0xa6000 + 0x20 * m + 0x108
/-- R436: `MIR[m].RING`. -/
def MIR_RING (m : Nat) (w : Nat) : Nat := 0xa6000 + 0x20 * m + 4 * w + 0x10c
/-- R436: `MIR[m].PROD`. -/
def MIR_PROD (m : Nat) : Nat := 0xa6000 + 0x20 * m + 0x114
/-- R436: `MIR[m].CONS`. -/
def MIR_CONS (m : Nat) : Nat := 0xa6000 + 0x20 * m + 0x118
/-- R436: `MIR[m].LOST`. -/
def MIR_LOST (m : Nat) : Nat := 0xa6000 + 0x20 * m + 0x11c
/-- R437: `TUN[t].CFG`. -/
def TUN_CFG (t : Nat) : Nat := 0xa7000 + 0x10 * t + 0x100
/-- R437: `TUN[t].STAT`. -/
def TUN_STAT (t : Nat) : Nat := 0xa7000 + 0x10 * t + 0x104
/-- R437: `TUN[t].FRAMES`. -/
def TUN_FRAMES (t : Nat) : Nat := 0xa7000 + 0x10 * t + 0x108
/-- R437: `TUN[t].LOST`. -/
def TUN_LOST (t : Nat) : Nat := 0xa7000 + 0x10 * t + 0x10c
/-- R438: `SNIC.POLL`. -/
def SNIC_POLL : Nat := 0xa8000 + 0x040
/-- R438: `SNIC[s].TXR`. -/
def SNIC_TXR (s : Nat) : Nat := 0xa8000 + 0x20 * s + 0x100
/-- R438: `SNIC[s].RXR`. -/
def SNIC_RXR (s : Nat) : Nat := 0xa8000 + 0x20 * s + 0x108
/-- R438: `SNIC[s].RCFG`. -/
def SNIC_RCFG (s : Nat) : Nat := 0xa8000 + 0x20 * s + 0x110
/-- R438: `SNIC[s].STAT`. -/
def SNIC_STAT (s : Nat) : Nat := 0xa8000 + 0x20 * s + 0x114
/-- R438: `SNIC[s].CNT`. -/
def SNIC_CNT (s : Nat) : Nat := 0xa8000 + 0x20 * s + 0x118
/-- R459: `CAN[c].CFG`. -/
def CAN_CFG (c : Nat) : Nat := (0x0b0 + c) * 0x1000 + 0x040
/-- R459: `CAN[c].NBT`. -/
def CAN_NBT (c : Nat) : Nat := (0x0b0 + c) * 0x1000 + 0x044
/-- R459: `CAN[c].DBT`. -/
def CAN_DBT (c : Nat) : Nat := (0x0b0 + c) * 0x1000 + 0x048
/-- R459: `CAN[c].STAT`. -/
def CAN_STAT (c : Nat) : Nat := (0x0b0 + c) * 0x1000 + 0x04c
/-- R459: `CAN[c].ECNT`. -/
def CAN_ECNT (c : Nat) : Nat := (0x0b0 + c) * 0x1000 + 0x050
/-- R459: `CAN[c].TXQ`. -/
def CAN_TXQ (c : Nat) : Nat := (0x0b0 + c) * 0x1000 + 0x054
/-- R459: `CAN[c].CNT`. -/
def CAN_CNT (c : Nat) : Nat := (0x0b0 + c) * 0x1000 + 0x058
/-- R459: `CAN[c].ERR`. -/
def CAN_ERR (c : Nat) : Nat := (0x0b0 + c) * 0x1000 + 0x05c
/-- R459: `CAN[c].LOST`. -/
def CAN_LOST (c : Nat) : Nat := (0x0b0 + c) * 0x1000 + 0x060
/-- R459: `CAN[c].WCFG`. -/
def CAN_WCFG (c : Nat) : Nat := (0x0b0 + c) * 0x1000 + 0x064
/-- R459: `CAN[c].WUNC`. -/
def CAN_WUNC (c : Nat) : Nat := (0x0b0 + c) * 0x1000 + 0x068
/-- R459: `CAN[c].WID[w]`. -/
def CAN_WID (c : Nat) (w : Nat) : Nat := (0x0b0 + c) * 0x1000 + 0x20 * w + 0x080
/-- R459: `CAN[c].WMSK[w]`. -/
def CAN_WMSK (c : Nat) (w : Nat) : Nat := (0x0b0 + c) * 0x1000 + 0x20 * w + 0x084
/-- R459: `CAN[c].WDLC[w]`. -/
def CAN_WDLC (c : Nat) (w : Nat) : Nat := (0x0b0 + c) * 0x1000 + 0x20 * w + 0x088
/-- R459: `CAN[c].WDATA_LO[w]`. -/
def CAN_WDATA_LO (c : Nat) (w : Nat) : Nat := (0x0b0 + c) * 0x1000 + 0x20 * w + 0x08c
/-- R459: `CAN[c].WDATA_HI[w]`. -/
def CAN_WDATA_HI (c : Nat) (w : Nat) : Nat := (0x0b0 + c) * 0x1000 + 0x20 * w + 0x090
/-- R462: `SER[u].CFG`. -/
def SER_CFG (u : Nat) : Nat := (0x0b4 + u) * 0x1000 + 0x040
/-- R462: `SER[u].BAUD`. -/
def SER_BAUD (u : Nat) : Nat := (0x0b4 + u) * 0x1000 + 0x044
/-- R462: `SER[u].TIMING`. -/
def SER_TIMING (u : Nat) : Nat := (0x0b4 + u) * 0x1000 + 0x048
/-- R462: `SER[u].STAT`. -/
def SER_STAT (u : Nat) : Nat := (0x0b4 + u) * 0x1000 + 0x04c
/-- R462: `SER[u].TXD`. -/
def SER_TXD (u : Nat) : Nat := (0x0b4 + u) * 0x1000 + 0x050
/-- R462: `SER[u].RXD`. -/
def SER_RXD (u : Nat) : Nat := (0x0b4 + u) * 0x1000 + 0x054
/-- R462: `SER[u].RXFR`. -/
def SER_RXFR (u : Nat) : Nat := (0x0b4 + u) * 0x1000 + 0x058
/-- R462: `SER[u].RXTS_LO`. -/
def SER_RXTS_LO (u : Nat) : Nat := (0x0b4 + u) * 0x1000 + 0x05c
/-- R462: `SER[u].RXTS_HI`. -/
def SER_RXTS_HI (u : Nat) : Nat := (0x0b4 + u) * 0x1000 + 0x060
/-- R462: `SER[u].CNT`. -/
def SER_CNT (u : Nat) : Nat := (0x0b4 + u) * 0x1000 + 0x064
/-- R462: `SER[u].ERR`. -/
def SER_ERR (u : Nat) : Nat := (0x0b4 + u) * 0x1000 + 0x068
/-- R464: `NS.CFG`. -/
def NS_CFG : Nat := 0xb8000 + 0x040
/-- R464: `NS.CTRL`. -/
def NS_CTRL : Nat := 0xb8000 + 0x044
/-- R464: `NS.STAT`. -/
def NS_STAT : Nat := 0xb8000 + 0x048
/-- R464: `NS.WREC0`. -/
def NS_WREC0 : Nat := 0xb8000 + 0x04c
/-- R464: `NS.WREC1`. -/
def NS_WREC1 : Nat := 0xb8000 + 0x050
/-- R464: `NS.WDATA_LO`. -/
def NS_WDATA_LO : Nat := 0xb8000 + 0x054
/-- R464: `NS.WDATA_HI`. -/
def NS_WDATA_HI : Nat := 0xb8000 + 0x058
/-- R464: `NS.WTIME_LO`. -/
def NS_WTIME_LO : Nat := 0xb8000 + 0x05c
/-- R464: `NS.WTIME_HI`. -/
def NS_WTIME_HI : Nat := 0xb8000 + 0x060
/-- R464: `NS.CNT`. -/
def NS_CNT : Nat := 0xb8000 + 0x064
/-- R495: `FL.CFG`. -/
def FL_CFG : Nat := 0xc0000 + 0x040
/-- R495: `FL.STAT`. -/
def FL_STAT : Nat := 0xc0000 + 0x044
/-- R495: `FL.CTRL`. -/
def FL_CTRL : Nat := 0xc0000 + 0x048
/-- R495: `FL.ERR`. -/
def FL_ERR : Nat := 0xc0000 + 0x04c
/-- R495: `FL.FERR`. -/
def FL_FERR : Nat := 0xc0000 + 0x050
/-- R495: `FL.SUPPLY`. -/
def FL_SUPPLY : Nat := 0xc0000 + 0x054
/-- R495: `FL.LSUM`. -/
def FL_LSUM : Nat := 0xc0000 + 0x058
/-- R495: `FL.UVCNT`. -/
def FL_UVCNT : Nat := 0xc0000 + 0x05c
/-- R496: `DI.LEVEL`. -/
def DI_LEVEL : Nat := 0xc1000 + 0x040
/-- R496: `DI.RAW`. -/
def DI_RAW : Nat := 0xc1000 + 0x044
/-- R496: `DI.EDGES`. -/
def DI_EDGES : Nat := 0xc1000 + 0x048
/-- R496: `DI[n].CFG`. -/
def DI_CFG (n : Nat) : Nat := 0xc1000 + 0x4 * n + 0x100
/-- R497: `DO.CMD`. -/
def DO_CMD : Nat := 0xc2000 + 0x040
/-- R497: `DO.SET`. -/
def DO_SET : Nat := 0xc2000 + 0x044
/-- R497: `DO.CLR`. -/
def DO_CLR : Nat := 0xc2000 + 0x048
/-- R497: `DO.OUT`. -/
def DO_OUT : Nat := 0xc2000 + 0x04c
/-- R497: `DO.FLT`. -/
def DO_FLT : Nat := 0xc2000 + 0x050
/-- R497: `DO.CFG`. -/
def DO_CFG : Nat := 0xc2000 + 0x054
/-- R498: `LSB[b].SUM`. -/
def LSB_SUM (b : Nat) : Nat := (0x0c3 + b) * 0x1000 + 0x040
/-- R498: `LS[n].CFG`. -/
def LS_CFG (n : Nat) : Nat := (0x0c3 + n / 8) * 0x1000 + 0x40 * (n % 8) + 0x100
/-- R498: `LS[n].RCFG`. -/
def LS_RCFG (n : Nat) : Nat := (0x0c3 + n / 8) * 0x1000 + 0x40 * (n % 8) + 0x104
/-- R498: `LS[n].FS`. -/
def LS_FS (n : Nat) : Nat := (0x0c3 + n / 8) * 0x1000 + 0x40 * (n % 8) + 0x108
/-- R498: `LS[n].CMD`. -/
def LS_CMD (n : Nat) : Nat := (0x0c3 + n / 8) * 0x1000 + 0x40 * (n % 8) + 0x10c
/-- R498: `LS[n].CTRL`. -/
def LS_CTRL (n : Nat) : Nat := (0x0c3 + n / 8) * 0x1000 + 0x40 * (n % 8) + 0x110
/-- R498: `LS[n].STAT`. -/
def LS_STAT (n : Nat) : Nat := (0x0c3 + n / 8) * 0x1000 + 0x40 * (n % 8) + 0x114
/-- R498: `LS[n].DIAG`. -/
def LS_DIAG (n : Nat) : Nat := (0x0c3 + n / 8) * 0x1000 + 0x40 * (n % 8) + 0x118
/-- R498: `LS[n].I`. -/
def LS_I (n : Nat) : Nat := (0x0c3 + n / 8) * 0x1000 + 0x40 * (n % 8) + 0x11c
/-- R498: `LS[n].CYC`. -/
def LS_CYC (n : Nat) : Nat := (0x0c3 + n / 8) * 0x1000 + 0x40 * (n % 8) + 0x120
/-- R498: `LS[n].TENG`. -/
def LS_TENG (n : Nat) : Nat := (0x0c3 + n / 8) * 0x1000 + 0x40 * (n % 8) + 0x124
/-- R499: `ZT.FIRED`. -/
def ZT_FIRED : Nat := 0xc5000 + 0x040
/-- R499: `ZT.ACTIVE`. -/
def ZT_ACTIVE : Nat := 0xc5000 + 0x044
/-- R499: `ZT.RELEASE`. -/
def ZT_RELEASE : Nat := 0xc5000 + 0x048
/-- R499: `ZT.TEST`. -/
def ZT_TEST : Nat := 0xc5000 + 0x04c
/-- R499: `ZT.CNT`. -/
def ZT_CNT : Nat := 0xc5000 + 0x050
/-- R499: `ZT[r].DIMASK`. -/
def ZT_DIMASK (r : Nat) : Nat := 0xc5000 + 0x20 * r + 0x100
/-- R499: `ZT[r].DIPOL`. -/
def ZT_DIPOL (r : Nat) : Nat := 0xc5000 + 0x20 * r + 0x104
/-- R499: `ZT[r].OTHER`. -/
def ZT_OTHER (r : Nat) : Nat := 0xc5000 + 0x20 * r + 0x108
/-- R499: `ZT[r].ACT_SL`. -/
def ZT_ACT_SL (r : Nat) : Nat := 0xc5000 + 0x20 * r + 0x10c
/-- R499: `ZT[r].ACT_LS`. -/
def ZT_ACT_LS (r : Nat) : Nat := 0xc5000 + 0x20 * r + 0x110
/-- R499: `ZT[r].ACT_DO`. -/
def ZT_ACT_DO (r : Nat) : Nat := 0xc5000 + 0x20 * r + 0x114
/-- R499: `ZT[r].STAT`. -/
def ZT_STAT (r : Nat) : Nat := 0xc5000 + 0x20 * r + 0x118
/-- R522: `KEY.CMD`. -/
def KEY_CMD : Nat := 0xd0000 + 0x040
/-- R522: `KEY.ARG`. -/
def KEY_ARG : Nat := 0xd0000 + 0x044
/-- R522: `KEY.KID`. -/
def KEY_KID : Nat := 0xd0000 + 0x048
/-- R522: `KEY.LEN`. -/
def KEY_LEN : Nat := 0xd0000 + 0x04c
/-- R522: `KEY.STAT`. -/
def KEY_STAT : Nat := 0xd0000 + 0x050
/-- R522: `KEY.SEL`. -/
def KEY_SEL : Nat := 0xd0000 + 0x054
/-- R522: `KEY.SINFO`. -/
def KEY_SINFO : Nat := 0xd0000 + 0x058
/-- R522: `KEY.SGEN`. -/
def KEY_SGEN : Nat := 0xd0000 + 0x05c
/-- R522: `KEY.SPGEN`. -/
def KEY_SPGEN : Nat := 0xd0000 + 0x060
/-- R522: `KEY.SKID`. -/
def KEY_SKID : Nat := 0xd0000 + 0x064
/-- R522: `KEY.ROLL`. -/
def KEY_ROLL : Nat := 0xd0000 + 0x068
/-- R522: `KEY.FUSE`. -/
def KEY_FUSE : Nat := 0xd0000 + 0x06c
/-- R522: `KEY.DEBUG`. -/
def KEY_DEBUG : Nat := 0xd0000 + 0x070
/-- R522: `KEY.GLAZE`. -/
def KEY_GLAZE : Nat := 0xd0000 + 0x074
/-- R522: `KEY.JSEQ`. -/
def KEY_JSEQ : Nat := 0xd0000 + 0x078
/-- R522: `KEY.BUF[0..511]`. -/
def KEY_BUF (w : Nat) : Nat := 0xd0000 + 4 * w + 0x800
/-- R523: `CRY.JOB`. -/
def CRY_JOB : Nat := 0xd1000 + 0x040
/-- R523: `CRY.SRC_LO`. -/
def CRY_SRC_LO : Nat := 0xd1000 + 0x044
/-- R523: `CRY.SRC_HI`. -/
def CRY_SRC_HI : Nat := 0xd1000 + 0x048
/-- R523: `CRY.DST_LO`. -/
def CRY_DST_LO : Nat := 0xd1000 + 0x04c
/-- R523: `CRY.DST_HI`. -/
def CRY_DST_HI : Nat := 0xd1000 + 0x050
/-- R523: `CRY.LEN`. -/
def CRY_LEN : Nat := 0xd1000 + 0x054
/-- R523: `CRY.AADLEN`. -/
def CRY_AADLEN : Nat := 0xd1000 + 0x058
/-- R523: `CRY.IV[0..2]`. -/
def CRY_IV (w : Nat) : Nat := 0xd1000 + 4 * w + 0x05c
/-- R523: `CRY.TAG[0..3]`. -/
def CRY_TAG (w : Nat) : Nat := 0xd1000 + 4 * w + 0x068
/-- R523: `CRY.GO`. -/
def CRY_GO : Nat := 0xd1000 + 0x078
/-- R523: `CRY.STAT`. -/
def CRY_STAT : Nat := 0xd1000 + 0x07c
/-- R523: `CRY.DIG[0..15]`. -/
def CRY_DIG (w : Nat) : Nat := 0xd1000 + 4 * w + 0x080
/-- R523: `CRY.SIG[0..127]`. -/
def CRY_SIG (w : Nat) : Nat := 0xd1000 + 4 * w + 0x100
/-- R524: `ATT.CMD`. -/
def ATT_CMD : Nat := 0xd2000 + 0x040
/-- R524: `ATT.STAT`. -/
def ATT_STAT : Nat := 0xd2000 + 0x044
/-- R524: `ATT.KSLOT`. -/
def ATT_KSLOT : Nat := 0xd2000 + 0x048
/-- R524: `ATT.NONCE[0..15]`. -/
def ATT_NONCE (w : Nat) : Nat := 0xd2000 + 4 * w + 0x080
/-- R524: `ATT.M[0..63]`. -/
def ATT_M (w : Nat) : Nat := 0xd2000 + 4 * w + 0x100
/-- R524: `ATT.BUF[0..511]`. -/
def ATT_BUF (w : Nat) : Nat := 0xd2000 + 4 * w + 0x400
/-- R526: `CVU[u].CFG`. -/
def CVU_CFG (u : Nat) : Nat := (0x0e0 + u) * 0x1000 + 0x040
/-- R526: `CVU[u].POLY_LO`. -/
def CVU_POLY_LO (u : Nat) : Nat := (0x0e0 + u) * 0x1000 + 0x044
/-- R526: `CVU[u].POLY_HI`. -/
def CVU_POLY_HI (u : Nat) : Nat := (0x0e0 + u) * 0x1000 + 0x048
/-- R526: `CVU[u].INIT_LO`. -/
def CVU_INIT_LO (u : Nat) : Nat := (0x0e0 + u) * 0x1000 + 0x04c
/-- R526: `CVU[u].INIT_HI`. -/
def CVU_INIT_HI (u : Nat) : Nat := (0x0e0 + u) * 0x1000 + 0x050
/-- R526: `CVU[u].XOROUT_LO`. -/
def CVU_XOROUT_LO (u : Nat) : Nat := (0x0e0 + u) * 0x1000 + 0x054
/-- R526: `CVU[u].XOROUT_HI`. -/
def CVU_XOROUT_HI (u : Nat) : Nat := (0x0e0 + u) * 0x1000 + 0x058
/-- R526: `CVU[u].ACFG`. -/
def CVU_ACFG (u : Nat) : Nat := (0x0e0 + u) * 0x1000 + 0x05c
/-- R526: `CVU[u].CTRL`. -/
def CVU_CTRL (u : Nat) : Nat := (0x0e0 + u) * 0x1000 + 0x060
/-- R526: `CVU[u].DIN1`. -/
def CVU_DIN1 (u : Nat) : Nat := (0x0e0 + u) * 0x1000 + 0x064
/-- R526: `CVU[u].DIN2`. -/
def CVU_DIN2 (u : Nat) : Nat := (0x0e0 + u) * 0x1000 + 0x068
/-- R526: `CVU[u].DIN4`. -/
def CVU_DIN4 (u : Nat) : Nat := (0x0e0 + u) * 0x1000 + 0x06c
/-- R526: `CVU[u].EXPECT_LO`. -/
def CVU_EXPECT_LO (u : Nat) : Nat := (0x0e0 + u) * 0x1000 + 0x070
/-- R526: `CVU[u].EXPECT_HI`. -/
def CVU_EXPECT_HI (u : Nat) : Nat := (0x0e0 + u) * 0x1000 + 0x074
/-- R526: `CVU[u].RESULT_LO`. -/
def CVU_RESULT_LO (u : Nat) : Nat := (0x0e0 + u) * 0x1000 + 0x078
/-- R526: `CVU[u].RESULT_HI`. -/
def CVU_RESULT_HI (u : Nat) : Nat := (0x0e0 + u) * 0x1000 + 0x07c
/-- R526: `CVU[u].STAT`. -/
def CVU_STAT (u : Nat) : Nat := (0x0e0 + u) * 0x1000 + 0x080
/-- R526: `CVU[u].CNT`. -/
def CVU_CNT (u : Nat) : Nat := (0x0e0 + u) * 0x1000 + 0x084
/-- R526: `CVU[u].ACNT`. -/
def CVU_ACNT (u : Nat) : Nat := (0x0e0 + u) * 0x1000 + 0x088
/-- R539: `INJ.STAT`. -/
def INJ_STAT : Nat := 0x05000 + 0x040
/-- R539: `INJ.FIRED`. -/
def INJ_FIRED : Nat := 0x05000 + 0x044
/-- R539: `INJ.REFUSED`. -/
def INJ_REFUSED : Nat := 0x05000 + 0x048
/-- R539: `INJ.LOG0`. -/
def INJ_LOG0 : Nat := 0x05000 + 0x04c
/-- R539: `INJ.LOG1`. -/
def INJ_LOG1 : Nat := 0x05000 + 0x050
/-- R539: `INJ.LOG2`. -/
def INJ_LOG2 : Nat := 0x05000 + 0x054
/-- R576: `RST.CTRL`. -/
def RST_CTRL : Nat := 0x02000 + 0x040
/-- R576: `RST.CAUSE`. -/
def RST_CAUSE : Nat := 0x02000 + 0x044
/-- R576: `RST.WDT`. -/
def RST_WDT : Nat := 0x02000 + 0x048
/-- R576: `RST.CNT`. -/
def RST_CNT : Nat := 0x02000 + 0x04c
/-- R577: `BOOT.STAT`. -/
def BOOT_STAT : Nat := 0x03000 + 0x040
/-- R577: `BOOT.SEL`. -/
def BOOT_SEL : Nat := 0x03000 + 0x044
/-- R577: `BOOT.CHK`. -/
def BOOT_CHK : Nat := 0x03000 + 0x048
/-- R577: `BOOT.EASY_REASON`. -/
def BOOT_EASY_REASON : Nat := 0x03000 + 0x04c
/-- R577: `BOOT.TIMER`. -/
def BOOT_TIMER : Nat := 0x03000 + 0x050
/-- R577: `BOOT.COUNT`. -/
def BOOT_COUNT : Nat := 0x03000 + 0x054
/-- R591: `LIFE.STAT`. -/
def LIFE_STAT : Nat := 0x04000 + 0x040
/-- R591: `LIFE.ECC`. -/
def LIFE_ECC : Nat := 0x04000 + 0x044
/-- R591: `LIFE.OPSEC_LO`. -/
def LIFE_OPSEC_LO : Nat := 0x04000 + 0x048
/-- R591: `LIFE.OPSEC_HI`. -/
def LIFE_OPSEC_HI : Nat := 0x04000 + 0x04c
/-- R591: `LIFE.SEL`. -/
def LIFE_SEL : Nat := 0x04000 + 0x050
/-- R591: `LIFE.TOT[0..14]`. -/
def LIFE_TOT (w : Nat) : Nat := 0x04000 + 4 * w + 0x054
/-- R591: `LIFE.LEAP_SEC_LO`. -/
def LIFE_LEAP_SEC_LO : Nat := 0x04000 + 0x090
/-- R591: `LIFE.LEAP_SEC_HI`. -/
def LIFE_LEAP_SEC_HI : Nat := 0x04000 + 0x094
/-- R591: `LIFE.LEAP_OFS`. -/
def LIFE_LEAP_OFS : Nat := 0x04000 + 0x098
/-- R591: `LIFE.LEAP_CMD`. -/
def LIFE_LEAP_CMD : Nat := 0x04000 + 0x09c
/-- R591: `LIFE.CRUMB_BASE_LO`. -/
def LIFE_CRUMB_BASE_LO : Nat := 0x04000 + 0x0a0
/-- R591: `LIFE.CRUMB_BASE_HI`. -/
def LIFE_CRUMB_BASE_HI : Nat := 0x04000 + 0x0a4
/-- R591: `LIFE.CRUMB_SIZE`. -/
def LIFE_CRUMB_SIZE : Nat := 0x04000 + 0x0a8
/-- R591: `LIFE.CRUMB_LAST`. -/
def LIFE_CRUMB_LAST : Nat := 0x04000 + 0x0ac
/-- R591: `LIFE.WIN_ADDR`. -/
def LIFE_WIN_ADDR : Nat := 0x04000 + 0x0b0
/-- R591: `LIFE.WIN_DATA`. -/
def LIFE_WIN_DATA : Nat := 0x04000 + 0x0b4
/-- R591: `LIFE.LASTSEC_LO`. -/
def LIFE_LASTSEC_LO : Nat := 0x04000 + 0x0b8
/-- R591: `LIFE.LASTSEC_HI`. -/
def LIFE_LASTSEC_HI : Nat := 0x04000 + 0x0bc
/-- R638: `EVT.DROP`. -/
def EVT_DROP : Nat := 0x06000 + 0x040
/-- R638: `EVT.LAST`. -/
def EVT_LAST : Nat := 0x06000 + 0x044
/-- R638: `EVT.ROUTE[p]`. -/
def EVT_ROUTE (p : Nat) : Nat := 0x06000 + 0x4 * p + 0x400
/-- R641: `DRAM.CFG`. -/
def DRAM_CFG : Nat := 0xf0000 + 0x040
/-- R641: `DRAM.STAT`. -/
def DRAM_STAT : Nat := 0xf0000 + 0x044
/-- R641: `DRAM.ECC`. -/
def DRAM_ECC : Nat := 0xf0000 + 0x048
/-- R641: `DRAM.EADDR_LO`. -/
def DRAM_EADDR_LO : Nat := 0xf0000 + 0x04c
/-- R641: `DRAM.EADDR_HI`. -/
def DRAM_EADDR_HI : Nat := 0xf0000 + 0x050
/-- R641: `DRAM.SCRUB`. -/
def DRAM_SCRUB : Nat := 0xf0000 + 0x054

end Reg

namespace RegMap

/-- R50: the header of every present page. `PG_CTRL`, `PG_EVSET` and `PG_LOCK` act through their own commands. -/
def header : List RegRow := [
  ⟨"PG_ID", 0x000, 0, 1, 1, [], .n, 0⟩,
  ⟨"PG_REV", 0x004, 0, 1, 1, [], .n, 0x100⟩,
  ⟨"PG_CAP", 0x008, 0, 1, 1, [], .n, 0⟩,
  ⟨"PG_CTRL", 0x00c, 0, 1, 1, [(.wo, 0x00000007)], .k, 0⟩,
  ⟨"PG_STAT", 0x010, 0, 1, 1, [], .k, 1⟩,
  ⟨"PG_EVRAW", 0x014, 0, 1, 1, [(.w1c, 0xffffffff)], .k, 0⟩,
  ⟨"PG_EVMASK", 0x018, 0, 1, 1, [(.rw, 0xffffffff)], .k, 0⟩,
  ⟨"PG_EVOUT", 0x01c, 0, 1, 1, [], .k, 0⟩,
  ⟨"PG_EVSET", 0x020, 0, 1, 1, [(.wo, 0xffffffff)], .k, 0⟩,
  ⟨"PG_INJSEL", 0x024, 0, 1, 1, [(.rw, 0x0000ffff)], .k, 0⟩,
  ⟨"PG_INJARM", 0x028, 0, 1, 1, [(.rw, 0x0000ff03)], .k, 0⟩,
  ⟨"PG_FAULT", 0x02c, 0, 1, 1, [], .k, 0⟩,
  ⟨"PG_FCNT", 0x030, 0, 1, 1, [], .k, 0⟩,
  ⟨"PG_OWNER", 0x034, 0, 1, 1, [], .d, 0⟩,
  ⟨"PG_LOCK", 0x038, 0, 1, 1, [(.w1s, 0x00000001)], .d, 0⟩]

/-- R3: the registers of page 0x000. -/
def rows000 : List RegRow :=
  [
  ⟨"DEV.PARTNUM", 0x040, 0x0, 1, 1, [], .n, 0⟩,
  ⟨"DEV.CAPS", 0x044, 0x0, 1, 1, [], .n, 0⟩,
  ⟨"DEV.CAPSX", 0x048, 0x0, 1, 1, [], .n, 0⟩]

/-- R39, R575, R619: the registers of page 0x001. -/
def rows001 : List RegRow :=
  [
  ⟨"PWR.GOV_CTRL", 0x040, 0x0, 1, 1, [(.rw, 0x007f7f01)], .d, 0x00460A00⟩,
  ⟨"PWR.GOV_THR", 0x044, 0x0, 1, 1, [(.rw, 0xffffffff)], .d, 0x0BB803E8⟩,
  ⟨"PWR.GOV_STAT", 0x048, 0x0, 1, 1, [], .d, 0x00001E1E⟩,
  ⟨"PWR.SLACK_CLR", 0x04c, 0x0, 1, 1, [(.wo, 0xffffffff)], .d, 0⟩,
  ⟨"PWR.SLACK[0..3]", 0x050, 0x0, 1, 4, [], .d, 0x0000FFFF⟩,
  ⟨"PWR.CTRL", 0x060, 0x0, 1, 1, [(.rw, 0x00000003)], .d, 0x00000001⟩,
  ⟨"PWR.BACKUP", 0x064, 0x0, 1, 1, [(.wo, 0xffff0001)], .d, 0⟩,
  ⟨"PWR.STATE", 0x068, 0x0, 1, 1, [], .d, 0x00000000⟩,
  ⟨"PWR.BLOCK", 0x06c, 0x0, 1, 1, [], .d, 0x00000001⟩,
  ⟨"PWR.FCFG", 0x070, 0x0, 1, 1, [(.rw, 0x000007ff)], .d, 0x0000000A⟩,
  ⟨"PWR.SUPPLY", 0x074, 0x0, 1, 1, [], .d, 0x00000000⟩,
  ⟨"PWR.BKWAKE", 0x078, 0x0, 1, 1, [], .a, 0x00000000⟩,
  ⟨"PWR.BKCFG", 0x07c, 0x0, 1, 1, [(.rw, 0x00000003)], .a, 0x00000001⟩,
  ⟨"PWR.FTIME", 0x080, 0x0, 1, 1, [], .d, 0x00000000⟩,
  ⟨"PWR.TEMP", 0x084, 0x0, 1, 1, [], .d, 0x00000000⟩]

/-- R104: the registers of pages 0x010–0x011. -/
def rows010 : List RegRow :=
  [
  ⟨"MEAS[d].OVEN_CTRL", 0x040, 0x0, 1, 1, [(.rw, 0x00000001)], .d, 0x00000001⟩,
  ⟨"MEAS[d].OVEN_STAT", 0x044, 0x0, 1, 1, [], .d, 0x00000000⟩,
  ⟨"MEAS[d].OVEN_PWR", 0x048, 0x0, 1, 1, [], .d, 0x00000000⟩,
  ⟨"MEAS[d].REF_CTRL", 0x04c, 0x0, 1, 1, [(.rw, 0x00000003)], .d, 0x00000001⟩,
  ⟨"MEAS[d].REF_STAT", 0x050, 0x0, 1, 1, [], .d, 0x00000000⟩,
  ⟨"MEAS[d].REF_DIFF", 0x054, 0x0, 1, 1, [], .d, 0x00000000⟩,
  ⟨"MEAS[d].REF_RATIO", 0x058, 0x0, 1, 1, [], .d, 0x40000000⟩,
  ⟨"MEAS[d].SOC_CFG", 0x05c, 0x0, 1, 1, [(.rw, 0xffffffff)], .d, 0x3225800A⟩,
  ⟨"MEAS[d].KC_CFG", 0x060, 0x0, 1, 1, [(.rw, 0xffffffff)], .d, 0x138803E8⟩,
  ⟨"MEAS[d].MLINK_ERR", 0x064, 0x0, 1, 1, [], .d, 0x00000000⟩,
  ⟨"MEAS[d].SIDX_LO", 0x068, 0x0, 1, 1, [], .d, 0x00000000⟩,
  ⟨"MEAS[d].SIDX_HI", 0x06c, 0x0, 1, 1, [], .d, 0x00000000⟩,
  ⟨"MEAS[d].TSP_TYPE[p]", 0x080, 0x10, 1, 1, [(.rwq, 0x00000007)], .k, 0x00000002⟩,
  ⟨"MEAS[d].TSP_TYPE[p]", 0x090, 0x10, 3, 1, [(.rwq, 0x00000007)], .k, 0⟩,
  ⟨"MEAS[d].TSP_C1[p]", 0x084, 0x10, 1, 1, [(.rwq, 0xffffffff)], .k, 0x461C4000⟩,
  ⟨"MEAS[d].TSP_C1[p]", 0x094, 0x10, 3, 1, [(.rwq, 0xffffffff)], .k, 0⟩,
  ⟨"MEAS[d].TSP_C2[p]", 0x088, 0x10, 1, 1, [(.rwq, 0xffffffff)], .k, 0x4556B000⟩,
  ⟨"MEAS[d].TSP_C2[p]", 0x098, 0x10, 3, 1, [(.rwq, 0xffffffff)], .k, 0⟩,
  ⟨"MEAS[d].TSP_C3[p]", 0x08c, 0x10, 4, 1, [(.rwq, 0xffffffff)], .k, 0x00000000⟩,
  ⟨"MEAS[d].MCFG[j]", 0x200, 0x10, 128, 1, [(.rw, 0x001fffff)], .d, 0x001C1869⟩,
  ⟨"MEAS[d].MSTAT[j]", 0x204, 0x10, 128, 1, [(.w1c, 0x0001001f)], .d, 0x00000000⟩,
  ⟨"MEAS[d].KRES[j]", 0x208, 0x10, 128, 1, [], .d, 0x00000000⟩,
  ⟨"MEAS[d].MTEMP[j]", 0x20c, 0x10, 128, 1, [], .d, 0x00008000⟩]

/-- R108: the registers of pages 0x012–0x013. -/
def rows012 : List RegRow :=
  [
  ⟨"CAL[d].ARG", 0x040, 0x0, 1, 1, [(.rw, 0x001f737f)], .d, 0x00000000⟩,
  ⟨"CAL[d].CMD", 0x044, 0x0, 1, 1, [(.wo, 0x0000000f)], .d, 0⟩,
  ⟨"CAL[d].STAT", 0x048, 0x0, 1, 1, [], .d, 0x00000000⟩,
  ⟨"CAL[d].MEAN", 0x04c, 0x0, 1, 1, [], .d, 0x00000000⟩,
  ⟨"CAL[d].SDEV", 0x050, 0x0, 1, 1, [], .d, 0x00000000⟩,
  ⟨"CAL[d].MEANCAL", 0x054, 0x0, 1, 1, [], .d, 0x00000000⟩,
  ⟨"CAL[d].VSRC", 0x058, 0x0, 1, 1, [], .n, 0⟩,
  ⟨"CAL[d].ISRC", 0x05c, 0x0, 1, 1, [], .n, 0⟩,
  ⟨"CAL[d].KV", 0x060, 0x0, 1, 1, [(.rw, 0xffffffff)], .d, 0x068E7780⟩,
  ⟨"CAL[d].OV", 0x064, 0x0, 1, 1, [(.rw, 0xffffffff)], .d, 0x00000000⟩,
  ⟨"CAL[d].GI0", 0x068, 0x0, 1, 1, [(.rw, 0xffffffff)], .d, 0x40000000⟩,
  ⟨"CAL[d].OI0", 0x06c, 0x0, 1, 1, [(.rw, 0xffffffff)], .d, 0x00000000⟩,
  ⟨"CAL[d].GI1", 0x070, 0x0, 1, 1, [(.rw, 0xffffffff)], .d, 0x40000000⟩,
  ⟨"CAL[d].OI1", 0x074, 0x0, 1, 1, [(.rw, 0xffffffff)], .d, 0x00000000⟩,
  ⟨"CAL[d].SEQ", 0x078, 0x0, 1, 1, [], .d, 0x00000000⟩,
  ⟨"CAL[d].TIME", 0x07c, 0x0, 1, 1, [], .d, 0x00000000⟩,
  ⟨"CAL[d].KI0_EFF", 0x080, 0x0, 1, 1, [], .d, 0x00000000⟩,
  ⟨"CAL[d].KI1_EFF", 0x084, 0x0, 1, 1, [], .d, 0x00000000⟩,
  ⟨"CAL[d].RREF10K", 0x088, 0x0, 1, 1, [], .n, 0⟩,
  ⟨"CAL[d].RREF1K", 0x08c, 0x0, 1, 1, [], .n, 0⟩]

/-- R149: the registers of page 0x030. -/
def rows030 : List RegRow :=
  [
  ⟨"LOOP.CFG", 0x040, 0x0, 1, 1, [(.rwq, 0x0000f13f)], .k, 0x00003002⟩,
  ⟨"LOOP.STAT", 0x044, 0x0, 1, 1, [], .d, 0x00100000⟩,
  ⟨"LOOP.OVR_CNT", 0x048, 0x0, 1, 1, [], .d, 0x00000000⟩,
  ⟨"LOOP.SVC", 0x04c, 0x0, 1, 1, [], .d, 0x00000000⟩,
  ⟨"LOOP.LANE_ERR", 0x050, 0x0, 1, 1, [], .d, 0x00000000⟩,
  ⟨"LOOP.RANGE", 0x054, 0x0, 1, 1, [(.rw, 0x0000ffff)], .d, 0x00005F50⟩,
  ⟨"LOOP.GAIN_COMMIT", 0x058, 0x0, 1, 1, [(.wo, 0xffffffff)], .d, 0⟩,
  ⟨"LOOP.ACC_SEL", 0x05c, 0x0, 1, 1, [(.rw, 0x000000ff), (.w1s, 0x80000000)], .d, 0x00000000⟩,
  ⟨"LOOP.ACC_SIDX_LO", 0x060, 0x0, 1, 1, [], .d, 0x00000000⟩,
  ⟨"LOOP.ACC_SIDX_HI", 0x064, 0x0, 1, 1, [], .d, 0x00000000⟩,
  ⟨"LOOP.ACC[0..17]", 0x068, 0x0, 1, 18, [], .d, 0x00000000⟩,
  ⟨"LOOP.GAIN[g].KP", 0x100, 0x10, 16, 1, [(.rw, 0xffffffff)], .d, 0x0000C350⟩,
  ⟨"LOOP.GAIN[g].KI", 0x104, 0x10, 16, 1, [(.rw, 0xffffffff)], .d, 0x004C4B40⟩,
  ⟨"LOOP.GAIN[g].CC", 0x108, 0x10, 16, 1, [(.rw, 0xffffffff)], .d, 0x138800C8⟩,
  ⟨"LOOP.GAIN[g].SLEW", 0x10c, 0x10, 16, 1, [(.rw, 0xffffffff)], .d, 0x00002710⟩]

/-- R153, R154: the registers of pages 0x020–0x02F. -/
def rows020 : List RegRow :=
  [
  ⟨"CHG[g].STCHG", 0x040, 0x0, 1, 1, [(.w1c, 0x0000ffff)], .d, 0x00000000⟩,
  ⟨"CHG[g].SUM", 0x044, 0x0, 1, 1, [], .d, 0x00000000⟩,
  ⟨"CHG[g].GCMD", 0x048, 0x0, 1, 1, [(.wo, 0x000fffff)], .d, 0⟩,
  ⟨"CH[k].CMD", 0x100, 0x40, 16, 1, [(.wo, 0x0000000f)], .d, 0⟩,
  ⟨"CH[k].STAT", 0x104, 0x40, 16, 1, [], .d, 0x00000000⟩,
  ⟨"CH[k].CFG", 0x108, 0x40, 16, 1, [(.rw, 0x0003ffff)], .d, 0x00000000⟩,
  ⟨"CH[k].PROT", 0x10c, 0x40, 16, 1, [(.rw, 0x0000007f)], .d, 0x0000007F⟩,
  ⟨"CH[k].VMAX", 0x110, 0x40, 16, 1, [(.rw, 0xffffffff)], .d, 0x029020C0⟩,
  ⟨"CH[k].VMIN", 0x114, 0x40, 16, 1, [(.rw, 0xffffffff)], .d, 0x00000000⟩,
  ⟨"CH[k].IMAX", 0x118, 0x40, 16, 1, [(.rw, 0xffffffff)], .d, 0x00000000⟩,
  ⟨"CH[k].TLIM", 0x11c, 0x40, 16, 1, [(.rw, 0xffffffff)], .d, 0x03E81770⟩,
  ⟨"CH[k].DVDT", 0x120, 0x40, 16, 1, [(.rw, 0x0000ffff)], .d, 0x00002710⟩,
  ⟨"CH[k].VNOW", 0x124, 0x40, 16, 1, [], .d, 0x00000000⟩,
  ⟨"CH[k].INOW", 0x128, 0x40, 16, 1, [], .d, 0x00000000⟩,
  ⟨"CH[k].DMD", 0x12c, 0x40, 16, 1, [], .d, 0x00000000⟩,
  ⟨"CH[k].POS", 0x130, 0x40, 16, 1, [], .d, 0x00000000⟩,
  ⟨"CH[k].FCAUSE", 0x134, 0x40, 16, 1, [], .d, 0x00000000⟩,
  ⟨"CH[k].TRIP", 0x138, 0x40, 16, 1, [], .d, 0x00000000⟩,
  ⟨"CH[k].STEPT", 0x13c, 0x40, 16, 1, [], .d, 0x00000000⟩]

/-- R185: the registers of page 0x031. -/
def rows031 : List RegRow :=
  [
  ⟨"STEP.PCMD", 0x040, 0x0, 1, 1, [(.wo, 0x03ff000f)], .d, 0⟩,
  ⟨"STEP.PBASE", 0x044, 0x0, 1, 1, [(.rw, 0x1fffffff)], .d, 0x00000000⟩,
  ⟨"STEP.POPT", 0x048, 0x0, 1, 1, [(.rw, 0x1fff003f)], .d, 0x00000000⟩,
  ⟨"STEP.PIDX", 0x04c, 0x0, 1, 1, [(.rw, 0x00000fff)], .d, 0x00000000⟩,
  ⟨"STEP.PSTAT", 0x050, 0x0, 1, 1, [], .d, 0x00000000⟩,
  ⟨"STEP.PINFO0", 0x054, 0x0, 1, 1, [], .d, 0x00000000⟩,
  ⟨"STEP.PINFO1", 0x058, 0x0, 1, 1, [], .d, 0x00000000⟩,
  ⟨"STEP.PINFO2", 0x05c, 0x0, 1, 1, [], .d, 0x00000000⟩,
  ⟨"STEP.PCRC", 0x060, 0x0, 1, 1, [], .d, 0x00000000⟩,
  ⟨"STEP.FREE", 0x064, 0x0, 1, 1, [], .k, 0x00010000⟩,
  ⟨"STEP.LCTR_SEL", 0x068, 0x0, 1, 1, [(.rw, 0x000000ff)], .d, 0x00000000⟩,
  ⟨"STEP.LCTR01", 0x06c, 0x0, 1, 1, [], .d, 0x00000000⟩,
  ⟨"STEP.LCTR23", 0x070, 0x0, 1, 1, [], .d, 0x00000000⟩,
  ⟨"STEP.ECC", 0x074, 0x0, 1, 1, [], .d, 0x00000000⟩,
  ⟨"STEP.WIN[0..15]", 0x080, 0x0, 1, 16, [(.rw, 0xffffffff)], .d, 0x00000000⟩]

/-- R205: the registers of page 0x034. -/
def rows034 : List RegRow :=
  [
  ⟨"EIS.TCMD", 0x040, 0x0, 1, 1, [(.wo, 0x000f000f)], .d, 0⟩,
  ⟨"EIS.TSTAT", 0x044, 0x0, 1, 1, [], .d, 0x00000000⟩,
  ⟨"EIS.TIDX", 0x048, 0x0, 1, 1, [(.rw, 0x0000003f)], .d, 0x00000000⟩,
  ⟨"EIS.THDR", 0x04c, 0x0, 1, 1, [(.rw, 0x0000007f)], .d, 0x00000000⟩,
  ⟨"EIS.TLEAD", 0x050, 0x0, 1, 1, [(.rw, 0xffffffff)], .d, 0x00000000⟩,
  ⟨"EIS.PT_TYPE", 0x054, 0x0, 1, 1, [(.rw, 0xffffffff)], .d, 0x00000000⟩,
  ⟨"EIS.PT_FREQ", 0x058, 0x0, 1, 1, [(.rw, 0xffffffff)], .d, 0x00000000⟩,
  ⟨"EIS.PT_AMP", 0x05c, 0x0, 1, 1, [(.rw, 0xffffffff)], .d, 0x00000000⟩,
  ⟨"EIS.PT_CYC", 0x060, 0x0, 1, 1, [(.rw, 0xffffffff)], .d, 0x00000000⟩,
  ⟨"EIS.ACT", 0x064, 0x0, 1, 1, [], .d, 0x00000000⟩,
  ⟨"EIS.ERR", 0x068, 0x0, 1, 1, [], .d, 0x00000000⟩,
  ⟨"EIS.TINFO[t]", 0x080, 0x4, 16, 1, [], .k, 0x00000000⟩,
  ⟨"EIS.RSEL", 0x0c0, 0x0, 1, 1, [(.rw, 0x003f00ff)], .d, 0x00000000⟩,
  ⟨"EIS.RZRE", 0x0c4, 0x0, 1, 1, [], .d, 0x00000000⟩,
  ⟨"EIS.RZIM", 0x0c8, 0x0, 1, 1, [], .d, 0x00000000⟩,
  ⟨"EIS.RUNC", 0x0cc, 0x0, 1, 1, [], .d, 0x00000000⟩,
  ⟨"EIS.RIAMP", 0x0d0, 0x0, 1, 1, [], .d, 0x00000000⟩,
  ⟨"EIS.RFLAG", 0x0d4, 0x0, 1, 1, [], .d, 0x00000000⟩,
  ⟨"EIS.RTIME_LO", 0x0d8, 0x0, 1, 1, [], .d, 0x00000000⟩,
  ⟨"EIS.RTIME_HI", 0x0dc, 0x0, 1, 1, [], .d, 0x00000000⟩,
  ⟨"EIS.RPROG", 0x0e0, 0x0, 1, 1, [], .d, 0x00000000⟩]

/-- R216: the registers of page 0x035. -/
def rows035 : List RegRow :=
  [
  ⟨"RT.SEL", 0x040, 0x0, 1, 1, [(.rw, 0x000000ff)], .d, 0x00000000⟩,
  ⟨"RT.N", 0x044, 0x0, 1, 1, [], .d, 0x00000000⟩,
  ⟨"RT.SLOPE", 0x048, 0x0, 1, 1, [], .d, 0x00000000⟩,
  ⟨"RT.SSIG", 0x04c, 0x0, 1, 1, [], .d, 0x00000000⟩,
  ⟨"RT.LASTV", 0x050, 0x0, 1, 1, [], .d, 0x00000000⟩,
  ⟨"RT.LASTT", 0x054, 0x0, 1, 1, [], .d, 0x00008000⟩,
  ⟨"RT.V0_LO", 0x058, 0x0, 1, 1, [], .d, 0x00000000⟩,
  ⟨"RT.V0_HI", 0x05c, 0x0, 1, 1, [], .d, 0x00000000⟩,
  ⟨"RT.FLAGS", 0x060, 0x0, 1, 1, [], .d, 0x00000000⟩,
  ⟨"RT.S_LO", 0x064, 0x0, 1, 1, [], .d, 0x00000000⟩,
  ⟨"RT.S_HI", 0x068, 0x0, 1, 1, [], .d, 0x00000000⟩,
  ⟨"RT.PEND", 0x06c, 0x0, 1, 1, [], .d, 0x00000000⟩,
  ⟨"RT.SX", 0x070, 0x0, 1, 1, [], .d, 0x00000000⟩,
  ⟨"RT.SXX", 0x074, 0x0, 1, 2, [], .d, 0x00000000⟩,
  ⟨"RT.SY", 0x07c, 0x0, 1, 2, [], .d, 0x00000000⟩,
  ⟨"RT.SXY", 0x084, 0x0, 1, 2, [], .d, 0x00000000⟩,
  ⟨"RT.SYY", 0x08c, 0x0, 1, 2, [], .d, 0x00000000⟩,
  ⟨"RT.CFG[k]", 0x400, 0x4, 256, 1, [(.rw, 0x03ff07ff)], .d, 0x0000003C⟩,
  ⟨"RT.TCO[k]", 0x800, 0x4, 256, 1, [(.rw, 0xffffffff)], .d, 0x00000000⟩]

/-- R246: the registers of page 0x036. -/
def rows036 : List RegRow :=
  [
  ⟨"CREW.CMD", 0x040, 0x0, 1, 1, [(.wo, 0x003f000f)], .d, 0⟩,
  ⟨"CREW.ARG0", 0x044, 0x0, 1, 1, [(.rw, 0x01ffffff)], .d, 0x00000000⟩,
  ⟨"CREW.ARG1", 0x048, 0x0, 1, 1, [(.rw, 0xffffffff)], .d, 0x00000000⟩,
  ⟨"CREW.ARG2", 0x04c, 0x0, 1, 1, [(.rw, 0x0001ffff)], .d, 0x00000000⟩,
  ⟨"CREW.STAT", 0x050, 0x0, 1, 1, [], .d, 0x00000000⟩,
  ⟨"CREW.LEAD", 0x054, 0x0, 1, 1, [(.rw, 0xffffffff)], .d, 0x000000C8⟩,
  ⟨"CREW.INFO0", 0x058, 0x0, 1, 1, [], .d, 0x00000000⟩,
  ⟨"CREW.INFO1", 0x05c, 0x0, 1, 1, [], .d, 0x00000000⟩,
  ⟨"CREW.INFO2", 0x060, 0x0, 1, 1, [], .d, 0x00000000⟩,
  ⟨"CREW.INFO3", 0x064, 0x0, 1, 1, [], .d, 0x00000000⟩,
  ⟨"CREW.INFO4", 0x068, 0x0, 1, 1, [], .d, 0x00000000⟩,
  ⟨"CREW.MISS", 0x06c, 0x0, 1, 1, [], .d, 0x00000000⟩,
  ⟨"CREW.MASK[0..7]", 0x080, 0x0, 1, 8, [(.rw, 0xffffffff)], .d, 0x00000000⟩]

/-- R247: the registers of page 0x037. -/
def rows037 : List RegRow :=
  [
  ⟨"RED.SEL", 0x040, 0x0, 1, 1, [(.rw, 0x00000007)], .d, 0x00000000⟩,
  ⟨"RED.CINFO", 0x044, 0x0, 1, 1, [], .d, 0x00000000⟩,
  ⟨"RED.COUNT", 0x048, 0x0, 1, 1, [], .d, 0x00000000⟩,
  ⟨"RED.SUM", 0x04c, 0x0, 1, 2, [], .d, 0x00000000⟩,
  ⟨"RED.SUMSQ", 0x054, 0x0, 1, 3, [], .d, 0x00000000⟩,
  ⟨"RED.MIN", 0x060, 0x0, 1, 1, [], .d, 0x00000000⟩,
  ⟨"RED.MINLOC", 0x064, 0x0, 1, 1, [], .d, 0x00000000⟩,
  ⟨"RED.MAX", 0x068, 0x0, 1, 1, [], .d, 0x00000000⟩,
  ⟨"RED.MAXLOC", 0x06c, 0x0, 1, 1, [], .d, 0x00000000⟩,
  ⟨"RED.MEAN", 0x070, 0x0, 1, 1, [], .d, 0x00000000⟩,
  ⟨"RED.SIGMA", 0x074, 0x0, 1, 1, [], .d, 0x00000000⟩,
  ⟨"RED.MARK", 0x078, 0x0, 1, 2, [], .d, 0x00000000⟩,
  ⟨"GRD.GSEL", 0x080, 0x0, 1, 1, [(.rw, 0x000003f3)], .d, 0x00000000⟩,
  ⟨"GRD.W0", 0x084, 0x0, 1, 1, [(.rwq, 0xffffffff)], .k, 0x00000000⟩,
  ⟨"GRD.W1", 0x088, 0x0, 1, 1, [(.rwq, 0xffffffff)], .k, 0x00000000⟩,
  ⟨"GRD.W2", 0x08c, 0x0, 1, 1, [(.rwq, 0xffffffff)], .k, 0x00000000⟩,
  ⟨"GRD.THDR", 0x090, 0x0, 1, 1, [(.rwq, 0x0000ffff)], .k, 0x00000000⟩,
  ⟨"RED.RANK[k]", 0x400, 0x4, 256, 1, [], .d, 0x00000000⟩]

/-- R248: the registers of page 0x038. -/
def rows038 : List RegRow :=
  [
  ⟨"REC.STAGE_LO", 0x040, 0x0, 1, 1, [(.rwq, 0xffffffff)], .k, 0x00000000⟩,
  ⟨"REC.STAGE_HI", 0x044, 0x0, 1, 1, [(.rwq, 0xffffffff)], .k, 0x00000000⟩,
  ⟨"REC.STAGE_SIZE", 0x048, 0x0, 1, 1, [(.rwq, 0x000007ff)], .k, 0x00000040⟩,
  ⟨"REC.STAGE_USED", 0x04c, 0x0, 1, 1, [], .d, 0x00000000⟩,
  ⟨"REC.STAGE_PEAK", 0x050, 0x0, 1, 1, [], .d, 0x00000000⟩,
  ⟨"REC.RSEL", 0x054, 0x0, 1, 1, [(.rw, 0x0000033f)], .d, 0x00000000⟩,
  ⟨"REC.RSTAT", 0x058, 0x0, 1, 1, [], .d, 0x00000000⟩,
  ⟨"REC.RPROD", 0x05c, 0x0, 1, 1, [], .d, 0x00000000⟩,
  ⟨"REC.RCONS", 0x060, 0x0, 1, 1, [], .d, 0x00000000⟩,
  ⟨"REC.RHELD", 0x064, 0x0, 1, 1, [], .d, 0x00000000⟩,
  ⟨"REC.RLOSS", 0x068, 0x0, 1, 1, [], .d, 0x00000000⟩,
  ⟨"REC.CHROUTE[k]", 0x400, 0x4, 256, 1, [(.rw, 0x00000033)], .d, 0x00000000⟩]

/-- R271: the registers of pages 0x040–0x04F. -/
def rows040 : List RegRow :=
  [
  ⟨"SL[n].CFG", 0x040, 0x0, 1, 1, [(.rwq, 0x0000030f)], .k, 0x00000003⟩,
  ⟨"SL[n].STAT", 0x044, 0x0, 1, 1, [], .d, 0x00000000⟩,
  ⟨"SL[n].CHST", 0x048, 0x0, 1, 1, [], .d, 0x00000000⟩,
  ⟨"SL[n].ERR", 0x04c, 0x0, 1, 1, [], .d, 0x00000000⟩,
  ⟨"SL[n].ERR2", 0x050, 0x0, 1, 1, [], .d, 0x00000000⟩,
  ⟨"SL[n].RTT", 0x054, 0x0, 1, 1, [], .d, 0x00000000⟩,
  ⟨"SL[n].UPS", 0x058, 0x0, 1, 1, [], .d, 0x00000000⟩,
  ⟨"SL[n].DWHY", 0x05c, 0x0, 1, 1, [], .d, 0x00000000⟩,
  ⟨"SL[n].MREQ", 0x060, 0x0, 1, 1, [(.wo, 0x0000ffff)], .d, 0⟩,
  ⟨"SL[n].MRSP", 0x064, 0x0, 1, 1, [], .d, 0x00000000⟩,
  ⟨"SL[n].DESC[0..31]", 0x080, 0x0, 1, 32, [], .d, 0x00000000⟩,
  ⟨"SL[n].VF[i]", 0x100, 0x4, 16, 1, [], .d, 0x80000000⟩,
  ⟨"SL[n].CHFC[i]", 0x140, 0x4, 16, 1, [], .d, 0x00000000⟩]

/-- R296: the registers of page 0x050. -/
def rows050 : List RegRow :=
  [
  ⟨"TB.CFG", 0x040, 0x0, 1, 1, [(.rwq, 0x00000733)], .k, 0x00000000⟩,
  ⟨"TB.STAT", 0x044, 0x0, 1, 1, [], .d, 0x00000000⟩,
  ⟨"TB.SEC_LO", 0x048, 0x0, 1, 1, [], .d, 0x00000000⟩,
  ⟨"TB.SEC_HI", 0x04c, 0x0, 1, 1, [], .d, 0x00000000⟩,
  ⟨"TB.NS", 0x050, 0x0, 1, 1, [], .d, 0x00000000⟩,
  ⟨"TB.FRAC", 0x054, 0x0, 1, 1, [], .d, 0x00000000⟩,
  ⟨"TB.INC_LO", 0x058, 0x0, 1, 1, [(.rw, 0xffffffff)], .d, 0x00000000⟩,
  ⟨"TB.INC_HI", 0x05c, 0x0, 1, 1, [(.rw, 0x000000ff)], .d, 0x00000004⟩,
  ⟨"TB.STEP_SEC", 0x060, 0x0, 1, 1, [(.rw, 0xffffffff)], .d, 0x00000000⟩,
  ⟨"TB.STEP_NS", 0x064, 0x0, 1, 1, [(.rw, 0xffffffff)], .d, 0x00000000⟩,
  ⟨"TB.STEP_GO", 0x068, 0x0, 1, 1, [(.wo, 0x00000001)], .d, 0⟩,
  ⟨"TB.OFS_IN", 0x06c, 0x0, 1, 1, [(.wo, 0xffffffff)], .d, 0⟩,
  ⟨"TB.KP", 0x070, 0x0, 1, 1, [(.rw, 0xffffffff)], .d, 0x0000B333⟩,
  ⟨"TB.KI", 0x074, 0x0, 1, 1, [(.rw, 0xffffffff)], .d, 0x00004CCD⟩,
  ⟨"TB.TRIM", 0x078, 0x0, 1, 1, [(.rw, 0xffffffff)], .d, 0x00000000⟩,
  ⟨"TB.LIMITS", 0x07c, 0x0, 1, 1, [(.rw, 0xffff0fff)], .d, 0x006401F4⟩,
  ⟨"TB.LOCK", 0x080, 0x0, 1, 1, [(.rw, 0xffffffff)], .d, 0x1E10000A⟩,
  ⟨"TB.OFS_LAST", 0x084, 0x0, 1, 1, [], .d, 0x00000000⟩,
  ⟨"TB.ADJ", 0x088, 0x0, 1, 1, [], .d, 0x00000000⟩,
  ⟨"TB.BK_SEC_LO", 0x08c, 0x0, 1, 1, [], .a, 0x00000000⟩,
  ⟨"TB.BK_SEC_HI", 0x090, 0x0, 1, 1, [], .a, 0x00000000⟩,
  ⟨"TB.BK_SUB", 0x094, 0x0, 1, 1, [], .a, 0x00000000⟩,
  ⟨"TB.BK_ALARM_LO", 0x098, 0x0, 1, 1, [(.rw, 0xffffffff)], .a, 0x00000000⟩,
  ⟨"TB.BK_ALARM_HI", 0x09c, 0x0, 1, 1, [(.rw, 0xffffffff)], .a, 0x00000000⟩,
  ⟨"TB.REF", 0x0a0, 0x0, 1, 1, [(.rw, 0x00000003)], .d, 0x00000002⟩,
  ⟨"TB.REFMON", 0x0a4, 0x0, 1, 1, [], .d, 0x00000000⟩,
  ⟨"TB.SALIGN", 0x0a8, 0x0, 1, 1, [], .d, 0x00000000⟩]

/-- R297: the registers of page 0x051. -/
def rows051 : List RegRow :=
  [
  ⟨"PTP.CLK", 0x040, 0x0, 1, 1, [(.rwq, 0x0000ff03)], .k, 0x00000000⟩,
  ⟨"PTP.STAT", 0x044, 0x0, 1, 1, [], .d, 0x00000000⟩,
  ⟨"PTP.GM_LO", 0x048, 0x0, 1, 1, [], .d, 0x00000000⟩,
  ⟨"PTP.GM_HI", 0x04c, 0x0, 1, 1, [], .d, 0x00000000⟩,
  ⟨"PTP.TC", 0x050, 0x0, 1, 1, [(.rwq, 0x00000003)], .k, 0⟩,
  ⟨"PTP.MPD", 0x054, 0x0, 1, 1, [], .d, 0x00000000⟩,
  ⟨"PTP.PCFG[p]", 0x100, 0x10, 12, 1, [(.rwq, 0x00000007)], .k, 0x00000001⟩,
  ⟨"PTP.LAT[p]", 0x104, 0x10, 12, 1, [(.rw, 0xffffffff)], .d, 0x00000000⟩,
  ⟨"PTP.ASYM[p]", 0x108, 0x10, 12, 1, [(.rw, 0xffffffff)], .d, 0x00000000⟩,
  ⟨"PTP.CNT[p]", 0x10c, 0x10, 12, 1, [], .d, 0x00000000⟩]

/-- R298: the registers of page 0x052. -/
def rows052 : List RegRow :=
  [
  ⟨"SCH.CMD", 0x040, 0x0, 1, 1, [(.wo, 0x001f000f)], .d, 0⟩,
  ⟨"SCH.STAT", 0x044, 0x0, 1, 1, [], .d, 0x00000000⟩,
  ⟨"SCH.USED", 0x048, 0x0, 1, 1, [], .d, 0x00000000⟩,
  ⟨"SCH.LATE", 0x04c, 0x0, 1, 1, [], .d, 0x00000000⟩,
  ⟨"SCH[s].CTRL", 0x100, 0x40, 32, 1, [(.rw, 0x0000bf17)], .d, 0x00000000⟩,
  ⟨"SCH[s].T_SEC_LO", 0x104, 0x40, 32, 1, [(.rw, 0xffffffff)], .d, 0x00000000⟩,
  ⟨"SCH[s].T_SEC_HI", 0x108, 0x40, 32, 1, [(.rw, 0xffffffff)], .d, 0x00000000⟩,
  ⟨"SCH[s].T_NS", 0x10c, 0x40, 32, 1, [(.rw, 0x3fffffff)], .d, 0x00000000⟩,
  ⟨"SCH[s].PER_LO", 0x110, 0x40, 32, 1, [(.rw, 0xffffffff)], .d, 0x00000000⟩,
  ⟨"SCH[s].PER_HI", 0x114, 0x40, 32, 1, [(.rw, 0x0000ffff)], .d, 0x00000000⟩,
  ⟨"SCH[s].ARG", 0x118, 0x40, 32, 1, [(.rw, 0xffffffff)], .d, 0x00000000⟩,
  ⟨"SCH[s].STAT", 0x11c, 0x40, 32, 1, [], .d, 0x00000000⟩,
  ⟨"SCH[s].F_SEC_LO", 0x120, 0x40, 32, 1, [], .d, 0x00000000⟩,
  ⟨"SCH[s].F_SEC_HI", 0x124, 0x40, 32, 1, [], .d, 0x00000000⟩,
  ⟨"SCH[s].F_NS", 0x128, 0x40, 32, 1, [], .d, 0x00000000⟩,
  ⟨"SCH[s].SKIP", 0x12c, 0x40, 32, 1, [], .d, 0x00000000⟩]

/-- R299: the registers of page 0x053. -/
def rows053 : List RegRow :=
  [
  ⟨"CAT.CMD", 0x040, 0x0, 1, 1, [(.wo, 0x000f000f)], .d, 0⟩,
  ⟨"CAT.STAT", 0x044, 0x0, 1, 1, [], .d, 0x00000000⟩,
  ⟨"CAT[u].CFG", 0x100, 0x20, 16, 1, [(.rw, 0x003f033f)], .d, 0x00000000⟩,
  ⟨"CAT[u].STAT", 0x104, 0x20, 16, 1, [], .d, 0x00000000⟩,
  ⟨"CAT[u].E_SEC_LO", 0x108, 0x20, 16, 1, [], .d, 0x00000000⟩,
  ⟨"CAT[u].E_SEC_HI", 0x10c, 0x20, 16, 1, [], .d, 0x00000000⟩,
  ⟨"CAT[u].E_NS", 0x110, 0x20, 16, 1, [], .d, 0x00000000⟩,
  ⟨"CAT[u].E_INFO", 0x114, 0x20, 16, 1, [], .d, 0x00000000⟩]

/-- R330: the registers of pages 0x060–0x067. -/
def rows060 : List RegRow :=
  [
  ⟨"BL[n].CFG", 0x040, 0x0, 1, 1, [(.rwq, 0x00ff0f31)], .k, 0x00320200⟩,
  ⟨"BL[n].STAT", 0x044, 0x0, 1, 1, [], .d, 0x00000000⟩,
  ⟨"BL[n].ERR", 0x048, 0x0, 1, 1, [], .d, 0x00000000⟩,
  ⟨"BL[n].ERR2", 0x04c, 0x0, 1, 1, [], .d, 0x00000000⟩,
  ⟨"BL[n].DELAY", 0x050, 0x0, 1, 1, [], .d, 0x00000000⟩,
  ⟨"BL[n].ASYM", 0x054, 0x0, 1, 1, [(.rw, 0xffffffff)], .d, 0x00000000⟩,
  ⟨"BL[n].TOFS", 0x058, 0x0, 1, 1, [], .d, 0x00000000⟩,
  ⟨"BL[n].TCNT", 0x05c, 0x0, 1, 1, [], .d, 0x00000000⟩]

/-- R331: the registers of page 0x068. -/
def rows068 : List RegRow :=
  [
  ⟨"RT.CFG", 0x040, 0x0, 1, 1, [(.rwq, 0x0007771f)], .k, 0x00000000⟩,
  ⟨"RT.LDIR", 0x044, 0x0, 1, 1, [(.rwq, 0xffffffff)], .k, 0x000358D1⟩,
  ⟨"RT.ID", 0x048, 0x0, 1, 1, [], .d, 0⟩,
  ⟨"RT.STAT", 0x04c, 0x0, 1, 1, [], .d, 0x00000000⟩,
  ⟨"RT.ALT_SEL", 0x050, 0x0, 1, 1, [(.rw, 0x000001ff)], .d, 0x00000000⟩,
  ⟨"RT.ALT", 0x054, 0x0, 1, 1, [(.rwq, 0x0000000f)], .k, 0x00000000⟩,
  ⟨"RT.FENCE", 0x058, 0x0, 1, 1, [(.wo, 0x00000001)], .d, 0⟩,
  ⟨"RT.FSTAT", 0x05c, 0x0, 1, 1, [], .d, 0x00000000⟩,
  ⟨"RT.RERR_CNT", 0x060, 0x0, 1, 1, [], .d, 0x00000000⟩,
  ⟨"RT.RERR0", 0x064, 0x0, 1, 1, [], .d, 0x00000000⟩,
  ⟨"RT.RERR1", 0x068, 0x0, 1, 1, [], .d, 0x00000000⟩,
  ⟨"RT.RERR2", 0x06c, 0x0, 1, 1, [], .d, 0x00000000⟩,
  ⟨"RT.RERR3", 0x070, 0x0, 1, 1, [], .d, 0x00000000⟩,
  ⟨"RT.DUP", 0x074, 0x0, 1, 1, [], .d, 0x00000000⟩,
  ⟨"RT.SLP_CTRL", 0x078, 0x0, 1, 1, [(.rw, 0x00000001), (.w1s, 0x00000002)], .d, 0x00000000⟩,
  ⟨"RT.SLP_STAT", 0x07c, 0x0, 1, 1, [], .d, 0x00000000⟩,
  ⟨"RT.SLP_C_LO", 0x080, 0x0, 1, 1, [], .d, 0x00000000⟩,
  ⟨"RT.SLP_C_HI", 0x084, 0x0, 1, 1, [], .d, 0x00000000⟩,
  ⟨"RT.WAKESRC", 0x088, 0x0, 1, 1, [], .d, 0x00000000⟩,
  ⟨"RT.TALT", 0x08c, 0x0, 1, 1, [(.rw, 0x0000000f)], .d, 0x00000000⟩]

/-- R347: the registers of page 0x069. -/
def rows069 : List RegRow :=
  [
  ⟨"WB.CFG", 0x040, 0x0, 1, 1, [(.rwq, 0x00ff00ff)], .k, 0x000A0014⟩,
  ⟨"WB.STAT", 0x044, 0x0, 1, 1, [], .d, 0x00000000⟩,
  ⟨"WB.WCOMMIT", 0x048, 0x0, 1, 1, [(.wo, 0x0000013f)], .d, 0⟩,
  ⟨"WB.INCOMMIT", 0x04c, 0x0, 1, 1, [(.wo, 0x0000011f)], .d, 0⟩,
  ⟨"WB.CSTAT", 0x050, 0x0, 1, 1, [], .d, 0x00000000⟩,
  ⟨"WB.LOCKCMD", 0x054, 0x0, 1, 1, [(.wo, 0x0000033f)], .d, 0⟩,
  ⟨"WB.LOCKSTAT", 0x058, 0x0, 1, 1, [], .d, 0x00000000⟩,
  ⟨"WB.SIG_TX", 0x05c, 0x0, 1, 1, [(.wo, 0x01ffffff)], .d, 0⟩,
  ⟨"WB.ERRCNT", 0x060, 0x0, 1, 1, [], .d, 0x00000000⟩,
  ⟨"WB.ELOG0", 0x064, 0x0, 1, 1, [], .d, 0x00000000⟩,
  ⟨"WB.ELOG1", 0x068, 0x0, 1, 1, [], .d, 0x00000000⟩,
  ⟨"WB.ELOG2", 0x06c, 0x0, 1, 1, [], .d, 0x00000000⟩,
  ⟨"WIN[w].CFG", 0x100, 0x20, 64, 1, [(.rw, 0x3f07007f)], .d, 0x00000000⟩,
  ⟨"WIN[w].TGT", 0x104, 0x20, 64, 1, [(.rw, 0x000011ff)], .d, 0x00000000⟩,
  ⟨"WIN[w].FBASE_LO", 0x108, 0x20, 64, 1, [(.rw, 0xffffffff)], .d, 0x00000000⟩,
  ⟨"WIN[w].FBASE_HI", 0x10c, 0x20, 64, 1, [(.rw, 0xffffffff)], .d, 0x00000000⟩,
  ⟨"WIN[w].STAT", 0x110, 0x20, 64, 1, [], .d, 0x00000000⟩,
  ⟨"WIN[w].CNT", 0x114, 0x20, 64, 1, [], .d, 0x00000000⟩,
  ⟨"WB.IN[e].SRC", 0xa00, 0x10, 32, 1, [(.rw, 0xc003ffff)], .d, 0x00000000⟩,
  ⟨"WB.IN[e].SPC", 0xa04, 0x10, 32, 1, [(.rw, 0x00001f01)], .d, 0x00000000⟩,
  ⟨"WB.IN[e].BASE_LO", 0xa08, 0x10, 32, 1, [(.rw, 0xffffffff)], .d, 0x00000000⟩,
  ⟨"WB.IN[e].BASE_HI", 0xa0c, 0x10, 32, 1, [(.rw, 0xffffffff)], .d, 0x00000000⟩]

/-- R355: the registers of page 0x06A. -/
def rows06a : List RegRow :=
  [
  ⟨"MB.CFG", 0x040, 0x0, 1, 1, [(.rwq, 0x00000f01)], .k, 0x00000400⟩,
  ⟨"MB.TIDX", 0x044, 0x0, 1, 1, [(.rw, 0x000007ff)], .d, 0x00000000⟩,
  ⟨"MB.TW[0..7]", 0x048, 0x0, 1, 8, [(.rw, 0xffffffff)], .d, 0x00000000⟩,
  ⟨"MB.TCMD", 0x068, 0x0, 1, 1, [(.wo, 0x00000003)], .d, 0⟩,
  ⟨"MB.TSTAT", 0x06c, 0x0, 1, 1, [], .d, 0x00000000⟩,
  ⟨"MB.CNT", 0x070, 0x0, 1, 1, [], .d, 0x00000000⟩,
  ⟨"MB.DROP", 0x074, 0x0, 1, 1, [], .d, 0x00000000⟩,
  ⟨"MB.LAT", 0x078, 0x0, 1, 1, [], .d, 0x00000000⟩]

/-- R361: the registers of a seat aperture. -/
def seatRows : List RegRow :=
  [
  ⟨"SA.SQ_TAIL[q]", 0x000, 0x8, 8, 1, [(.rw, 0x0000ffff)], .s, 0x00000000⟩,
  ⟨"SA.CQ_HEAD[q]", 0x004, 0x8, 8, 1, [(.rw, 0x0000ffff)], .s, 0x00000000⟩,
  ⟨"SA.EQ_HEAD", 0x040, 0x0, 1, 1, [(.rw, 0x0000ffff)], .s, 0x00000000⟩,
  ⟨"SA.STAT", 0x044, 0x0, 1, 1, [], .d, 0x00000000⟩,
  ⟨"SA.EV_EN", 0x048, 0x0, 1, 1, [(.rw, 0xffffffff)], .s, 0x0000FFFF⟩,
  ⟨"SA.EV_LOST", 0x04c, 0x0, 1, 1, [], .s, 0x00000000⟩,
  ⟨"SA.RING_CONS[r]", 0x050, 0x4, 4, 1, [(.rw, 0xffffffff)], .s, 0x00000000⟩,
  ⟨"SA.SQ_HEAD[q]", 0x060, 0x4, 8, 1, [], .s, 0x00000000⟩,
  ⟨"SA.ERR", 0x080, 0x0, 1, 1, [], .s, 0x00000000⟩]

/-- R386: the registers of page 0x080. -/
def rows080 : List RegRow :=
  [
  ⟨"COX.ARG[0..15]", 0x040, 0x0, 1, 16, [(.rw, 0xffffffff)], .d, 0x00000000⟩,
  ⟨"COX.GO", 0x080, 0x0, 1, 1, [(.wo, 0x00000001)], .d, 0⟩,
  ⟨"COX.STAT", 0x084, 0x0, 1, 1, [], .d, 0x00000000⟩,
  ⟨"COX.RSP[0..3]", 0x088, 0x0, 1, 4, [], .d, 0x00000000⟩,
  ⟨"COX.RSTDONE_LO", 0x098, 0x0, 1, 1, [(.w1c, 0xffffffff)], .d, 0x00000000⟩,
  ⟨"COX.RSTDONE_HI", 0x09c, 0x0, 1, 1, [(.w1c, 0xffffffff)], .d, 0x00000000⟩,
  ⟨"COX.DET_LO", 0x0a0, 0x0, 1, 1, [], .d, 0x00000000⟩,
  ⟨"COX.DET_HI", 0x0a4, 0x0, 1, 1, [], .d, 0x00000000⟩]

/-- R387: the registers of pages 0x081–0x084. -/
def rows081 : List RegRow :=
  [
  ⟨"ST[s].STAT", 0x100, 0x40, 16, 1, [], .d, 0⟩,
  ⟨"ST[s].QSET", 0x104, 0x40, 16, 1, [], .s, 0x00000000⟩,
  ⟨"ST[s].LOSTTO", 0x108, 0x40, 16, 1, [], .d, 0x00000000⟩,
  ⟨"ST[s].DETT", 0x10c, 0x40, 16, 1, [], .d, 0x00000000⟩,
  ⟨"ST[s].CNT", 0x110, 0x40, 16, 1, [], .s, 0x00000000⟩,
  ⟨"ST[s].CHUNKS", 0x114, 0x40, 16, 1, [], .s, 0x00000000⟩,
  ⟨"ST[s].GRANTS", 0x118, 0x40, 16, 1, [], .d, 0x00000000⟩,
  ⟨"ST[s].EVLOST", 0x11c, 0x40, 16, 1, [], .s, 0x00000000⟩]

/-- R388: the registers of pages 0x0F8–0x0F9. -/
def rows0f8 : List RegRow :=
  [
  ⟨"PCIE[p].LSTAT", 0x040, 0x0, 1, 1, [], .d, 0x00000000⟩,
  ⟨"PCIE[p].ERR", 0x044, 0x0, 1, 1, [], .d, 0x00000000⟩,
  ⟨"PCIE[p].DOWNS", 0x048, 0x0, 1, 1, [], .d, 0x00000000⟩,
  ⟨"PCIE[p].SEATS_LO", 0x04c, 0x0, 1, 1, [], .d, 0x00000000⟩,
  ⟨"PCIE[p].SEATS_HI", 0x050, 0x0, 1, 1, [], .d, 0x00000000⟩]

/-- R408: the registers of pages 0x090–0x097. -/
def rows090 : List RegRow :=
  [
  ⟨"DMA[e].CFG", 0x040, 0x0, 1, 1, [(.rwq, 0x00000003)], .k, 0x00000003⟩,
  ⟨"DMA[e].STAT", 0x044, 0x0, 1, 1, [], .d, 0x00000000⟩,
  ⟨"DMA[e].CHUNKS", 0x048, 0x0, 1, 1, [], .d, 0x00000000⟩,
  ⟨"DMA[e].BYTES_LO", 0x04c, 0x0, 1, 1, [], .d, 0x00000000⟩,
  ⟨"DMA[e].BYTES_HI", 0x050, 0x0, 1, 1, [], .d, 0x00000000⟩,
  ⟨"DMA[e].PREEMPT", 0x054, 0x0, 1, 1, [], .d, 0x00000000⟩,
  ⟨"DMA[e].ERR", 0x058, 0x0, 1, 1, [], .d, 0x00000000⟩]

/-- R409: the registers of page 0x098. -/
def rows098 : List RegRow :=
  [
  ⟨"SMU.DWIN_LO", 0x040, 0x0, 1, 1, [(.rwq, 0xffffffff)], .k, 0x00000000⟩,
  ⟨"SMU.DWIN_HI", 0x044, 0x0, 1, 1, [(.rwq, 0xffffffff)], .k, 0x00000000⟩,
  ⟨"SMU.DWIN_SIZE", 0x048, 0x0, 1, 1, [(.rwq, 0x00003fff)], .k, 0x00000000⟩,
  ⟨"SMU.TLB", 0x04c, 0x0, 1, 1, [], .d, 0x00000000⟩,
  ⟨"SMU.HITS", 0x050, 0x0, 1, 1, [], .d, 0x00000000⟩,
  ⟨"SMU.MISSES", 0x054, 0x0, 1, 1, [], .d, 0x00000000⟩,
  ⟨"SMU.TLBERR", 0x058, 0x0, 1, 1, [], .d, 0x00000000⟩,
  ⟨"SMU.FCNT", 0x05c, 0x0, 1, 1, [], .d, 0x00000000⟩,
  ⟨"SMU.FLOG0", 0x060, 0x0, 1, 1, [], .d, 0x00000000⟩,
  ⟨"SMU.FLOG1", 0x064, 0x0, 1, 1, [], .d, 0x00000000⟩,
  ⟨"SMU.FLOG2", 0x068, 0x0, 1, 1, [], .d, 0x00000000⟩,
  ⟨"SMU.FLOG3", 0x06c, 0x0, 1, 1, [], .d, 0x00000000⟩,
  ⟨"SMU.SUSP_LO", 0x070, 0x0, 1, 1, [], .d, 0x00000000⟩,
  ⟨"SMU.SUSP_HI", 0x074, 0x0, 1, 1, [], .d, 0x00000000⟩,
  ⟨"SMU.RESUME", 0x078, 0x0, 1, 1, [(.wo, 0x0000033f)], .d, 0⟩,
  ⟨"SMU.RSEL", 0x07c, 0x0, 1, 1, [(.rw, 0x0000003f)], .d, 0x00000000⟩,
  ⟨"SMU.ROOT_LO", 0x080, 0x0, 1, 1, [], .d, 0x00000000⟩,
  ⟨"SMU.ROOT_HI", 0x084, 0x0, 1, 1, [], .d, 0x00000000⟩]

/-- R430: the registers of page 0x0A0. -/
def rows0a0 : List RegRow :=
  [
  ⟨"ETH.LINK", 0x040, 0x0, 1, 1, [], .d, 0x00000000⟩,
  ⟨"ETH.MODE", 0x044, 0x0, 1, 1, [(.rwq, 0xffffffff)], .k, 0x00000000⟩,
  ⟨"PORT[p].CFG", 0x100, 0x40, 22, 1, [(.rw, 0x3fffff3f)], .d, 0x05F20003⟩,
  ⟨"PORT[p].VCFG", 0x104, 0x40, 22, 1, [(.rw, 0x00007fff)], .d, 0x00000001⟩,
  ⟨"PORT[p].STAT", 0x108, 0x40, 22, 1, [], .d, 0x00000000⟩,
  ⟨"PORT[p].TSCTL", 0x10c, 0x40, 22, 1, [(.rw, 0xffff0001)], .d, 0x00000000⟩,
  ⟨"PORT[p].TS", 0x110, 0x40, 22, 2, [], .d, 0x00000000⟩,
  ⟨"PORT[p].RXF", 0x118, 0x40, 22, 1, [], .d, 0x00000000⟩,
  ⟨"PORT[p].RXO", 0x11c, 0x40, 22, 2, [], .d, 0x00000000⟩,
  ⟨"PORT[p].TXF", 0x124, 0x40, 22, 1, [], .d, 0x00000000⟩,
  ⟨"PORT[p].TXO", 0x128, 0x40, 22, 2, [], .d, 0x00000000⟩,
  ⟨"PORT[p].ERR", 0x130, 0x40, 22, 1, [], .d, 0x00000000⟩,
  ⟨"PORT[p].DROP", 0x134, 0x40, 22, 1, [], .d, 0x00000000⟩,
  ⟨"PORT[p].FLUSH", 0x138, 0x40, 22, 1, [], .d, 0x00000000⟩]

/-- R431: the registers of page 0x0A1. -/
def rows0a1 : List RegRow :=
  [
  ⟨"SW.CFG", 0x040, 0x0, 1, 1, [(.rwq, 0x0001ffff)], .k, 0x0001012C⟩,
  ⟨"SW.PCP2TC", 0x044, 0x0, 1, 1, [(.rwq, 0xffffffff)], .k, 0x00FAC681⟩,
  ⟨"SW.BUF", 0x048, 0x0, 1, 1, [], .d, 0x00000000⟩,
  ⟨"SW.SPILL", 0x04c, 0x0, 1, 2, [(.rwq, 0xffffffff)], .k, 0x00000000⟩,
  ⟨"SW.SPILL_CFG", 0x054, 0x0, 1, 1, [(.rwq, 0xffff01ff)], .k, 0x324B0000⟩,
  ⟨"SW.SPILL_STAT", 0x058, 0x0, 1, 1, [], .d, 0x00000000⟩,
  ⟨"SW.DROPS", 0x05c, 0x0, 1, 1, [], .d, 0x00000000⟩]

/-- R432: the registers of page 0x0A2. -/
def rows0a2 : List RegRow :=
  [
  ⟨"MAC.CMD", 0x040, 0x0, 1, 1, [(.wo, 0x0000000f)], .d, 0⟩,
  ⟨"MAC.KEY_LO", 0x044, 0x0, 1, 1, [(.rw, 0xffffffff)], .d, 0x00000000⟩,
  ⟨"MAC.KEY_HI", 0x048, 0x0, 1, 1, [(.rw, 0x0fffffff)], .d, 0x00000000⟩,
  ⟨"MAC.DATA", 0x04c, 0x0, 1, 1, [(.rw, 0xffffffff)], .d, 0x00000000⟩,
  ⟨"MAC.MTR", 0x050, 0x0, 1, 1, [(.rw, 0x00008fff)], .d, 0x00000000⟩,
  ⟨"MAC.IDX", 0x054, 0x0, 1, 1, [(.rw, 0x00003fff)], .d, 0x00000000⟩,
  ⟨"MAC.STAT", 0x058, 0x0, 1, 1, [], .d, 0x00000000⟩,
  ⟨"MAC.COUNT", 0x05c, 0x0, 1, 1, [], .d, 0x00000000⟩]

/-- R433: the registers of page 0x0A3. -/
def rows0a3 : List RegRow :=
  [
  ⟨"VLAN.VSEL", 0x040, 0x0, 1, 1, [(.rw, 0x00000fff)], .d, 0x00000000⟩,
  ⟨"VLAN.VMEMB", 0x044, 0x0, 1, 1, [(.rw, 0x003fffff)], .d, 0x00000000⟩,
  ⟨"VLAN.VUNTAG", 0x048, 0x0, 1, 1, [(.rw, 0x003fffff)], .d, 0x00000000⟩,
  ⟨"VLAN.VFLAGS", 0x04c, 0x0, 1, 1, [(.rw, 0x00000003)], .d, 0x00000000⟩,
  ⟨"VLAN.VCOMMIT", 0x050, 0x0, 1, 1, [(.wo, 0x00000003)], .d, 0⟩]

/-- R434: the registers of page 0x0A4. -/
def rows0a4 : List RegRow :=
  [
  ⟨"MTR.CMD", 0x040, 0x0, 1, 1, [(.wo, 0x0fff000f)], .d, 0⟩,
  ⟨"MTR.STAT", 0x044, 0x0, 1, 1, [], .d, 0x00000000⟩,
  ⟨"MTR.CIR", 0x048, 0x0, 1, 1, [(.rw, 0xffffffff)], .d, 0x00000000⟩,
  ⟨"MTR.PIR", 0x04c, 0x0, 1, 1, [(.rw, 0xffffffff)], .d, 0x00000000⟩,
  ⟨"MTR.CBS", 0x050, 0x0, 1, 1, [(.rw, 0x00ffffff)], .d, 0x00000000⟩,
  ⟨"MTR.PBS", 0x054, 0x0, 1, 1, [(.rw, 0x00ffffff)], .d, 0x00000000⟩,
  ⟨"MTR.MODE", 0x058, 0x0, 1, 1, [(.rw, 0x00000007)], .d, 0x00000000⟩,
  ⟨"MTR.CNT[0..2]", 0x05c, 0x0, 1, 3, [], .d, 0x00000000⟩,
  ⟨"MTR.USED", 0x068, 0x0, 1, 1, [], .d, 0x00000000⟩,
  ⟨"MTR.PMAP[q]", 0x200, 0x4, 176, 1, [(.rw, 0x00008fff)], .d, 0x00000000⟩]

/-- R435: the registers of page 0x0A5. -/
def rows0a5 : List RegRow :=
  [
  ⟨"PQ[p].SCHED", 0x100, 0x20, 22, 1, [(.rw, 0x000000ff)], .d, 0x000000FF⟩,
  ⟨"PQ[p].WGT", 0x104, 0x20, 22, 2, [(.rw, 0xffffffff)], .d, 0x01010101⟩,
  ⟨"PQ[p].PROF", 0x10c, 0x20, 22, 1, [(.rw, 0xffffffff)], .d, 0x00000000⟩,
  ⟨"PQ[p].QLIM", 0x110, 0x20, 22, 1, [(.rw, 0x00007fff)], .d, 0x00000800⟩,
  ⟨"WRED[w].G", 0x800, 0x20, 16, 1, [(.rwq, 0xffffffff)], .k, 0xFFFFFFFF⟩,
  ⟨"WRED[w].Y", 0x804, 0x20, 16, 1, [(.rwq, 0xffffffff)], .k, 0xFFFFFFFF⟩,
  ⟨"WRED[w].R", 0x808, 0x20, 16, 1, [(.rwq, 0xffffffff)], .k, 0xFFFFFFFF⟩,
  ⟨"WRED[w].P", 0x80c, 0x20, 16, 1, [(.rwq, 0x0fffffff)], .k, 0x09000000⟩]

/-- R436: the registers of page 0x0A6. -/
def rows0a6 : List RegRow :=
  [
  ⟨"MIR[m].CFG", 0x100, 0x20, 4, 1, [(.rw, 0xffff1f03)], .d, 0x00000000⟩,
  ⟨"MIR[m].SRC_RX", 0x104, 0x20, 4, 1, [(.rw, 0x003fffff)], .d, 0x00000000⟩,
  ⟨"MIR[m].SRC_TX", 0x108, 0x20, 4, 1, [(.rw, 0x003fffff)], .d, 0x00000000⟩,
  ⟨"MIR[m].RING", 0x10c, 0x20, 4, 2, [(.rw, 0xffffffff)], .d, 0x00000000⟩,
  ⟨"MIR[m].PROD", 0x114, 0x20, 4, 1, [], .d, 0x00000000⟩,
  ⟨"MIR[m].CONS", 0x118, 0x20, 4, 1, [(.rw, 0xffffffff)], .d, 0x00000000⟩,
  ⟨"MIR[m].LOST", 0x11c, 0x20, 4, 1, [], .d, 0x00000000⟩]

/-- R437: the registers of page 0x0A7. -/
def rows0a7 : List RegRow :=
  [
  ⟨"TUN[t].CFG", 0x100, 0x10, 8, 1, [(.rwq, 0x0000f1ff)], .k, 0x00000000⟩,
  ⟨"TUN[t].STAT", 0x104, 0x10, 8, 1, [], .d, 0x00000000⟩,
  ⟨"TUN[t].FRAMES", 0x108, 0x10, 8, 1, [], .d, 0x00000000⟩,
  ⟨"TUN[t].LOST", 0x10c, 0x10, 8, 1, [], .d, 0x00000000⟩]

/-- R438: the registers of page 0x0A8. -/
def rows0a8 : List RegRow :=
  [
  ⟨"SNIC.POLL", 0x040, 0x0, 1, 1, [(.rw, 0xffffffff)], .d, 0x0000000A⟩,
  ⟨"SNIC[s].TXR", 0x100, 0x20, 64, 1, [(.rw, 0xffffffff)], .s, 0x00000000⟩,
  ⟨"SNIC[s].RXR", 0x108, 0x20, 64, 1, [(.rw, 0xffffffff)], .s, 0x00000000⟩,
  ⟨"SNIC[s].RCFG", 0x110, 0x20, 64, 1, [(.rw, 0x00071f1f)], .s, 0x00000000⟩,
  ⟨"SNIC[s].STAT", 0x114, 0x20, 64, 1, [], .d, 0x00000000⟩,
  ⟨"SNIC[s].CNT", 0x118, 0x20, 64, 1, [], .s, 0x00000000⟩]

/-- R459: the registers of pages 0x0B0–0x0B3. -/
def rows0b0 : List RegRow :=
  [
  ⟨"CAN[c].CFG", 0x040, 0x0, 1, 1, [(.rwq, 0x0000ffff)], .k, 0x00001483⟩,
  ⟨"CAN[c].NBT", 0x044, 0x0, 1, 1, [(.rwq, 0x7f7fffff)], .k, 0x13134E00⟩,
  ⟨"CAN[c].DBT", 0x048, 0x0, 1, 1, [(.rwq, 0x0f0f1f1f)], .k, 0x04041200⟩,
  ⟨"CAN[c].STAT", 0x04c, 0x0, 1, 1, [], .d, 0x00000003⟩,
  ⟨"CAN[c].ECNT", 0x050, 0x0, 1, 1, [], .d, 0x00000000⟩,
  ⟨"CAN[c].TXQ", 0x054, 0x0, 1, 1, [], .d, 0x00000000⟩,
  ⟨"CAN[c].CNT", 0x058, 0x0, 1, 1, [], .d, 0x00000000⟩,
  ⟨"CAN[c].ERR", 0x05c, 0x0, 1, 1, [], .d, 0x00000000⟩,
  ⟨"CAN[c].LOST", 0x060, 0x0, 1, 1, [], .d, 0x00000000⟩,
  ⟨"CAN[c].WCFG", 0x064, 0x0, 1, 1, [(.rw, 0x07ff0f07)], .d, 0x00000000⟩,
  ⟨"CAN[c].WUNC", 0x068, 0x0, 1, 1, [], .d, 0x00000000⟩,
  ⟨"CAN[c].WID[w]", 0x080, 0x20, 2, 1, [(.rw, 0xbfffffff)], .d, 0x00000000⟩,
  ⟨"CAN[c].WMSK[w]", 0x084, 0x20, 2, 1, [(.rw, 0x1fffffff)], .d, 0x00000000⟩,
  ⟨"CAN[c].WDLC[w]", 0x088, 0x20, 2, 1, [(.rw, 0x0000001f)], .d, 0x00000000⟩,
  ⟨"CAN[c].WDATA_LO[w]", 0x08c, 0x20, 2, 1, [(.rw, 0xffffffff)], .d, 0x00000000⟩,
  ⟨"CAN[c].WDATA_HI[w]", 0x090, 0x20, 2, 1, [(.rw, 0xffffffff)], .d, 0x00000000⟩]

/-- R462: the registers of pages 0x0B4–0x0B7. -/
def rows0b4 : List RegRow :=
  [
  ⟨"SER[u].CFG", 0x040, 0x0, 1, 1, [(.rwq, 0x000001ff)], .k, 0x00000001⟩,
  ⟨"SER[u].BAUD", 0x044, 0x0, 1, 1, [(.rwq, 0x00ffffff)], .k, 0x00001B20⟩,
  ⟨"SER[u].TIMING", 0x048, 0x0, 1, 1, [(.rw, 0x00ffffff)], .d, 0x00070101⟩,
  ⟨"SER[u].STAT", 0x04c, 0x0, 1, 1, [], .d, 0x00000000⟩,
  ⟨"SER[u].TXD", 0x050, 0x0, 1, 1, [(.wo, 0x000101ff)], .d, 0⟩,
  ⟨"SER[u].RXD", 0x054, 0x0, 1, 1, [], .d, 0x00000000⟩,
  ⟨"SER[u].RXFR", 0x058, 0x0, 1, 1, [], .d, 0x00000000⟩,
  ⟨"SER[u].RXTS_LO", 0x05c, 0x0, 1, 1, [], .d, 0x00000000⟩,
  ⟨"SER[u].RXTS_HI", 0x060, 0x0, 1, 1, [], .d, 0x00000000⟩,
  ⟨"SER[u].CNT", 0x064, 0x0, 1, 1, [], .d, 0x00000000⟩,
  ⟨"SER[u].ERR", 0x068, 0x0, 1, 1, [], .d, 0x00000000⟩]

/-- R464: the registers of page 0x0B8. -/
def rows0b8 : List RegRow :=
  [
  ⟨"NS.CFG", 0x040, 0x0, 1, 1, [(.rw, 0x0001ffff)], .d, 0x00000000⟩,
  ⟨"NS.CTRL", 0x044, 0x0, 1, 1, [(.w1s, 0x00000001)], .d, 0x00000000⟩,
  ⟨"NS.STAT", 0x048, 0x0, 1, 1, [], .d, 0x00000000⟩,
  ⟨"NS.WREC0", 0x04c, 0x0, 1, 1, [], .d, 0x00000000⟩,
  ⟨"NS.WREC1", 0x050, 0x0, 1, 1, [], .d, 0x00000000⟩,
  ⟨"NS.WDATA_LO", 0x054, 0x0, 1, 1, [], .d, 0x00000000⟩,
  ⟨"NS.WDATA_HI", 0x058, 0x0, 1, 1, [], .d, 0x00000000⟩,
  ⟨"NS.WTIME_LO", 0x05c, 0x0, 1, 1, [], .d, 0x00000000⟩,
  ⟨"NS.WTIME_HI", 0x060, 0x0, 1, 1, [], .d, 0x00000000⟩,
  ⟨"NS.CNT", 0x064, 0x0, 1, 1, [], .d, 0x00000000⟩]

/-- R495: the registers of page 0x0C0. -/
def rows0c0 : List RegRow :=
  [
  ⟨"FL.CFG", 0x040, 0x0, 1, 1, [(.rwq, 0x00f1ffff)], .f, 0x003003E8⟩,
  ⟨"FL.STAT", 0x044, 0x0, 1, 1, [], .f, 0x00000000⟩,
  ⟨"FL.CTRL", 0x048, 0x0, 1, 1, [(.wo, 0x00000103)], .d, 0⟩,
  ⟨"FL.ERR", 0x04c, 0x0, 1, 1, [], .d, 0x00000000⟩,
  ⟨"FL.FERR", 0x050, 0x0, 1, 1, [], .f, 0x00000000⟩,
  ⟨"FL.SUPPLY", 0x054, 0x0, 1, 1, [], .f, 0x00000000⟩,
  ⟨"FL.LSUM", 0x058, 0x0, 1, 1, [], .f, 0x00000000⟩,
  ⟨"FL.UVCNT", 0x05c, 0x0, 1, 1, [], .f, 0x00000000⟩]

/-- R496: the registers of page 0x0C1. -/
def rows0c1 : List RegRow :=
  [
  ⟨"DI.LEVEL", 0x040, 0x0, 1, 1, [], .f, 0x00000000⟩,
  ⟨"DI.RAW", 0x044, 0x0, 1, 1, [], .f, 0x00000000⟩,
  ⟨"DI.EDGES", 0x048, 0x0, 1, 1, [], .d, 0x00000000⟩,
  ⟨"DI[n].CFG", 0x100, 0x4, 32, 1, [(.rw, 0x000fffff)], .f, 0x000003E8⟩]

/-- R497: the registers of page 0x0C2. -/
def rows0c2 : List RegRow :=
  [
  ⟨"DO.CMD", 0x040, 0x0, 1, 1, [], .f, 0x00000000⟩,
  ⟨"DO.SET", 0x044, 0x0, 1, 1, [(.w1s, 0xffffffff)], .f, 0x00000000⟩,
  ⟨"DO.CLR", 0x048, 0x0, 1, 1, [(.w1c, 0xffffffff)], .f, 0x00000000⟩,
  ⟨"DO.OUT", 0x04c, 0x0, 1, 1, [], .f, 0x00000000⟩,
  ⟨"DO.FLT", 0x050, 0x0, 1, 1, [(.w1c, 0x0000ffff)], .f, 0x00000000⟩,
  ⟨"DO.CFG", 0x054, 0x0, 1, 1, [(.rwq, 0x0000ffff)], .f, 0x0000FFFF⟩]

/-- R498: the registers of pages 0x0C3–0x0C4. -/
def rows0c3 : List RegRow :=
  [
  ⟨"LSB[b].SUM", 0x040, 0x0, 1, 1, [], .f, 0x00000000⟩,
  ⟨"LS[n].CFG", 0x100, 0x40, 8, 1, [(.rwq, 0x0f3fffff)], .f, 0x00001964⟩,
  ⟨"LS[n].RCFG", 0x104, 0x40, 8, 1, [(.rwq, 0x000001ff)], .f, 0x00000164⟩,
  ⟨"LS[n].FS", 0x108, 0x40, 8, 1, [(.rwl, 0x00000003)], .f, 0x00000000⟩,
  ⟨"LS[n].CMD", 0x10c, 0x40, 8, 1, [(.rw, 0x00000001)], .f, 0x00000000⟩,
  ⟨"LS[n].CTRL", 0x110, 0x40, 8, 1, [(.wo, 0x00000001)], .f, 0⟩,
  ⟨"LS[n].STAT", 0x114, 0x40, 8, 1, [], .f, 0x00000000⟩,
  ⟨"LS[n].DIAG", 0x118, 0x40, 8, 1, [], .f, 0x00000000⟩,
  ⟨"LS[n].I", 0x11c, 0x40, 8, 1, [], .f, 0x00000000⟩,
  ⟨"LS[n].CYC", 0x120, 0x40, 8, 1, [], .f, 0x00000000⟩,
  ⟨"LS[n].TENG", 0x124, 0x40, 8, 1, [], .f, 0x00000000⟩]

/-- R499: the registers of page 0x0C5. -/
def rows0c5 : List RegRow :=
  [
  ⟨"ZT.FIRED", 0x040, 0x0, 1, 1, [], .f, 0x00000000⟩,
  ⟨"ZT.ACTIVE", 0x044, 0x0, 1, 1, [], .f, 0x00000000⟩,
  ⟨"ZT.RELEASE", 0x048, 0x0, 1, 1, [(.wo, 0xffffffff)], .f, 0⟩,
  ⟨"ZT.TEST", 0x04c, 0x0, 1, 1, [(.wo, 0x00000001)], .f, 0⟩,
  ⟨"ZT.CNT", 0x050, 0x0, 1, 1, [], .f, 0x00000000⟩,
  ⟨"ZT[r].DIMASK", 0x100, 0x20, 16, 1, [(.rwq, 0xffffffff)], .f, 0x00000000⟩,
  ⟨"ZT[r].DIPOL", 0x104, 0x20, 16, 1, [(.rwq, 0xffffffff)], .f, 0x00000000⟩,
  ⟨"ZT[r].OTHER", 0x108, 0x20, 16, 1, [(.rwq, 0x803fffff)], .f, 0x00000000⟩,
  ⟨"ZT[r].ACT_SL", 0x10c, 0x20, 16, 1, [(.rwq, 0x0000ffff)], .f, 0x00000000⟩,
  ⟨"ZT[r].ACT_LS", 0x110, 0x20, 16, 1, [(.rwq, 0xffffffff)], .f, 0x00000000⟩,
  ⟨"ZT[r].ACT_DO", 0x114, 0x20, 16, 1, [(.rwq, 0x0000ffff)], .f, 0x00000000⟩,
  ⟨"ZT[r].STAT", 0x118, 0x20, 16, 1, [], .f, 0x00000000⟩]

/-- R522: the registers of page 0x0D0. -/
def rows0d0 : List RegRow :=
  [
  ⟨"KEY.CMD", 0x040, 0x0, 1, 1, [(.wo, 0x0000ff0f)], .d, 0⟩,
  ⟨"KEY.ARG", 0x044, 0x0, 1, 1, [(.rw, 0x003fff0f)], .d, 0x00000000⟩,
  ⟨"KEY.KID", 0x048, 0x0, 1, 1, [(.rw, 0xffffffff)], .d, 0x00000000⟩,
  ⟨"KEY.LEN", 0x04c, 0x0, 1, 1, [(.rw, 0x00000fff)], .d, 0x00000000⟩,
  ⟨"KEY.STAT", 0x050, 0x0, 1, 1, [], .d, 0x00000000⟩,
  ⟨"KEY.SEL", 0x054, 0x0, 1, 1, [(.rw, 0x0000003f)], .d, 0x00000000⟩,
  ⟨"KEY.SINFO", 0x058, 0x0, 1, 1, [], .k, 0x00000000⟩,
  ⟨"KEY.SGEN", 0x05c, 0x0, 1, 1, [], .n, 0⟩,
  ⟨"KEY.SPGEN", 0x060, 0x0, 1, 1, [], .k, 0x00000000⟩,
  ⟨"KEY.SKID", 0x064, 0x0, 1, 1, [], .k, 0x00000000⟩,
  ⟨"KEY.ROLL", 0x068, 0x0, 1, 1, [], .n, 0⟩,
  ⟨"KEY.FUSE", 0x06c, 0x0, 1, 1, [], .n, 0⟩,
  ⟨"KEY.DEBUG", 0x070, 0x0, 1, 1, [], .d, 0x00000000⟩,
  ⟨"KEY.GLAZE", 0x074, 0x0, 1, 1, [], .d, 0x00000000⟩,
  ⟨"KEY.JSEQ", 0x078, 0x0, 1, 1, [], .n, 0⟩,
  ⟨"KEY.BUF[0..511]", 0x800, 0x0, 1, 512, [(.rw, 0xffffffff)], .d, 0x00000000⟩]

/-- R523: the registers of page 0x0D1. -/
def rows0d1 : List RegRow :=
  [
  ⟨"CRY.JOB", 0x040, 0x0, 1, 1, [(.rw, 0x00003f0f)], .d, 0x00000000⟩,
  ⟨"CRY.SRC_LO", 0x044, 0x0, 1, 1, [(.rw, 0xffffffff)], .d, 0x00000000⟩,
  ⟨"CRY.SRC_HI", 0x048, 0x0, 1, 1, [(.rw, 0xffffffff)], .d, 0x00000000⟩,
  ⟨"CRY.DST_LO", 0x04c, 0x0, 1, 1, [(.rw, 0xffffffff)], .d, 0x00000000⟩,
  ⟨"CRY.DST_HI", 0x050, 0x0, 1, 1, [(.rw, 0xffffffff)], .d, 0x00000000⟩,
  ⟨"CRY.LEN", 0x054, 0x0, 1, 1, [(.rw, 0x7fffffff)], .d, 0x00000000⟩,
  ⟨"CRY.AADLEN", 0x058, 0x0, 1, 1, [(.rw, 0x7fffffff)], .d, 0x00000000⟩,
  ⟨"CRY.IV[0..2]", 0x05c, 0x0, 1, 3, [(.rw, 0xffffffff)], .d, 0x00000000⟩,
  ⟨"CRY.TAG[0..3]", 0x068, 0x0, 1, 4, [(.rw, 0xffffffff)], .d, 0x00000000⟩,
  ⟨"CRY.GO", 0x078, 0x0, 1, 1, [(.wo, 0x00000001)], .d, 0⟩,
  ⟨"CRY.STAT", 0x07c, 0x0, 1, 1, [], .d, 0x00000000⟩,
  ⟨"CRY.DIG[0..15]", 0x080, 0x0, 1, 16, [(.rw, 0xffffffff)], .d, 0x00000000⟩,
  ⟨"CRY.SIG[0..127]", 0x100, 0x0, 1, 128, [(.rw, 0xffffffff)], .d, 0x00000000⟩]

/-- R524: the registers of page 0x0D2. -/
def rows0d2 : List RegRow :=
  [
  ⟨"ATT.CMD", 0x040, 0x0, 1, 1, [(.wo, 0x00000003)], .d, 0⟩,
  ⟨"ATT.STAT", 0x044, 0x0, 1, 1, [], .d, 0x00000000⟩,
  ⟨"ATT.KSLOT", 0x048, 0x0, 1, 1, [], .n, 0⟩,
  ⟨"ATT.NONCE[0..15]", 0x080, 0x0, 1, 16, [(.rw, 0xffffffff)], .d, 0x00000000⟩,
  ⟨"ATT.M[0..63]", 0x100, 0x0, 1, 64, [], .d, 0x00000000⟩,
  ⟨"ATT.BUF[0..511]", 0x400, 0x0, 1, 512, [(.rw, 0xffffffff)], .d, 0x00000000⟩]

/-- R526: the registers of pages 0x0E0–0x0E7. -/
def rows0e0 : List RegRow :=
  [
  ⟨"CVU[u].CFG", 0x040, 0x0, 1, 1, [(.rwq, 0xff13137f)], .k, 0x00000320⟩,
  ⟨"CVU[u].POLY_LO", 0x044, 0x0, 1, 1, [(.rwq, 0xffffffff)], .k, 0x04C11DB7⟩,
  ⟨"CVU[u].POLY_HI", 0x048, 0x0, 1, 1, [(.rwq, 0xffffffff)], .k, 0x00000000⟩,
  ⟨"CVU[u].INIT_LO", 0x04c, 0x0, 1, 1, [(.rwq, 0xffffffff)], .k, 0xFFFFFFFF⟩,
  ⟨"CVU[u].INIT_HI", 0x050, 0x0, 1, 1, [(.rwq, 0xffffffff)], .k, 0x00000000⟩,
  ⟨"CVU[u].XOROUT_LO", 0x054, 0x0, 1, 1, [(.rwq, 0xffffffff)], .k, 0xFFFFFFFF⟩,
  ⟨"CVU[u].XOROUT_HI", 0x058, 0x0, 1, 1, [(.rwq, 0xffffffff)], .k, 0x00000000⟩,
  ⟨"CVU[u].ACFG", 0x05c, 0x0, 1, 1, [(.rwq, 0x000000ff)], .k, 0x00000001⟩,
  ⟨"CVU[u].CTRL", 0x060, 0x0, 1, 1, [(.wo, 0x00000007)], .k, 0⟩,
  ⟨"CVU[u].DIN1", 0x064, 0x0, 1, 1, [(.wo, 0x000000ff)], .k, 0⟩,
  ⟨"CVU[u].DIN2", 0x068, 0x0, 1, 1, [(.wo, 0x0000ffff)], .k, 0⟩,
  ⟨"CVU[u].DIN4", 0x06c, 0x0, 1, 1, [(.wo, 0x000000ff)], .k, 0⟩,
  ⟨"CVU[u].EXPECT_LO", 0x070, 0x0, 1, 1, [(.rw, 0xffffffff)], .k, 0x00000000⟩,
  ⟨"CVU[u].EXPECT_HI", 0x074, 0x0, 1, 1, [(.rw, 0xffffffff)], .k, 0x00000000⟩,
  ⟨"CVU[u].RESULT_LO", 0x078, 0x0, 1, 1, [], .k, 0x00000000⟩,
  ⟨"CVU[u].RESULT_HI", 0x07c, 0x0, 1, 1, [], .k, 0x00000000⟩,
  ⟨"CVU[u].STAT", 0x080, 0x0, 1, 1, [], .k, 0x00000000⟩,
  ⟨"CVU[u].CNT", 0x084, 0x0, 1, 1, [], .k, 0x00000000⟩,
  ⟨"CVU[u].ACNT", 0x088, 0x0, 1, 1, [], .k, 0x00000000⟩]

/-- R539: the registers of page 0x005. -/
def rows005 : List RegRow :=
  [
  ⟨"INJ.STAT", 0x040, 0x0, 1, 1, [], .d, 0x00000000⟩,
  ⟨"INJ.FIRED", 0x044, 0x0, 1, 1, [], .d, 0x00000000⟩,
  ⟨"INJ.REFUSED", 0x048, 0x0, 1, 1, [], .d, 0x00000000⟩,
  ⟨"INJ.LOG0", 0x04c, 0x0, 1, 1, [], .d, 0x00000000⟩,
  ⟨"INJ.LOG1", 0x050, 0x0, 1, 1, [], .d, 0x00000000⟩,
  ⟨"INJ.LOG2", 0x054, 0x0, 1, 1, [], .d, 0x00000000⟩]

/-- R576: the registers of page 0x002. -/
def rows002 : List RegRow :=
  [
  ⟨"RST.CTRL", 0x040, 0x0, 1, 1, [(.wo, 0xffff0003)], .d, 0⟩,
  ⟨"RST.CAUSE", 0x044, 0x0, 1, 1, [], .a, 0x00000000⟩,
  ⟨"RST.WDT", 0x048, 0x0, 1, 1, [], .d, 0x000007D0⟩,
  ⟨"RST.CNT", 0x04c, 0x0, 1, 1, [], .n, 0⟩]

/-- R577: the registers of page 0x003. -/
def rows003 : List RegRow :=
  [
  ⟨"BOOT.STAT", 0x040, 0x0, 1, 1, [], .d, 0x00000000⟩,
  ⟨"BOOT.SEL", 0x044, 0x0, 1, 1, [], .n, 0⟩,
  ⟨"BOOT.CHK", 0x048, 0x0, 1, 1, [], .d, 0x0000FFFF⟩,
  ⟨"BOOT.EASY_REASON", 0x04c, 0x0, 1, 1, [], .d, 0x00000000⟩,
  ⟨"BOOT.TIMER", 0x050, 0x0, 1, 1, [], .d, 0x0000001E⟩,
  ⟨"BOOT.COUNT", 0x054, 0x0, 1, 1, [], .n, 0⟩]

/-- R591: the registers of page 0x004. -/
def rows004 : List RegRow :=
  [
  ⟨"LIFE.STAT", 0x040, 0x0, 1, 1, [], .d, 0x00000000⟩,
  ⟨"LIFE.ECC", 0x044, 0x0, 1, 1, [], .d, 0x00000000⟩,
  ⟨"LIFE.OPSEC_LO", 0x048, 0x0, 1, 1, [], .n, 0⟩,
  ⟨"LIFE.OPSEC_HI", 0x04c, 0x0, 1, 1, [], .n, 0⟩,
  ⟨"LIFE.SEL", 0x050, 0x0, 1, 1, [(.rw, 0x00000fff)], .d, 0x00000000⟩,
  ⟨"LIFE.TOT[0..14]", 0x054, 0x0, 1, 15, [], .n, 0⟩,
  ⟨"LIFE.LEAP_SEC_LO", 0x090, 0x0, 1, 1, [(.rw, 0xffffffff)], .d, 0x00000000⟩,
  ⟨"LIFE.LEAP_SEC_HI", 0x094, 0x0, 1, 1, [(.rw, 0xffffffff)], .d, 0x00000000⟩,
  ⟨"LIFE.LEAP_OFS", 0x098, 0x0, 1, 1, [(.rw, 0x8000ffff)], .d, 0x00000000⟩,
  ⟨"LIFE.LEAP_CMD", 0x09c, 0x0, 1, 1, [(.wo, 0x00000007)], .d, 0⟩,
  ⟨"LIFE.CRUMB_BASE_LO", 0x0a0, 0x0, 1, 1, [(.rw, 0xffffffff)], .n, 0⟩,
  ⟨"LIFE.CRUMB_BASE_HI", 0x0a4, 0x0, 1, 1, [(.rw, 0xffffffff)], .n, 0⟩,
  ⟨"LIFE.CRUMB_SIZE", 0x0a8, 0x0, 1, 1, [(.rw, 0x000007ff)], .n, 0⟩,
  ⟨"LIFE.CRUMB_LAST", 0x0ac, 0x0, 1, 1, [], .d, 0x00000000⟩,
  ⟨"LIFE.WIN_ADDR", 0x0b0, 0x0, 1, 1, [(.rw, 0x00000fff)], .d, 0x00000000⟩,
  ⟨"LIFE.WIN_DATA", 0x0b4, 0x0, 1, 1, [], .d, 0x00000000⟩,
  ⟨"LIFE.LASTSEC_LO", 0x0b8, 0x0, 1, 1, [], .n, 0⟩,
  ⟨"LIFE.LASTSEC_HI", 0x0bc, 0x0, 1, 1, [], .n, 0⟩]

/-- R638: the registers of page 0x006. -/
def rows006 : List RegRow :=
  [
  ⟨"EVT.DROP", 0x040, 0x0, 1, 1, [], .d, 0x00000000⟩,
  ⟨"EVT.LAST", 0x044, 0x0, 1, 1, [], .d, 0x00000000⟩,
  ⟨"EVT.ROUTE[p]", 0x400, 0x4, 256, 1, [(.rw, 0x0000003f)], .d, 0x00000018⟩]

/-- R641: the registers of page 0x0F0. -/
def rows0f0 : List RegRow :=
  [
  ⟨"DRAM.CFG", 0x040, 0x0, 1, 1, [], .d, 0x00000000⟩,
  ⟨"DRAM.STAT", 0x044, 0x0, 1, 1, [], .d, 0x00000000⟩,
  ⟨"DRAM.ECC", 0x048, 0x0, 1, 1, [], .d, 0x00000000⟩,
  ⟨"DRAM.EADDR_LO", 0x04c, 0x0, 1, 1, [], .d, 0x00000000⟩,
  ⟨"DRAM.EADDR_HI", 0x050, 0x0, 1, 1, [], .d, 0x00000000⟩,
  ⟨"DRAM.SCRUB", 0x054, 0x0, 1, 1, [(.rw, 0x000000ff)], .d, 0x00000018⟩]

/-- R635: the implemented pages. -/
def pages : List PageRow :=
  [
  ⟨0x000, 1, false, rows000⟩,
  ⟨0x001, 1, false, rows001⟩,
  ⟨0x010, 2, true, rows010⟩,
  ⟨0x012, 2, true, rows012⟩,
  ⟨0x030, 1, true, rows030⟩,
  ⟨0x020, 16, true, rows020⟩,
  ⟨0x031, 1, true, rows031⟩,
  ⟨0x034, 1, true, rows034⟩,
  ⟨0x035, 1, true, rows035⟩,
  ⟨0x036, 1, true, rows036⟩,
  ⟨0x037, 1, true, rows037⟩,
  ⟨0x038, 1, true, rows038⟩,
  ⟨0x040, 16, true, rows040⟩,
  ⟨0x050, 1, true, rows050⟩,
  ⟨0x051, 1, true, rows051⟩,
  ⟨0x052, 1, true, rows052⟩,
  ⟨0x053, 1, true, rows053⟩,
  ⟨0x060, 8, true, rows060⟩,
  ⟨0x068, 1, true, rows068⟩,
  ⟨0x069, 1, true, rows069⟩,
  ⟨0x06a, 1, true, rows06a⟩,
  ⟨0x080, 1, false, rows080⟩,
  ⟨0x081, 4, false, rows081⟩,
  ⟨0x0f8, 2, true, rows0f8⟩,
  ⟨0x090, 8, true, rows090⟩,
  ⟨0x098, 1, true, rows098⟩,
  ⟨0x0a0, 1, true, rows0a0⟩,
  ⟨0x0a1, 1, true, rows0a1⟩,
  ⟨0x0a2, 1, true, rows0a2⟩,
  ⟨0x0a3, 1, true, rows0a3⟩] ++
  [
  ⟨0x0a4, 1, true, rows0a4⟩,
  ⟨0x0a5, 1, true, rows0a5⟩,
  ⟨0x0a6, 1, true, rows0a6⟩,
  ⟨0x0a7, 1, true, rows0a7⟩,
  ⟨0x0a8, 1, true, rows0a8⟩,
  ⟨0x0b0, 4, true, rows0b0⟩,
  ⟨0x0b4, 4, true, rows0b4⟩,
  ⟨0x0b8, 1, true, rows0b8⟩,
  ⟨0x0c0, 1, true, rows0c0⟩,
  ⟨0x0c1, 1, true, rows0c1⟩,
  ⟨0x0c2, 1, true, rows0c2⟩,
  ⟨0x0c3, 2, true, rows0c3⟩,
  ⟨0x0c5, 1, true, rows0c5⟩,
  ⟨0x0d0, 1, true, rows0d0⟩,
  ⟨0x0d1, 1, true, rows0d1⟩,
  ⟨0x0d2, 1, true, rows0d2⟩,
  ⟨0x0e0, 8, true, rows0e0⟩,
  ⟨0x005, 1, false, rows005⟩,
  ⟨0x002, 1, false, rows002⟩,
  ⟨0x003, 1, false, rows003⟩,
  ⟨0x004, 1, false, rows004⟩,
  ⟨0x006, 1, false, rows006⟩,
  ⟨0x0f0, 1, false, rows0f0⟩]

end RegMap
end Sys2Proof
end

