-- ==== Sys2Proof/Config.lean ====
section
/-!
DEFINITION. What the manual fixes per device (fuses) or leaves open (free values).
Every constant of this file is opaque: no proof can see a value of it, so every claim about the machine holds for
every value. A free value that must differ from use to use is applied to the counter `State.free`.
-/
namespace Sys2Proof
namespace Config

/-- The result, of 32 bits, of the `n`-th use of a value that the manual does not state. -/
opaque freeWord : Nat → BitVec 32
/-- As `freeWord`, a whole number without a bound. -/
opaque freeNat : Nat → Nat
/-- As `freeWord`, a signed number. -/
opaque freeInt : Nat → Int
/-- As `freeWord`, a decision. -/
opaque freeBool : Nat → Bool
/-- The value fused for the register at an address whose Reset column reads "fuse" (R24). -/
opaque fuse : Nat → BitVec 32
/-- The factory calibration set of a channel (R110): KV, OV, GI0, OI0, GI1, OI1. -/
opaque factory : Nat → Nat → BitVec 32
/-- The device serial number of 64 bits, from fuses (R306). -/
opaque serial : Nat
/-- Which way a rounding at an exact half goes (the manual's `round` does not say, R85 and R86). -/
opaque tieUp : Int → Int → Bool

/-- What a field of 32 bits shows of a number that does not fit it, where the manual states no saturation. -/
opaque beyond32 : Int → BitVec 32

/-- sin(2π × num / den) and cos(2π × num / den) in units of 2^−60, as the device's arithmetic gives them (log 7). -/
opaque sin60 : Nat → Nat → Int
opaque cos60 : Nat → Nat → Int

/-- The temperature of R87 in 0.01 K from 0 °C, none where the profile gives none: from the profile's type and its C1, C2
and C3, Rref in mΩ and ρ in 2^−22. The manual bounds its error by ±0.005 K and so fixes no one value (log 8). -/
opaque thermistor : Nat → BitVec 32 → BitVec 32 → BitVec 32 → Nat → Nat → Option Int

/-- Fuses and the die's response (R501, R506): the SHA-512 of the vendor's modulus and of the owner's modulus where that
was burnt before, the PUF's 512 bits and the 256-bit salt, as numbers of big-endian bytes. -/
opaque vkh : Nat
opaque okh : Nat
opaque puf : Nat
opaque salt : Nat

/-- The SP 800-108 counter-mode KDF with HMAC-SHA-512 (R506) from a key, a label and a context to a number of bytes: that
standard leaves the widths of its counter and length fields open (log 29). -/
opaque kdf : List (BitVec 8) → List (BitVec 8) → List (BitVec 8) → Nat → Nat

/-- What a read of a 64-bit table word in host memory by the queue engine answers, none an error, from the counter of uses and the
bus address (R398, R404; log 67). -/
opaque hostWord : Nat → Nat → Option Nat

/-- The certificate of the attestation key (R517). -/
opaque cert : List (BitVec 8)
/-- That key: its identifier, and its material as a number of big-endian bytes. -/
opaque attKid : Nat
opaque attMat : Nat

/-- Where the entry that `MAC.IDX` names stands in a list of the table's entries, from their addresses and VIDs: the manual gives
the table no order (log 19). -/
opaque macPlace : List (Nat × Nat) → Nat → Nat

/-- `LIFE.STAT` [15:8], the layout format of the life store (R591), and the bit above 9 of `DEV.PG_EVRAW` that is
PAIR_FAIL (R537): the manual gives neither. -/
opaque lifeFormat : BitVec 8
opaque pairFailBit : Nat

end Config

/-- A rounding to the nearest whole number of `num / den`, `den` positive; an exact half goes the way of the free
value `Config.tieUp` (log 3). -/
def roundDiv (num : Int) (den : Nat) : Int :=
  let q := Int.fdiv num den
  let r := (Int.fmod num den).toNat
  if 2 * r < den then q
  else if den < 2 * r then q + 1
  else if Config.tieUp num den then q + 1 else q

end Sys2Proof
end

