-- ==== Sys2Proof/Machine/State.lean ====
section
/-!
DEFINITION. The state of the device as plain data: the registers of the CTRL and SEAT windows, and everything the
manual gives the device beside them, chapter by chapter; the reasons a step can stop; the state after reset.
-/
namespace Sys2Proof.Machine

/-- The part numbers of R1. -/
inductive Part where
  | yk2561 | yk1281 | yk2560 | yk0001
  deriving DecidableEq, Repr, Inhabited

/-- The active coefficients of a channel (table before R85). -/
structure Coeff where
  kv  : Nat := 110000000
  ov  : Int := 0
  gi0 : Nat := 0x40000000
  oi0 : Int := 0
  gi1 : Nat := 0x40000000
  oi1 : Int := 0
  deriving DecidableEq, Repr, Inhabited

/-- A record of the calibration journal of the life store (R94). -/
structure CalRecord where
  chan : Nat
  seq  : Nat
  time : Nat
  set  : Coeff
  deriving DecidableEq, Repr, Inhabited

/-- The averaging decimator of a channel (R70 to R75). -/
structure Avg where
  /-- D in effect. -/
  d      : Nat := 6250
  /-- D written to `ODR` and not yet in effect (R71). -/
  dPend  : Option Nat := none
  sumV   : Int := 0
  sumI   : Int := 0
  /-- Samples counted in the mean. -/
  cnt    : Nat := 0
  /-- Samples delivered in the window. -/
  deliv  : Nat := 0
  flags  : BitVec 8 := 0
  /-- The latest output, in 100 nV and µA. -/
  out    : Option (Int × Int) := none
  /-- The next output is the first after a timebase step (R75). -/
  tstep  : Bool := false
  deriving DecidableEq, Repr, Inhabited

/-- A sense-open check in progress (R97): the reading at the start strobe and the CHK readings, each a calibrated
voltage and a raw current code. -/
structure Soc where
  start : Nat
  ref   : Option (Int × Int) := none
  chk   : List (Int × Int) := []
  deriving DecidableEq, Repr, Inhabited

/-- The base samples of the 64 strobes that end at a mark (R231): the mark, samples, sums, and whether one carries HOLD,
CALB or UNREG. -/
structure MarkWin where
  mark : Nat := 0
  n    : Nat := 0
  sumV : Int := 0
  sumI : Int := 0
  bad  : Bool := false
  deriving DecidableEq, Repr, Inhabited

/-- What the measurement holds per channel beside its registers. -/
structure ChanMeas where
  coef : Coeff := {}
  /-- Sequence number and commit time of the set in force (R94). -/
  calSeq  : Nat := 0
  calTime : Nat := 0
  /-- A committed set that applies from the next base strobe. -/
  coefNext : Option Coeff := none
  avg  : Avg := {}
  /-- The mark window being formed, and the latest one that is whole. -/
  markAcc  : MarkWin := {}
  markLast : MarkWin := {}
  /-- The latest base samples without CHK, HOLD or CALB (R74). -/
  goodV : Int := 0
  goodI : Int := 0
  soc  : Option Soc := none
  /-- The latest range change (R77): the samples after strobe index `rsetFrom` up to `rsetTo` carry RSET, those up to
  `rsetFrom` are on `rsetOld`. -/
  rsetFrom : Nat := 0
  rsetTo   : Nat := 0
  rsetOld  : Nat := 0
  /-- The Kelvin estimates since the latest ARM, newest first, at most 64: (VF − V in 100 nV, I in µA) (R99). -/
  kc   : List (Int × Int) := []
  deriving DecidableEq, Repr, Inhabited

/-- A calibration command in progress (R91 to R96). -/
inductive CalOp where
  | idle
  | settling
  /-- MEASURE: strobe index of the command, samples wanted, samples taken, their sum and sum of squares of raw × 256, and
  whether a reference changeover or an unregulated oven was met. -/
  | measuring (since want n : Nat) (sum : Int) (sumSq : Nat) (refChg oven : Bool)
  /-- COMMIT or RESTORE_FACTORY journalling a set with its time. -/
  | writing (chan : Nat) (set : Coeff) (factory : Bool)
  deriving DecidableEq, Repr, Inhabited

/-- What a measure die holds beside its registers. -/
structure Die where
  /-- The frame of the latest strobe has neither arrived nor been given up. -/
  waiting : Bool := false
  /-- Consecutive lost strobes (R102). -/
  lost    : Nat := 0
  /-- A changeover that the next base strobe makes (R82). -/
  chgPend : Bool := false
  /-- Samples carry REFQ: a check found it so (R81). -/
  refq    : Bool := false
  /-- Samples carry REFQ from a forced changeover until both references are OK (R82). -/
  refHold : Bool := false
  /-- Consecutive checks within 10 ppm. -/
  okRun   : Nat := 0
  /-- The last ratio recorded while both references were OK and `DRIFT` was clear (R82). -/
  ratio   : Word := 0x40000000
  /-- VMEAS5 and VMEAS25 are valid (R79). -/
  powered : Bool := true
  /-- The converters are powered: always but in Feather (R214, R559). -/
  converters : Bool := true
  /-- The end in ns of the check window that is open in Feather (R559). -/
  checkEnd : Option Nat := none
  /-- The die stops delivering at the base strobe that completes the current sample (R103). -/
  stopReq : Bool := false
  cal     : CalOp := .idle
  /-- `ARG.RANGE` of the latest CONNECT (R91). -/
  calRange : Nat := 0
  deriving DecidableEq, Repr, Inhabited

/-- The base samples of one stroke window (R111, R121): the strobe index of its closing boundary, the samples
delivered and their extremes. -/
structure Window where
  idx  : Nat := 0
  n    : Nat := 0
  sumV : Int := 0
  sumI : Int := 0
  maxV : Int := 0
  minV : Int := 0
  maxI : Int := 0
  rset : Bool := false
  deriving DecidableEq, Repr, Inhabited

/-- A frame point (R113): the demand in µA and whether the output is connected. -/
structure Point where
  dmd  : Int := 0
  conn : Bool := false
  deriving DecidableEq, Repr, Inhabited

/-- A mean kept as its sum and count, with the strobe index or second at which it was formed. -/
structure Mean where
  stamp : Nat := 0
  sum   : Int := 0
  n     : Nat := 0
  deriving DecidableEq, Repr, Inhabited

/-- The SAMPLE policy of a step and what it has recorded (R182). -/
structure Samp where
  rec_  : Word := 0
  tag   : Nat := 0
  idx   : Nat := 0
  mode  : Nat := 0
  /-- S in ns, and the instant at which the points of the step end. -/
  start : Nat := 0
  stop  : Option Nat := none
  /-- Averaged outputs of the step seen so far. -/
  seen  : Nat := 0
  /-- Outputs since the last one recorded. -/
  since : Nat := 0
  lastV : Int := 0
  lastI : Int := 0
  /-- FIRSTLAST: the latest output, not recorded yet: its time, range and body. -/
  held  : Option (Nat × Nat × List Byte) := none
  deriving DecidableEq, Repr, Inhabited

/-- A STEP_END of the channel's last sixteen (R231). -/
structure StepHist where
  tag : Nat
  q   : Int
  e   : Int
  v   : Int
  deriving DecidableEq, Repr, Inhabited

/-- A channel command on its way to the next service: op, issuing seat, and the submission entry (queue, CID) that it
completes (R138, R366). -/
structure Cmd where
  op   : Nat
  seat : Nat
  sqe  : Option (Nat × Nat) := none
  /-- The crew whose transition it is (R229). -/
  crew : Option Nat := none
  deriving DecidableEq, Repr, Inhabited

/-- What the loop engine and the sequencer hold per channel beside its registers. Currents with fractions are in
units of 2^−16 µA (R130). -/
structure Ctl where
  /-- The open stroke window, and those closed since the last service, earliest first (R180). -/
  win   : Window := {}
  wins  : List Window := []
  /-- The latest closed window, for CLEAR (R142). -/
  lastWin : Window := {}
  /-- Frame points of the stroke now launched and of the next one (R113). -/
  cur   : List Point := []
  nxt   : List Point := []
  /-- Frames of the step that `nxt` commits. -/
  nxtF   : Nat := 0
  /-- Range commanded with `cur` and with `nxt` (R132). -/
  rngCur : Nat := 0
  rngNxt : Nat := 0
  /-- Zero demand forced from an instant on, and whether its first frame has gone (R103, R145). -/
  force  : Option Nat := none
  forced : Bool := false
  /-- The step before was OCVHOLD and the reconnect frame is still to be sent (R179). -/
  recon  : Bool := false
  /-- d[n − 1], e[n − 1] (in 2^−16 of 100 nV) and u[n − 1] of R124. -/
  d     : Int := 0
  e     : Int := 0
  u     : Int := 0
  /-- The CV branch starts in the next service (R124, R125). -/
  cvFirst : Bool := true
  /-- The CC trims of the two ranges (R123). -/
  trim0 : Int := 0
  trim1 : Int := 0
  /-- Frame points limited by SLEW in the stroke before, in `cur`, in `nxt` (R123). -/
  slewPrev : Bool := false
  slewCur  : Bool := false
  slewNxt  : Bool := false
  /-- Consecutive services that chose u[n], and c[n] (R125). -/
  uRun  : Nat := 0
  cRun  : Nat := 0
  /-- Consecutive services with every point at or below DOWN (R132). -/
  low   : Nat := 0
  /-- Consecutive missed strokes, and a miss that the deadline has still to count (R119). -/
  miss  : Nat := 0
  unserved : Bool := false
  /-- Channel commands that wait for the next service (R117, R138). -/
  cmds  : List Cmd := []
  /-- The program has ended or STOP was executed: the demand ramps to 0 (R138). -/
  ending : Bool := false
  /-- The owner was lost: the policy acts at the next service (R147). -/
  ownerLost : Bool := false
  /-- The grant is orphaned (R380). -/
  orphan : Bool := false
  /-- The instant in ns from which frame points are the present step's: S, or the resumption (R123). -/
  runFrom : Nat := 0
  /-- `RANGE_POL` as latched at ARM (R155), and the step became current in the service under way. -/
  pol   : Nat := 0
  entered : Bool := false
  /-- Strobe index of the latest ARM or timebase step: a mean of R143 lies wholly after it. -/
  armIdx : Nat := 0
  /-- The 100 ms mean being formed, the latest one formed, and the difference to be tested (R143 DVDT). -/
  dvAcc  : Mean := {}
  dvLast : Option Mean := none
  dvTest : Option (Mean × Mean) := none
  /-- The 1 s temperature mean being formed, whether it holds an unusable conversion, the latest eleven, and the pair
  to be tested (R143 DTDT). -/
  dtAcc  : Mean := {}
  dtBad  : Bool := false
  dtMeans : List Mean := []
  dtTest : Option (Mean × Mean) := none
  /-- The 1 s voltage mean being formed, the latest sixty-one, and one not yet tested (R170). -/
  v1Acc  : Mean := {}
  v1s    : List Mean := []
  v1New  : Bool := false
  /-- The six integrators (R134), and the strobe index from which QSTEP and ESTEP restart. -/
  qchg  : Nat := 0
  qdis  : Nat := 0
  echg  : Nat := 0
  edis  : Nat := 0
  qstep : Int := 0
  estep : Int := 0
  qFrom : Option Nat := none
  deriving DecidableEq, Repr, Inhabited

/-- The step program position of a channel. -/
structure Prog where
  /-- The slot latched at ARM (R159). -/
  slot   : Option Nat := none
  /-- Entry index of the current step. -/
  idx    : Nat := 0
  /-- A step is current. -/
  live   : Bool := false
  /-- Frame points of the step committed so far (R119, R128). -/
  frames : Nat := 0
  /-- The start instant S, in ns, moved on by the time spent paused (R169, R173). -/
  sNs    : Nat := 0
  /-- Step time in ns, while it is frozen (R136). -/
  frozen : Option Nat := none
  /-- Loop counters C0 to C3 (R176). -/
  ctr    : List Nat := [0, 0, 0, 0]
  /-- Latches of R171: DIN edges (input, edge), messages, and releases (crew, instant). -/
  din    : List (Nat × Nat) := []
  msgs   : List Nat := []
  rels   : List (Nat × Nat) := []
  /-- The first service of the step has declared its barrier arrivals (R172). -/
  declared : Bool := false
  /-- Limits that have warned in this step (R174). -/
  warned : List Nat := []
  samp   : Samp := {}
  /-- The policy of the step before, for outputs whose strobe lies before S (R182). -/
  sampOld : Option Samp := none
  hist   : List StepHist := []
  /-- A termination (0 to 3), or a limit (4 and up), that fired on a rest wake in Feather: the first service of Run
  takes it (R181). -/
  due    : Option Nat := none
  deriving DecidableEq, Repr, Inhabited

/-- A directory entry of the step store (R157). -/
structure Slot where
  state : Nat := 0
  base  : Nat := 0
  len   : Nat := 0
  owner : Nat := 0
  nstep : Nat := 0
  crc   : Word := 0
  refs  : Nat := 0
  deriving DecidableEq, Repr, Inhabited

/-- A program op that has been written and not completed (R161): op, slot, the seat that issued it, and its operands
as they stood. -/
structure ProgOp where
  op    : Nat
  slot  : Nat
  seat  : Nat
  /-- The submission queue and CID to complete, on the seat path. -/
  sq    : Option (Nat × Nat) := none
  base  : Nat := 0
  len   : Nat := 0
  owner : Nat := 0
  nstep : Nat := 0
  idx   : Nat := 0
  words : List Word := []
  bufAddr : Nat := 0
  readBad : Bool := false
  deriving DecidableEq, Repr, Inhabited

/-- The words of a sweep-table point (R188). -/
structure EisPt where
  typ  : Word := 0
  freq : Word := 0
  amp  : Word := 0
  cyc  : Word := 0
  deriving DecidableEq, Repr, Inhabited

/-- A sweep table (R187, R188). -/
structure Sweep where
  state : Nat := 0
  npts  : Nat := 0
  lead  : Nat := 0
  refs  : Nat := 0
  pts   : List (Nat × EisPt) := []
  deriving DecidableEq, Repr, Inhabited

/-- An included sample of a point: its strobe index after Ap, V in 100 nV, I in µA. -/
abbrev EisSample := Nat × Int × Int

/-- A point being integrated, or finished and waiting for its result (R196, R199). -/
structure EisWin where
  table   : Nat := 0
  point   : Nat := 0
  pt      : EisPt := {}
  /-- Strobe index of Ap. -/
  start   : Nat := 0
  samples : List EisSample := []
  excl    : Nat := 0
  total   : Nat := 0
  ovr     : Bool := false
  unreg   : Bool := false
  refq    : Bool := false
  tstep   : Bool := false
  ovf     : Bool := false
  skipBw  : Bool := false
  deriving DecidableEq, Repr, Inhabited

/-- The sweep of a channel (R189). -/
structure EisRun where
  active  : Bool := false
  table   : Nat := 0
  /-- Excitation stopped by a STOP of the page (R204). -/
  trunc   : Bool := false
  /-- Excitation stopped by PAUSED or HELD (R204). -/
  paused  : Bool := false
  win     : EisWin := {}
  /-- Strobe index of the sweep end E. -/
  endIdx  : Nat := 0
  /-- The point that the ended step was measuring, while its samples still arrive, and the strobe index at which the
  step's frame points end. -/
  prev    : Option (EisWin × Nat) := none
  /-- Frames, by strobe index from and up to, in which the clamp acted (true) or held points were sent (false). -/
  marks   : List (Nat × Nat × Bool) := []
  done    : List EisWin := []
  deriving DecidableEq, Repr, Inhabited

/-- A stored impedance result (R196 to R199, R207). -/
structure EisRes where
  zre   : Int := 0
  zim   : Int := 0
  unc   : Nat := 0
  iamp  : Nat := 0
  flags : Word := 0
  time  : Nat := 0
  deriving DecidableEq, Repr, Inhabited

/-- The rest trend of a channel (R209 to R212). -/
structure Trend where
  active  : Bool := false
  /-- The instant in ns at which its step ended, and the trend that starts with the step after it: S, `RT.CFG` and
  `RT.TCO` as latched. -/
  stop    : Option Nat := none
  next    : Option (Nat × Word × Int) := none
  /-- S in ns and the latched configuration. -/
  s       : Nat := 0
  w       : Nat := 60
  skip    : Nat := 0
  tcomp   : Bool := false
  tco     : Int := 0
  m       : Nat := 0
  n       : Nat := 0
  sx      : Nat := 0
  sxx     : Nat := 0
  sy      : Int := 0
  sxy     : Int := 0
  syy     : Nat := 0
  /-- V0 in nV and Tref in 0.01 K. -/
  zero    : Option (Int × Int) := none
  v0      : Int := 0
  /-- The wake window: included samples, all samples, temperature conversions, and whether it is spoiled. -/
  sumV    : Int := 0
  cntV    : Nat := 0
  sumT    : Int := 0
  cntT    : Nat := 0
  bad     : Bool := false
  /-- The next usable point sets a new V0, and the latest wake was such a one (R215). -/
  restart : Bool := false
  rflag   : Bool := false
  slope   : Int := 0
  ssig    : Nat := 0
  lastV   : Int := 0
  lastT   : Int := -32768
  noFit   : Bool := false
  full    : Bool := false
  gap     : Bool := false
  skipped : Bool := false
  deriving DecidableEq, Repr, Inhabited

/-- Everything the device holds per channel beside its registers. -/
structure Chan where
  meas  : ChanMeas := {}
  ctl   : Ctl := {}
  prog  : Prog := {}
  eis   : EisRun := {}
  trend : Trend := {}
  /-- KI0 and KI1 of R86. -/
  ki0   : Nat := 0
  ki1   : Nat := 0
  /-- Records lost in the run of discards now open: other types, SAMPLEs, time of the first and of the last
  (R242). -/
  loss  : Option (Nat × Nat × Nat × Nat) := none
  deriving DecidableEq, Repr, Inhabited

/-- A record of 32 bytes (R236), its CRC computed when it is written. -/
structure Record where
  typ  : Nat
  /-- Bits [7:4] of byte 0. -/
  sub  : Nat := 0
  chan : Nat
  x    : Nat
  time : Nat
  body : List Byte
  deriving DecidableEq, Repr, Inhabited

/-- A record in staging, with the seat it was generated for (R239). -/
structure Staged where
  seat : Nat
  ring : Nat
  record : Record
  /-- Written to the ring and not yet covered by the producer index (R241). -/
  written : Bool := false
  /-- Generated while page 0x038 was not RUNNING, and held in the on-die buffers (R248). -/
  onDie : Bool := false
  deriving DecidableEq, Repr, Inhabited

/-- A record ring (R239 to R244). -/
structure Ring where
  state  : Nat := 0
  policy : Nat := 0
  depth  : Nat := 0
  base   : Nat := 0
  prodAddr : Nat := 0
  prod   : Nat := 0
  cons   : Nat := 0
  lossS  : Nat := 0
  lossO  : Nat := 0
  deriving DecidableEq, Repr, Inhabited

/-- A crew entry (R220). -/
structure Crew where
  state  : Nat := 0
  id     : Nat := 0
  policy : Nat := 0
  n      : Nat := 0
  coord  : Nat := 0
  mask   : List Nat := []
  gen    : Nat := 0
  /-- Local members that have declared arrival in the current generation. -/
  arrived : List Nat := []
  /-- Counts last reported: arrived, withdrawn (R225). -/
  reported : Nat × Nat := (0, 0)
  /-- SEAL waits for its acknowledgement. -/
  sealing : Bool := false
  /-- No heartbeat for 10 ms (R224). -/
  lost   : Bool := false
  /-- Pending transitions: op, mark, schedule slot (R229). -/
  trans  : List (Nat × Nat × Nat) := []
  /-- Starts that an owner-lost policy cancelled: the slot of the pending START, and the channel (R147). -/
  skip   : List (Nat × Nat) := []
  /-- Releases that came while page 0x036 was not RUNNING: generation and instant (R228). -/
  held   : List (Nat × Nat) := []
  deriving DecidableEq, Repr, Inhabited

/-- What a coordinator keeps of one registered device (R224, R225). -/
structure CrewDev where
  dev     : Nat
  count   : Nat
  arrived : Nat := 0
  withdrawn : Nat := 0
  deriving DecidableEq, Repr, Inhabited

/-- A crew that this device coordinates. -/
structure Coord where
  gen  : Nat := 0
  devs : List CrewDev := []
  deriving DecidableEq, Repr, Inhabited

/-- A reduction context (R232). -/
structure Red where
  /-- 0 IDLE, 1 WAIT, 2 COLLECT, 3 DONE. -/
  state : Nat := 0
  entry : Nat := 0
  src   : Nat := 0
  param : Nat := 0
  mark  : Nat := 0
  /-- The grade table of a GRADE, and the sources still to be reduced. -/
  grade : Option Nat := none
  todo  : List (Nat × Nat) := []
  /-- Results of the sources reduced so far, for z (R234). -/
  stats : List (Nat × Nat × RedResult) := []
  /-- The local values collected at T, by source and PARAM. -/
  snap  : List ((Nat × Nat) × List (Nat × Int)) := []
  /-- Contributions at the coordinator: device, values. -/
  contrib : List (Nat × List (Nat × Int)) := []
  result : RedResult := {}
  empty  : Bool := false
  ranks  : List (Nat × Nat) := []
  deriving DecidableEq, Repr, Inhabited

/-- A criterion of a grade bin (R234). -/
structure Crit where
  w0 : Word := 0
  lo : Word := 0
  hi : Word := 0
  deriving DecidableEq, Repr, Inhabited


/-- A management op in the exchange of R258: code, argument, times issued, frames waited, and whether `MREQ` asked
for it. -/
structure Mop where
  op    : Nat
  arg   : Nat
  tries : Nat := 0
  wait  : Nat := 0
  mreq  : Bool := false
  deriving DecidableEq, Repr, Inhabited

/-- An override of a link's transmitter (R145, R267): its cause of R141, the instant in ns from which frames carry it,
the frames it has forced (0 none, 1 the zero-demand frame, 2 also the disconnect), and whether it still holds. -/
structure Ovr where
  cause : Nat
  from_ : Nat
  sent  : Nat := 0
  holds : Bool := true
  deriving DecidableEq, Repr, Inhabited

/-- What a stage link holds beside its registers. -/
structure Link where
  /-- Consecutive good telemetry frames in ALIGN; consecutive missing or bad ones; consecutive wrong `ESEQ`. -/
  good   : Nat := 0
  bad    : Nat := 0
  wrong  : Nat := 0
  /-- A telemetry frame of the latest downstream frame is awaited. -/
  waiting : Bool := false
  /-- `FSEQ`, `RANGE` and `EN` of the latest downstream frame. -/
  fseq   : Nat := 0
  range  : Nat := 0
  en     : Nat := 0
  /-- The demands of the latest frame (R31). -/
  dmd    : List Int := []
  conn   : Nat := 0
  /-- Ops to send, oldest first, and ops sent and not answered. -/
  queue  : List Mop := []
  flight : List Mop := []
  /-- Halfwords of the descriptor read so far in this bring-up. -/
  halves : List (Nat × Nat) := []
  /-- The accepted descriptor bytes. -/
  desc   : List Byte := []
  /-- The descriptor is being read again in REJECT. -/
  reread : Bool := false
  ovr    : List Ovr := []
  /-- An `MREQ` op that waits in DESC (R643): op and argument. -/
  mreq   : Option (Nat × Nat) := none
  /-- STOPPING frames sent (R270). -/
  stopN  : Nat := 0
  /-- Valid `VF` values of the stroke window per local channel: sum and count (R253). -/
  vfAcc  : List (Nat × Int × Nat) := []
  chflt  : Nat := 0
  deriving DecidableEq, Repr, Inhabited

/-- The servo of R283: the integral term as the exact sum of KI × θ × τ (Q16.16 × 0.25 ns × ns), the instant of the
previous offset, the run of offsets within LOCK_THR, and the adjustment a in the same unit times 10^9. -/
structure Servo where
  acc  : Int := 0
  last : Option Nat := none
  run  : Nat := 0
  deriving DecidableEq, Repr, Inhabited

/-- What a Bruil link holds beside its registers. -/
structure BLink where
  /-- Consecutive good flits in TRAIN (R302). -/
  good   : Nat := 0
  /-- `LSEQ` expected next, and a NAK sent that no good flit has answered yet (R313). -/
  rxSeq  : Nat := 0
  nak    : Bool := false
  /-- `LSEQ` of the next flit sent; packets with flits not acknowledged, with the `LSEQ` of their last flit and their
  number of flits; packets that wait for room among the 32; consecutive replays of the oldest flit (R313). -/
  txSeq  : Nat := 0
  unack  : List (Nat × Nat × Packet) := []
  wait   : List Packet := []
  replays : Nat := 0
  peer   : Option Peer := none
  /-- Launches of this device's TIME flits, newest first, and the arrival of the latest one of the peer, in 10 ps; a
  TIME flit of the latest mark is awaited; the delays of the last 64 marks (R321, R322). -/
  launch  : List Nat := []
  arrival : Option Nat := none
  timeDue : Bool := false
  delays  : List Int := []
  deriving DecidableEq, Repr, Inhabited

/-- Who issued a fence (R319). -/
inductive FenceKind where
  | rt
  | sqe (s q cid : Nat)
  | dma (x : Nat)
  deriving DecidableEq, Repr

/-- A fence of an initiator: the last `ESEQ` it must see acknowledged by each destination. -/
structure Fence where
  init : Nat
  kind : FenceKind
  need : List (Nat × Nat)
  deriving DecidableEq, Repr

/-- The Bruil fabric beside its registers. -/
structure Fab where
  /-- The Bruil links. -/
  bls      : List (Nat × BLink) := []
  /-- Link-state announcements by device: serial number and neighbours (R308); the reachable identifiers, and those that
  were reachable and are not any more. -/
  topo     : List (Nat × (Nat × List Nat)) := []
  known    : List Nat := []
  lostDevs : List Nat := []
  /-- `RT.ALT` by destination (R331), and destinations on their alternate with the instant of the last packet (R312). -/
  alts     : List (Nat × Word) := []
  onAlt    : List (Nat × Nat) := []
  /-- `ESEQ` of the next packet by destination × 16 + class, expected by source × 16 + class, packets held for a gap
  (R315). -/
  eseqTx   : List (Nat × Nat) := []
  eseqRx   : List (Nat × Nat) := []
  gapHeld  : List (Nat × Packet) := []
  /-- Last `ESEQ` posted since the last fence, and acknowledged, by device × 128 + initiator; acknowledgements owed by
  source × 128 + initiator (R317). -/
  posted   : List (Nat × Nat) := []
  acked    : List (Nat × Nat) := []
  ackOwed  : List (Nat × Nat) := []
  /-- Fences, oldest first, and initiators marked failed (R319). -/
  fences   : List Fence := []
  failedInit : List Nat := []
  /-- The remote error log: TAG, initiator, code, device, address (R318). -/
  rerrLog  : List (Nat × Nat × Nat × Nat × Nat) := []
  /-- Sleep: votes held by the leader, links put into LISTEN at Z, a wake to start at Z, and the instant up to which
  heartbeats are not checked (R326, R328). -/
  votes    : List Nat := []
  slept    : List Nat := []
  wakeHeld : Bool := false
  quietTo  : Nat := 0
  deriving DecidableEq, Repr, Inhabited

/-- The applied fields of a window (R345, R348). -/
structure Win where
  cfg  : Word := 0
  tgt  : Word := 0
  base : Nat := 0
  deriving DecidableEq, Repr, Inhabited

/-- A window access under way or waiting (R335): requester's port, initiator, the request with its far address, its
offset within the window, its tag, and whether it has been sent. -/
structure WinAcc where
  port : Nat
  init : Nat
  off  : Nat
  req  : WReq
  tag  : Nat := 0
  sent : Bool := false
  /-- Its place in the order of arrival at the bridge. -/
  seq  : Nat := 0
  deriving DecidableEq, Repr, Inhabited

/-- A LOCK or UNLOCK under way (R340): window, tag, LOCK, and the submission entry (seat, queue, CID) that it completes. -/
structure LockOp where
  win  : Nat
  tag  : Nat
  lock : Bool
  sqe  : Option (Nat × Nat × Nat) := none
  deriving DecidableEq, Repr, Inhabited

/-- A far request held on the inbound path: source, initiator, tag. -/
structure InReq where
  src  : Nat
  init : Nat
  tag  : Nat
  req  : WReq
  deriving DecidableEq, Repr, Inhabited

/-- The window and message bridges beside their registers. -/
structure Bridges where
  /-- The applied windows, the accesses of each, lock commands under way, and the tag of the next request. -/
  wins     : List (Nat × Win) := []
  winAccs  : List (Nat × List WinAcc) := []
  lockOps  : List LockOp := []
  winTag   : Nat := 0
  /-- The applied inbound filter: `SRC`, `SPC` and base (R347). -/
  filters  : List (Nat × (Word × Word × Nat)) := []
  /-- Locks held at this device, by space: holder and its window; lock requests and accesses that wait (R340). -/
  locks    : List (Nat × (Nat × Nat)) := []
  lockWait : List InReq := []
  /-- Holders whose lock was released here: device, window and space; told at their next access (R343). -/
  lockLost : List (Nat × Nat × Nat) := []
  inWait   : List InReq := []
  /-- The commit under way: window or filter entry (R345). -/
  winCommit : Option Nat := none
  inCommit  : Option Nat := none
  /-- Messages held for window writes (R344): initiator, destination, identifier, data, and their place in the order of
  arrival; and the place of the next arrival. -/
  sigs     : List (Nat × Nat × Nat × List Byte × Nat) := []
  nextSeq  : Nat := 0
  /-- The error log (R339): code, window, initiator, far address. -/
  elog     : List (Nat × Nat × Nat × Nat) := []
  /-- The routing table of the message bridge (R350). -/
  mbTable  : List (Nat × List Word) := []
  deriving DecidableEq, Repr, Inhabited

/-- A submission queue (R362, R374). -/
structure SubQ where
  depth : Nat
  base  : Nat
  cq    : Nat
  deriving DecidableEq, Repr, Inhabited

/-- A completion or event queue: its entries that the head does not cover yet, oldest first (R362, R383). -/
structure OutQ where
  depth : Nat
  base  : Nat
  vec   : Nat
  tail  : Nat := 0
  head  : Nat := 0
  phase : Bool := true
  live  : List (Nat × List Byte) := []
  deriving DecidableEq, Repr, Inhabited

/-- A submission entry fetched and not completed (R365). -/
structure Started where
  q     : Nat
  cid   : Nat
  bytes : List Byte
  /-- It has been executed and waits for what completes it. -/
  run   : Bool := false
  deriving DecidableEq, Repr, Inhabited

/-- A CHAN_CMD entry whose channels have not all been served: channels left, first status that is not OK, mask of
refusals (R366). -/
structure ChanWait where
  q      : Nat
  cid    : Nat
  left   : Nat
  detail : Nat := 0
  result : Nat := 0
  deriving DecidableEq, Repr, Inhabited

/-- A write that waits for the queue engine (R404): of the kind 0 an MSI-X message alone, 1 completion queue, 2 event queue,
3 producer index, 4 the buffer of a submission entry; with the index of its queue or ring, seat address and bytes, and the vector
whose message follows it. A `stuck` one has met a translation fault and waits for RETRY. -/
structure QWrite where
  kind  : Nat
  idx   : Nat := 0
  addr  : Nat := 0
  data  : List Byte := []
  vec   : Option Nat := none
  stuck : Bool := false
  deriving DecidableEq, Repr, Inhabited

/-- What a seat holds beside its registers. -/
structure Seat where
  sqs     : List (Nat × SubQ) := []
  cqs     : List (Nat × OutQ) := []
  eq      : Option OutQ := none
  rings   : List (Nat × Ring) := []
  started : List Started := []
  waits   : List ChanWait := []
  /-- Completions held for a full completion queue, oldest first: queue and entry without phase (R369). -/
  heldC   : List (Nat × List Byte) := []
  /-- Event sequence number, and entries lost since the last EV_OVERFLOW (R372). -/
  seq     : Nat := 0
  evLost  : Nat := 0
  credit  : Nat := 0
  /-- A share that applies from the next round (R379). -/
  shareNext : Option Nat := none
  /-- SEAT_CLOSE, not SEAT_RESET, put the seat in RESETTING. -/
  closing : Bool := false
  /-- RESET_DONE is owed to the event queue when it is set up again (R380). -/
  oweReset : Bool := false
  /-- The instant in ns at which the present DETACHED period began (R387). -/
  detFrom : Nat := 0
  /-- SEAT_BIND under way: the new port. -/
  binding : Option Nat := none
  /-- Writes and messages that wait for the queue engine, oldest first; they are held while the seat is DETACHED (R359, R404). -/
  qout    : List QWrite := []
  deriving DecidableEq, Repr, Inhabited

/-- The mailbox command under way (R373): its op, the result that completion will show once the firmware is done,
or none while the command waits for another event. -/
structure Mbx where
  op     : Nat
  seat   : Nat
  result : Option (Nat × List Word)
  deriving DecidableEq, Repr, Inhabited

/-- An entry of a port's MSI-X table (R385). -/
structure MsixEntry where
  masked  : Bool := true
  pending : Bool := false
  deriving DecidableEq, Repr, Inhabited

/-- What a transfer carries (R389). -/
inductive XferKind where
  /-- A descriptor, of the submission entry (queue, CID). -/
  | desc (q cid : Nat)
  /-- Records to a ring. -/
  | record (ring : Nat)
  deriving DecidableEq, Repr

/-- Where a transfer stands: waiting for an engine, carried, suspended by a translation fault (R403), held while its port
is down (R406), or all chunks done with its fence pending. -/
inductive XferSt where
  | ready | carried | suspended | held | fencing
  deriving DecidableEq, Repr

/-- A transfer context (R389, R393). -/
structure Xfer where
  seat  : Nat
  kind  : XferKind
  st    : XferSt := .ready
  fill  : Bool := false
  fence : Bool := false
  /-- The far device of a FABRIC destination. -/
  far   : Option Nat := none
  len   : Nat := 0
  src   : Nat := 0
  dst   : Nat := 0
  /-- Bytes of the chunks completed, and the code of a translation fault. -/
  pos   : Nat := 0
  code  : Nat := 0
  deriving DecidableEq, Repr

/-- A page as a seat address is translated (R398): base, DRAM, readable, writable. -/
structure PageMap where
  base  : Nat
  dram  : Bool := false
  r     : Bool := true
  w     : Bool := true
  deriving DecidableEq, Repr, Inhabited

/-- A chunk that an engine holds (R390): its transfer, its bytes, where they come from and go to, and the data once it
has arrived. -/
structure Chunk where
  x     : Nat
  seat  : Nat
  len   : Nat
  port  : Nat
  data  : Option (List Byte) := none
  /-- Bytes that device DRAM gave before and after those that host memory owes, and how many it owes. -/
  pre   : List Byte := []
  post  : List Byte := []
  want  : Nat := 0
  /-- The physical destination (in DRAM, address), none for FABRIC; its page in seat space and that of the source. -/
  dst   : Option (Bool × Nat) := none
  pages : List Nat := []
  /-- It started before the latest XLATE_SET or XLATE_INV of its seat, which waits for it (R399, R400). -/
  old   : Bool := false
  /-- Records that it carries (R241). -/
  recs  : Nat := 0
  deriving DecidableEq, Repr, Inhabited

/-- A leaf translation of the TLB (R400): seat, page base in seat space, 2 MiB page, what it maps to. -/
structure TlbEnt where
  seat  : Nat
  page  : Nat
  big   : Bool
  map   : PageMap
  deriving DecidableEq, Repr, Inhabited

/-- A translation root (R399): table base, in device DRAM, bypass. -/
structure Root where
  base   : Nat := 0
  dram   : Bool := false
  bypass : Bool := false
  deriving DecidableEq, Repr, Inhabited

/-- The DMA engines, the seat map unit and device DRAM beside their registers. -/
structure Dma where
  /-- Device DRAM as tenants and far devices see it: bytes that are not zero, by address (log 9). -/
  dram     : List (Nat × Byte) := []
  /-- Translation roots by seat, and the TLB, oldest first. -/
  roots    : List (Nat × Root) := []
  tlb      : List TlbEnt := []
  /-- Transfer contexts by number, the number of the next, and the chunk that each engine holds. -/
  xfers    : List (Nat × Xfer) := []
  nextXfer : Nat := 0
  engines  : List (Nat × Chunk) := []
  /-- Submission queues whose fetching a fault suspended: seat × 8 + queue (R404). -/
  fetchSusp : List Nat := []
  /-- The fault log: FLOG0, seat address, FLOG3 (R409). -/
  smuLog   : List (Word × Nat × Word) := []
  deriving DecidableEq, Repr, Inhabited

/-- A frame in the buffer of the switch (R412, R416): its bytes without FCS, ingress port and timestamp, VID, PCP, class,
colour, whether it came tagged, whether its FCS is good (cut-through may carry a bad one). -/
structure SwFrame where
  bytes  : List Byte
  inPort : Nat
  ts     : Nat
  vid    : Nat
  pcp    : Nat
  cls    : Nat
  /-- 0 green, 1 yellow, 2 red. -/
  colour : Nat := 0
  /-- DEI as the frame leaves tagged. -/
  dei    : Bool := false
  bad    : Bool := false
  /-- Untagged egress ports of its VID as it was classified (R414). -/
  untag  : Nat := 0
  deriving DecidableEq, Repr, Inhabited

/-- An egress copy in a queue: the frame, for SNIC the seat it goes to, and whether it lies in the spill region (R417). -/
structure SwCopy where
  frame : Nat
  seat  : Nat := 0
  spilled : Bool := false
  deriving DecidableEq, Repr, Inhabited

/-- An entry of the MAC table (R413, R432); `seen` is the second of the last refresh. -/
structure MacEnt where
  mac     : Nat
  vid     : Nat
  mask    : Nat
  static  : Bool := false
  discard : Bool := false
  /-- Bits [15] and [11:0] of `MAC.MTR`. -/
  mtr     : Word := 0
  seen    : Nat := 0
  deriving DecidableEq, Repr, Inhabited

/-- A VLAN entry (R433): members, untagged, flags. -/
structure VlanEnt where
  memb  : Nat := 0
  untag : Nat := 0
  flags : Nat := 0
  deriving DecidableEq, Repr, Inhabited

/-- A meter (R418, R419); its buckets in units of 1/8,000,000 byte, as of instant `at_`. -/
structure Meter where
  used : Bool := false
  cir  : Nat := 0
  pir  : Nat := 0
  cbs  : Nat := 0
  pbs  : Nat := 0
  mode : Word := 0
  tc   : Nat := 0
  tp   : Nat := 0
  at_  : Nat := 0
  cnt  : Nat × Nat × Nat := (0, 0, 0)
  deriving DecidableEq, Repr, Inhabited

/-- A frame being reassembled at a tunnel (R425): segments by number, and the number of the last. -/
structure TunAsm where
  tun   : Nat
  frame : Nat
  segs  : List (Nat × List Byte) := []
  last  : Option Nat := none
  deriving DecidableEq, Repr, Inhabited

/-- A seat NIC interface (R426, R427): its MAC, the indices of its rings, frames that wait for a receive descriptor with
their timestamps, and whether a translation fault has suspended transmission or reception. -/
structure Snic where
  mac : Nat := 0
  tx  : Nat := 0
  rx  : Nat := 0
  inbox  : List (List Byte × Nat) := []
  stopTx : Bool := false
  stopRx : Bool := false
  deriving DecidableEq, Repr, Inhabited

/-- The Ethernet switch beside its registers. -/
structure Switch where
  /-- The switch: frames by number, the number of the next, queues by port × 8 + class, their averages in 2^−16 cell
  (R420, log 11), queues that spill. -/
  swFrames : List (Nat × SwFrame) := []
  swNext   : Nat := 0
  swQueues : List (Nat × List SwCopy) := []
  swAvg    : List (Nat × Nat) := []
  swSpill  : List Nat := []
  /-- Bytes that the deficit round-robin of a queue may still send in its turn, by port × 8 + class (R435). -/
  swDeficit : List (Nat × Nat) := []
  macs     : List MacEnt := []
  /-- LEARN_FULL has been raised in this full condition (R413). -/
  macFull  : Bool := false
  vlans    : List (Nat × VlanEnt) := [(1, { memb := 2 ^ 22 - 1, untag := 2 ^ 22 - 1, flags := 3 })]
  meters   : List (Nat × Meter) := []
  /-- Selected frames since the last capture, by session (R424). -/
  mirSkip  : List (Nat × Nat) := []
  /-- Frames being reassembled, and the number of the next frame that a tunnel sends (R425). -/
  tunAsm   : List TunAsm := []
  tunNext  : List (Nat × Nat) := []
  snics    : List (Nat × Snic) := []
  /-- The class whose turn it is in the deficit round-robin of a port (R435). -/
  swTurn   : List (Nat × Nat) := []
  /-- Residence of two-step Sync messages that have left, newest first: egress port, source identity, sequence number
  and domain, residence in 2^−16 ns (R287, log 15). -/
  tcSync   : List (Nat × List Byte × Int) := []
  deriving DecidableEq, Repr, Inhabited

/-- What a CAN port holds beside its registers. -/
structure Can where
  /-- The transmit queue in arrival order, and the frame on the bus (R444). -/
  queue   : List CanFrame := []
  sending : Option CanFrame := none
  /-- The controller is OFF for Feather and has not resumed (R446); TEC above 255, and a recovery from it that has been
  started (R445). -/
  frozen  : Bool := false
  busOff  : Bool := false
  recovering : Bool := false
  /-- The wake configuration copied at Feather entry (R447): `WCFG`, then five words per filter. -/
  armed   : Option (Word × List Word) := none
  fec     : Nat := 0
  fecHigh : Bool := false
  /-- Matches in the confirmation window, and its end in ns (R450). -/
  matched : Nat := 0
  window  : Option Nat := none
  /-- Timebase ns of its latest wake (R453). -/
  wokeAt  : Option Nat := none
  deriving DecidableEq, Repr, Inhabited

/-- What a TIA-485 port holds beside its registers. -/
structure Ser where
  /-- Closed frames and the frame being written; the frame on the line, and the characters of it that the receiver has
  read back (R455, R457). -/
  closed  : List (List Nat) := []
  opened  : List Nat := []
  sending : Option (List Nat) := none
  echoed  : Nat := 0
  /-- Received characters, oldest first: character, parity, framing, last; descriptors: length, OVF, errors, first start
  bit (R456, R462). -/
  rx      : List (Nat × Bool × Bool × Bool) := []
  descs   : List (Nat × Bool × Bool × Nat) := []
  /-- The frame being received: its characters so far, OVF, errors, first start bit. -/
  cur     : Option (Nat × Bool × Bool × Nat) := none
  deriving DecidableEq, Repr, Inhabited

/-- A load switch at the field die (R481 to R487). -/
structure LsDyn where
  /-- 0 none, 4 RETRY_WAIT, 5 LATCHED, 6 THERM. -/
  prot  : Nat := 0
  /-- It waits for its stagger slot (R475). -/
  wait  : Bool := false
  /-- A retry fell due before that slot. -/
  due   : Bool := false
  rleft : Nat := 0
  fcode : Nat := 0
  on    : Bool := false
  inrush : Bool := false
  limiting : Bool := false
  /-- `CFG`, `RCFG` and `CMD.ON` in force: those of the last RUN while the page is stopped (R494). -/
  cfg   : Word := 0x00001964
  rcfg  : Word := 0x00000164
  cmd   : Bool := false
  /-- The commanded state at entry to FAILSAFE (R471). -/
  hold  : Bool := false
  deriving DecidableEq, Repr, Inhabited

/-- The content of a downstream frame (R466): sequence, `STALE`, state of page 0x0C0, commanded outputs and load
switches, stage-fault mask, commands, register writes. -/
structure DownFrame where
  seq    : Nat
  stale  : Bool := false
  pg     : Nat
  doCmd  : Nat
  lsCmd  : Nat
  mask   : Nat
  resume : Bool := false
  force  : Bool := false
  frst   : Bool := false
  writes : List (Nat × Word) := []
  deriving DecidableEq, Repr, Inhabited

/-- The content of an upstream frame (R466): echo, the field die's registers, edges (input, rising, ns), fired routes,
events as occurrences (page, bit), lost edges, `FRESET`, the state of page 0x0C0 it keeps. -/
structure UpFrame where
  echo   : Nat
  regs   : List (Nat × Word)
  edges  : List (Nat × Bool × Nat)
  fired  : Nat
  events : List (Nat × Nat)
  lost   : Nat
  freset : Bool
  pg     : Nat
  deriving DecidableEq, Repr, Inhabited

/-- The field die: domain F. -/
structure Field where
  /-- FV24 supplies it. -/
  alive  : Bool := true
  /-- Its own registers of pages 0x0C0 to 0x0C5 (canonical). -/
  regs   : List (Nat × Word) := []
  /-- The state of page 0x0C0 as the latest good downstream frame carries it, its sequence, good frames in a row. -/
  pg     : Nat := 1
  seq    : Nat := 0
  goodRun : Nat := 0
  ls     : List (Nat × LsDyn) := []
  /-- Digital outputs that wait for their slot, their commanded levels in force, `AUTO` in force. -/
  doWait : List Nat := []
  doCmd  : Nat := 0
  doAuto : Nat := 65535
  failsafe : Bool := false
  /-- FAILSAFE was entered through the watchdog (R489). -/
  byWdt  : Bool := false
  /-- Rails in under-voltage. -/
  uv     : List Nat := []
  mask   : Nat := 0
  test   : Bool := false
  /-- `ACT_LS` and `ACT_DO` of each route as of the last RUN of page 0x0C5 (R493). -/
  zones  : List (Nat × (Word × Word)) := []
  edges  : List (Nat × Bool × Nat) := []
  lost   : Nat := 0
  events : List (Nat × Nat) := []
  freset : Bool := false
  deriving DecidableEq, Repr, Inhabited

/-- The core's side of the field link: writes queued for the field die, each with whether it was made while page 0x0C0 was
stopped (R494), frames under way, the latest downstream frame, frames echoed in a row, sequence number, commanded
outputs and load switches, commands to send, missing frames in a row, good ones in a row, the copy loaded (R468), fired
routes as last reported, and `ACT_SL` and `OTHER` as copied at RUN of page 0x0C5 (R490). -/
structure FieldCore where
  queue   : List (Nat × (Word × Bool)) := []
  down    : Option DownFrame := none
  last    : Option DownFrame := none
  echoRun : Nat := 0
  up      : Option UpFrame := none
  seq     : Nat := 0
  doCmd   : Nat := 0
  lsCmd   : Nat := 0
  resume  : Bool := false
  force   : Bool := false
  frst    : Bool := false
  missing : Nat := 0
  good    : Nat := 0
  loaded  : Bool := false
  fired   : Nat := 0
  routes  : List (Nat × (Nat × Word)) := []
  deriving DecidableEq, Repr, Inhabited

/-- One half of a key slot (R505, R507): type, usage, parent, its generation at load, depth below the domain, identifier,
material. -/
structure KeyHalf where
  typ    : Nat
  usage  : Nat
  parent : Nat := 0
  pgen   : Nat := 0
  depth  : Nat := 0
  kid    : Nat := 0
  mat    : List Byte := []
  /-- The first 32 bytes of the SHA-512 of the praline last exported from it (R510). -/
  digest : List Byte := List.replicate 32 0
  deriving DecidableEq, Repr, Inhabited

/-- A key slot. -/
structure KeySlot where
  cur  : Option KeyHalf := none
  pend : Option KeyHalf := none
  orph : Bool := false
  deriving DecidableEq, Repr, Inhabited

/-- A record of the key journal (R513). -/
structure KeyRec where
  seq    : Nat
  kind   : Nat
  slot   : Nat
  gen    : Nat
  kid    : Nat := 0
  parent : Nat := 0
  pgen   : Nat := 0
  digest : List Byte := List.replicate 32 0
  deriving DecidableEq, Repr, Inhabited

/-- The key-store command under way: op, slot, and the status and output length that it will show; for COMMIT and
INVALIDATE they are decided when the journal write ends. -/
structure KeyOp where
  op     : Nat
  slot   : Nat
  status : Option Nat
  outlen : Nat := 0
  deriving DecidableEq, Repr, Inhabited

/-- The crypto job under way: its status, and what it writes to device DRAM and to registers (R516). -/
structure CryJob where
  status : Nat
  mem    : Option (Nat × List Byte) := none
  regs   : List (Nat × Word) := []
  deriving DecidableEq, Repr, Inhabited

/-- The key store, the crypto engines, attestation and authentication beside their registers. -/
structure Keys where
  /-- The key slots 0 to 63, their generations (domain N), the key journal, newest first, commands and jobs under way,
  and the keys refused until domain D is cleared, after debug level 2 (R520). -/
  keys     : List (Nat × KeySlot) := []
  keyGens  : List (Nat × Nat) := []
  keyJournal : List KeyRec := []
  keyOp    : Option KeyOp := none
  keyShut  : Bool := false
  cryJob   : Option CryJob := none
  /-- The attestation report under way; debug level 2 waits for what is under way (R521). -/
  attBusy  : Bool := false
  debugDue : Bool := false
  /-- Words of `KEY.BUF` that an EXPORT has written and no read has taken yet (R522). -/
  bufLeft  : List Nat := []
  /-- The nonce and its instant in seconds; consecutive failures; the throttle (R518). -/
  authNonce : Option (Nat × Nat) := none
  authFails : Nat := 0
  authShut  : Bool := false
  /-- The owner's fuses OKH that this device has burnt itself (R519). -/
  okh      : Option (List Byte) := none
  deriving DecidableEq, Repr, Inhabited

/-- What a check-value unit holds beside its registers (R525 to R533). -/
structure Cvu where
  isOpen : Bool := false
  /-- The division register, and the bytes of the open frame, at most 256 of them. -/
  reg    : Nat := 0
  bytes  : List Byte := []
  /-- The previous alive value accepted since RUN (R531). -/
  prev   : Option Nat := none
  /-- The seat that owned the unit last (R533). -/
  owner  : Nat := 0
  deriving DecidableEq, Repr, Inhabited

/-- What the reset controller and the power controller hold beside their registers. -/
structure Power where
  /-- The cause of a reset between its trigger and the clearing of domain D; domain D is held cleared. -/
  cause   : Option Nat := none
  held    : Bool := false
  /-- The device is in, or on its way to, the Backup state (R562). -/
  backup  : Bool := false
  /-- A wake source met during the entry to Backup (R564). -/
  wake    : Option Nat := none
  /-- The instant of the latest management restart in seconds. -/
  restart : Option Nat := none
  /-- The active management core pair, and those marked failed. -/
  pair    : Nat := 0
  failed  : List Nat := []
  /-- REC_RESTART has completed and its reset is due (R572). -/
  recDue  : Bool := false
  /-- `PWR.BLOCK` as last reported by FEATHER_BLOCKED. -/
  blocked : Nat := 0
  /-- The code of the latest failed start (R567). -/
  lastFail : Nat := 0
  /-- Supplies that are valid, by the bits of `PWR.SUPPLY` but 5 and 6, which the dies hold (R554). -/
  supply  : Nat := 0x9F
  /-- The part of a unit of `BK_SUB` that the backup counter has counted, in 2^−15 ns (R294). -/
  bkFrac  : Nat := 0
  /-- The instant of the latest entry to Feather and the time spent in it, in ns (R575). -/
  featherFrom : Nat := 0
  featherNs   : Nat := 0
  /-- Whole seconds since operating seconds were last added to the life store (R581). -/
  opSec : Nat := 0
  /-- The reset records of the life store, newest first: cause, timebase seconds, `FAILS` (R548, R578). -/
  records : List (Nat × Nat × Nat) := []
  deriving DecidableEq, Repr, Inhabited

/-- Life-store totals fed from counters, and the source values last added (R581). -/
structure LifeTot where
  tot : List Nat := []
  src : List Nat := []
  deriving DecidableEq, Repr, Inhabited

/-- A crumb summary slot of the life store (R586 to R589). -/
structure Crumb where
  valid : Bool := false
  seq   : Nat := 0
  words : List Word := []
  deriving DecidableEq, Repr, Inhabited

/-- What leaves the device. -/
inductive Out where
  /-- An MSI-X message of a port's table entry. -/
  | msix (port entry : Nat)
  /-- The 84 data characters of a stage-link frame (R254). -/
  | stageFrame (link : Nat) (bytes : List Byte)
  /-- A packet leaves on a Bruil link (R309), its first flit with an `LSEQ`. -/
  | packet (link lseq : Nat) (p : Packet)
  /-- A link-local flit: an acknowledgement with `ACK` and `NAK` (R313), an identity (R306), DEPART (R303), a TIME flit
  (R321) with its launch and the arrival of the peer's previous one, a wake beacon (R327). -/
  | bruilAck (link ack : Nat) (nak : Bool)
  | bruilIdent (link : Nat) (p : Peer)
  | bruilDepart (link : Nat)
  | timeFlit (link launch : Nat) (arrival : Option Nat) (servo depth : Nat)
  | beacon (link dev : Nat)
  /-- A window access ends toward its requester with a code of R339 and the data of a read. -/
  | winDone (port init code : Nat) (data : List Byte)
  /-- A read request of an engine to host memory: port, bus address, bytes; and a write to a bus address. -/
  | hostRead (port addr len : Nat)
  | busWrite (port addr : Nat) (data : List Byte)
  /-- A frame leaves an Ethernet port, MGMT (20) or, for the firmware, E0 (R410, R571); `good`: its FCS is right. -/
  | ethFrame (port : Nat) (bytes : List Byte) (good : Bool)
  /-- A downstream frame of the field link (R466). -/
  | fieldDown (f : DownFrame)
  deriving DecidableEq, Repr

/-- The state of the block. -/
structure State where
  /-- The part (R1): fixed, never cleared. -/
  part     : Part := .yk2561
  /-- The identity straps, sampled when domain D is released (R604). -/
  straps   : Nat := 0
  /-- Every register of the CTRL and SEAT windows whose value is not its reset value, by offset (canonical). -/
  regs     : List (Nat × Word) := []
  /-- Uses of free values so far: the model's own (log 2). -/
  free     : Nat := 0
  /-- What the device has sent, newest first: the model's own (log 4). -/
  out      : List Out := []
  /-- The smallest slack of the window of R37, whether a class missed in it, and the windows above LOWER. -/
  winSlack : Nat := 65535
  winMiss  : Bool := false
  lowRun   : Nat := 0
  /-- Pages in STARTING that have been told to STOP (R58). -/
  stopAsked : List Nat := []
  /-- Per-channel state (R62 to R219). -/
  chans    : List (Nat × Chan) := []
  /-- The measure dies A (0) and B (1). -/
  dies     : List (Nat × Die) := []
  /-- The calibration journal of the life store, newest first, and whether it is readable (R94, R109). -/
  calJournal : List CalRecord := []
  calReadable : Bool := true
  /-- The stroke count since the loop engine entered RUNNING (R116). -/
  strokes  : Nat := 0
  /-- The instant in ns at which the loop engine entered RUNNING (R152). -/
  loopFrom : Nat := 0
  /-- The gain sets in use: KP, KI, CC, SLEW of each set that has been committed (R131). -/
  gains    : List (Nat × List Word) := []
  /-- Gain sets to commit at the next stroke boundary (R131). -/
  gainReq  : Word := 0
  /-- The slot directory and the entry words of the step store (R157). -/
  slots    : List (Nat × Slot) := []
  store    : List (Nat × Word) := []
  progOp   : Option ProgOp := none
  /-- The sweep tables (R187), the table op in progress, and the result store, at channel × 64 + point (R207). -/
  sweeps   : List (Nat × Sweep) := []
  eisOp    : Option (Nat × Nat) := none
  eisRes   : List (Nat × EisRes) := []
  /-- REST_TREND records held per die in Feather, oldest first (R214). -/
  trendPend : List (Nat × List Record) := []
  /-- Crew entries (R220), crews coordinated here by identifier (R224), reduction contexts (R232). -/
  crews    : List (Nat × Crew) := []
  coords   : List (Nat × Coord) := []
  reds     : List (Nat × Red) := []
  /-- Grade criteria at table × 64 + bin × 4 + criterion, and rank sources by table (R234). -/
  crits    : List (Nat × Crit) := []
  ranksrc  : List (Nat × Word) := []
  /-- Staging, oldest first (R239). -/
  staging  : List Staged := []
  /-- The stage links. -/
  links    : List (Nat × Link) := []
  /-- TB.INC_LO as staged (R277), FRAC of the counter, a pending step (s in ns, instant of the request) (R280), and the
  values that a read of TB.SEC_LO latched (R278). -/
  incStage : Word := 0
  stepPend : Option (Int × Nat) := none
  tbLatch  : Nat × Nat × Word := (0, 0, 0)
  servo    : Servo := {}
  /-- Slots whose TIO_OUT pulse is running, and whether active low (R290). -/
  tioOut   : List (Nat × Bool) := []
  /-- FIFO of each catch unit, oldest first: seconds, nanoseconds, rising (R292). -/
  catFifo  : List (Nat × List (Nat × Nat × Bool)) := []
  /-- Next instant of an ARMED slot in ns, and whether an instant passed with its work not ready (R291). -/
  slotNext : List (Nat × (Nat × Bool)) := []
  /-- The Bruil fabric beside its registers. -/
  fab : Fab := {}
  /-- The window and message bridges beside their registers. -/
  brg : Bridges := {}
  /-- The seats. -/
  seats    : List (Nat × Seat) := []
  mbx      : Option Mbx := none
  /-- The latest sixteen mailbox commands, newest first: their words, status and time in ns (R586). -/
  mbxLog   : List (List Word × Nat × Nat) := []
  /-- MSI-X entries at port × 512 + entry (R385). -/
  msix     : List (Nat × MsixEntry) := []
  /-- Owners of granted resources other than channels, by kind × 256 + index: the seat, and whether the grant is orphaned
  (R375, R380). -/
  owners   : List (Nat × (Nat × Bool)) := []
  /-- The DMA engines, the seat map unit and device DRAM beside their registers. -/
  dma : Dma := {}
  /-- The Ethernet switch beside its registers. -/
  sw : Switch := {}
  /-- The CAN and TIA-485 ports, and messages that have reached the message bridge, oldest first (R350): source,
  identifier, data, time in ns. -/
  cans     : List (Nat × Can) := []
  sers     : List (Nat × Ser) := []
  mbIn     : List (MsgSrc × Nat × List Byte × Nat) := []
  /-- The instant in ns at which the awake timer expires, and a CAN wake that has not yet started it (R452). -/
  awake    : Option Nat := none
  awakeDue : Bool := false
  /-- The field die, and the core's side of the field link. -/
  field    : Field := {}
  fc       : FieldCore := {}
  /-- The key store, the crypto engines, attestation and authentication beside their registers. -/
  key : Keys := {}
  /-- The check-value units. -/
  cvus     : List (Nat × Cvu) := []
  /-- Opportunities passed over per page since the point was armed (R541), the firing log, oldest first (R539), and
  the instant at which the timed global arm expires, in seconds (R542). -/
  injPassed : List (Nat × Nat) := []
  injLog   : List (Word × Nat) := []
  injEnd   : Option Nat := none
  power    : Power := {}
  /-- The boot flash: bytes that are not erased (0xFF), by address over both banks, and the 256-byte pages written since
  their erase (R500, R572). -/
  flash    : List (Nat × Byte) := []
  flashPages : List Nat := []
  /-- Life-store totals per channel (QCHG, QDIS, ECHG, EDIS), load switch and link record (R581, R582). -/
  lifeCh   : List (Nat × LifeTot) := []
  lifeLs   : List (Nat × LifeTot) := []
  lifeLink : List (Nat × LifeTot) := []
  /-- Leap-second entries by index: second and offset (R583). -/
  leaps    : List (Nat × (Nat × Int)) := []
  /-- The crumb summary slots, the sequence number of the latest crumb and of the newest at the previous release
  (R586 to R589). -/
  crumbs   : List (Nat × Crumb) := []
  crumbSeq : Nat := 0
  crumbSeen : Nat := 0
  /-- Journals being compacted: 0 calibration, 1 key (R580). -/
  compacting : List Nat := []
  /-- Commands that wait, first in first out. -/
  pending  : List Instr := []
  deriving DecidableEq, Repr

/-- Why a step can stop with a fault. -/
inductive Fault where
  /-- Raised by every meaning for a command that is not well formed: it names a channel, page, link, seat or unit
  number that no part has, or data of the wrong length. The manual has no such command. Safe: the model stops where
  the hardware has nothing to do. -/
  | illFormed
  deriving DecidableEq, Repr

/-- Why a step can be refused. -/
inductive Refusal where
  /-- Raised by an arm of exec without a meaning yet. Safe. -/
  | notModelled (mnemonic : String)
  deriving DecidableEq, Repr

/-- The answer of a meaning. -/
abbrev Answer := Host.Outcome State Fault Refusal

/-- The state right after reset: every register at its reset value, every list empty, no command waiting. Where the
manual gives a register no reset value the default of its field is named in the assumption log. -/
def State.reset : State := {}

end Sys2Proof.Machine
end

