-- ==== Sys2Proof/Machine/Ops.lean ====
section
/-!
DEFINITION. The named operations over the state: sparse tables in canonical form, the parts and their units, register
and field access, the timebase's instant, host writes, MSI-X messages, event entries, and page faults.
-/
namespace Sys2Proof.Machine

/-! ### Sparse tables: keys rising, first match counts -/

/-- The entry of a key. -/
def Sparse.find? {α : Type} : List (Nat × α) → Nat → Option α
  | [], _ => none
  | (k, v) :: t, j => if k = j then some v else Sparse.find? t j

/-- The table with the entry of key `j` set, keys kept rising. -/
def Sparse.insert {α : Type} : List (Nat × α) → Nat → α → List (Nat × α)
  | [], j, x => [(j, x)]
  | (k, v) :: t, j, x =>
    if j < k then (j, x) :: (k, v) :: t
    else if j = k then (j, x) :: t
    else (k, v) :: Sparse.insert t j x

/-- The table without key `j`. -/
def Sparse.erase {α : Type} (m : List (Nat × α)) (j : Nat) : List (Nat × α) :=
  m.filter fun e => e.1 != j

/-- The entry of a key, or what an unlisted key reads as. -/
def Sparse.get {α : Type} (d : α) (m : List (Nat × α)) (j : Nat) : α := (Sparse.find? m j).getD d

/-- A write that keeps the canonical form: the value an unlisted key reads as removes the entry. -/
def Sparse.set {α : Type} [DecidableEq α] (d : α) (m : List (Nat × α)) (j : Nat) (x : α) : List (Nat × α) :=
  if x = d then Sparse.erase m j else Sparse.insert m j x

/-- Keys strictly rising. -/
def Sparse.rising {α : Type} : List (Nat × α) → Bool
  | [] => true
  | [_] => true
  | (k, _) :: (k', v') :: t => decide (k < k') && Sparse.rising ((k', v') :: t)

/-! ### Parts, pages and units (R1, R8, R9, R635) -/

/-- Channels of a part (R1). -/
def Part.channels : Part → Nat
  | .yk2561 => 256
  | .yk1281 => 128
  | .yk2560 => 256
  | .yk0001 => 0

/-- The part has the switch core (R1). -/
def Part.hasSwitch : Part → Bool
  | .yk2560 => false
  | _ => true

/-- The part has the EIS engine (R1). -/
def Part.hasEis : Part → Bool
  | .yk0001 => false
  | _ => true

/-- R6: `DEV.PARTNUM`, `DEV.CAPS`, `DEV.CAPSX`. -/
def Part.partnum : Part → Word
  | .yk2561 => 0x1FD32561
  | .yk1281 => 0x1FD31281
  | .yk2560 => 0x1FD32560
  | .yk0001 => 0x1FD30001

def Part.caps : Part → Word
  | .yk2561 => 0xFFFFFFFF
  | .yk1281 => 0xDFFF00FF
  | .yk2560 => 0xB003FFFF
  | .yk0001 => 0x4FFF0000

def Part.capsx : Part → Word
  | .yk2560 => 0x00FFFF0F
  | _ => 0x00FFFF07

/-- R9: the implemented pages that a part lacks. -/
def Part.lacks (p : Part) (page : Nat) : Bool :=
  match p with
  | .yk2561 => false
  | .yk1281 =>
    page == 0x011 || page == 0x013 || (0x028 ≤ page && page ≤ 0x02F) || (0x048 ≤ page && page ≤ 0x04F)
  | .yk2560 => 0x0A1 ≤ page && page ≤ 0x0AF
  | .yk0001 =>
    (0x010 ≤ page && page ≤ 0x013) || (0x020 ≤ page && page ≤ 0x031) ||
    (0x034 ≤ page && page ≤ 0x038) || (0x040 ≤ page && page ≤ 0x04F)

/-- The page kind of R635 that a page belongs to. -/
def pageRow (page : Nat) : Option PageRow :=
  RegMap.pages.find? fun r => decide (r.first ≤ page) && decide (page < r.first + r.count)

/-- An implemented page that the part has (R8, R9, R635). -/
def Part.hasPage (p : Part) (page : Nat) : Bool :=
  (pageRow page).isSome && !p.lacks page

/-- A page that follows R57 to R61. -/
def pageLife (page : Nat) : Bool :=
  match pageRow page with
  | some r => r.life
  | none => false

/-- The register map row that an offset of a map falls in. -/
def rowHit (r : RegRow) (off : Nat) : Bool :=
  decide (r.off ≤ off) &&
  (if r.stride = 0 then decide (off < r.off + 4 * r.words)
   else decide ((off - r.off) / r.stride < r.count) && decide ((off - r.off) % r.stride < 4 * r.words))

/-- The register map row of an address: a header register, a block register, or a register of a seat aperture. -/
def regRow (a : Nat) : Option RegRow :=
  if a < 0x100000 then
    if a % 0x1000 < 0x40 then RegMap.header.find? fun r => rowHit r (a % 0x1000)
    else
      match pageRow (a / 0x1000) with
      | some r => r.rows.find? fun x => rowHit x (a % 0x1000)
      | none => none
  else if a < 0x500000 then RegMap.seatRows.find? fun r => rowHit r (a % 0x10000)
  else none

/-- R634: `PG_ID` of a present page. -/
def pgId (part : Part) (page : Nat) : Word :=
  match pageRow page with
  | some r =>
    BitVec.ofNat 32 ((0x100 + r.first) * 0x10000 + (page - r.first) * 0x100 +
      (if page = 0x0A0 && part == .yk2560 then 1 else 0))
  | none => 0

/-- The value a register reads when nothing has written it since its domain was cleared (R24): the Reset column, or
what the words "variant", "strap" and "fuse" stand for. -/
def resetValue (part : Part) (straps a : Nat) : Word :=
  if a < 0x100000 && !part.hasPage (a / 0x1000) then 0
  else if a = Reg.DEV_PARTNUM then part.partnum
  else if a = Reg.DEV_CAPS then part.caps
  else if a = Reg.DEV_CAPSX then part.capsx
  else if a < 0x100000 && a % 0x1000 = 0 then pgId part (a / 0x1000)
  else if a < 0x100000 && a % 0x1000 = 0x010 then (if pageLife (a / 0x1000) then 1 else 3)
  else if a = Reg.ST_STAT 0 then 0x0000FF01
  else if a = Reg.RT_ID then BitVec.ofNat 32 (straps % 512 * 65537 + 512)
  else if a = Reg.PTP_TC then (if part.hasSwitch then 1 else 0)
  else if a = Reg.CAL_VSRC 0 || a = Reg.CAL_VSRC 1 || a = Reg.CAL_ISRC 0 || a = Reg.CAL_ISRC 1 ||
      a = Reg.CAL_RREF10K 0 || a = Reg.CAL_RREF10K 1 || a = Reg.CAL_RREF1K 0 || a = Reg.CAL_RREF1K 1 ||
      a = Reg.KEY_FUSE then Config.fuse a
  else
    match regRow a with
    | some r => r.reset
    | none => 0

/-! ### Registers and fields -/

/-- The value a register holds. -/
def State.rd (s : State) (a : Nat) : Word := Sparse.get (resetValue s.part s.straps a) s.regs a

/-- The state with a register holding `v`. -/
def State.wr (s : State) (a : Nat) (v : Word) : State :=
  { s with regs := Sparse.set (resetValue s.part s.straps a) s.regs a v }

/-- The state with a register holding a number, cut to 32 bits. -/
def State.wrN (s : State) (a v : Nat) : State := s.wr a (BitVec.ofNat 32 v)

/-- The state with a register holding a two's complement number. -/
def State.wrI (s : State) (a : Nat) (v : Int) : State := s.wr a (BitVec.ofInt 32 v)

/-- A register as a two's complement number. -/
def State.rdI (s : State) (a : Nat) : Int := (s.rd a).toInt

/-- The field [hi:lo] of a register. -/
def State.get (s : State) (a hi lo : Nat) : Nat := (s.rd a).fld hi lo

/-- The state with the field [hi:lo] of a register holding `v`. -/
def State.put (s : State) (a hi lo v : Nat) : State := s.wr a ((s.rd a).setFld hi lo v)

/-- The field [hi:lo] of a register as a two's complement number. -/
def State.getI (s : State) (a hi lo : Nat) : Int := Word.signed (hi + 1 - lo) (s.get a hi lo)

/-- Bit `i` of a register. -/
def State.bit (s : State) (a i : Nat) : Bool := (s.rd a).getLsbD i

/-- The state with bit `i` of a register set or cleared. -/
def State.setBit (s : State) (a i : Nat) (b : Bool) : State := s.put a i i b.toNat

/-- The state with a counter field [hi:lo] raised by `n`, saturating. -/
def State.count (s : State) (a hi lo : Nat) (n : Nat := 1) : State :=
  s.put a hi lo (min (s.get a hi lo + n) (2 ^ (hi + 1 - lo) - 1))

/-- A 64-bit value in two words, the least significant at the lower offset (R17). -/
def State.rd64 (s : State) (lo hi : Nat) : Nat := (s.rd lo).toNat + 2 ^ 32 * (s.rd hi).toNat

/-- The state with a 64-bit value in two words. -/
def State.wr64 (s : State) (lo hi v : Nat) : State := (s.wrN lo v).wrN hi (v / 2 ^ 32)

/-- `f` when a condition holds. -/
def State.when (s : State) (c : Bool) (f : State → State) : State := if c then f s else s

/-- `f` for each item of a list, in order. -/
def State.each {α : Type} (s : State) (l : List α) (f : State → α → State) : State := l.foldl f s

/-- A fresh free word (log 2). -/
def State.freeWord (s : State) : Word := Config.freeWord s.free

/-- The free values used once more. -/
def State.useFree (s : State) : State := { s with free := s.free + 1 }

/-- Something leaves the device. -/
def State.send (s : State) (o : Out) : State := { s with out := o :: s.out }

/-- Life-cycle state of a page: `PG_STAT.STATE` (R52). -/
def State.pg (s : State) (p : Nat) : Nat := s.get (Reg.PG_STAT p) 2 0

def State.running (s : State) (p : Nat) : Bool := s.pg p == 3

/-- The part has the page. -/
def State.has (s : State) (p : Nat) : Bool := s.part.hasPage p

/-- The part has the channel. -/
def State.hasCh (s : State) (k : Nat) : Bool := decide (k < s.part.channels)

/-- The part has the measure die. -/
def State.hasDie (s : State) (d : Nat) : Bool := decide (128 * d < s.part.channels)

/-- The part has the stage link. -/
def State.hasLink (s : State) (n : Nat) : Bool := decide (16 * n < s.part.channels)

/-- The channels of the part. -/
def State.channels (s : State) : List Nat := List.range s.part.channels

/-! ### Channels, dies, links, seats -/

def State.ch (s : State) (k : Nat) : Chan := Sparse.get {} s.chans k
def State.setCh (s : State) (k : Nat) (c : Chan) : State := { s with chans := Sparse.insert s.chans k c }
def State.modCh (s : State) (k : Nat) (f : Chan → Chan) : State := s.setCh k (f (s.ch k))
def State.ctl (s : State) (k : Nat) : Ctl := (s.ch k).ctl
def State.modCtl (s : State) (k : Nat) (f : Ctl → Ctl) : State := s.modCh k fun c => { c with ctl := f c.ctl }
def State.prog (s : State) (k : Nat) : Prog := (s.ch k).prog
def State.modProg (s : State) (k : Nat) (f : Prog → Prog) : State := s.modCh k fun c => { c with prog := f c.prog }
def State.chMeas (s : State) (k : Nat) : ChanMeas := (s.ch k).meas
def State.modMeas (s : State) (k : Nat) (f : ChanMeas → ChanMeas) : State :=
  s.modCh k fun c => { c with meas := f c.meas }
def State.eis (s : State) (k : Nat) : EisRun := (s.ch k).eis
def State.modEis (s : State) (k : Nat) (f : EisRun → EisRun) : State := s.modCh k fun c => { c with eis := f c.eis }
def State.trend (s : State) (k : Nat) : Trend := (s.ch k).trend
def State.modTrend (s : State) (k : Nat) (f : Trend → Trend) : State :=
  s.modCh k fun c => { c with trend := f c.trend }
def State.die (s : State) (d : Nat) : Die := Sparse.get {} s.dies d
def State.modDie (s : State) (d : Nat) (f : Die → Die) : State :=
  { s with dies := Sparse.insert s.dies d (f (s.die d)) }
def State.link (s : State) (n : Nat) : Link := Sparse.get {} s.links n
def State.modLink (s : State) (n : Nat) (f : Link → Link) : State :=
  { s with links := Sparse.insert s.links n (f (s.link n)) }
def State.seat (s : State) (i : Nat) : Seat := Sparse.get {} s.seats i
def State.modSeat (s : State) (i : Nat) (f : Seat → Seat) : State :=
  { s with seats := Sparse.insert s.seats i (f (s.seat i)) }

/-- Page of the measure die of a channel; its local number (R104). -/
def measPage (k : Nat) : Nat := 0x010 + k / 128
def mstat (k : Nat) : Nat := Reg.MEAS_MSTAT (k / 128) (k % 128)
def mcfg (k : Nat) : Nat := Reg.MEAS_MCFG (k / 128) (k % 128)
def kres (k : Nat) : Nat := Reg.MEAS_KRES (k / 128) (k % 128)
def mtemp (k : Nat) : Nat := Reg.MEAS_MTEMP (k / 128) (k % 128)
/-- Page of a channel (R153) and of its stage link (R271). -/
def chPage (k : Nat) : Nat := 0x020 + k / 16
def slPage (k : Nat) : Nat := 0x040 + k / 16

/-- State and mode of a channel (R156). -/
def State.chState (s : State) (k : Nat) : Nat := s.get (Reg.CH_STAT k) 2 0
def State.chMode (s : State) (k : Nat) : Nat := s.get (Reg.CH_STAT k) 7 4
def State.chOwner (s : State) (k : Nat) : Nat := s.get (Reg.CH_CFG k) 29 24

/-! ### The timebase's instant -/

/-- Seconds and nanoseconds of the timebase counter (R277, R296). -/
def State.tbSec (s : State) : Nat := s.rd64 Reg.TB_SEC_LO Reg.TB_SEC_HI
def State.tbNs (s : State) : Nat := (s.rd Reg.TB_NS).toNat

/-- The present instant in timebase nanoseconds (R236). -/
def State.now (s : State) : Nat := s.tbSec * 1000000000 + s.tbNs

/-- The strobe index of the latest base strobe instant (R65). -/
def State.strobeIdx (s : State) : Nat := s.tbSec * 62500 + s.tbNs / 16000

/-- The frame index of R252. -/
def State.frameIdx (s : State) : Nat := s.tbSec * 125000 + s.tbNs / 8000

/-- The instant of a strobe index, in timebase nanoseconds. -/
def strobeNs (idx : Nat) : Nat := idx * 16000

/-- The device is in the Feather state (`PWR.STATE`, R575). -/
def State.feather (s : State) : Bool := s.get Reg.PWR_STATE 1 0 == 2

/-- From a reset trigger to the release of domain D every island but the timebase stops launching (R548). -/
def State.halted (s : State) : Bool := s.power.cause.isSome || s.power.held

/-! ### Launch classes (R31, R32, R40) -/

/-- A launch of class `cls` with its slack in ticks. -/
def State.launch (s : State) (cls slack : Nat) : State :=
  let a := Reg.PWR_SLACK cls
  let s := s.put a 15 0 (min (s.get a 15 0) slack)
  { s with winSlack := min s.winSlack slack }

/-- A miss of class `cls`. -/
def State.missLaunch (s : State) (cls : Nat) : State :=
  let s := s.count (Reg.PWR_SLACK cls) 31 16
  { s with winMiss := true }

/-! ### Host writes and MSI-X messages (R359, R385) -/

/-- State and port of a seat (R387). -/
def State.seatState (s : State) (i : Nat) : Nat := s.get (Reg.ST_STAT i) 2 0
def State.seatPort (s : State) (i : Nat) : Nat := s.get (Reg.ST_STAT i) 4 4
def State.seatShare (s : State) (i : Nat) : Nat := s.get (Reg.ST_STAT i) 15 8

/-- A port is not down (R358, R388). -/
def State.portUp (s : State) (p : Nat) : Bool := s.bit (Reg.PCIE_LSTAT p) 0

/-- Device-initiated traffic of the seat flows: ACTIVE, its port up (R359). -/
def State.flows (s : State) (i : Nat) : Bool := s.seatState i == 1 && s.portUp (s.seatPort i)

/-- A write to the memory of seat `i`, or an MSI-X message of it, waits for the queue engine (R359, R404). -/
def State.queueWrite (s : State) (i : Nat) (w : QWrite) : State :=
  s.modSeat i fun t => if w.kind == 0 && t.qout.contains w then t else { t with qout := t.qout ++ [w] }

def State.msixEntry (s : State) (p e : Nat) : MsixEntry := Sparse.get {} s.msix (p * 512 + e)
def State.setMsix (s : State) (p e : Nat) (m : MsixEntry) : State :=
  { s with msix := Sparse.insert s.msix (p * 512 + e) m }

/-- An MSI-X message of seat `i` on its vector `v`, on its own (R385). -/
def State.msixSend (s : State) (i v : Nat) : State := s.queueWrite i { kind := 0, vec := some v }

/-! ### Queues of entries (R362) -/

def OutQ.room (q : OutQ) : Bool := decide (q.live.length + 1 < q.depth)

/-- The queue after one more entry of `bytes`, written at its tail; the phase inverts on a wrap. -/
def OutQ.push (q : OutQ) (bytes : List Byte) : OutQ :=
  let t := q.tail + 1
  let wrap := decide (q.depth ≤ t)
  { q with
    tail := if wrap then 0 else t
    phase := if wrap then !q.phase else q.phase
    live := q.live ++ [(q.tail, bytes)] }

/-- The 32 bytes of an event entry (R370): type, source bits, phase, `SEQ`, bytes 4 to 31. -/
def eventBytes (typ src : Nat) (phase : Bool) (seq : Nat) (rest : List Byte) : List Byte :=
  [BitVec.ofNat 8 typ, BitVec.ofNat 8 (phase.toNat + 2 * src)] ++ leBytes 2 seq ++ rest

/-- One entry of type `typ` written to the event queue of seat `i`, room taken for granted. -/
def State.eqPush (s : State) (i typ src : Nat) (rest : List Byte) : State :=
  match (s.seat i).eq with
  | none => s
  | some q =>
    let b := eventBytes typ src q.phase (s.seat i).seq rest
    (s.modSeat i fun t => { t with eq := some (q.push b), seq := (t.seq + 1) % 65536 }).queueWrite i
      { kind := 2, addr := q.base + 32 * q.tail, data := b }

/-- An MSI-X message that follows the entries written to the event queue so far (R385). -/
def State.eqMsix (s : State) (i v : Nat) : State := s.queueWrite i { kind := 2, vec := some v }

/-- The entry, and the MSI-X message of the queue's vector. -/
def State.eqWrite (s : State) (i typ src : Nat) (rest : List Byte) : State :=
  match (s.seat i).eq with
  | none => s
  | some q => (s.eqPush i typ src rest).eqMsix i q.vec

/-- An entry lost to a full event queue (R372). -/
def State.eqLose (s : State) (i : Nat) : State :=
  let s := s.count (Reg.SA_EV_LOST i) 31 0
  let s := s.count (Reg.ST_EVLOST i) 31 0
  s.modSeat i fun t => { t with evLost := t.evLost + 1, seq := (t.seq + 1) % 65536 }

def State.eqRoom (s : State) (i : Nat) : Bool :=
  match (s.seat i).eq with
  | some q => q.room
  | none => false

/-- EV_OVERFLOW, the first entry written when room returns (R371 code 8, R372). -/
def State.eqOverflow (s : State) (i : Nat) : State :=
  if (s.seat i).evLost = 0 || !s.eqRoom i then s
  else
    let n := (s.seat i).evLost
    let s := s.modSeat i fun t => { t with evLost := 0 }
    if s.bit (Reg.SA_EV_EN i) 8 then
      s.eqWrite i 5 0 (leBytes 8 s.now ++ [8, 0] ++ [0, 0] ++ leBytes 4 n ++ leBytes 12 0)
    else s

/-- An event entry for seat `i`: time and 20 bytes of body (R370, R372). -/
def State.postEvent (s : State) (i typ src : Nat) (body : List Byte) : State :=
  if (s.seat i).eq.isNone then s
  else
    let s := s.eqOverflow i
    if s.eqRoom i then s.eqWrite i typ src (leBytes 8 s.now ++ body) else s.eqLose i

/-- A seat event of R371 with its arguments from byte 14 on. -/
def State.seatEvent (s : State) (i code : Nat) (args : List Byte) : State :=
  if s.bit (Reg.SA_EV_EN i) code then
    s.postEvent i 5 0 ([BitVec.ofNat 8 code, 0] ++ (args ++ leBytes 18 0).take 18)
  else s

/-- The seat takes event entries (R639). -/
def State.eqAccepts (s : State) (i : Nat) : Bool :=
  (s.seatState i == 1 || s.seatState i == 2) && (s.seat i).eq.isSome

/-! ### Page events (R53, R54, R639) -/

def State.evout (s : State) (p : Nat) : Word := s.rd (Reg.PG_EVRAW p) &&& s.rd (Reg.PG_EVMASK p)

/-- One rising bit of `PG_EVOUT` of page `p` is routed (R639). -/
def State.route (s : State) (p : Nat) : State :=
  let r := s.rd (Reg.EVT_ROUTE p)
  let i := if r.getLsbD 5 then 0 else s.get (Reg.PG_OWNER p) 5 0
  let s := s.wrN Reg.EVT_LAST (2 ^ 31 + i * 256 + p)
  if s.eqAccepts i then
    let body := leBytes 2 p ++ leBytes 2 (s.get (Reg.PG_FAULT p) 15 0) ++ leBytes 4 (s.evout p).toNat ++ leBytes 12 0
    let s := s.when (r.getLsbD 3) fun s => s.postEvent i 1 0 body
    s.when (r.getLsbD 4) fun s => s.eqMsix i (r.fld 2 0)
  else
    let s := s.when (r.getLsbD 3) fun s => s.count Reg.EVT_DROP 15 0
    s.when (r.getLsbD 4) fun s => s.count Reg.EVT_DROP 31 16

/-- The bits that are set in a word, lowest first. -/
def bitsOf (w : Word) : List Nat := (List.range 32).filter fun i => w.getLsbD i

/-- A new raw event word and mask of page `p`: each bit of `PG_EVOUT` that rises is routed. -/
def State.setEvents (s : State) (p : Nat) (raw mask : Word) : State :=
  let old := s.evout p
  let s := (s.wr (Reg.PG_EVRAW p) raw).wr (Reg.PG_EVMASK p) mask
  s.each (bitsOf (s.evout p &&& ~~~old)) fun s _ => s.route p

/-- The events `bits` of page `p` are raised; an absent page raises none (R8). -/
def State.raiseBits (s : State) (p : Nat) (bits : Word) : State :=
  if s.has p then s.setEvents p (s.rd (Reg.PG_EVRAW p) ||| bits) (s.rd (Reg.PG_EVMASK p)) else s

/-- The event of bit `b` of page `p` is raised. -/
def State.raise (s : State) (p b : Nat) : State := s.raiseBits p (BitVec.ofNat 32 (2 ^ b))

/-! ### Page faults (R55) -/

def State.setPg (s : State) (p st : Nat) : State := s.put (Reg.PG_STAT p) 2 0 st

/-- The page enters FAULTED with a code. -/
def State.pageFault (s : State) (p code : Nat) : State :=
  if s.has p && pageLife p then
    let old := s.get (Reg.PG_FAULT p) 15 0
    let s := s.when (old == 0 || old == 3) fun s => s.put (Reg.PG_FAULT p) 15 0 code
    let s := s.count (Reg.PG_FCNT p) 31 0
    (s.setPg p 5).raise p 4
  else s

/-- The page is STOPPED or RUNNING: it accepts the commands of its tables. -/
def State.settled (s : State) (p : Nat) : Bool := s.pg p == 1 || s.pg p == 3

/-! ### Answers -/

/-- A meaning's answer: the next state for a well-formed command, the fault `illFormed` otherwise (log 5). -/
def answer (wf : Bool) (t : State) : Answer := if wf then .next t else .fault .illFormed

end Sys2Proof.Machine
end

