-- ==== Sys2Proof/Machine/Operands.lean ====
section
/-!
DEFINITION. Operand forms: numbers inside the bytes of frames, entries and descriptors (R17), square roots and means
that the manual's formulas take, 32-bit results.
-/
namespace Sys2Proof.Machine

/-- Byte `o` of a frame or entry; bytes past its end read 0. -/
def byteAt (bs : List Byte) (o : Nat) : Nat := (bs.getD o 0).toNat

/-- Little-endian numbers at offset `o`. -/
def le16At (bs : List Byte) (o : Nat) : Nat := byteAt bs o + 256 * byteAt bs (o + 1)
def le32At (bs : List Byte) (o : Nat) : Nat := le16At bs o + 65536 * le16At bs (o + 2)
def le64At (bs : List Byte) (o : Nat) : Nat := le32At bs o + 2 ^ 32 * le32At bs (o + 4)
def i16At (bs : List Byte) (o : Nat) : Int := Word.signed 16 (le16At bs o)
def i32At (bs : List Byte) (o : Nat) : Int := Word.signed 32 (le32At bs o)

/-- The largest number whose square is at most `n`: one bit of the root a step, from bit `b` down. -/
def isqrtGo (n : Nat) : Nat → Nat → Nat
  | 0, r => if (r + 1) * (r + 1) ≤ n then r + 1 else r
  | b + 1, r => isqrtGo n b (if (r + 2 ^ (b + 1)) * (r + 2 ^ (b + 1)) ≤ n then r + 2 ^ (b + 1) else r)

/-- The integer square root. -/
def isqrt (n : Nat) : Nat := isqrtGo n (n.log2 / 2 + 1) 0

/-- The whole number nearest to the square root of `a / b`, `b` positive. -/
def sqrtRound (a b : Nat) : Nat := (isqrt (4 * a / b) + 1) / 2

/-- A result in a signed field of 32 bits; where it does not fit and the manual states no saturation, a free value
(log 6). -/
def word32 (v : Int) : Word :=
  if -(2 ^ 31 : Int) ≤ v ∧ v < (2 ^ 31 : Int) then BitVec.ofInt 32 v else Config.beyond32 v

/-- The same as four bytes of a record. -/
def bytes32 (v : Int) : List Byte := leBytes 4 (word32 v).toNat

/-- A mean of `n` numbers with sum `sum`, rounded to the nearest. -/
def meanOf (sum : Int) (n : Nat) : Int := if n = 0 then 0 else roundDiv sum n

/-- A number divided by a signed number other than 0, rounded to the nearest. -/
def roundQuot (num den : Int) : Int :=
  if den = 0 then 0 else if 0 < den then roundDiv num den.toNat else roundDiv (-num) (-den).toNat

/-- A number held between two bounds. -/
def clampI (lo hi v : Int) : Int := max lo (min v hi)

/-! ### The accepted stage descriptor (R259, R89) -/

def State.descU32 (s : State) (n o : Nat) : Nat := le32At (s.link n).desc o

/-- The link has an accepted descriptor. -/
def State.descOk (s : State) (n : Nat) : Bool := s.bit (Reg.SL_STAT n) 3

/-- IFSr in µA of range `r` of the stage of channel `k`. -/
def State.ifs (s : State) (k r : Nat) : Int := (s.descU32 (k / 16) (24 + 12 * r + 8) * 1000 : Nat)

/-- Ranges that the stage declares. -/
def State.nrange (s : State) (k : Nat) : Nat := byteAt (s.link (k / 16)).desc 12

/-- The descriptor marks the channel fitted (`CHMASK`). -/
def State.fitted (s : State) (k : Nat) : Bool :=
  s.descOk (k / 16) && (le16At (s.link (k / 16)).desc 14).testBit (k % 16)

end Sys2Proof.Machine
end

