-- ==== Sys2Proof/Machine/Fabric.lean ====
section
/-!
DEFINITION. The Bruil fabric (09_bruil_fabric.md): identity and shape, routing, the sending of packets with their link
sequence numbers, the remote error log, and reachability.
-/
namespace Sys2Proof.Machine

/-! ### Identity and shape (R304, R305) -/

/-- This device's identifier (R305). -/
def State.devId (s : State) : Nat := s.get Reg.RT_ID 8 0
def State.idValid (s : State) : Bool := s.bit Reg.RT_ID 9

/-- X, Y, Z of `RT.CFG`. -/
def State.shape (s : State) : Nat × Nat × Nat :=
  (s.get Reg.RTG_CFG 10 8 + 1, s.get Reg.RTG_CFG 14 12 + 1, s.get Reg.RTG_CFG 18 16 + 1)

/-- Coordinates (x, y, z) of an identifier. -/
def State.xyz (s : State) (id : Nat) : Nat × Nat × Nat :=
  let (x, y, _) := s.shape
  (id % x, id / x % y, id / (x * y))

/-- The identifier at coordinates. -/
def State.idAt (s : State) (c : Nat × Nat × Nat) : Nat :=
  let (x, y, _) := s.shape
  c.1 + x * (c.2.1 + y * c.2.2)

/-- Dimension (0 x, 1 y, 2 z) of a direction of `RT.LDIR`, and its opposite direction. -/
def dimOf (dir : Nat) : Nat := (dir - 1) / 2
def opposite (dir : Nat) : Nat := if dir % 2 = 1 then dir + 1 else dir - 1

def coordIn (c : Nat × Nat × Nat) : Nat → Nat
  | 0 => c.1
  | 1 => c.2.1
  | _ => c.2.2

def setCoord (c : Nat × Nat × Nat) (dim v : Nat) : Nat × Nat × Nat :=
  match dim with
  | 0 => (v, c.2.1, c.2.2)
  | 1 => (c.1, v, c.2.2)
  | _ => (c.1, c.2.1, v)

/-- The dimension is wrapped. -/
def State.wrapped (s : State) (dim : Nat) : Bool := s.bit Reg.RTG_CFG (2 + dim)

/-- Coordinates stepped one place in a direction, none outside an open dimension. -/
def State.stepDir (s : State) (c : Nat × Nat × Nat) (dir : Nat) : Option (Nat × Nat × Nat) :=
  let d := dimOf dir
  let n := coordIn s.shape d
  let v := coordIn c d
  if dir % 2 = 1 then
    if v + 1 < n then some (setCoord c d (v + 1)) else if s.wrapped d then some (setCoord c d 0) else none
  else
    if 0 < v then some (setCoord c d (v - 1)) else if s.wrapped d then some (setCoord c d (n - 1)) else none

/-- Direction of a link. -/
def State.linkDir (s : State) (n : Nat) : Nat := s.get Reg.RT_LDIR (3 * n + 2) (3 * n)

/-- The link of a direction other than AUX. -/
def State.dirLink (s : State) (dir : Nat) : Option Nat := (List.range 8).find? fun n => s.linkDir n == dir

/-! ### Links -/

def State.bl (s : State) (n : Nat) : BLink := Sparse.get {} s.fab.bls n
def State.modBl (s : State) (n : Nat) (f : BLink → BLink) : State :=
  { s with fab := { s.fab with bls := Sparse.insert s.fab.bls n (f (s.bl n)) } }

/-- `LSTATE` of a link (R302). -/
def State.lst (s : State) (n : Nat) : Nat := s.get (Reg.BL_STAT n) 2 0
def State.setLst (s : State) (n st : Nat) : State := s.put (Reg.BL_STAT n) 2 0 st
def State.linkUp (s : State) (n : Nat) : Bool := s.lst n == 3

/-- The device originates and forwards packets (R331). -/
def State.fabricOn (s : State) : Bool := s.running 0x068

/-! ### Routing (R311) -/

/-- The direction that dimension order takes from `c` to `t`; none when they are equal. -/
def State.orderDir (s : State) (c t : Nat × Nat × Nat) : Option Nat :=
  (List.range 3).findSome? fun d =>
    let v := coordIn c d
    let w := coordIn t d
    let n := coordIn s.shape d
    if v = w then none
    else if s.wrapped d then
      let fwd := (w + n - v) % n
      some (if fwd ≤ n - fwd then 2 * d + 1 else 2 * d + 2)
    else some (if v < w then 2 * d + 1 else 2 * d + 2)

/-- The primary direction and link of a destination. -/
def State.primaryDir (s : State) (dst : Nat) : Option Nat := s.orderDir (s.xyz s.devId) (s.xyz dst)
def State.primaryLink (s : State) (dst : Nat) : Option Nat := (s.primaryDir dst).bind s.dirLink

/-- The alternate link of a destination. -/
def State.altLink (s : State) (dst : Nat) : Option Nat :=
  let w := Sparse.get 0 s.fab.alts dst
  if w.getLsbD 3 then some (w.fld 2 0)
  else
    match s.primaryDir dst with
    | some d => if s.wrapped (dimOf d) then s.dirLink (opposite d) else none
    | none => none

def upOnly (s : State) (n : Option Nat) : Option Nat := n.filter fun n => s.linkUp n

/-- The virtual channel of a packet that leaves in direction `d` after arriving in direction `from_` (0: originated
here): 1 from a wrap link on, for the rest of the dimension. -/
def State.vcOf (s : State) (p : Packet) (from_ d : Nat) : Nat :=
  let c := coordIn (s.xyz s.devId) (dimOf d)
  let wraps := if d % 2 = 1 then c + 1 == coordIn s.shape (dimOf d) else c == 0
  if wraps then 1 else if from_ ≠ 0 && from_ ≠ 7 && dimOf from_ == dimOf d then p.vc else 0

/-- The link and the form in which a packet goes on, none where it meets NO_ROUTE. -/
def State.routed (s : State) (p : Packet) (from_ : Nat) : Option (Nat × Packet) :=
  let me := s.xyz s.devId
  let goal := s.xyz p.dst
  if p.alt then
    let turning := p.adir ≠ 0 && coordIn me (dimOf p.adir) != coordIn goal (dimOf p.adir)
    (upOnly s (if turning then s.dirLink p.adir else s.primaryLink p.dst)).map fun n => (n, { p with vc := 1 })
  else
    match s.primaryDir p.dst with
    | none => none
    | some d =>
      let away := (Sparse.find? s.fab.onAlt p.dst).isSome
      match upOnly s (s.dirLink d), upOnly s (s.altLink p.dst) with
      | some n, none => some (n, { p with vc := s.vcOf p from_ d })
      | some n, some a =>
        if away then some (a, { p with alt := true, vc := 1, adir := if s.linkDir a = opposite d then opposite d else 0 })
        else some (n, { p with vc := s.vcOf p from_ d })
      | none, some a =>
        some (a, { p with alt := true, vc := 1, adir := if s.linkDir a = opposite d then opposite d else 0 })
      | none, none => none

/-! ### Flits and replay (R301, R313) -/

/-- Payload bytes of a load; those without a layout in the manual count as none (log 10). -/
def loadLength : Load → Nat
  | .wreq r => r.data.length
  | .wcpl _ _ d => d.length
  | .write _ d => d.length
  | .message _ _ d => d.length
  | .eth _ _ _ d => d.length
  | _ => 0

/-- Flits of a packet (R309). -/
def flitsOf (p : Packet) : Nat :=
  let n := loadLength p.load
  if n ≤ 44 then 1 else 1 + (n - 44 + 55) / 56

/-- Flits of a link that no `ACK` covers. -/
def BLink.outstanding (b : BLink) : Nat := (b.unack.map fun u => u.2.1).sum

/-- A packet is sent on a link, room among the 32 flits taken for granted. -/
def State.blEmit (s : State) (n : Nat) (p : Packet) : State :=
  let b := s.bl n
  let k := flitsOf p
  let s := s.modBl n fun b =>
    { b with txSeq := (b.txSeq + k) % 4096, unack := b.unack ++ [((b.txSeq + k - 1) % 4096, k, p)] }
  s.send (.packet n b.txSeq p)

/-- The waiting packet that arbitration takes: CREW, then MGMT, then the oldest (R310). -/
def BLink.pick (b : BLink) : Option Packet :=
  match b.wait.find? fun p => p.cls == 0 with
  | some p => some p
  | none =>
    match b.wait.find? fun p => p.cls == 1 with
    | some p => some p
    | none => b.wait.head?

/-- Waiting packets are sent while they fit. -/
def State.blDrain (s : State) (n : Nat) : Nat → State
  | 0 => s
  | k + 1 =>
    match (s.bl n).pick with
    | none => s
    | some p =>
      if 32 < (s.bl n).outstanding + flitsOf p then s
      else ((s.modBl n fun b => { b with wait := b.wait.erase p }).blEmit n p).blDrain n k

/-- A packet is queued on a link. -/
def State.blSend (s : State) (n : Nat) (p : Packet) : State :=
  let s := s.modBl n fun b => { b with wait := b.wait ++ [p] }
  s.blDrain n (s.bl n).wait.length

/-! ### Alternates (R311, R312) -/

def State.altStat (s : State) : State := s.setBit Reg.RT_STAT 17 (!s.fab.onAlt.isEmpty)

/-- A destination uses its alternate. -/
def State.useAlt (s : State) (dst : Nat) : State :=
  let fresh := (Sparse.find? s.fab.onAlt dst).isNone
  let s := { s with fab := { s.fab with onAlt := Sparse.insert s.fab.onAlt dst s.now } }
  let s := s.altStat
  s.when fresh fun s => s.raise 0x068 8

/-- A packet goes out on the link its routing names; none: NO_ROUTE. -/
def State.forward (s : State) (p : Packet) (from_ : Nat) : Option State :=
  match s.routed p from_ with
  | none => none
  | some (n, q) =>
    let s := s.when (!p.alt && q.alt) fun s => s.useAlt p.dst
    some (s.blSend n q)

/-! ### The remote error log (R318, R331) -/

/-- An error return reaches its source: logged or counted, RERR, and the seat event. -/
def State.logRerr (s : State) (tag init code dev addr : Nat) : State :=
  let s := { s with fab := { s.fab with failedInit := if s.fab.failedInit.contains init then s.fab.failedInit else init :: s.fab.failedInit } }
  let s := if s.fab.rerrLog.length < 64 then
      ({ s with fab := { s.fab with rerrLog := s.fab.rerrLog ++ [(tag, init, code, dev, addr)] } }).count Reg.RT_RERR_CNT 15 0
    else s.count Reg.RT_RERR_CNT 31 16
  let s := s.raise 0x068 10
  if init < 64 then
    s.seatEvent init 4 (leBytes 2 tag ++ [BitVec.ofNat 8 code, 0] ++ leBytes 2 dev ++ leBytes 8 addr)
  else s

/-! ### Sending (R309, R315, R317) -/

/-- The address that an error return of a load names. -/
def loadAddr : Load → Nat
  | .write a _ => a
  | _ => 0

/-- A packet of this device: numbered per destination and class, and routed. A posted write that finds no route draws
NO_ROUTE. -/
def State.fabricSend (s : State) (dst cls init tag : Nat) (load : Load) : State :=
  if !s.fabricOn then s
  else
    let e := Sparse.get 0 s.fab.eseqTx (dst * 16 + cls)
    let p : Packet := { dst := dst, src := s.devId, cls := cls, init := init, eseq := e, tag := tag, load := load }
    match s.forward p 0 with
    | none => if cls = 5 then s.logRerr tag init 1 dst (loadAddr load) else s
    | some t =>
      let t := { t with fab := { t.fab with eseqTx := Sparse.set 0 t.fab.eseqTx (dst * 16 + cls) ((e + 1) % 65536) } }
      if cls = 5 then { t with fab := { t.fab with posted := Sparse.insert t.fab.posted (dst * 128 + init) e } } else t

/-- A crew message to another device, class CREW. -/
def State.sendCrew (s : State) (dev : Nat) (m : CrewMsg) : State := s.fabricSend dev 0 64 0 (.crew m)

/-- A destination has a path now. -/
def State.canReach (s : State) (dst : Nat) : Bool :=
  s.fabricOn && (s.routed { dst := dst, src := s.devId, cls := 4, load := .abort } 0).isSome

/-! ### Reachability (R308) -/

/-- Identifiers of the peers of ACTIVE links. -/
def State.neighbours (s : State) : List Nat :=
  ((List.range 8).filter fun n => s.linkUp n).filterMap fun n => (s.bl n).peer.bind fun p => p.id

def State.nbrsOf (s : State) (dev : Nat) : List Nat :=
  if dev = s.devId then s.neighbours else ((Sparse.find? s.fab.topo dev).map fun t => t.2).getD []

/-- Identifiers reached from a frontier, with the announcements as they stand. -/
def State.reachGo (s : State) : Nat → List Nat → List Nat → List Nat
  | 0, _, seen => seen
  | k + 1, front, seen =>
    let next := ((front.flatMap s.nbrsOf).eraseDups).filter fun d => !seen.contains d
    if next.isEmpty then seen else s.reachGo k next (seen ++ next)

/-- The reachable identifiers, this device's own among them. -/
def State.reachable (s : State) : List Nat :=
  if s.fabricOn && s.idValid then s.reachGo 512 [s.devId] [s.devId] else []

/-- `REACH` and `PARTITION` after a change. -/
def State.updateReach (s : State) : State :=
  let now := s.reachable
  let lost := ((s.fab.lostDevs ++ s.fab.known).eraseDups).filter fun d => !now.contains d
  let fresh := s.fab.known.any fun d => !now.contains d
  let s := { s with fab := { s.fab with known := now, lostDevs := lost } }
  let s := s.put Reg.RT_STAT 9 0 now.length
  let s := s.setBit Reg.RT_STAT 16 (!lost.isEmpty)
  s.when fresh fun s => s.raise 0x068 9

/-- An announcement goes out on every ACTIVE link but the one of `except`. -/
def State.flood (s : State) (dev serial : Nat) (nbrs : List Nat) (except : Option Nat) : State :=
  if !s.fabricOn then s
  else
    s.each ((List.range 8).filter fun n => s.linkUp n && except != some n) fun s n =>
      match (s.bl n).peer.bind fun p => p.id with
      | none => s
      | some d =>
        let e := Sparse.get 0 s.fab.eseqTx (d * 16 + 1)
        let s := { s with fab := { s.fab with eseqTx := Sparse.set 0 s.fab.eseqTx (d * 16 + 1) ((e + 1) % 65536) } }
        s.blSend n { dst := d, src := s.devId, cls := 1, eseq := e, load := .announce dev serial nbrs }

/-- The set of ACTIVE links has changed (R308). -/
def State.linksChanged (s : State) : State :=
  let s := s.updateReach
  s.flood s.devId Config.serial s.neighbours none

/-! ### Windows whose locks go back (R346) -/

def Win.owner (w : Win) : Nat := w.cfg.fld 29 24
def Win.dev (w : Win) : Nat := w.tgt.fld 8 0
def Win.space (w : Win) : Nat := w.tgt.fld 12 12

def State.setBrg (s : State) (b : Bridges) : State := { s with brg := b }
def State.win (s : State) (w : Nat) : Win := Sparse.get {} s.brg.wins w

/-- The far lock of each of the windows `ws` that holds one is released by an UNLOCK. -/
def State.unlockWins (s : State) (ws : List Nat) : State :=
  s.each (ws.filter fun w => s.bit (Reg.WIN_STAT w) 2) fun s w =>
    let x := s.win w
    let tag := s.brg.winTag
    let s := s.setBrg { s.brg with winTag := (tag + 1) % 65536 }
    (s.setBit (Reg.WIN_STAT w) 2 false).fabricSend x.dev 4 0 tag (.wreq { win := w, kind := 2, space := x.space })

end Sys2Proof.Machine
end

