-- ==== Sys2Proof/Machine/Detect.lean ====
section
/-!
DEFINITION. Operations that blocks of every chapter call: the capture of an event by catch units (R292), the firing of
armed injection points (R541 to R543), and the feeding of life-store totals (R581).
-/
namespace Sys2Proof.Machine

/-! ### Catch units (R292) -/

def State.catFifoOf (s : State) (u : Nat) : List (Nat × Nat × Bool) := Sparse.get [] s.catFifo u

def State.setCatFifo (s : State) (u : Nat) (l : List (Nat × Nat × Bool)) : State :=
  ({ s with catFifo := Sparse.set [] s.catFifo u l }).put (Reg.CAT_USTAT u) 12 8 l.length

/-- Unit `u` captures an edge of source `src`: ARMED, the source selected, and for sources 0 to 32 the edge. -/
def State.catches (s : State) (u src : Nat) (rise : Bool) : Bool :=
  s.get (Reg.CAT_USTAT u) 1 0 == 2 && s.get (Reg.CAT_CFG u) 5 0 == src &&
    (decide (32 < src) ||
      (match s.get (Reg.CAT_CFG u) 9 8 with
        | 0 => rise
        | 1 => !rise
        | 2 => true
        | _ => false))

/-- An event of source `src` at `ns` timebase nanoseconds reaches the catch units. -/
def State.capture (s : State) (src ns : Nat) (rise : Bool := true) : State :=
  if !s.running 0x053 then s
  else
    s.each (List.range 16) fun s u =>
      if !s.catches u src rise then s
      else if (s.catFifoOf u).length < 16 then
        (s.setCatFifo u (s.catFifoOf u ++ [(ns / 1000000000, ns % 1000000000, rise)])).raise 0x053 8
      else (s.count (Reg.CAT_USTAT u) 31 16).raise 0x053 9

/-! ### Wake requests and fabric sleep (R326, R327) -/

/-- The period of marks (R226), and the instant of the mark `C` of the agreement. -/
def markPeriod : Nat := 1024000
def State.sleepC (s : State) : Nat := s.rd64 Reg.RT_SLP_C_LO Reg.RT_SLP_C_HI * markPeriod

/-- State of the sleep agreement (R331), and the device is the leader. -/
def State.slp (s : State) : Nat := s.get Reg.RT_SLP_STAT 2 0
def State.setSlp (s : State) (v : Nat) : State := s.put Reg.RT_SLP_STAT 2 0 v
def State.sleepLeader (s : State) : Bool := s.idValid && s.devId == 0

/-- The votes that the leader holds. -/
def State.setVotes (s : State) (v : List Nat) : State :=
  ({ s with fab := { s.fab with votes := v } }).put Reg.RT_SLP_STAT 17 8 v.length

/-- The other reachable devices. -/
def State.others (s : State) : List Nat := s.fab.known.filter fun d => d != s.devId

/-- This device leaves an agreement before C; its vote stays as software left it. -/
def State.sleepLeave (s : State) : State :=
  if s.slp = 2 then (s.setSlp (if s.bit Reg.RT_SLP_CTRL 0 then 1 else 0)).raise 0x068 13 else s

/-- ABORT from this device: to the leader, or from the leader to every device. -/
def State.sleepAbort (s : State) : State :=
  let s := if s.sleepLeader then s.each s.others fun s d => s.fabricSend d 1 64 0 .abort
    else s.fabricSend 0 1 64 0 .abort
  s.sleepLeave

/-- The listening links send a beacon with the identifier of the origin and train again. -/
def State.startWake (s : State) (dev : Nat) (except : Option Nat) : State :=
  let ls := (List.range 8).filter fun n => s.lst n == 6
  let s := s.each ls fun s n =>
    let s := if except = some n then s else s.send (.beacon n dev)
    (s.modBl n fun b => { b with good := 0 }).setLst n 1
  let s := { s with fab := { s.fab with wakeHeld := false } }
  if s.fab.slept.isEmpty then (s.setSlp 0).raise 0x068 15 else s.setSlp 5

/-- The source of a wake request is latched, and in Feather the request shows. -/
def State.wakeLatch (s : State) (src : Nat) : State :=
  let s := s.wrN Reg.RT_WAKESRC (src + s.devId * 65536 + 2 ^ 31)
  s.when s.feather fun s => s.setBit Reg.PWR_STATE 2 true

/-- A wake request is latched with its source; before C it aborts the agreement, from C to Z it waits for Z, and a
sleeping device starts to wake (R326, R327). -/
def State.wakeRequest (s : State) (src : Nat) : State :=
  let s := s.wakeLatch src
  match s.slp with
  | 1 => s.sleepAbort
  | 2 => if s.now < s.sleepC then s.sleepAbort else { s with fab := { s.fab with wakeHeld := true } }
  | 4 => s.startWake s.devId none
  | _ => s

/-- In Feather the device itself asks to wake, with source SOFTWARE (R560). -/
def State.wakeSelf (s : State) : State := s.when s.feather fun s => s.wakeRequest 1

/-! ### Messages on their way to the message bridge (R350) -/

/-- A message arrives at the bridge; while its page is not RUNNING it is discarded and counted as unmatched (R355). -/
def State.mbPush (s : State) (src : MsgSrc) (id : Nat) (data : List Byte) (time : Nat := s.now) : State :=
  if s.running 0x06A then { s with mbIn := s.mbIn ++ [(src, id, data, time)] } else s.count Reg.MB_CNT 31 16

/-! ### Injection (R541 to R543) -/

/-- A page at which a check can be made: one without a life cycle, or RUNNING (R545). -/
def State.injPage (s : State) (p : Nat) : Bool := s.has p && (!pageLife p || s.running p)

/-- The point (`point`, `sub`) of page `p` is armed and selected. -/
def State.injArmed (s : State) (p point sub : Nat) : Bool :=
  s.injPage p && s.bit (Reg.PG_INJARM p) 0 && s.bit Reg.INJ_STAT 0 &&
    s.get (Reg.PG_INJSEL p) 7 0 == point && s.get (Reg.PG_INJSEL p) 15 8 == sub

/-- Opportunities passed over since the point was armed. -/
def State.injPassedOf (s : State) (p : Nat) : Nat := Sparse.get 0 s.injPassed p
def State.setInjPassed (s : State) (p n : Nat) : State := { s with injPassed := Sparse.set 0 s.injPassed p n }

/-- The armed point fires at this opportunity (R541). -/
def State.injFires (s : State) (p point sub : Nat) : Bool :=
  s.injArmed p point sub && decide (s.get (Reg.PG_INJARM p) 15 8 ≤ s.injPassedOf p)

/-- What an opportunity does to the injection machinery: passed over, or a firing that is counted, logged and raised
as INJ_FIRED (R541, R543). -/
def State.injStep (s : State) (p point sub : Nat) : State :=
  if !s.injArmed p point sub then s
  else if !s.injFires p point sub then s.setInjPassed p (s.injPassedOf p + 1)
  else
    let s := s.when (!s.bit (Reg.PG_INJARM p) 1) fun s => s.setBit (Reg.PG_INJARM p) 0 false
    let s := s.count Reg.INJ_FIRED 31 0
    let s := if s.injLog.length < 16 then
        { s with injLog := s.injLog ++ [(BitVec.ofNat 32 (2 ^ 31 + p * 65536 + sub * 256 + point), s.now)] } else s
    s.raise p 5

/-! ### Life-store totals (R581) -/

/-- A total after a write: each source adds its increase since the value last added, from 0 when it has fallen. -/
def LifeTot.feed (t : LifeTot) (src : List Nat) : LifeTot :=
  { tot := (List.range src.length).map fun i =>
      let cur := src.getD i 0
      let last := t.src.getD i 0
      t.tot.getD i 0 + (if cur < last then cur else cur - last)
    src := src }

/-- The four integrators that feed the totals of channel `k`. -/
def State.lifeSources (s : State) (k : Nat) : List Nat :=
  let c := s.ctl k
  [c.qchg, c.qdis, c.echg, c.edis]

/-- The totals of channel `k` are written. -/
def State.lifeFlushCh (s : State) (k : Nat) : State :=
  { s with lifeCh := Sparse.insert s.lifeCh k ((Sparse.get {} s.lifeCh k).feed (s.lifeSources k)) }

/-- An ARM restarts the difference from 0, after a write of what stands (R590). -/
def State.lifeRestart (s : State) (k : Nat) : State :=
  let s := s.lifeFlushCh k
  { s with lifeCh := Sparse.insert s.lifeCh k { Sparse.get {} s.lifeCh k with src := [0, 0, 0, 0] } }

end Sys2Proof.Machine
end

