-- ==== Sys2Proof/Machine/Grants.lean ====
section
/-!
DEFINITION. Ownership of granted resources other than channels (R375, R380): load switches (kind 2), digital outputs (3),
fieldbus ports (4), check-value units (5), page owners (6), seat NIC ports (7).
-/
namespace Sys2Proof.Machine

/-- Key of a resource in the table of owners. -/
def ownKey (kind idx : Nat) : Nat := kind * 256 + idx

/-- Seat and orphaning of a resource; seat 0 where it is ungranted. -/
def State.ownerEntry (s : State) (kind idx : Nat) : Nat × Bool := Sparse.get (0, false) s.owners (ownKey kind idx)
def State.ownerOf (s : State) (kind idx : Nat) : Nat := (s.ownerEntry kind idx).1
def State.setOwner (s : State) (kind idx seat : Nat) (orphan : Bool) : State :=
  { s with owners := Sparse.set (0, false) s.owners (ownKey kind idx) (seat, orphan) }

/-- `seat` commands the resource: coxswain software commands every one, a tenant those of its grants that no reset has
orphaned (R380). -/
def State.commands (s : State) (seat kind idx : Nat) : Bool := seat == 0 || s.ownerEntry kind idx == (seat, false)

/-- The bits of a mask whose resources `seat` commands. -/
def State.commandedBits (s : State) (seat kind n : Nat) (mask : Nat) : Nat :=
  ((List.range n).filter fun i => mask.testBit i && s.commands seat kind i).foldl (fun m i => m ||| 2 ^ i) 0

end Sys2Proof.Machine
end

