-- ==== Sys2Proof/Machine/Integrity.lean ====
section
/-!
DEFINITION. Check-value units (R525 to R535) and injection points (R537 to R545).
-/
namespace Sys2Proof.Machine

/-! ### Clearing fields by domain -/

/-- Reset domain of the register at an address. -/
def domOf (a : Nat) : Option Dom := (regRow a).map fun r => r.dom

/-- The registers of page `p` in domain `d` take their reset values. -/
def State.clearDom (s : State) (p : Nat) (dm : Dom) : State :=
  { s with regs := s.regs.filter fun e => !(e.1 / 0x1000 == p && domOf e.1 == some dm) }

/-! ### Check-value units (R525 to R533) -/

def cvuPage (u : Nat) : Nat := 0x0E0 + u
def State.cvu (s : State) (u : Nat) : Cvu := Sparse.get {} s.cvus u
def State.setCvu (s : State) (u : Nat) (c : Cvu) : State := { s with cvus := Sparse.set {} s.cvus u c }

/-- A value bit-reversed over `w` bits. -/
def bitRev (w v : Nat) : Nat := ((List.range w).filter fun i => v.testBit i).foldl (fun r i => r + 2 ^ (w - 1 - i)) 0

/-- One bit enters the register of width `w`. -/
def crcBit (w poly reg : Nat) (b : Bool) : Nat :=
  let top := reg.testBit (w - 1) != b
  let sh := reg * 2 % 2 ^ w
  if top then sh ^^^ poly else sh

/-- One byte, least significant bit first with `refin`. -/
def crcByte (w poly : Nat) (refin : Bool) (reg : Nat) (b : Byte) : Nat :=
  (List.range 8).foldl (fun r i => crcBit w poly r (b.getLsbD (if refin then i else 7 - i))) reg

/-- W, POLY, INIT, XOROUT of a unit. -/
def State.cvuWidth (s : State) (u : Nat) : Nat := s.get (Reg.CVU_CFG u) 6 0
def State.cvuPoly (s : State) (u : Nat) : Nat := s.rd64 (Reg.CVU_POLY_LO u) (Reg.CVU_POLY_HI u)
def State.cvuInit (s : State) (u : Nat) : Nat := s.rd64 (Reg.CVU_INIT_LO u) (Reg.CVU_INIT_HI u)
def State.cvuXor (s : State) (u : Nat) : Nat := s.rd64 (Reg.CVU_XOROUT_LO u) (Reg.CVU_XOROUT_HI u)

/-- R528 refuses the configuration of a unit. -/
def State.cvuBad (s : State) (u : Nat) : Bool :=
  let w := s.cvuWidth u
  w == 0 || decide (64 < w) || s.cvuPoly u == 0 || decide (2 ^ w ≤ s.cvuPoly u) || decide (2 ^ w ≤ s.cvuInit u) ||
    decide (2 ^ w ≤ s.cvuXor u) || s.get (Reg.CVU_CFG u) 17 16 == 3

/-- An open frame is discarded (R529, R534). -/
def State.cvuDiscard (s : State) (u : Nat) : State :=
  let c := s.cvu u
  if c.isOpen then
    ((s.setCvu u { c with isOpen := false, bytes := [] }).put (Reg.CVU_STAT u) 31 16 0 |>.setBit (Reg.CVU_STAT u) 0 false).raise
      (cvuPage u) 10
  else s

/-- START: the register is INIT, given in the bit order of the result. -/
def State.cvuOpen (s : State) (u : Nat) : State :=
  if !s.running (cvuPage u) then s.raise (cvuPage u) 1
  else
    let s := s.cvuDiscard u
    let w := s.cvuWidth u
    let reg := if s.bit (Reg.CVU_CFG u) 9 then bitRev w (s.cvuInit u) else s.cvuInit u
    (s.setCvu u { s.cvu u with isOpen := true, reg := reg, bytes := [] }).setBit (Reg.CVU_STAT u) 0 true

/-- Data bytes enter an open frame. -/
def State.cvuData (s : State) (u : Nat) (data : List Byte) : State :=
  let c := s.cvu u
  if !c.isOpen then s.raise (cvuPage u) 1
  else
    let reg := data.foldl (crcByte (s.cvuWidth u) (s.cvuPoly u) (s.bit (Reg.CVU_CFG u) 8)) c.reg
    (s.setCvu u { c with reg := reg, bytes := (c.bytes ++ data).take 256 }).count (Reg.CVU_STAT u) 31 16 data.length

/-- The alive check of R531: its code and the value read, if any. -/
def State.aliveCheck (s : State) (u : Nat) : Nat × Option Nat :=
  let c := s.cvu u
  let mode := s.get (Reg.CVU_CFG u) 17 16
  let pos := s.get (Reg.CVU_CFG u) 31 24
  let gap := max 1 (s.get (Reg.CVU_ACFG u) 7 0)
  if mode = 0 then (7, none)
  else if c.bytes.length < pos + 1 then (3, none)
  else
    let b := byteAt c.bytes pos
    let m := if mode = 1 then 16 else 256
    let v := if mode = 1 then (if s.bit (Reg.CVU_CFG u) 20 then b / 16 else b % 16) else b
    match c.prev with
    | none => (4, some v)
    | some p =>
      let d := (v + m - p) % m
      (if d = 0 then 1 else if gap < d then 2 else 0, some v)

/-- The result of the open frame; an injected fault inverts one of its bits, which one the manual does not say (log 2). -/
def State.cvuResult (s : State) (u : Nat) : Nat :=
  let w := s.cvuWidth u
  let reg := (s.cvu u).reg
  let r := (if s.bit (Reg.CVU_CFG u) 9 then bitRev w reg else reg) ^^^ s.cvuXor u
  if s.injFires (cvuPage u) 0x10 0 then r ^^^ 2 ^ (Config.freeNat s.free % w) else r

/-- END (R529 to R531). -/
def State.cvuClose (s : State) (u : Nat) : State :=
  let c := s.cvu u
  if !c.isOpen then s.raise (cvuPage u) 1
  else
    let r := s.cvuResult u
    let (code, v) := s.aliveCheck u
    let s := (s.injStep (cvuPage u) 0x10 0).useFree
    let compare := s.bit (Reg.CVU_CFG u) 12
    let same := r == s.rd64 (Reg.CVU_EXPECT_LO u) (Reg.CVU_EXPECT_HI u)
    let bad := compare && (!same || code == 1 || code == 2 || code == 3)
    let keep := (code == 0 || code == 4) && (!compare || same)
    let s := s.setCvu u { c with isOpen := false, bytes := [], prev := if keep then v else c.prev }
    let s := s.wr64 (Reg.CVU_RESULT_LO u) (Reg.CVU_RESULT_HI u) r
    let s := s.wrN (Reg.CVU_STAT u)
      (2 * (compare && same).toNat + 4 * code + 256 * v.getD (s.get (Reg.CVU_STAT u) 15 8))
    let s := (s.count (Reg.CVU_CNT u) 15 0).when bad fun s => s.count (Reg.CVU_CNT u) 31 16
    let s := s.when (code == 1) fun s => s.count (Reg.CVU_ACNT u) 15 0
    let s := s.when (code == 2 || code == 3) fun s => s.count (Reg.CVU_ACNT u) 31 16
    (s.when bad fun s => s.raise (cvuPage u) 8).raise (cvuPage u) 9

/-- The unit's domain K fields are cleared and its page is STOPPED (R533). -/
def State.cvuReset (s : State) (u : Nat) : State :=
  ({ s with cvus := Sparse.set {} s.cvus u { owner := (s.cvu u).owner } }).clearDom (cvuPage u) .k

/-- RELEASE (R533): the page has no owner any more when the frame goes, so ABANDONED is not routed (R534). -/
def State.cvuFree (s : State) (u : Nat) : State :=
  ((s.cvuReset u).put (Reg.PG_OWNER (cvuPage u)) 5 0 0).setOwner 5 u 0 false

/-- R529. -/
def execCvuStart (u : Nat) (s : State) : Answer := answer (wfCvu u) (s.cvuOpen u)
def execCvuDin1 (u : Nat) (v : Word) (s : State) : Answer := answer (wfCvu u) (s.cvuData u (leBytes 1 v.toNat))
def execCvuDin2 (u : Nat) (v : Word) (s : State) : Answer := answer (wfCvu u) (s.cvuData u (leBytes 2 v.toNat))
def execCvuDin4 (u : Nat) (v : Word) (s : State) : Answer := answer (wfCvu u) (s.cvuData u (leBytes 4 v.toNat))
/-- R530. -/
def execCvuEnd (u : Nat) (s : State) : Answer := answer (wfCvu u) (s.cvuClose u)
/-- R533. -/
def execCvuRelease (u : Nat) (s : State) : Answer := answer (wfCvu u) (s.cvuFree u)

/-! ### Injection points (R537, R542) -/

/-- `SUB` lies in the range that R537 gives the point of a page, and names a unit that the part has; false also for a
point that is not listed. -/
def State.injListed (s : State) (p point sub : Nat) : Bool :=
  if point = 0x01 then (pageLife p && (if p = 0x030 then decide (sub < 3) else sub == 0))
  else
    match p, point with
    | 0x000, 0x10 => decide (sub < 2)
    | 0x000, 0x11 => decide (sub < 2)
    | 0x001, 0x10 => decide (sub < 4)
    | 0x002, 0x10 => sub == 0
    | 0x004, 0x10 => decide (sub < 2)
    | 0x030, 0x10 => decide (sub < 3)
    | 0x030, 0x11 => s.hasCh sub
    | 0x031, 0x10 => decide (sub < 2)
    | 0x031, 0x11 => sub == 0
    | 0x034, 0x10 => sub == 0
    | 0x036, 0x10 => sub == 0
    | 0x050, 0x10 => decide (sub < 2)
    | 0x050, 0x11 => sub == 0
    | 0x068, 0x10 => sub == 0
    | 0x069, 0x10 => sub == 0
    | 0x06A, 0x10 => sub == 0
    | 0x0A2, 0x10 => sub == 0
    | 0x0A3, 0x10 => sub == 0
    | 0x098, 0x10 => sub == 0
    | 0x098, 0x11 => sub == 0
    | 0x0A0, 0x10 => decide (sub < (if s.part.hasSwitch then 12 else 2))
    | 0x0A1, 0x10 => sub == 0
    | 0x0C0, 0x10 => decide (sub < 2)
    | 0x0C0, 0x11 => sub == 0
    | 0x0C0, 0x12 => decide (sub < 3)
    | 0x0C1, 0x10 => sub == 0
    | 0x0C2, 0x10 => decide (sub < 16)
    | 0x0D0, 0x10 => decide (1 ≤ sub) && decide (sub < 64)
    | 0x0D1, 0x10 => sub == 0
    | 0x0F0, 0x10 => decide (sub < 2)
    | 0x0F8, 0x10 => sub == 0
    | 0x0F9, 0x10 => sub == 0
    | _, _ =>
      if p = 0x010 || p = 0x011 then
        match point with
        | 0x10 => sub == 1 || sub == 2
        | 0x11 => sub == 0
        | 0x12 => sub == 0
        | 0x13 => sub == 0
        | 0x14 => s.hasCh (128 * (p - 0x010) + sub % 128)
        | 0x15 => decide (sub < 128) && s.hasCh (128 * (p - 0x010) + sub)
        | _ => false
      else if p = 0x012 || p = 0x013 then point == 0x10 && sub == 0
      else if 0x020 ≤ p && p ≤ 0x02F then point == 0x10 && decide (sub < 16)
      else if (0x040 ≤ p && p ≤ 0x04F) || (0x060 ≤ p && p ≤ 0x067) then (point == 0x10 || point == 0x11) && sub == 0
      else if 0x090 ≤ p && p ≤ 0x097 then point == 0x10 && sub == 0
      else if 0x0B0 ≤ p && p ≤ 0x0B3 then point == 0x10 && sub == 0
      else if p = 0x0C3 || p = 0x0C4 then (point == 0x10 || point == 0x11 || point == 0x12) && decide (sub < 8)
      else if 0x0E0 ≤ p && p ≤ 0x0E7 then point == 0x10 && sub == 0
      else false

/-- A write of `PG_INJARM` (R22, R542); a new arm starts its count of opportunities. -/
def State.injWrite (s : State) (p : Nat) (v : Word) : State :=
  let sel := s.rd (Reg.PG_INJSEL p)
  let ok := s.bit Reg.INJ_STAT 0 && sel.fld 7 0 != 0 && s.injListed p (sel.fld 7 0) (sel.fld 15 8)
  let arm := v.getLsbD 0 && ok
  let s := s.wr (Reg.PG_INJARM p) ((v &&& 0xFF02).setFld 0 0 arm.toNat)
  let s := s.when arm fun s => s.setInjPassed p 0
  if v.getLsbD 0 && !ok then (s.count Reg.INJ_REFUSED 31 0).raise 0x005 10 else s

def execInjArmWrite (p : Nat) (v : Word) (s : State) : Answer :=
  answer (decide (p < 256)) (if s.has p then s.injWrite p v else s)

/-- The global arm clears, and with it every `ARM` (R542). -/
def State.injClear (s : State) : State :=
  if !s.bit Reg.INJ_STAT 0 then s
  else
    let s := ({ s with injEnd := none, injPassed := [] }).wrN Reg.INJ_STAT 0
    let s := s.each (List.range 256) fun s p => s.when (s.bit (Reg.PG_INJARM p) 0) fun s => s.setBit (Reg.PG_INJARM p) 0 false
    s.raise 0x005 9

/-- The global arm is set for `sec` seconds, none: until domain D is cleared (R519, R539). -/
def State.injSet (s : State) (sec : Option Nat) : State :=
  let s := { s with injEnd := sec.map fun n => s.tbSec + n }
  (s.wrN Reg.INJ_STAT (1 + 2 ^ 16 * (match sec with
    | some n => min n 65534
    | none => 65535))).raise 0x005 8

/-- R542: the timed arm expires. -/
def execInjArmExpiry (s : State) : Answer := .next (if s.injEnd.isSome then s.injClear else s)

/-- R539: the oldest entry leaves the log and shows in `LOG0` to `LOG2`. -/
def execInjLogRead (s : State) : Answer :=
  .next (match s.injLog with
    | [] => (s.wr Reg.INJ_LOG0 0).wr64 Reg.INJ_LOG1 Reg.INJ_LOG2 0
    | (w, t) :: rest => (({ s with injLog := rest }).wr Reg.INJ_LOG0 w).wr64 Reg.INJ_LOG1 Reg.INJ_LOG2 t)

end Sys2Proof.Machine
end

