-- ==== Sys2Proof/Machine/KeyStore.lean ====
section
/-!
DEFINITION. The key store (R505 to R515, R522): slots and the hierarchy, pralines, its commands, the journal, invalidation and
the glaze.
-/
namespace Sys2Proof.Machine

/-! ### Bytes in registers -/

/-- The bytes of `n` words of registers from `a` on. -/
def State.regBytes (s : State) (a n : Nat) : List Byte :=
  ((List.range n).map fun i => leBytes 4 (s.rd (a + 4 * i)).toNat).flatten

/-- Bytes written to the registers from `a` on, four to a word. -/
def State.wrBytes (s : State) (a : Nat) (b : List Byte) : State :=
  s.each (List.range ((b.length + 3) / 4)) fun s i => s.wrN (a + 4 * i) (ofLeBytes ((b.drop (4 * i)).take 4))

/-- `n` free bytes: what the random generator gives (R507), and how many words they use. -/
def State.freeBytes (s : State) (n : Nat) : List Byte :=
  (List.range n).map fun i => (Config.freeWord (s.free + i)).setWidth 8

/-! ### Slots (R505 to R507) -/

def State.setKey (s : State) (k : Keys) : State := { s with key := k }
def State.keySlot (s : State) (n : Nat) : KeySlot := Sparse.get {} s.key.keys n
def State.setKeySlot (s : State) (n : Nat) (x : KeySlot) : State :=
  s.setKey { s.key with keys := Sparse.set {} s.key.keys n x }
def State.keyGen (s : State) (n : Nat) : Nat := Sparse.get 0 s.key.keyGens n
def State.setKeyGen (s : State) (n g : Nat) : State := s.setKey { s.key with keyGens := Sparse.set 0 s.key.keyGens n g }

/-- The root can be derived: the PUF is enrolled, and debug level 2 has not shut the store (R506, R520). -/
def State.rootOk (s : State) : Bool := s.bit Reg.KEY_FUSE 3 && !s.key.keyShut

/-- The device serial number, least significant byte first. -/
def serialBytes : List Byte := leBytes 8 Config.serial

def kdfBytes (key label ctx : List Byte) (n : Nat) : List Byte := toBe n (Config.kdf key label ctx n)

/-- The root, and the domain key of slot `d` (R506). -/
def rootKey : List Byte := kdfBytes (toBe 64 Config.puf) [0x72, 0x6F, 0x6F, 0x74] (toBe 32 Config.salt) 64
def State.domainKey (s : State) (d : Nat) : KeyHalf :=
  { typ := 1, usage := 2
    mat := kdfBytes rootKey [0x64, 0x6F, 0x6D, 0x61, 0x69, 0x6E] (leBytes 4 d ++ leBytes 4 (s.keyGen d)) 32 }

/-- The key that slot `n` offers for use, or the status that refuses it (R512, R522). -/
def State.keyUse (s : State) (n : Nat) : Nat × KeyHalf :=
  if n < 8 then
    if !s.rootOk then (14, { typ := 0, usage := 0 })
    else if n = 0 then (0, { typ := 2, usage := 32, mat := rootKey })
    else (0, s.domainKey n)
  else
    let x := s.keySlot n
    match x.cur with
    | some h => (0, h)
    | none => (if x.orph then 4 else 3, { typ := 0, usage := 0 })

/-- The key of slot `n` if it has a type and a usage (R516). -/
def State.keyFor (s : State) (n typ usage : Nat) : Nat × KeyHalf :=
  let r := s.keyUse n
  if r.1 ≠ 0 then r
  else if r.2.typ ≠ typ then (6, r.2)
  else if !r.2.usage.testBit usage then (5, r.2)
  else r

/-- Usages that a type may carry (R505). -/
def usageMask (typ : Nat) : Nat :=
  match typ with
  | 1 => 0x43
  | 2 => 0x70
  | 3 => 0x44
  | 4 => 0x08
  | _ => 0

/-- Bytes of material of a type. -/
def matLen (typ : Nat) : Nat :=
  match typ with
  | 1 => 32
  | 2 => 64
  | 3 => 1796
  | 4 => 516
  | _ => 0

/-- A parent for a key that is wrapped: a slot from 1 to 63, at most 2 levels below its domain. -/
def State.parentKey (s : State) (p : Nat) : Nat × KeyHalf :=
  if p = 0 || 64 ≤ p then (2, { typ := 0, usage := 0 })
  else
    let r := s.keyFor p 1 1
    if r.1 = 0 && 2 < r.2.depth then (2, r.2) else r

/-- Zeroised. -/
def State.keyEmpty (s : State) (n : Nat) : State := s.setKeySlot n { s.keySlot n with cur := none, pend := none }

/-- A key enters the pending half of a slot. -/
def State.keyPend (s : State) (n : Nat) (h : KeyHalf) : State := s.setKeySlot n { s.keySlot n with pend := some h, orph := false }

/-! ### Orphans (R512) -/

/-- A key whose parent's generation has moved on, or whose parent lies in `dead`. -/
def State.halfOrphan (s : State) (dead : List Nat) (h : KeyHalf) : Bool := h.pgen != s.keyGen h.parent || dead.contains h.parent

/-- The orphaned slots: a key is at most 3 levels below its domain. -/
def State.orphans (s : State) : List Nat :=
  (List.range 4).foldl
    (fun dead _ =>
      (List.range 64).filter fun n =>
        decide (8 ≤ n) && ((s.keySlot n).cur.toList ++ (s.keySlot n).pend.toList).any fun h => s.halfOrphan dead h) []

/-- Orphaned slots are zeroised and marked. -/
def State.orphanAll (s : State) : State :=
  let dead := s.orphans
  let s := s.each dead fun s n => s.setKeySlot n { orph := true }
  s.when (!dead.isEmpty) fun s => s.raise 0x0D0 10

/-! ### Pralines (R508) -/

/-- Bytes 0 to 31. -/
def pralineHead (h : KeyHalf) : List Byte :=
  leBytes 2 1 ++ [BitVec.ofNat 8 h.typ, BitVec.ofNat 8 h.usage, BitVec.ofNat 8 h.parent, 0] ++
    leBytes 2 ((32 + matLen h.typ + 7) / 8 * 8 + 8) ++ leBytes 4 h.pgen ++ leBytes 4 h.kid ++ serialBytes ++ leBytes 8 0

def praline (parent h : KeyHalf) : List Byte := pralineHead h ++ kwpWrap parent.mat (pralineHead h ++ h.mat)

/-- A praline opened: a status and its key. -/
def State.openPraline (s : State) (b : List Byte) : Nat × KeyHalf :=
  let at' := fun i => (b.getD i 0).toNat
  let typ := at' 2
  let p := s.parentKey (at' 4)
  let h : KeyHalf :=
    { typ := typ, usage := at' 3, parent := at' 4, pgen := ofLeBytes ((b.drop 8).take 4), depth := p.2.depth + 1
      kid := ofLeBytes ((b.drop 12).take 4) }
  if h.parent = 0 || 63 < h.parent then (7, h)
  else if p.1 ≠ 0 then (p.1, h)
  else if h.pgen ≠ s.keyGen h.parent then (8, h)
  else
    match kwpUnwrap p.2.mat (b.drop 32) with
    | none => (7, h)
    | some m =>
      let ok := b.take 32 == pralineHead h && m.take 32 == b.take 32 && decide (m.length = 32 + matLen typ) &&
        decide (1 ≤ typ) && decide (typ ≤ 3)
      if ok then (0, { h with mat := m.drop 32 }) else (7, h)

/-- Input and output bytes of `KEY.BUF`. -/
def State.keyIn (s : State) : List Byte := (s.regBytes (Reg.KEY_BUF 0) 512).take (s.get Reg.KEY_LEN 11 0)

/-! ### Commands (R509) -/

/-- A command that is under way with its status and output length; none where the journal decides. -/
def State.keyStart (s : State) (op slot : Nat) (status : Option Nat) (outlen : Nat := 0) : State :=
  s.setKey { s.key with keyOp := some { op := op, slot := slot, status := status, outlen := outlen } }

/-- The command is accepted: `BUSY` was clear; a page that is not RUNNING completes STOPPED, a slot that R509 refuses
BAD_ARG. -/
def State.keyCmd (s : State) (op slot : Nat) (body : State → State) : State :=
  if s.bit Reg.KEY_STAT 0 then s.raise 0x0D0 9
  else
    let s := s.setBit Reg.KEY_STAT 0 true
    if !s.running 0x0D0 then s.keyStart op slot (some 15)
    else if op ≠ 0 && op < 10 && (slot = 0 || (slot < 8 && op ≠ 7)) then s.keyStart op slot (some 2)
    else body s

/-- The slot of a command that makes a key, with `ANY` the lowest working slot that is empty: refused with SLOTS_FULL,
or PENDING where the pending half is occupied. -/
def State.keyTarget (s : State) (op slot : Nat) (any : Bool) (body : State → Nat → State) : State :=
  if s.bit Reg.KEY_STAT 0 then s.raise 0x0D0 9
  else if any && s.running 0x0D0 then
    let s := s.setBit Reg.KEY_STAT 0 true
    match (List.range 64).find? fun n => decide (8 ≤ n) && (s.keySlot n).cur.isNone && (s.keySlot n).pend.isNone with
    | none => s.keyStart op slot (some 11)
    | some n => body s n
  else s.keyCmd op slot fun s => if (s.keySlot slot).pend.isSome then s.keyStart op slot (some 12) else body s slot

/-- `KEY.ARG`. -/
def State.argType (s : State) : Nat := s.get Reg.KEY_ARG 3 0
def State.argUsage (s : State) : Nat := s.get Reg.KEY_ARG 15 8
def State.argParent (s : State) : Nat := s.get Reg.KEY_ARG 21 16

/-- The usages asked for are among those of the type. -/
def usageOk (typ usage : Nat) : Bool := usage &&& usageMask typ == usage

def execKeyNop (slot : Nat) (_any _pend : Bool) (s : State) : Answer :=
  answer (wfKey slot) (s.keyCmd 0 slot fun s => s.keyStart 0 slot (some 0))

/-- A random key of a type (R507); a private RSA key is `n`, `e` and the rest, free as well (log 30). -/
def State.generate (s : State) (n : Nat) : State :=
  let typ := s.argType
  let p := s.parentKey s.argParent
  if typ = 0 || 3 < typ || !usageOk typ s.argUsage then s.keyStart 1 n (some 2)
  else if p.1 ≠ 0 then s.keyStart 1 n (some p.1)
  else
    let mat := s.freeBytes (matLen typ)
    let h : KeyHalf :=
      { typ := typ, usage := s.argUsage, parent := s.argParent, pgen := s.keyGen s.argParent, depth := p.2.depth + 1
        kid := (s.rd Reg.KEY_KID).toNat, mat := mat }
    (({ s with free := s.free + matLen typ }).keyPend n h).keyStart 1 n (some 0)

def execKeyGenerate (slot : Nat) (any _pend : Bool) (s : State) : Answer :=
  answer (wfKey slot) (s.keyTarget 1 slot any State.generate)

/-- DERIVE. -/
def State.derive (s : State) (n : Nat) : State :=
  let typ := s.argType
  let p := s.keyFor s.argParent 2 5
  if (typ ≠ 1 && typ ≠ 2) || !usageOk typ s.argUsage || s.argParent = 0 || 2048 < s.get Reg.KEY_LEN 11 0 then
    s.keyStart 2 n (some 2)
  else if p.1 ≠ 0 then s.keyStart 2 n (some p.1)
  else if 2 < p.2.depth then s.keyStart 2 n (some 2)
  else
    let h : KeyHalf :=
      { typ := typ, usage := s.argUsage, parent := s.argParent, pgen := s.keyGen s.argParent, depth := p.2.depth + 1
        kid := (s.rd Reg.KEY_KID).toNat
        mat := kdfBytes p.2.mat s.keyIn (serialBytes ++ leBytes 4 (s.keyGen s.argParent)) (matLen typ) }
    (s.keyPend n h).keyStart 2 n (some 0)

def execKeyDerive (slot : Nat) (any _pend : Bool) (s : State) : Answer :=
  answer (wfKey slot) (s.keyTarget 2 slot any State.derive)

/-- LOAD. -/
def State.loadPraline (s : State) (n : Nat) : State :=
  let r := s.openPraline s.keyIn
  if r.1 ≠ 0 then s.keyStart 3 n (some r.1) else (s.keyPend n r.2).keyStart 3 n (some 0)

def execKeyLoad (slot : Nat) (any _pend : Bool) (s : State) : Answer :=
  answer (wfKey slot) (s.keyTarget 3 slot any State.loadPraline)

/-- EXPORT: the praline goes to `KEY.BUF`, and its digest stays with the half (R510). -/
def State.exportKey (s : State) (slot : Nat) (pend : Bool) : State :=
  let x := s.keySlot slot
  match (if pend then x.pend else x.cur) with
  | none => s.keyStart 4 slot (some (if x.orph then 4 else 3))
  | some h =>
    let p := s.parentKey h.parent
    if !h.usage.testBit 6 then s.keyStart 4 slot (some 5)
    else if p.1 ≠ 0 then s.keyStart 4 slot (some p.1)
    else
      let h' := { h with pgen := s.keyGen h.parent }
      let b := praline p.2 h'
      let done := { h with digest := (sha512 b).take 32 }
      let s := s.setKeySlot slot (if pend then { x with pend := some done } else { x with cur := some done })
      let s := s.setKey { s.key with bufLeft := List.range (b.length / 4) }
      (s.wrBytes (Reg.KEY_BUF 0) b).keyStart 4 slot (some 0) b.length

/-- Word `w` of `KEY.BUF` has been read: once a praline has been read out the buffer is zeroised (R522). -/
def State.keyBufRead (s : State) (w : Nat) : State :=
  if s.key.bufLeft.isEmpty then s
  else
    let left := s.key.bufLeft.erase w
    let s := s.setKey { s.key with bufLeft := left }
    if left.isEmpty then s.each (List.range 512) fun s i => s.wr (Reg.KEY_BUF i) 0 else s

def execKeyExport (slot : Nat) (_any pend : Bool) (s : State) : Answer :=
  answer (wfKey slot) (s.keyCmd 4 slot fun s => s.exportKey slot pend)

def maxGen : Nat := 0xFFFFFFFF

/-- COMMIT waits for its journal record (R510). -/
def State.commitKey (s : State) (slot : Nat) : State :=
  let x := s.keySlot slot
  if x.pend.isNone then s.keyStart 5 slot (some (if x.orph then 4 else 3))
  else if s.keyGen slot = maxGen then s.keyStart 5 slot (some 13)
  else s.keyStart 5 slot none

def execKeyCommit (slot : Nat) (_any _pend : Bool) (s : State) : Answer :=
  answer (wfKey slot) (s.keyCmd 5 slot fun s => s.commitKey slot)

def execKeyDiscard (slot : Nat) (_any _pend : Bool) (s : State) : Answer :=
  answer (wfKey slot)
    (s.keyCmd 6 slot fun s => (s.setKeySlot slot { s.keySlot slot with pend := none }).keyStart 6 slot (some 0))

/-- INVALIDATE waits for its journal record (R512). -/
def State.invalidateKey (s : State) (slot : Nat) : State :=
  if slot = 1 then s.keyStart 7 slot (some 2)
  else if slot < 8 && !s.rootOk then s.keyStart 7 slot (some 14)
  else if s.keyGen slot = maxGen then s.keyStart 7 slot (some 13)
  else s.keyStart 7 slot none

def execKeyInvalidate (slot : Nat) (_any _pend : Bool) (s : State) : Answer :=
  answer (wfKey slot) (s.keyCmd 7 slot fun s => s.invalidateKey slot)

/-- The digest in the latest journal record of a slot (R511). -/
def State.journalDigest (s : State) (slot : Nat) : Option (List Byte) :=
  (s.key.keyJournal.find? fun (r : KeyRec) => r.kind != 3 && r.slot == slot).map fun r => r.digest

/-- RESTORE. -/
def State.restoreKey (s : State) (slot : Nat) : State :=
  let x := s.keySlot slot
  let b := s.keyIn
  let dg := (sha512 b).take 32
  if x.cur.isSome || x.pend.isSome then s.keyStart 8 slot (some 2)
  else
    let r := s.openPraline b
    if r.1 = 8 then s.keyStart 8 slot (some 8)
    else if s.journalDigest slot ≠ some dg then s.keyStart 8 slot (some 9)
    else if r.1 ≠ 0 then s.keyStart 8 slot (some r.1)
    else (s.setKeySlot slot { x with cur := some { r.2 with digest := dg }, orph := false }).keyStart 8 slot (some 0)

def execKeyRestore (slot : Nat) (_any _pend : Bool) (s : State) : Answer :=
  answer (wfKey slot) (s.keyCmd 8 slot fun s => s.restoreKey slot)

/-- LOAD_PUB: no parent, usage VERIFY. -/
def State.loadPub (s : State) (n : Nat) : State :=
  let h : KeyHalf :=
    { typ := 4, usage := 8, kid := (s.rd Reg.KEY_KID).toNat, mat := (s.regBytes (Reg.KEY_BUF 0) 129).take 516 }
  (s.keyPend n h).keyStart 9 n (some 0)

def execKeyLoadPub (slot : Nat) (any _pend : Bool) (s : State) : Answer :=
  answer (wfKey slot) (s.keyTarget 9 slot any State.loadPub)

def execKeyReservedOp (slot op : Nat) (s : State) : Answer :=
  answer (wfKey slot && decide (10 ≤ op) && decide (op < 16)) (s.keyCmd op slot fun s => s.keyStart op slot (some 1))

/-! ### The journal and completion (R510 to R513) -/

/-- A record is written: `SEQ` one more than before. -/
def State.journalWrite (s : State) (r : KeyRec) : State :=
  let seq := (s.rd Reg.KEY_JSEQ).toNat + 1
  (s.wrN Reg.KEY_JSEQ seq).setKey { s.key with keyJournal := { r with seq := seq % 2 ^ 32 } :: s.key.keyJournal }

/-- COMMIT after its record. -/
def State.commitDoneKey (s : State) (slot : Nat) (h : KeyHalf) : State :=
  let g := s.keyGen slot + 1
  let s := s.journalWrite
    { seq := 0, kind := 1, slot := slot, gen := g, kid := h.kid, parent := h.parent, pgen := h.pgen, digest := h.digest }
  let s := s.setKeySlot slot { s.keySlot slot with cur := some h, pend := none }
  (s.setKeyGen slot g).orphanAll

/-- INVALIDATE after its record; a domain key is derived anew from its generation. -/
def State.invalidateDone (s : State) (slot : Nat) : State :=
  let g := s.keyGen slot + 1
  let s := s.journalWrite { seq := 0, kind := 2, slot := slot, gen := g }
  ((if slot < 8 then s else s.keyEmpty slot).setKeyGen slot g).orphanAll

/-- What a command that waits for the journal does, and its status; `ok`: its record was written. -/
def State.keyJournalled (s : State) (c : KeyOp) (ok : Bool) : State × Nat :=
  let pend := (s.keySlot c.slot).pend
  if c.op = 5 && pend.isNone then (s, 3)
  else if !ok then (s.raise 0x0D0 12, 10)
  else if c.op = 5 then (match pend with
    | some h => s.commitDoneKey c.slot h
    | none => s, 0)
  else (s.invalidateDone c.slot, 0)

/-- Every slot zeroised, root and domains refused (R520). -/
def State.keyShutAll (s : State) : State := s.setKey { s.key with keys := [], keyShut := true, debugDue := false }

/-- The debug level changes (R520); level 2 zeroises the keys first. -/
def State.debugLevel (s : State) (level : Nat) : State :=
  let s := if level = 2 then s.keyShutAll else s.setKey { s.key with debugDue := false }
  if s.get Reg.KEY_DEBUG 1 0 = level then s else (s.put Reg.KEY_DEBUG 1 0 level).raise 0x0D0 13

/-- A key command, a crypto job or a report is under way. -/
def Keys.busy (k : Keys) : Bool := k.keyOp.isSome || k.cryJob.isSome || k.attBusy

/-- A level asked for: level 2 lets what is under way complete first (R521). -/
def State.setDebug (s : State) (level : Nat) : State :=
  if level = 2 && s.key.busy then s.setKey { s.key with debugDue := true } else s.debugLevel level

/-- What was under way has ended: a level 2 that waits takes effect. -/
def State.debugFollow (s : State) : State := if s.key.debugDue && !s.key.busy then s.debugLevel 2 else s

/-- R509: `BUSY` clears. -/
def State.keyFinish (s : State) (c : KeyOp) (status : Nat) : State :=
  let s := s.setKey { s.key with keyOp := none }
  ((s.wrN Reg.KEY_STAT (4 * c.slot + 256 * status + 65536 * c.outlen)).raise 0x0D0 8).debugFollow

/-- A record waits for the end of a compaction of the key journal (R580). -/
def State.keyComplete (s : State) (ok : Bool) : State :=
  match s.key.keyOp with
  | none => s
  | some c =>
    match c.status with
    | some st => s.keyFinish c st
    | none =>
      if s.compacting.contains 1 then s
      else
        let r := s.keyJournalled c ok
        r.1.keyFinish c r.2

def execKeyCmdComplete (ok : Bool) (s : State) : Answer := .next (s.keyComplete ok)

/-! ### The glaze (R515) -/

/-- The shares of slot `n` fail: a working slot becomes empty, root and domains are derived again. -/
def State.glazeFault (s : State) (n : Nat) : State := (if n < 8 then s else s.keyEmpty n).raise 0x0D0 11

def State.glaze (s : State) (bad : List Nat) : State :=
  let hit := (List.range 64).filter fun n => bad.contains n || (decide (1 ≤ n) && s.injFires 0x0D0 0x10 n)
  let s := s.each (List.range 63) fun s i => s.injStep 0x0D0 0x10 (i + 1)
  let s := s.each hit State.glazeFault
  s.wrN Reg.KEY_GLAZE ((s.rd Reg.KEY_GLAZE).toNat + 1)

def execGlazeCycle (bad : List Nat) (s : State) : Answer :=
  answer (bad.all wfKey) (if s.power.held || s.power.backup then s else s.glaze bad)

/-- SRST: slots 8 to 63 and the buffer are zeroised (R522). -/
def State.keySrst (s : State) : State :=
  let s := s.setKey { s.key with keys := [], bufLeft := [] }
  s.each (List.range 512) fun s w => s.wr (Reg.KEY_BUF w) 0

/-- Clearing of domain D (R521). -/
def State.keyClearD (s : State) : State :=
  s.setKey { keyGens := s.key.keyGens, keyJournal := s.key.keyJournal, okh := s.key.okh }

end Sys2Proof.Machine
end

