-- ==== Sys2Proof/Machine/Dram.lean ====
section
/-!
DEFINITION. Device DRAM (R398, R641, R642): bytes by address, its bounds and its ECC; and the inbound filter that far
devices meet (R338, R347).
-/
namespace Sys2Proof.Machine

/-- Usable bytes (R641). -/
def State.dramSize (s : State) : Nat := s.get Reg.DRAM_CFG 15 0 * 2 ^ 20

/-- `n` bytes at `addr` lie inside the memory. -/
def State.dramHas (s : State) (addr n : Nat) : Bool := decide (addr + n ≤ s.dramSize)

/-- The byte that a list of memory holds at an address; an unlisted one reads 0 (log 9). -/
def Memory.byte (m : List (Nat × Byte)) (addr : Nat) : Byte := Sparse.get 0 m addr

/-- `n` bytes from `addr` on. -/
def Memory.read (m : List (Nat × Byte)) (addr n : Nat) : List Byte := (List.range n).map fun i => Memory.byte m (addr + i)

/-- Bytes written from `addr` on. -/
def Memory.write (m : List (Nat × Byte)) (addr : Nat) : List Byte → List (Nat × Byte)
  | [] => m
  | b :: bs => Memory.write (Sparse.set 0 m addr b) (addr + 1) bs

/-- The canonical form: addresses strictly rising, no byte listed that an unlisted address reads as. -/
def Memory.wf (m : List (Nat × Byte)) : Bool := Sparse.rising m && m.all fun e => e.2 != 0

def State.dramWrite (s : State) (addr : Nat) (data : List Byte) : State := { s with dma := { s.dma with dram := Memory.write s.dma.dram addr data } }

/-- A read by a requester: the detector of page 0x0F0 may be made to see a single error, corrected and counted, or a
double one, that reaches the requester as none (R537, R544, R642). -/
def State.dramRead (s : State) (addr n : Nat) : State × Option (List Byte) :=
  let one := s.injFires 0x0F0 0x10 0
  let two := s.injFires 0x0F0 0x10 1
  let s := (s.injStep 0x0F0 0x10 0).injStep 0x0F0 0x10 1
  let s := s.when one fun s => (s.count Reg.DRAM_ECC 15 0).raise 0x0F0 8
  if two then
    (((s.count Reg.DRAM_ECC 31 16).wr64 Reg.DRAM_EADDR_LO Reg.DRAM_EADDR_HI addr).raise 0x0F0 9, none)
  else (s, some (Memory.read s.dma.dram addr n))

/-! ### Areas of device DRAM: base and bytes -/

def State.stageArea (s : State) : Nat × Nat := (s.rd64 Reg.REC_STAGE_LO Reg.REC_STAGE_HI, s.get Reg.REC_STAGE_SIZE 10 0 * 2 ^ 20)
def State.tenantArea (s : State) : Nat × Nat := (s.rd64 Reg.SMU_DWIN_LO Reg.SMU_DWIN_HI, s.get Reg.SMU_DWIN_SIZE 13 0 * 2 ^ 20)
def State.spillArea (s : State) : Nat × Nat :=
  (s.rd64 (Reg.SW_SPILL 0) (Reg.SW_SPILL 1), s.get Reg.SW_SPILL_CFG 8 0 * 2 ^ 20)
def State.mirrorArea (s : State) (m : Nat) : Nat × Nat :=
  (s.rd64 (Reg.MIR_RING m 0) (Reg.MIR_RING m 1),
    if s.bit (Reg.MIR_CFG m) 0 then 160 * 2 ^ s.get (Reg.MIR_CFG m) 12 8 else 0)
def State.crumbArea (s : State) : Nat × Nat :=
  (s.rd64 Reg.LIFE_CRUMB_BASE_LO Reg.LIFE_CRUMB_BASE_HI, s.get Reg.LIFE_CRUMB_SIZE 10 0 * 1024)

/-- Two areas that hold anything overlap. -/
def overlap (a b : Nat × Nat) : Bool :=
  a.2 != 0 && b.2 != 0 && decide (a.1 < b.1 + b.2) && decide (b.1 < a.1 + a.2)

/-- An applied entry of the inbound filter admits a request (R338). -/
def filterAdmits (f : Word × Word × Nat) (src init space : Nat) (write : Bool) (addr len : Nat) : Bool :=
  let w := f.1
  let size := 2 ^ f.2.1.fld 12 8
  w.getLsbD 31 && (w.getLsbD 9 || w.fld 8 0 == src) && (w.getLsbD 17 || w.fld 16 10 == init) &&
    f.2.1.fld 0 0 == space && (!write || w.getLsbD 30) && decide (f.2.2 ≤ addr) && decide (addr + len ≤ f.2.2 + size)

def State.admits (s : State) (src init space : Nat) (write : Bool) (addr len : Nat) : Bool :=
  s.brg.filters.any fun e => filterAdmits e.2 src init space write addr len

end Sys2Proof.Machine
end

