-- ==== Sys2Proof/Machine/Life.lean ====
section
/-!
DEFINITION. The life store (19_life_store_and_crumbs.md): totals, journals under compaction, scrubbing, the leap-second table,
the crumb area, and the windows through which they are read. Crumb records are written in Crumb.lean.
-/
namespace Sys2Proof.Machine

/-! ### Totals (R581, R582) -/

/-- Turn-ons and THERM energy of a load switch feed its totals. -/
def State.lifeFlushLs (s : State) (n : Nat) : State :=
  let t : LifeTot := Sparse.get {} s.lifeLs n
  { s with lifeLs := Sparse.insert s.lifeLs n (t.feed [(s.rd (Reg.LS_CYC n)).toNat, (s.rd (Reg.LS_TENG n)).toNat]) }

/-- The counters that feed record `i` of the link totals; an absent link or port holds 0. -/
def State.linkSources (s : State) (i : Nat) : List Nat :=
  let two := fun a : Nat => [s.get a 15 0, s.get a 31 16]
  if i < 16 then (if s.has (0x040 + i) then two (Reg.SL_ERR i) ++ [s.get (Reg.SL_ERR2 i) 15 0] else [0, 0, 0])
  else if i < 24 then two (Reg.BL_ERR (i - 16)) ++ [s.get (Reg.BL_ERR2 (i - 16)) 15 0]
  else if i < 36 then
    (if s.part.hasSwitch || i < 26 then two (Reg.PORT_ERR (i - 24)) else [0, 0]) ++ [0]
  else if i < 38 then two (Reg.PCIE_ERR (i - 36)) ++ [0]
  else two Reg.FL_ERR ++ [s.get Reg.FL_FERR 15 0]

def State.lifeFlushLink (s : State) (i : Nat) : State :=
  let t : LifeTot := Sparse.get {} s.lifeLink i
  { s with lifeLink := Sparse.insert s.lifeLink i (t.feed (s.linkSources i)) }

/-- The last valid seconds are recorded while `TIME_VALID` is set. -/
def State.lifeLastSec (s : State) : State :=
  s.when (s.bit Reg.TB_STAT 8) fun s => s.wr64 Reg.LIFE_LASTSEC_LO Reg.LIFE_LASTSEC_HI s.tbSec

/-- R581: 60 s have passed. -/
def execLifeTotalsFlush (s : State) : Answer :=
  .next
    (let s := s.when (!s.power.held) fun s =>
        ({ s with power := { s.power with opSec := 0 } }).wr64 Reg.LIFE_OPSEC_LO Reg.LIFE_OPSEC_HI
          (s.rd64 Reg.LIFE_OPSEC_LO Reg.LIFE_OPSEC_HI + 60)
     let s := s.each (s.channels.filter fun k => s.chState k != 0) State.lifeFlushCh
     s.each (List.range 16) State.lifeFlushLs)

/-- R581: 3,600 s have passed. -/
def execLifeHourlyFlush (s : State) : Answer :=
  .next (s.lifeLastSec.each (List.range 39) State.lifeFlushLink)

/-! ### Errors and compaction (R580, R584) -/

/-- Corrected and uncorrectable words met by reads of the store. -/
def State.lifeErrors (s : State) (corr uncorr : Nat) : State :=
  let s := s.when (corr != 0) fun s => (s.count Reg.LIFE_ECC 15 0 corr).raise 0x004 8
  s.when (uncorr != 0) fun s => (s.count Reg.LIFE_ECC 31 16 uncorr).raise 0x004 9

/-- A read of the store, with what its injection point makes it meet. -/
def State.lifeReadEcc (s : State) (corr uncorr : Nat) : State :=
  let one := (s.injFires 0x004 0x10 0).toNat
  let two := (s.injFires 0x004 0x10 1).toNat
  ((s.injStep 0x004 0x10 0).injStep 0x004 0x10 1).lifeErrors (corr + one) (uncorr + two)

/-- R584: in Run and Doze. -/
def execLifeScrub (corr uncorr : Nat) (s : State) : Answer :=
  .next (if s.halted || s.feather then s else s.lifeReadEcc corr uncorr)

/-- R580: a journal reaches 75 % full. -/
def execJournalCompactionStart (j : Nat) (s : State) : Answer :=
  answer (decide (j < 2))
    (({ s with compacting := if s.compacting.contains j then s.compacting else s.compacting ++ [j] }).setBit Reg.LIFE_STAT 1
      true)

/-- R580: its content is unchanged; JOURNAL_COMPACT. -/
def execJournalCompactionEnd (j : Nat) (s : State) : Answer :=
  answer (decide (j < 2))
    (if s.compacting.contains j then
      let left := s.compacting.filter fun x => x != j
      (({ s with compacting := left }).setBit Reg.LIFE_STAT 1 (!left.isEmpty)).raise 0x004 12
    else s)

/-! ### Leap seconds (R583) -/

def State.lifeIdx (s : State) : Nat := s.get Reg.LIFE_SEL 7 0
def State.lifeSet (s : State) : Nat := s.get Reg.LIFE_SEL 11 8

/-- The entry in the window goes to index `SEL`, unless its second is not above that of the entry before it. -/
def State.leapWrite (s : State) : State :=
  let i := s.lifeIdx
  let sec := s.rd64 Reg.LIFE_LEAP_SEC_LO Reg.LIFE_LEAP_SEC_HI
  let low := match Sparse.find? s.leaps (i - 1) with
    | some e => 0 < i && decide (sec ≤ e.1)
    | none => false
  if 64 ≤ i || low then s.raise 0x004 11
  else if s.bit Reg.LIFE_LEAP_OFS 31 then
    { s with leaps := Sparse.insert s.leaps i (sec, s.getI Reg.LIFE_LEAP_OFS 15 0) }
  else { s with leaps := Sparse.erase s.leaps i }

def execLeapWrite (s : State) : Answer := .next s.leapWrite

def execLeapRead (s : State) : Answer :=
  .next
    (let (sec, ofs, ok) : Nat × Int × Bool := match Sparse.find? s.leaps s.lifeIdx with
      | some e => (e.1, e.2, true)
      | none => (0, 0, false)
     (s.wr64 Reg.LIFE_LEAP_SEC_LO Reg.LIFE_LEAP_SEC_HI sec).wrN Reg.LIFE_LEAP_OFS
      (Word.unsigned 16 ofs + 2 ^ 31 * ok.toNat))

def execLeapClear (s : State) : Answer := .next { s with leaps := [] }

/-! ### The crumb area (R585) and the summary window (R591) -/

/-- The area as the registers stand is one that R585 accepts. -/
def State.crumbOk (s : State) : Bool :=
  let a := s.crumbArea
  a.2 == 0 ||
    (decide (65536 ≤ a.2) && decide (a.2 ≤ 2 ^ 20) && a.1 % 65536 == 0 && s.dramHas a.1 a.2 &&
      !overlap a s.stageArea && !overlap a s.spillArea && !overlap a s.tenantArea &&
      !(List.range 4).any fun m => overlap a (s.mirrorArea m))

/-- A write of a register of the crumb area, ignored where it would place the area badly. -/
def execCrumbAreaWrite (addr : Nat) (v : Word) (s : State) : Answer :=
  answer (addr == Reg.LIFE_CRUMB_BASE_LO || addr == Reg.LIFE_CRUMB_BASE_HI || addr == Reg.LIFE_CRUMB_SIZE)
    (let v := if addr = Reg.LIFE_CRUMB_SIZE then v &&& 0x7FF else v
     let t := s.wr addr v
     if t.crumbOk then t else s.raise 0x004 11)

/-- The word at `WIN_ADDR` of the selected slot is shown, and `WIN_ADDR` advances; a word that the injection point makes
uncorrectable is a free value (R544, R591). -/
def State.lifeWin (s : State) : State :=
  let w := s.get Reg.LIFE_WIN_ADDR 11 0
  let v := if s.lifeSet = 4 then ((Sparse.get {} s.crumbs (s.lifeIdx % 8)).words.getD w 0) else 0
  let two := s.injFires 0x004 0x10 1
  let s := (s.lifeReadEcc 0 0).useFree
  (s.wr Reg.LIFE_WIN_DATA (if two then s.freeWord else v)).wrN Reg.LIFE_WIN_ADDR ((w + 1) % 4096)

/-- R591: a read of `LIFE.WIN_DATA`. -/
def execLifeWinRead (s : State) : Answer := .next s.lifeWin

end Sys2Proof.Machine
end

