-- ==== Sys2Proof/Machine/Completion.lean ====
section
/-!
DEFINITION. Completion of submission entries (R365 to R369): the completion entry, its queue, entries held for a full
queue, and CHAN_CMD entries that wait for the service of their channels (R366).
-/
namespace Sys2Proof.Machine

def State.subq (s : State) (i q : Nat) : Option SubQ := Sparse.find? (s.seat i).sqs q
def State.cqOf (s : State) (i q : Nat) : Option OutQ := Sparse.find? (s.seat i).cqs q

/-- The 16 bytes of a completion entry but for its phase (R368). -/
def cqeBytes (cid q status detail head result : Nat) : List Byte :=
  leBytes 2 cid ++ [BitVec.ofNat 8 q, BitVec.ofNat 8 status, BitVec.ofNat 8 detail, 0] ++ leBytes 2 head ++
    leBytes 8 result

/-- The entry with its phase bit. -/
def withPhase (b : List Byte) (phase : Bool) : List Byte := b.set 5 (BitVec.ofNat 8 phase.toNat)

/-- A completion entry written to completion queue `cq` of seat `i`, room taken for granted. -/
def State.cqWrite (s : State) (i cq : Nat) (b : List Byte) : State :=
  match s.cqOf i cq with
  | none => s
  | some o =>
    let b := withPhase b o.phase
    let s := s.modSeat i fun t => { t with cqs := Sparse.insert t.cqs cq (o.push b) }
    s.queueWrite i { kind := 1, idx := cq, addr := o.base + 16 * o.tail, data := b, vec := some o.vec }

/-- A completion is held for queue `cq`: for want of room (R369), or by a translation fault (R404). -/
def State.cqHeld (s : State) (i cq : Nat) : Bool :=
  ((s.seat i).heldC.any fun h => h.1 == cq) || (s.seat i).qout.any fun w => w.kind == 1 && w.idx == cq && w.stuck

/-- A completion entry goes to its queue, or is held behind those that wait for it (R369). -/
def State.cqPost (s : State) (i cq : Nat) (b : List Byte) : State :=
  match s.cqOf i cq with
  | none => s
  | some o =>
    if o.room && !s.cqHeld i cq then s.cqWrite i cq b
    else s.modSeat i fun t => { t with heldC := t.heldC ++ [(cq, b)] }

/-- Held completions are written while there is room (R369). -/
def State.cqDrain (s : State) (i cq : Nat) : Nat → State
  | 0 => s
  | n + 1 =>
    match (s.seat i).heldC.find? fun h => h.1 == cq with
    | none => s
    | some h =>
      match s.cqOf i cq with
      | none => s
      | some o =>
        if o.room then
          let s := s.modSeat i fun t => { t with heldC := t.heldC.erase h }
          (s.cqWrite i cq h.2).cqDrain i cq n
        else s

/-- The started entry of a queue and `CID`. -/
def State.startedOf (s : State) (i q cid : Nat) : Option Started :=
  (s.seat i).started.find? fun e => e.q == q && e.cid == cid

/-- A started entry completes: it leaves the started list, is counted, and its completion entry is posted unless it
carries SILENT and is OK (R364, R368, R387). -/
def State.complete (s : State) (i q cid status detail result : Nat) : State :=
  match s.startedOf i q cid with
  | none => s
  | some e =>
    let s := s.modSeat i fun t => { t with started := t.started.erase e }
    let s := s.count (Reg.ST_CNT i) 31 0
    if (byteAt e.bytes 1).testBit 1 && status == 0 then s
    else
      match s.subq i q with
      | none => s
      | some sq => s.cqPost i sq.cq (cqeBytes cid q status detail (s.rd (Reg.SA_SQ_HEAD i q)).toNat result)

/-- The channel of a CHAN_CMD entry has been served with a status; the entry completes with its last channel (R366). A
REG_WR of `CH[k].CMD` completes with the channel's status word (R367). -/
def State.chanServed (s : State) (i q cid k status : Nat) : State :=
  match (s.seat i).waits.find? fun w => w.q == q && w.cid == cid with
  | none =>
    match s.startedOf i q cid with
    | some e => if byteAt e.bytes 0 = 9 then s.complete i q cid 0 0 (s.rd (Reg.CH_STAT k)).toNat else s
    | none => s
  | some w =>
    let w' : ChanWait :=
      { w with left := w.left - 1
               detail := if w.detail = 0 then status else w.detail
               result := if status = 0 then w.result else w.result + 2 ^ (k % 16) }
    let s := s.modSeat i fun t => { t with waits := t.waits.erase w }
    if w'.left = 0 then s.complete i q cid (if w'.detail = 0 then 0 else 5) w'.detail w'.result
    else s.modSeat i fun t => { t with waits := t.waits ++ [w'] }

/-- The register that a REG_RD or REG_WR entry names: page at bytes 8 to 9, offset at 10 to 11 (R365). -/
def regNamed (b : List Byte) : Nat × Nat := (le16At b 8, le16At b 10)

/-- A command written to `PG_CTRL` of page `p` has been carried out: no STARTING, no STOPPING, and on a page whose life cycle
the field die holds, the command has arrived and the copy shows its outcome (R468, R494). -/
def State.pgSettled (s : State) (p : Nat) : Bool :=
  let st := s.pg p
  let away := decide (0x0C1 ≤ p) && decide (p ≤ 0x0C5) &&
    ((s.fc.queue.any fun w => w.1 == Reg.PG_CTRL p) || ((s.fc.down.map fun f => f.writes.any fun w => w.1 == Reg.PG_CTRL p).getD false) ||
      Sparse.get (1 : Word) s.field.regs (Reg.PG_STAT p) != s.rd (Reg.PG_STAT p))
  st != 2 && st != 4 && !away

/-- REG_WR entries that wait for a page command complete with `PG_STAT` once it is done (R367). -/
def State.regWrFollow (s : State) : State :=
  s.each (List.range 64) fun s i =>
    s.each ((s.seat i).started.filter fun e => e.run && byteAt e.bytes 0 == 9 && (regNamed e.bytes).2 == 0x00C) fun s e =>
      let p := (regNamed e.bytes).1
      s.when (s.pgSettled p) fun s => s.complete i e.q e.cid 0 0 (s.rd (Reg.PG_STAT p)).toNat

end Sys2Proof.Machine
end

