-- ==== Sys2Proof/Machine/Records.lean ====
section
/-!
DEFINITION. Records (06_crews_and_records.md): their 32 bytes, the staging area with its loss rules, and the delivery
of staged records to the rings of seats.
-/
namespace Sys2Proof.Machine

/-- One byte of a reflected CRC-32C (R236). -/
def crc32cByte (crc : Word) (b : Byte) : Word :=
  (List.range 8).foldl
    (fun c _ => if c.getLsbD 0 then (c >>> 1) ^^^ 0x82F63B78 else c >>> 1)
    (crc ^^^ b.setWidth 32)

/-- The CRC-32C of R236. -/
def crc32c (bs : List Byte) : Word := (bs.foldl crc32cByte 0xFFFFFFFF) ^^^ 0xFFFFFFFF

/-- The little-endian bytes of a two's complement number. -/
def leBytesI (n : Nat) (v : Int) : List Byte := leBytes n (Word.unsigned (8 * n) v)

/-- Bytes 0 to 27 of a record (R236). -/
def Record.head (r : Record) : List Byte :=
  [BitVec.ofNat 8 (r.typ + 16 * r.sub), BitVec.ofNat 8 r.chan] ++ leBytes 2 r.x ++ leBytes 8 r.time ++
    (r.body ++ leBytes 16 0).take 16

/-- The 32 bytes of a record (R236). -/
def Record.bytes (r : Record) : List Byte := r.head ++ leBytes 4 (crc32c r.head).toNat

/-- An EVENT record (R237, R238). -/
def eventRecord (k st code time : Nat) (a0 a1 a2 : Int) (idx tag : Nat) : Record :=
  { typ := 3, sub := st, chan := k, x := code, time := time
    body := leBytesI 4 a0 ++ leBytesI 4 a1 ++ leBytesI 4 a2 ++ leBytes 2 idx ++ leBytes 2 tag }

/-- Ring of the owner that a record of channel `k` goes to (R239). -/
def State.ringOf (s : State) (k typ : Nat) : Nat :=
  if typ = 1 then s.get (Reg.REC_CHROUTE k) 1 0 else s.get (Reg.REC_CHROUTE k) 5 4

def State.ring (s : State) (i r : Nat) : Ring := Sparse.get {} (s.seat i).rings r
def State.modRing (s : State) (i r : Nat) (f : Ring → Ring) : State :=
  s.modSeat i fun t => { t with rings := Sparse.insert t.rings r (f (Sparse.get {} t.rings r)) }

/-- Records that staging holds at most: the area of `STAGE_SIZE`, or the on-die buffer while the page is not RUNNING
(R243, R248). -/
def State.stageCap (s : State) : Nat :=
  if s.running 0x038 then s.get Reg.REC_STAGE_SIZE 10 0 * 32768 else 4096

/-- What counts against that: every staged record, or those of the on-die buffers while the page is not RUNNING. -/
def State.stagePool (s : State) : List Staged :=
  if s.running 0x038 then s.staging else s.staging.filter fun x => x.onDie

/-- `STAGE_USED`, `STAGE_PEAK` and STAGE_HIGH after a change of staging (R248). -/
def State.stageCount (s : State) : State :=
  let n := s.staging.length
  let before := (s.rd Reg.REC_STAGE_USED).toNat
  let s := s.wrN Reg.REC_STAGE_USED n
  let s := s.wrN Reg.REC_STAGE_PEAK (max n (s.rd Reg.REC_STAGE_PEAK).toNat)
  let cap := s.get Reg.REC_STAGE_SIZE 10 0 * 32768
  s.when (decide (3 * cap < 4 * n) && !decide (3 * cap < 4 * before)) fun s => s.raise 0x038 8

/-- A staged record is discarded: counted in the loss of its ring and in the channel's run of discards (R242). -/
def State.loseRecord (s : State) (x : Staged) : State :=
  let smp := x.record.typ == 1
  let s := s.modRing x.seat x.ring fun r =>
    if smp then { r with lossS := min (r.lossS + 1) 65535 } else { r with lossO := min (r.lossO + 1) 65535 }
  let s := s.modCh x.record.chan fun c =>
    { c with loss := match c.loss with
        | none => some (if smp then 0 else 1, if smp then 1 else 0, x.record.time, x.record.time)
        | some (o, m, f, _) => some (if smp then o else o + 1, if smp then m + 1 else m, f, x.record.time) }
  s.raise 0x038 9

/-- A full staging area makes room: its oldest SAMPLE goes first, and the oldest record of another type only when no
SAMPLE remains (R242). -/
def State.stageTrim (s : State) : State :=
  if s.stagePool.length ≤ s.stageCap then s
  else
    match s.stagePool.find? fun x => x.record.typ == 1 && !x.written with
    | some x => ({ s with staging := s.staging.erase x }).loseRecord x
    | none =>
      match s.stagePool.find? fun x => !x.written with
      | some x => ({ s with staging := s.staging.erase x }).loseRecord x
      | none => s

/-- A record enters staging (R240), and staging is held to its size. -/
def State.stageOne (s : State) (r : Record) : State :=
  let x : Staged := { seat := s.chOwner r.chan, ring := s.ringOf r.chan r.typ, record := r, onDie := !s.running 0x038 }
  (({ s with staging := s.staging ++ [x] }).stageTrim).stageCount

/-- Page 0x038 enters RUNNING: the records of the on-die buffers move to the staging area, which is held to its size. -/
def State.stageStartRec (s : State) : State :=
  let n := s.staging.length
  let s : State := { s with staging := s.staging.map fun x => { x with onDie := false } }
  (s.each (List.range n) fun s _ => s.stageTrim).stageCount

/-- RECORD_LOSS, before the next record of a channel whose records were discarded (R242, R238). -/
def State.flushLoss (s : State) (k : Nat) : State :=
  match (s.ch k).loss with
  | none => s
  | some (o, m, f, l) =>
    let s := s.modCh k fun c => { c with loss := none }
    s.stageOne (eventRecord k (s.chState k) 0x400 f o m (((l - f) / 1000000 : Nat) : Int) (s.prog k).idx
      (s.prog k).samp.tag)

/-- A record is generated for the owner of its channel (R239, R240). -/
def State.genRecord (s : State) (r : Record) : State := (s.flushLoss r.chan).stageOne r

/-- An EVENT record of channel `k` at its present step and state. -/
def State.genEvent (s : State) (k code time : Nat) (a0 a1 a2 : Int) : State :=
  s.genRecord (eventRecord k (s.chState k) code time a0 a1 a2 (s.prog k).idx (s.prog k).samp.tag)

/-- A ring is full (R363). -/
def Ring.full (r : Ring) : Bool := decide (r.depth ≤ (r.prod + 2 ^ 32 - r.cons) % 2 ^ 32)

/-- A ring's page of `REC.RSTAT` (R244). -/
def Ring.active (r : Ring) : Bool := r.state == 1

/-- The first staged record of a ring that is not written yet. -/
def State.nextStaged (s : State) (i r : Nat) : Option Staged :=
  s.staging.find? fun x => x.seat == i && x.ring == r && !x.written

/-- A ring enters a state; a change sends RING_STATE, and SUSPENDED raises RING_SUSP (R244, R371, R248). -/
def State.setRing (s : State) (i r st : Nat) : State :=
  if (s.ring i r).state = st then s
  else
    let s := s.modRing i r fun q => { q with state := st }
    let s := s.when (st == 2) fun s => s.raise 0x038 10
    s.seatEvent i 7 [BitVec.ofNat 8 r, BitVec.ofNat 8 st]

/-- The rings of a seat that are set up. -/
def State.ringsUp (s : State) (i : Nat) : List Nat :=
  (List.range 4).filter fun r => (s.ring i r).state != 0

/-- The number of the context of ring `r` of seat `i`; descriptor transfers are numbered below 2^20 (R389). -/
def ringXfer (i r : Nat) : Nat := 2 ^ 20 + 4 * i + r

/-- A translation fault suspends the delivery of the ring (R403). -/
def State.ringFaulted (s : State) (i r : Nat) : Bool :=
  match Sparse.find? s.dma.xfers (ringXfer i r) with
  | some t => t.st == .suspended
  | none => false

/-- Rings follow the seat's state and share (R244): SUSPENDED while DETACHED or at a translation fault, PARKED while
RESETTING, LOST or frozen, ACTIVE otherwise. -/
def State.ringsFollow (s : State) (i : Nat) : State :=
  let st := s.seatState i
  let want := if st = 2 then 2 else if st = 1 && s.seatShare i != 0 then 1 else 3
  s.each (s.ringsUp i) fun s r => s.setRing i r (if want = 1 && s.ringFaulted i r then 2 else want)

end Sys2Proof.Machine
end

