-- ==== Sys2Proof/Machine/Smu.lean ====
section
/-!
DEFINITION. The seat map unit (R398 to R404, R409): walks of the translation tables, the TLB, the fault log and the bits of
suspended work.
-/
namespace Sys2Proof.Machine

def State.setDma (s : State) (d : Dma) : State := { s with dma := d }

/-! ### The TLB (R400, R401) -/

/-- The TLB with `SMU.TLB` beside it. -/
def State.setTlb (s : State) (l : List TlbEnt) : State := (s.setDma { s.dma with tlb := l }).put Reg.SMU_TLB 11 0 l.length

/-- The entry covers a seat address. -/
def TlbEnt.covers (t : TlbEnt) (seat addr : Nat) : Bool :=
  t.seat == seat && (if t.big then t.page / 2 ^ 21 == addr / 2 ^ 21 else t.page / 2 ^ 12 == addr / 2 ^ 12)

/-- The entry overlaps a range of bytes. -/
def TlbEnt.overlaps (t : TlbEnt) (lo n : Nat) : Bool :=
  overlap (t.page, if t.big then 2 ^ 21 else 2 ^ 12) (lo, n)

/-- A new entry; a full TLB gives up its oldest. -/
def State.tlbAdd (s : State) (t : TlbEnt) : State :=
  s.setTlb (if 2048 ≤ s.dma.tlb.length then s.dma.tlb.drop 1 ++ [t] else s.dma.tlb ++ [t])

/-- The entries of a seat leave the TLB. -/
def State.tlbDrop (s : State) (seat : Nat) : State := s.setTlb (s.dma.tlb.filter fun t => t.seat != seat)

/-! ### Walks (R398, R402) -/

/-- A translated address, or the code of R402 that stopped it. -/
structure Xlat where
  code : Nat := 0
  dram : Bool := false
  addr : Nat := 0
  deriving DecidableEq, Repr

/-- A 64-bit table word, from device DRAM or from what host memory answers; none: the read fails. -/
def State.tableWord (s : State) (host : Nat → Option Nat) (dram : Bool) (addr : Nat) : State × Option Nat :=
  if dram then
    if s.dramHas addr 8 then
      let r := s.dramRead addr 8
      (r.1, r.2.map ofLeBytes)
    else (s, none)
  else (s, host addr)

/-- The next table or page base of an entry, cut from bit `b` on. -/
def entBase (w b : Nat) : Nat := w % 2 ^ 64 / 2 ^ b * 2 ^ b

/-- The entry of level `lvl` (2, 1, 0) of a walk: the leaf with its page map and size, or the code. -/
def State.walk (s : State) (host : Nat → Option Nat) (seat addr : Nat) : Nat → Bool → Nat → State × Nat × Option TlbEnt
  | 0, dram, base =>
    let r := s.tableWord host dram (base + 8 * (addr / 2 ^ 12 % 512))
    match r.2 with
    | none => (r.1, 6, none)
    | some w =>
      if w % 2 = 0 then (r.1, 1, none)
      else if w / 32 % 128 ≠ 0 then (r.1, 5, none)
      else
        (r.1, 0, some { seat := seat, page := addr / 2 ^ 12 * 2 ^ 12, big := false
                        map := { base := entBase w 12, dram := w.testBit 4, r := w.testBit 2, w := w.testBit 1 } })
  | lvl + 1, dram, base =>
    let r := s.tableWord host dram (base + 8 * (addr / 2 ^ (12 + 9 * (lvl + 1)) % 512))
    match r.2 with
    | none => (r.1, 6, none)
    | some w =>
      if w % 2 = 0 then (r.1, 1, none)
      else if w / 32 % 128 ≠ 0 then (r.1, 5, none)
      else if w.testBit 3 then
        if lvl = 0 && w / 2 ^ 12 % 512 = 0 then
          (r.1, 0, some { seat := seat, page := addr / 2 ^ 21 * 2 ^ 21, big := true
                          map := { base := entBase w 21, dram := w.testBit 4, r := w.testBit 2, w := w.testBit 1 } })
        else (r.1, 5, none)
      else r.1.walk host seat addr lvl (w.testBit 4) (entBase w 12)

/-- A leaf used for an access. -/
def State.leafUse (s : State) (t : TlbEnt) (addr : Nat) (write : Bool) : Xlat :=
  let size := if t.big then 2 ^ 21 else 2 ^ 12
  let win := s.tenantArea
  if write && !t.map.w then { code := 3 }
  else if !write && !t.map.r then { code := 2 }
  else if t.map.dram && !(decide (win.1 ≤ t.map.base) && decide (t.map.base + size ≤ win.1 + win.2)) then { code := 4 }
  else { dram := t.map.dram, addr := t.map.base + addr % size }

/-- A walk, whose leaf joins the TLB. -/
def State.walkUse (s : State) (host : Nat → Option Nat) (root : Root) (seat addr : Nat) (write : Bool) : State × Xlat :=
  let r := (s.count Reg.SMU_MISSES 31 0).walk host seat addr 2 root.dram root.base
  match r.2.2 with
  | none => (r.1, { code := r.2.1 })
  | some t => (r.1.tlbAdd t, r.1.leafUse t addr write)

/-- Translation of a seat address for an access (R398 to R402). -/
def State.translateBy (s : State) (host : Nat → Option Nat) (seat addr : Nat) (write : Bool) : State × Xlat :=
  match Sparse.find? s.dma.roots seat with
  | none => (s, { code := 7 })
  | some root =>
    if root.bypass then (s, { addr := addr })
    else if 2 ^ 39 ≤ addr then (s, { code := 4 })
    else
      match s.dma.tlb.find? fun t => t.covers seat addr with
      | none => s.walkUse host root seat addr write
      | some t =>
        let bad := s.injFires 0x098 0x10 0
        let s := s.injStep 0x098 0x10 0
        if bad then
          ((s.setTlb (s.dma.tlb.erase t)).count Reg.SMU_TLBERR 31 0).walkUse host root seat addr write
        else (s.count Reg.SMU_HITS 31 0, s.leafUse t addr write)

/-- Translation with the table words in host memory that a command brings. -/
def State.translate (s : State) (host : List (Nat × Nat)) (seat addr : Nat) (write : Bool) : State × Xlat :=
  s.translateBy (fun a => (host.find? fun e => e.1 == a).map fun e => e.2) seat addr write

/-! ### Faults (R403, R404, R409) -/

/-- `SMU.FLOG0`: kind 0 DESC, 1 RECORD, 2 QUEUE; the access is a walk where the walk itself failed. -/
def flog0 (seat kind engine code : Nat) (write : Bool) : Word :=
  BitVec.ofNat 32 (seat + 64 * kind + 256 * (if code = 6 then 2 else write.toNat) + 4096 * engine + 65536 * code + 2 ^ 31)

/-- A fault enters the log, or is counted where the log is full; XLATE_FAULT. -/
def State.smuFault (s : State) (w : Word) (addr : Nat) (tag : Word) : State :=
  let s := if s.dma.smuLog.length < 64 then
      (s.setDma { s.dma with smuLog := s.dma.smuLog ++ [(w, addr, tag)] }).count Reg.SMU_FCNT 15 0
    else s.count Reg.SMU_FCNT 31 16
  s.raise 0x098 8

/-- The seat has suspended work. -/
def State.suspWork (s : State) (i : Nat) : Bool :=
  (s.dma.xfers.any fun e => e.2.seat == i && e.2.st == .suspended) || (s.dma.fetchSusp.any fun k => k / 8 == i) ||
    (s.sw.snics.any fun e => e.1 == i && (e.2.stopTx || e.2.stopRx)) || (s.seat i).qout.any fun w => w.stuck

/-- A bit per seat in a pair of registers. -/
def State.putSeatBit (s : State) (lo hi i : Nat) (b : Bool) : State :=
  if i < 32 then s.setBit lo i b else s.setBit hi (i - 32) b

/-- `SMU.SUSP` follows. -/
def State.suspFollow (s : State) (i : Nat) : State := s.putSeatBit Reg.SMU_SUSP_LO Reg.SMU_SUSP_HI i (s.suspWork i)

/-- Bytes written at a translated address. -/
def State.xlatWrite (s : State) (i : Nat) (x : Xlat) (d : List Byte) : State :=
  if x.dram then s.dramWrite x.addr d else s.send (.busWrite (s.seatPort i) x.addr d)

/-- R409: the oldest entry leaves the fault log and shows in `FLOG0` to `FLOG3`. -/
def execFaultLogRead (s : State) : Answer :=
  .next (match s.dma.smuLog with
    | [] => ((s.wr Reg.SMU_FLOG0 0).wr64 Reg.SMU_FLOG1 Reg.SMU_FLOG2 0).wr Reg.SMU_FLOG3 0
    | (w, addr, tag) :: rest =>
      (((s.setDma { s.dma with smuLog := rest }).wr Reg.SMU_FLOG0 w).wr64 Reg.SMU_FLOG1 Reg.SMU_FLOG2 addr).wr
        Reg.SMU_FLOG3 tag)

end Sys2Proof.Machine
end

