-- ==== Sys2Proof/Machine/Engines.lean ====
section
/-!
DEFINITION. Transfer contexts and the chunks that DMA engines hold (R389 to R392, R403, R405, R406).
-/
namespace Sys2Proof.Machine

def dmaPage (e : Nat) : Nat := 0x090 + e

/-- The transfer of a number; a ring's context always exists. -/
def State.xfer? (s : State) (x : Nat) : Option Xfer :=
  match Sparse.find? s.dma.xfers x with
  | some t => some t
  | none =>
    if 2 ^ 20 ≤ x && x < 2 ^ 20 + 256 then some { seat := (x - 2 ^ 20) / 4, kind := .record ((x - 2 ^ 20) % 4) } else none

def State.setXfer (s : State) (x : Nat) (t : Xfer) : State := s.setDma { s.dma with xfers := Sparse.insert s.dma.xfers x t }
def State.dropXfer (s : State) (x : Nat) : State := s.setDma { s.dma with xfers := Sparse.erase s.dma.xfers x }

def State.engine? (s : State) (e : Nat) : Option Chunk := Sparse.find? s.dma.engines e

/-- The engine holds no chunk any more. -/
def State.engineIdle (s : State) (e : Nat) : State :=
  (s.setDma { s.dma with engines := Sparse.erase s.dma.engines e }).wr (Reg.DMA_STAT e) 0

/-- Engine `e` abandons its chunk (R391); its transfer goes on as `st`. -/
def State.abandon (s : State) (e : Nat) (st : XferSt) : State :=
  match s.engine? e with
  | none => s
  | some c =>
    let s := ((s.engineIdle e).count (Reg.DMA_ERR e) 31 16).raise (dmaPage e) 9
    match s.xfer? c.x with
    | none => s
    | some t =>
      let s := s.setXfer c.x { t with st := st }
      match t.kind with
      | .desc _ _ => s
      | .record r =>
        { s with staging := s.staging.map fun (x : Staged) =>
            if x.seat = t.seat && x.ring = r then { x with written := false } else x }

/-- The engines that hold a chunk of a seat. -/
def State.enginesOf (s : State) (i : Nat) : List (Nat × Chunk) := s.dma.engines.filter fun e => e.2.seat == i

/-- The bound port of a seat went down: its chunks are abandoned and its transfers are held (R406). -/
def State.holdXfers (s : State) (i : Nat) : State := s.each (s.enginesOf i) fun s e => s.abandon e.1 .held

/-- Held transfers may be carried again (R406). -/
def State.freeHeld (s : State) (i : Nat) : State :=
  s.setDma { s.dma with
    xfers := s.dma.xfers.map fun e => if e.2.seat == i && e.2.st == .held then (e.1, { e.2 with st := .ready }) else e }

/-- A seat reset frees every context of the seat whose chunk no engine holds (R380, R405). -/
def State.dropXfers (s : State) (i : Nat) : State :=
  (s.setDma { s.dma with
    xfers := s.dma.xfers.filter fun e => e.2.seat != i || s.dma.engines.any fun g => g.2.x == e.1 }).suspFollow i

/-- A suspended descriptor transfer ends XLATE with the bytes completed (R396, R403). -/
def State.abortXfer (s : State) (x : Nat) : State :=
  match s.xfer? x with
  | some t =>
    match t.kind with
    | .desc q cid => (s.dropXfer x).complete t.seat q cid 5 1 (t.pos + 2 ^ 32 * t.code)
    | .record _ => s
  | none => s

/-- Transfers of a seat that satisfy `f`. -/
def State.xfersOf (s : State) (i : Nat) (f : Xfer → Bool) : List Nat :=
  (s.dma.xfers.filter fun e => e.2.seat == i && f e.2).map fun e => e.1

end Sys2Proof.Machine
end

