-- ==== Sys2Proof/Machine/Channel.lean ====
section
/-!
DEFINITION. What every change of a channel's state goes through (03_control_engine.md, 04_step_programs.md): the
summary and events of its page, STEP_END records, the entry to SAFE or FAULTED (R137, R141), and the entry to IDLE.
-/
namespace Sys2Proof.Machine

/-! ### The stroke (R111 to R113) -/

/-- N of the loop engine (R112). -/
def State.nStroke (s : State) : Nat := s.get Reg.LOOP_CFG 5 0

/-- The duration of a stroke in ns. -/
def State.tsNs (s : State) : Nat := s.nStroke * 32000

/-- The base strobe index of the latest stroke boundary. -/
def State.boundary (s : State) : Nat := s.strobeIdx / (2 * s.nStroke) * (2 * s.nStroke)

/-- The instant at which points committed in the service of boundary `b` start: b + Ts. -/
def State.nextStart (s : State) (b : Nat) : Nat := strobeNs b + s.tsNs

/-! ### The current step -/

/-- Word `w` of the current step entry of channel `k` (R164). -/
def State.entryWord (s : State) (k idx w : Nat) : Word :=
  match (s.prog k).slot with
  | none => 0
  | some sl => Sparse.get 0 s.store (((Sparse.get {} s.slots sl).base + idx) * 16 + w)

def State.stepWord (s : State) (k w : Nat) : Word := s.entryWord k (s.prog k).idx w

/-- `TAG` of the current step. -/
def State.stepTag (s : State) (k : Nat) : Nat := (s.stepWord k 0).fld 31 24

/-! ### Channel events (R153, R370) -/

/-- A CHANNEL entry for the owner of channel `k`. -/
def State.channelEvent (s : State) (k : Nat) : State :=
  let i := s.chOwner k
  if s.eqAccepts i then
    s.postEvent i 2 0
      ([BitVec.ofNat 8 k, BitVec.ofNat 8 (s.chState k), BitVec.ofNat 8 (s.get (Reg.CH_FCAUSE k) 7 0), 0] ++
        leBytes 4 (s.rd (Reg.CH_STAT k)).toNat ++ leBytes 12 0)
  else s

/-- A withdrawn member no longer counts as arrived (R225, R228). -/
def State.withdraw (s : State) (k : Nat) : State :=
  { s with crews := s.crews.map fun e => (e.1, { e.2 with arrived := e.2.arrived.filter (· != k) }) }

/-- Channel `k` enters a state (R136, R153). -/
def State.setChState (s : State) (k st : Nat) : State :=
  if s.chState k = st then s
  else
    let g := k / 16
    let i := k % 16
    let s := s.put (Reg.CH_STAT k) 2 0 st
    let s := s.setBit (Reg.CHG_STCHG g) i true
    let s := (s.setBit (Reg.CHG_SUM g) i (st == 6)).setBit (Reg.CHG_SUM g) (16 + i) (st == 5)
    let s := s.when (st == 0 || st == 5 || st == 6) fun s => s.withdraw k
    let s := s.raise (chPage k) 8
    let s := s.when (st == 6) fun s => s.raise (chPage k) 9
    let s := s.when (st == 5) fun s => s.raise (chPage k) 10
    s.wakeSelf.channelEvent k

/-! ### The end of a step (R177, R183, R237) -/

/-- pC of one µAh, and units of 10^−19 J of one µWh (R134, R237). -/
def pcPerMicroAh : Nat := 3600000000
def unitsPerMicroWh : Nat := 36000000000000000

/-- QSTEP and ESTEP of the current step: 0 until its S (R169, R177). -/
def State.qNow (s : State) (k : Nat) : Int := if (s.ctl k).qFrom.isSome then 0 else (s.ctl k).qstep
def State.eNow (s : State) (k : Nat) : Int := if (s.ctl k).qFrom.isSome then 0 else (s.ctl k).estep

/-- The STEP_END record of the current step. -/
def State.stepEndRecord (s : State) (k reason endNs next : Nat) (more : Bool) : Record :=
  { typ := 2, sub := more.toNat, chan := k
    x := (s.prog k).idx % 4096 + 4096 * s.chMode k
    time := endNs
    body := leBytes 4 (s.rd (Reg.CH_VNOW k)).toNat ++ bytes32 (roundDiv (s.qNow k) pcPerMicroAh) ++
      bytes32 (roundDiv (s.eNow k) unitsPerMicroWh) ++
      [BitVec.ofNat 8 reason, BitVec.ofNat 8 (s.stepTag k)] ++ leBytes 2 (next % 4096) }

/-- The sweep table of an EIS step loses the channel's reference (R187); the point in progress takes the samples that
arrive until the step's points end. -/
def State.releaseSweep (s : State) (k endNs : Nat) : State :=
  if (s.eis k).active then
    let t := (s.eis k).table
    let w := Sparse.get {} s.sweeps t
    let s := { s with sweeps := Sparse.insert s.sweeps t { w with refs := w.refs - 1 } }
    s.modEis k fun e =>
      { e with active := false, prev := if e.trunc || e.paused then none else some (e.win, endNs / 16000) }
  else s

/-- A trend ends with its step, and one that has not started by then never does (R209). -/
def State.stopTrend (s : State) (k endNs : Nat) : State :=
  s.modTrend k fun t =>
    { t with stop := if t.active && t.stop.isNone then some endNs else t.stop
             next := t.next.filter fun x => decide (x.1 < endNs) }

/-- The current step ends: its record, its reason, and what is released with it. `next` is the next entry index, 0xFFF
where the program ends. -/
def State.endStep (s : State) (k reason endNs next : Nat) (more : Bool) : State :=
  if !(s.prog k).live then s
  else
    let s := s.genRecord (s.stepEndRecord k reason endNs next more)
    let s := s.put (Reg.CH_POS k) 23 16 reason
    let h : StepHist := { tag := s.stepTag k, q := roundDiv (s.qNow k) pcPerMicroAh
                          e := roundDiv (s.eNow k) unitsPerMicroWh, v := s.rdI (Reg.CH_VNOW k) }
    let s := s.modProg k fun p =>
      { p with live := false, hist := (h :: p.hist).take 16, samp := { p.samp with stop := some endNs } }
    (((s.releaseSweep k endNs).stopTrend k endNs).lifeFlushCh k).wakeSelf

/-! ### SAFE and FAULTED (R137, R141) -/

/-- A cause of class FAULTED (R141). -/
def causeFaults (cause : Nat) : Bool := decide (cause ≤ 14)

/-- The frame points of a channel that leaves its step: 0 µA still connected, then disconnected (R137). -/
def zeroPoints (n : Nat) : List Point := { dmd := 0, conn := true } :: List.replicate (n - 1) {}

/-- The latest temperature of channel `k`, in 0.01 K. -/
def State.tempNow (s : State) (k : Nat) : Int := s.getI (mtemp k) 15 0

/-- The TRIP event of R238. -/
def State.tripEvent (s : State) (k cause : Nat) : State :=
  s.genEvent k (0x100 + cause) s.now (s.rdI (Reg.CH_VNOW k)) (s.rdI (Reg.CH_INOW k)) (s.tempNow k)

/-- The committed points of a channel are replaced by zero demand and the disconnect command. -/
def State.zeroDemand (s : State) (k : Nat) : State :=
  s.modCtl k fun c => { c with nxt := zeroPoints (4 * s.nStroke), ending := false, low := 0, rngNxt := c.rngCur }

/-- Channel `k` is to enter SAFE or FAULTED: `reason` and `endNs` are those of its STEP_END. A channel already
FAULTED, or SAFE for a cause of class SAFE, only counts (R148). -/
def State.tripCh (s : State) (k cause reason endNs : Nat) (more : Bool := false) : State :=
  let st := s.chState k
  let s := s.count (Reg.CH_TRIP k) 31 16
  if st = 6 || (st == 5 && !causeFaults cause) then s
  else
    let s := s.put (Reg.CH_FCAUSE k) 7 0 cause
    let s := s.setBit (Reg.CH_FCAUSE k) 8 more
    let s := s.setChState k (if causeFaults cause then 6 else 5)
    let s := s.tripEvent k cause
    let s := s.endStep k reason endNs 0xFFF more
    (s.stopTrend k endNs).zeroDemand k

/-- The reason that a cause gives a STEP_END (R183). -/
def causeReason (cause : Nat) : Nat := if causeFaults cause then 17 else 18

/-- A trip of the service of boundary `b` (R144). -/
def State.tripAt (s : State) (k cause b : Nat) (more : Bool := false) : State :=
  s.tripCh k cause (causeReason cause) (s.nextStart b) more

/-- A trip that acts at once, at the present instant. -/
def State.tripNow (s : State) (k cause : Nat) (more : Bool := false) : State :=
  s.tripCh k cause (causeReason cause) s.now more

/-- States that a stop of a page sends to SAFE (R141). -/
def State.chLive (s : State) (k : Nat) : Bool :=
  s.chState k == 1 || s.chState k == 2 || s.chState k == 3 || s.chState k == 4

/-- Every ARMED, RUNNING, PAUSED or HELD channel of a list goes to SAFE with a cause. -/
def State.safeAll (s : State) (ks : List Nat) (cause : Nat) : State :=
  s.each (ks.filter s.chLive) fun s k => s.tripNow k cause

/-- Forced zero demand from an instant on, for a channel whose measure page stops (R103). -/
def State.forceFrom (s : State) (k ns : Nat) : State :=
  s.modCtl k fun c => { c with force := some ns, forced := false }

/-! ### IDLE -/

/-- The channel's program slot loses its reference (R159). -/
def State.releaseSlot (s : State) (k : Nat) : State :=
  match (s.prog k).slot with
  | none => s
  | some sl =>
    let d := Sparse.get {} s.slots sl
    let s := { s with slots := Sparse.insert s.slots sl { d with refs := d.refs - 1 } }
    s.modProg k fun p => { p with slot := none }

/-- Channel `k` enters IDLE: disconnected, its program released, its totals written (R138, R159, R581). -/
def State.enterIdle (s : State) (k : Nat) : State :=
  let s := s.setChState k 0
  let s := (s.lifeFlushCh k).releaseSlot k
  let s := s.modProg k fun p => { p with live := false }
  let s := s.put (Reg.CH_STAT k) 7 4 0
  s.modCtl k fun c => { c with cur := [], nxt := [], ending := false, force := none, forced := false, wins := [] }

end Sys2Proof.Machine
end

