-- ==== Sys2Proof/Machine/Sweep.lean ====
section
/-!
DEFINITION. Sweep tables, the instants of a sweep, and its excitation (R187 to R195).
-/
namespace Sys2Proof.Machine

def State.sweep (s : State) (t : Nat) : Sweep := Sparse.get {} s.sweeps t
def State.setSweep (s : State) (t : Nat) (w : Sweep) : State := { s with sweeps := Sparse.insert s.sweeps t w }

/-- A point of a table. -/
def Sweep.pt (w : Sweep) (p : Nat) : EisPt := Sparse.get {} w.pts p

/-- The point is a DC-resistance point (R188). -/
def EisPt.isDcr (p : EisPt) : Bool := p.typ.fld 1 0 == 1

/-- NSET and NINT of a sine point, POST of a DC-resistance point. -/
def EisPt.nint (p : EisPt) : Nat := p.cyc.fld 15 0
def EisPt.nset (p : EisPt) : Nat := p.cyc.fld 31 16

/-- A quotient rounded up. -/
def ceilDiv (a b : Nat) : Nat := if b = 0 then 0 else (a + b - 1) / b

/-- The duration of a point in base strobes (R189). -/
def EisPt.strobes (p : EisPt) : Nat :=
  if p.isDcr then 68750 + 6250 * p.nint
  else ceilDiv ((p.nset + p.nint) * 6250000000) p.freq.toNat

/-- The lead-in in base strobes (R189). -/
def Sweep.leadStrobes (w : Sweep) : Nat := (w.lead * 125 + 1) / 2

/-- All durations from point `p` on, `n` points of them. -/
def Sweep.restStrobes (w : Sweep) (p : Nat) : Nat → Nat
  | 0 => 0
  | n + 1 => (w.pt p).strobes + w.restStrobes (p + 1) n

/-- A sine point above the small-signal bandwidth of the stage of channel `k` is skipped (R195). -/
def State.skipsPoint (s : State) (k : Nat) (p : EisPt) : Bool :=
  !p.isDcr && decide (s.descU32 (k / 16) 16 < p.freq.toNat)

/-- x of R193 in units of 2^−16 µA, `f` frames after Ap. -/
def EisPt.excitation (p : EisPt) (f : Nat) : Int :=
  if p.isDcr then
    if 12500 ≤ f ∧ f < 137500 then p.amp.toInt * 65536 else 0
  else if f * p.freq.toNat < (p.nset + p.nint) * 12500000000 then
    let delta := (roundDiv (p.freq.toNat * 2 ^ 48 : Nat) 12500000000).toNat
    clampI (-(p.amp.toInt * 65536)) (p.amp.toInt * 65536) (roundDiv (p.amp.toInt * Config.sin60 (f * delta % 2 ^ 48) (2 ^ 48)) (2 ^ 44))
  else 0

/-- x for the frame of index `fi`, the sweep standing at point `p` with Ap at strobe `a`. -/
def State.sweepX (s : State) (k : Nat) (w : Sweep) (fi : Nat) : Nat → Nat → Nat → Int
  | 0, _, _ => 0
  | n + 1, p, a =>
    if fi < 2 * a then 0
    else if fi < 2 * (a + (w.pt p).strobes) then
      if s.skipsPoint k (w.pt p) then 0 else (w.pt p).excitation (fi - 2 * a)
    else s.sweepX k w fi n (p + 1) (a + (w.pt p).strobes)

/-- The excitation of channel `k` for the frame of index `fi` (R193, R204). -/
def State.excite (s : State) (k fi : Nat) : Int :=
  let e := s.eis k
  if !e.active || e.trunc then 0
  else
    let w := s.sweep e.table
    s.sweepX k w fi (w.npts - e.win.point) e.win.point e.win.start

/-- The measured window of point `p` of a sweep, from strobe `a` on. -/
def State.pointWin (s : State) (k t p a : Nat) : EisWin :=
  { table := t, point := p, pt := (s.sweep t).pt p, start := a, skipBw := s.skipsPoint k ((s.sweep t).pt p) }

/-- A sweep starts at the strobe of S (R189). -/
def State.startSweep (s : State) (k t sIdx : Nat) : State :=
  let w := s.sweep t
  let a := sIdx + w.leadStrobes
  let s := s.setSweep t { w with refs := w.refs + 1 }
  s.modEis k fun e => { e with active := true, table := t, trunc := false, paused := false
                               win := s.pointWin k t 0 a, endIdx := a + w.restStrobes 0 w.npts, marks := [] }

/-- Excitation stops with a pause; no result comes of the point (R204). -/
def State.pauseSweep (s : State) (k : Nat) : State :=
  if (s.eis k).active then s.modEis k fun e => { e with paused := true } else s

/-- After a pause of `d` strobes that ends at strobe `a`, the point in progress restarts at phase 0, a lead-in goes on,
and every later instant moves with it (R204). -/
def State.resumeSweep (s : State) (k a d : Nat) : State :=
  let e := s.eis k
  if e.active && e.paused then
    let w := s.sweep e.table
    let a := if a < e.win.start + d then e.win.start + d else a
    s.modEis k fun e => { e with paused := false, win := s.pointWin k e.table e.win.point a
                                 endIdx := a + w.restStrobes e.win.point (w.npts - e.win.point) }
  else s

end Sys2Proof.Machine
end

