-- ==== Sys2Proof/Machine/Crew.lean ====
section
/-!
DEFINITION. Crews (06_crews_and_records.md): entries and their operations (R220 to R223), registration and heartbeats
(R224), barriers (R225 to R228), transitions (R229, R230), reductions (R231 to R233) and grading (R234, R235).
-/
namespace Sys2Proof.Machine

/-! ### Entries -/

def State.crew (s : State) (e : Nat) : Crew := Sparse.get {} s.crews e
def State.setCrew (s : State) (e : Nat) (c : Crew) : State := { s with crews := Sparse.insert s.crews e c }
def State.modCrew (s : State) (e : Nat) (f : Crew → Crew) : State := s.setCrew e (f (s.crew e))

/-- A member that is withdrawn (R225). -/
def State.withdrawn (s : State) (k : Nat) : Bool := s.chState k == 0 || s.chState k == 5 || s.chState k == 6

/-- The duration of 64 strobes in ns: marks are its multiples (R226). -/
def markNs : Nat := 1024000

/-- Entries, READY, of a crew identifier. -/
def State.readyOf (s : State) (crew : Nat) : List Nat :=
  (s.crews.filter fun x => x.2.state == 2 && x.2.id == crew).map (·.1)

/-! ### The coordinator (R224 to R226) -/

def State.coord (s : State) (crew : Nat) : Coord := Sparse.get {} s.coords crew
def State.modCoord (s : State) (crew : Nat) (f : Coord → Coord) : State :=
  { s with coords := Sparse.insert s.coords crew (f (s.coord crew)) }

/-- M and A of R225. -/
def Coord.m (c : Coord) : Nat := (c.devs.map fun d => d.count - d.withdrawn).sum
def Coord.a (c : Coord) : Nat := (c.devs.map fun d => d.arrived).sum

/-- Another device of the crew. -/
def State.otherDevs (s : State) (crew : Nat) : List Nat :=
  ((s.coord crew).devs.map fun d => d.dev).filter fun d => d != s.devId

/-- The crew's registration of a device, or its removal. -/
def State.registerDev (s : State) (crew dev : Nat) (count : Option Nat) : State :=
  s.modCoord crew fun c =>
    let rest := c.devs.filter fun d => d.dev != dev
    { c with devs := match count with
        | some n => rest ++ [{ dev := dev, count := n }]
        | none => rest }

/-- Local members of entry `e` that declared arrival are freed by the release that names instant `r` (R226, R227). -/
def State.freeMembers (s : State) (e r : Nat) : State :=
  let c := s.crew e
  let late := decide (r < s.now)
  let at_ := max r s.now
  let s := s.each c.arrived fun s k =>
    let s := s.modProg k fun p => { p with rels := p.rels ++ [(c.id, at_)] }
    if late then s.genEvent k 0x301 s.now c.id ((s.now - r) / 1000 : Nat) c.gen else s
  let s := s.modCrew e fun c => { c with gen := c.gen + 1, arrived := [], reported := (0, c.reported.2) }
  let s := s.raise 0x036 10
  let s := s.when late fun s => (s.count Reg.CREW_MISS 31 16).raise 0x036 11
  let per := s.tsNs
  s.capture 38 (if per = 0 then at_ else (at_ + per - 1) / per * per)

/-- A release of generation `gen` reaches this device (R226); while page 0x036 is not RUNNING it waits (R228). -/
def State.releaseRx (s : State) (crew gen r : Nat) : State :=
  s.each (s.readyOf crew) fun s e =>
    if !s.running 0x036 then s.modCrew e fun c => { c with held := c.held ++ [(gen, r)] }
    else if (s.crew e).gen = gen then s.freeMembers e r else s

/-- The coordinator of `crew` releases where its policy holds (R225, R226, R228). -/
def State.decideRelease (s : State) (crew : Nat) : State :=
  match (s.readyOf crew).find? fun e => (s.crew e).coord == s.devId with
  | none => s
  | some e =>
    let c := s.crew e
    let q := s.coord crew
    let go := match c.policy with
      | 0 => q.a == q.m && decide (1 ≤ q.m)
      | 1 => decide (1 ≤ q.a)
      | _ => decide (c.n ≤ q.a)
    if !(go && s.running 0x036) then s
    else
      let mark := ceilDiv (s.now + (s.rd Reg.CREW_LEAD).toNat * 1000) markNs
      let s := s.each (s.otherDevs crew) fun s d => s.sendCrew d (.release crew q.gen mark)
      let s := s.modCoord crew fun q =>
        { gen := q.gen + 1, devs := q.devs.map fun d => { d with arrived := 0 } }
      s.releaseRx crew q.gen (mark * markNs)

/-- A device's counts of a generation reach the coordinator (R225). -/
def State.countArrivals (s : State) (crew dev gen arrived withdrawn : Nat) : State :=
  let s := s.modCoord crew fun q =>
    { q with devs := q.devs.map fun d =>
        if d.dev = dev then
          { d with withdrawn := withdrawn, arrived := if gen = q.gen then arrived else d.arrived }
        else d }
  s.decideRelease crew

/-- The report of entry `e`, made only when its counts have changed (R225). -/
def State.reportEntry (s : State) (e : Nat) : State :=
  let c := s.crew e
  let now := (c.arrived.length, (c.mask.filter s.withdrawn).length)
  if c.state ≠ 2 || c.reported = now then s
  else
    let s := s.modCrew e fun c => { c with reported := now }
    if c.coord = s.devId then s.countArrivals c.id s.devId c.gen now.1 now.2
    else s.sendCrew c.coord (.report c.id c.gen now.1 now.2)

/-- Once per stroke every changed count is reported (R225, R228). -/
def State.crewReports (s : State) : State :=
  if s.running 0x036 then s.each (s.crews.map (·.1)) fun s e => s.reportEntry e else s

/-- Page 0x036 enters RUNNING: releases that waited take effect, and the coordinator decides anew (R228). -/
def State.crewStart (s : State) : State :=
  let s := s.each (s.crews.map (·.1)) fun s e =>
    let l := (s.crew e).held
    (s.modCrew e fun c => { c with held := [] }).each l fun s x =>
      if (s.crew e).gen = x.1 then s.freeMembers e x.2 else s
  s.each (s.coords.map (·.1)) fun s crew => s.decideRelease crew

/-! ### Operations (R221, R222) -/

/-- A crew operation completes with a status. -/
def State.crewDone (s : State) (st : Nat) : State :=
  ((s.put Reg.CREW_STAT 0 0 0).put Reg.CREW_STAT 11 8 st).raise 0x036 8

/-- An op written to `CREW.CMD`: dropped while `BUSY`, STOPPED while page 0x036 is not RUNNING. -/
def State.crewCmd (s : State) (f : State → State) : State :=
  if !s.has 0x036 then s
  else if s.bit Reg.CREW_STAT 0 then s.raise 0x036 9
  else if !s.running 0x036 then s.crewDone 10
  else f s

/-- The channels of `CREW.MASK[0..7]`. -/
def State.maskRegs (s : State) : List Nat :=
  (List.range 256).filter fun k => s.bit (Reg.CREW_MASK (k / 32)) (k % 32)

/-- The mark of `CREW.ARG1` and `ARG2`. -/
def State.crewMarkArg (s : State) : Nat := (s.rd Reg.CREW_ARG1).toNat + 2 ^ 32 * s.get Reg.CREW_ARG2 15 0

/-- A mark that lies in the future. -/
def State.markAhead (s : State) (mark : Nat) : Bool := decide (s.now < mark * markNs)

def State.crewJoinOp (s : State) (e : Nat) : State :=
  let id := s.get Reg.CREW_ARG0 11 0
  let pol := s.get Reg.CREW_ARG0 13 12
  let n := s.get Reg.CREW_ARG1 17 0
  if (List.range 64).all fun i => (s.crew i).state != 0 then s.crewDone 2
  else if (s.crew e).state ≠ 0 then s.crewDone 1
  else if pol = 3 || (pol == 2 && n == 0) then s.crewDone 5
  else if s.crews.any fun x => x.2.state != 0 && x.2.id == id then s.crewDone 3
  else
    (s.setCrew e { state := 1, id := id, policy := pol, n := n, coord := s.get Reg.CREW_ARG0 24 16 }).crewDone 0

def State.crewSetmaskOp (s : State) (e : Nat) : State :=
  if (s.crew e).state ≠ 1 then s.crewDone 1
  else if !s.maskRegs.all s.hasCh then s.crewDone 6
  else (s.modCrew e fun c => { c with mask := s.maskRegs }).crewDone 0

/-- The entry becomes READY (R221). -/
def State.crewSealed (s : State) (e : Nat) : State :=
  (s.modCrew e fun c => { c with state := 2, sealing := false, arrived := [], reported := (0, 0), held := [], skip := [] }).crewDone 0

def State.crewSealOp (s : State) (e : Nat) : State :=
  let c := s.crew e
  if c.state ≠ 1 then s.crewDone 1
  else if c.coord = s.devId then
    let s := s.registerDev c.id s.devId (some c.mask.length)
    (s.modCrew e fun x => { x with gen := (s.coord c.id).gen }).crewSealed e
  else
    let s := s.modCrew e fun c => { c with sealing := true }
    (s.put Reg.CREW_STAT 0 0 1).sendCrew c.coord (.register c.id c.mask.length)

/-- A reduction context works for entry `e`. -/
def State.redPending (s : State) (e : Nat) : Bool :=
  s.reds.any fun x => (x.2.state == 1 || x.2.state == 2) && x.2.entry == e

def State.crewOpenOp (s : State) (e : Nat) : State :=
  let c := s.crew e
  if c.state ≠ 2 then s.crewDone 1
  else if !c.arrived.isEmpty || !c.trans.isEmpty || s.redPending e then s.crewDone 4
  else
    let s := if c.coord = s.devId then s.registerDev c.id s.devId none
      else s.sendCrew c.coord (.deregister c.id)
    (s.modCrew e fun c => { c with state := 1 }).crewDone 0

def State.crewLeaveOp (s : State) (e : Nat) : State :=
  if (s.crew e).state ≠ 1 then s.crewDone 1
  else ({ s with crews := Sparse.erase s.crews e }).crewDone 0

/-! ### Transitions (R229, R230) -/

/-- The lowest FREE schedule slot. -/
def State.freeSlot (s : State) : Option Nat := (List.range 32).find? fun i => s.get (Reg.SCH_USTAT i) 1 0 == 0

/-- `SCH.USED`: a slot is not FREE. -/
def State.slotState (s : State) (i st : Nat) : State :=
  (s.put (Reg.SCH_USTAT i) 1 0 st).setBit Reg.SCH_USED i (st != 0)

/-- A schedule slot taken by the crew unit for entry `e` at mark `mark`: must-not-be-late, marked `CREW`. -/
def State.takeSlot (s : State) (i e mark : Nat) : State :=
  let t := mark * markNs
  let s := s.wrN (Reg.SCH_CTRL i) (3 + 16 + 0x8000)
  let s := (s.wrN (Reg.SCH_T_SEC_LO i) (t / 1000000000)).wrN (Reg.SCH_T_SEC_HI i) (t / 1000000000 / 2 ^ 32)
  let s := (s.wrN (Reg.SCH_T_NS i) (t % 1000000000)).wrN (Reg.SCH_ARG i) e
  let s := (s.wrN (Reg.SCH_PER_LO i) 0).wrN (Reg.SCH_PER_HI i) 0
  (s.wrN (Reg.SCH_USTAT i) 0).slotState i 2

/-- A transition that this device does not make (R230). -/
def State.transMissed (s : State) (e op : Nat) : State :=
  let c := s.crew e
  let s := (s.count Reg.CREW_MISS 15 0).raise 0x036 12
  let s := s.raise 0x052 8
  s.each c.mask fun s k => s.genEvent k 0x302 s.now c.id op 0

def State.crewTransOp (s : State) (e : Nat) : State :=
  let c := s.crew e
  let op := s.get Reg.CREW_ARG0 3 0
  let mark := s.crewMarkArg
  if c.state ≠ 2 then s.crewDone 1
  else if !transOp op || !s.markAhead mark then s.crewDone 5
  else
    match s.freeSlot with
    | none => s.crewDone 8
    | some i =>
      let s := (s.takeSlot i e mark).modCrew e fun c => { c with trans := c.trans ++ [(op, mark, i)] }
      let fan := s.bit Reg.CREW_ARG2 16 && c.coord == s.devId
      let s := s.when fan fun s => s.each (s.otherDevs c.id) fun s d => s.sendCrew d (.trans c.id op mark)
      s.crewDone 0

/-- A forwarded transition reaches this device (R229, R230). -/
def State.transRx (s : State) (crew op mark : Nat) : State :=
  s.each (s.readyOf crew) fun s e =>
    if mark * markNs < s.now + 100000 then s.transMissed e op
    else
      match s.freeSlot with
      | none => s.transMissed e op
      | some i => (s.takeSlot i e mark).modCrew e fun c => { c with trans := c.trans ++ [(op, mark, i)] }

/-- The slot of a transition fires: every local member takes the op in its service at T (R229), but for a START that an
owner-lost policy has cancelled (R147). -/
def State.transFire (s : State) (slot : Nat) : State :=
  s.each (s.crews.map (·.1)) fun s e =>
    match (s.crew e).trans.find? fun t => t.2.2 == slot with
    | none => s
    | some t =>
      let ks := (s.crew e).mask.filter fun k => !(s.crew e).skip.contains (slot, k)
      let s := s.modCrew e fun c => { c with trans := c.trans.erase t, skip := c.skip.filter fun x => x.1 != slot }
      s.each ks fun s k =>
        s.modCtl k fun c => { c with cmds := c.cmds ++ [{ op := t.1, seat := 0, crew := some (s.crew e).id }] }

/-- The slot of a transition could not fire on time (R230). -/
def State.transMiss (s : State) (slot : Nat) : State :=
  s.each (s.crews.map (·.1)) fun s e =>
    match (s.crew e).trans.find? fun t => t.2.2 == slot with
    | none => s
    | some t =>
      (s.modCrew e fun c => { c with trans := c.trans.erase t, skip := c.skip.filter fun x => x.1 != slot }).transMissed e t.1

/-! ### Reductions (R231 to R233) -/

/-- A source of R231. -/
def sourceOk (src : Nat) : Bool := decide (1 ≤ src) && decide (src ≤ 13)

/-- The stored impedance result of a channel and point (R207). -/
def State.eisResult (s : State) (k p : Nat) : EisRes := Sparse.get {} s.eisRes (k * 64 + p)

/-- The value of a source on channel `k` at mark `mark`, none where it is missing (R231). -/
def State.sourceValue (s : State) (k src param mark : Nat) : Option Int :=
  let mw := (s.chMeas k).markLast
  let win := mw.mark == mark && mw.n != 0 && !mw.bad
  let hist := (s.prog k).hist.find? fun h => h.tag == param
  let r := s.eisResult k (param % 64)
  let valid := r.flags.getLsbD 0
  let dcr := r.flags.getLsbD 11
  let t := s.trend k
  match src with
  | 1 => if win then some (meanOf mw.sumV mw.n) else none
  | 2 => if win then some (meanOf mw.sumI mw.n) else none
  | 3 => some (s.tempNow k)
  | 4 => hist.map fun h => h.q
  | 5 => hist.map fun h => h.e
  | 6 => hist.map fun h => h.v
  | 7 => if valid then some r.zre else none
  | 8 => if valid then some r.zim else none
  | 9 => if valid && dcr then some r.zre else none
  | 10 => if valid && dcr then some r.zim else none
  | 11 => if t.noFit || decide (t.n < 3) then none else some t.slope
  | 12 => if t.noFit || decide (t.n < 3) then none else some (t.ssig : Int)
  | 13 => some (s.get (kres k) 15 0 : Nat)
  | _ => none

/-- The values of a source over a list of channels. -/
def State.sourceValues (s : State) (ks : List Nat) (src param mark : Nat) : List (Nat × Int) :=
  ks.filterMap fun k => (s.sourceValue k src param mark).map fun v => (k, v)

def State.red (s : State) (c : Nat) : Red := Sparse.get {} s.reds c
def State.modRed (s : State) (c : Nat) (f : Red → Red) : State :=
  { s with reds := Sparse.insert s.reds c (f (s.red c)) }

/-- All contributed values as (device, channel, value). -/
def Red.all (r : Red) : List (Nat × Nat × Int) :=
  r.contrib.flatMap fun d => d.2.map fun x => (d.1, x.1, x.2)

/-- The smaller of two members by value, device and channel (R232). -/
def pickMin (a b : Nat × Nat × Int) : Nat × Nat × Int :=
  if b.2.2 < a.2.2 ∨ (b.2.2 = a.2.2 ∧ (b.1 < a.1 ∨ (b.1 = a.1 ∧ b.2.1 < a.2.1))) then b else a

/-- The larger of two members, ties to the lowest device and channel. -/
def pickMax (a b : Nat × Nat × Int) : Nat × Nat × Int :=
  if a.2.2 < b.2.2 ∨ (b.2.2 = a.2.2 ∧ (b.1 < a.1 ∨ (b.1 = a.1 ∧ b.2.1 < a.2.1))) then b else a

/-- The results over a list of values (R232). -/
def reduceAll (l : List (Nat × Nat × Int)) (isPartial : Bool) : RedResult :=
  match l with
  | [] => { isPartial := isPartial }
  | h :: t =>
    let lo := t.foldl pickMin h
    let hi := t.foldl pickMax h
    { count := l.length, sum := (l.map fun x => x.2.2).sum
      sumSq := (l.map fun x => (x.2.2 * x.2.2).toNat).sum
      min := lo.2.2, minChan := lo.2.1, minDev := lo.1, max := hi.2.2, maxChan := hi.2.1, maxDev := hi.1
      isPartial := isPartial }

/-- 1 plus the number of values strictly below (R232). -/
def rankOf (l : List (Nat × Nat × Int)) (v : Int) : Nat := 1 + (l.filter fun x => decide (x.2.2 < v)).length

/-- Ranks of the members of a device. -/
def ranksOf (l : List (Nat × Nat × Int)) (dev : Nat) : List (Nat × Nat) :=
  (l.filter fun x => x.1 == dev).map fun x => (x.2.1, rankOf l x.2.2)

/-! ### Grading (R234, R235) -/

def State.crit (s : State) (t bin c : Nat) : Crit := Sparse.get {} s.crits (t * 64 + bin * 4 + c)
def State.rankSource (s : State) (t : Nat) : Nat × Nat :=
  let w := Sparse.get 0 s.ranksrc t
  (w.fld 7 0, w.fld 15 8)

def Crit.en (c : Crit) : Bool := c.w0.getLsbD 17
def Crit.rel (c : Crit) : Bool := c.w0.getLsbD 16
def Crit.source (c : Crit) : Nat × Nat := (c.w0.fld 7 0, c.w0.fld 15 8)

/-- The enabled criteria of a table. -/
def State.critsOf (s : State) (t : Nat) : List Crit :=
  (((List.range 64).map fun i => Sparse.get {} s.crits (t * 64 + i)).filter Crit.en)

/-- Sources that a grading reduces: the rank source and every relative one. -/
def State.gradeSources (s : State) (t : Nat) : List (Nat × Nat) :=
  ((s.rankSource t :: ((s.critsOf t).filter Crit.rel).map Crit.source)).eraseDups

/-- z of R234. -/
def zScore (r : RedResult) (v : Int) : Int :=
  let c : Int := r.count
  let num := v * c - r.sum
  let var := (c * (r.sumSq : Int) - r.sum * r.sum).toNat
  if var = 0 then 0
  else
    let m := sqrtRound ((1000 * num).natAbs ^ 2) var
    if num < 0 then -(m : Int) else m

/-- The snapshot value of a source on a channel. -/
def Red.snapOf (r : Red) (src : Nat × Nat) (k : Nat) : Option Int :=
  match r.snap.find? fun x => x.1 == src with
  | none => none
  | some x => (x.2.find? fun y => y.1 == k).map (·.2)

def Red.statOf (r : Red) (src : Nat × Nat) : RedResult :=
  match r.stats.find? fun x => (x.1, x.2.1) == src with
  | none => {}
  | some x => x.2.2

/-- A criterion on channel `k`: none where its input is missing, else whether it passes. -/
def Red.critPass (r : Red) (c : Crit) (k : Nat) : Option Bool :=
  match r.snapOf c.source k with
  | none => none
  | some v =>
    let x := if c.rel then zScore (r.statOf c.source) v else v
    some (decide (c.lo.toInt ≤ x) && decide (x ≤ c.hi.toInt))

/-- The enabled criteria of a bin, each with its outcome. -/
def State.binOutcomes (s : State) (r : Red) (t k bin : Nat) : List (Option Bool) :=
  ((List.range 4).map (s.crit t bin)).filter Crit.en |>.map fun c => r.critPass c k

/-- The GRADE record of channel `k` (R235, R237). -/
def State.gradeRecord (s : State) (c t k : Nat) : Record :=
  let r := s.red c
  let outs := (List.range 16).map fun b => (b, s.binOutcomes r t k b)
  let missing := outs.filter fun o => o.2.any fun x => x.isNone
  let bin := match outs.find? fun o => o.2.all fun x => x == some true with
    | some o => o.1
    | none => if missing.isEmpty then 255 else 254
  let rank := ((r.ranks.find? fun x => x.1 == k).map (·.2)).getD 0
  let src := s.rankSource t
  let st := r.statOf src
  let z := (r.snapOf src k).map fun v => zScore st v
  { typ := 6, sub := t, chan := k, x := (s.crew r.entry).id, time := r.mark * markNs
    body := [BitVec.ofNat 8 bin, 0] ++ leBytes 2 ((missing.map fun o => 2 ^ o.1).sum) ++ leBytes 4 rank ++
      leBytes 4 st.count ++ bytes32 (z.getD 0) }

/-- Every local member receives its bin (R235). -/
def State.gradeAssign (s : State) (c t : Nat) : State :=
  (s.each (s.crew (s.red c).entry).mask fun s k => s.genRecord (s.gradeRecord c t k)).raise 0x037 9

/-- The ranks of the local members (R232). -/
def State.writeRanks (s : State) (c : Nat) (ranks : List (Nat × Nat)) : State :=
  let s := s.modRed c fun r => { r with ranks := ranks }
  s.each (s.crew (s.red c).entry).mask fun s k =>
    s.wrN (Reg.RED_RANK k) (((ranks.find? fun x => x.1 == k).map (·.2)).getD 0)

/-- A reduction of context `c` has its results: kept for z, and the context is done where no source remains. -/
def State.redKeep (s : State) (c : Nat) (res : RedResult) : State :=
  s.modRed c fun r =>
    { r with result := res, empty := res.count == 0, stats := r.stats ++ [(r.src, r.param, res)] }

/-- The context ends: RED_DONE, and the grading where it is one (R233, R235). -/
def State.redEnd (s : State) (c : Nat) : State :=
  let s := (s.modRed c fun r => { r with state := 3 }).raise 0x037 8
  match (s.red c).grade with
  | some t => s.gradeAssign c t
  | none => s

/-- The next source of a grading becomes the one reduced; its local values are contributed. -/
def State.redNext (s : State) (c : Nat) (src : Nat × Nat) (rest : List (Nat × Nat)) : State :=
  let s := s.modRed c fun r => { r with src := src.1, param := src.2, todo := rest, contrib := [] }
  let r := s.red c
  let vals := match r.snap.find? fun x => x.1 == src with
    | some x => x.2
    | none => []
  let e := s.crew r.entry
  if e.coord = s.devId then s.modRed c fun r => { r with contrib := [(s.devId, vals)] }
  else s.sendCrew e.coord (.contrib e.id src.1 src.2 r.mark vals)

/-- Every registered device has contributed to context `c`. -/
def State.redComplete (s : State) (c : Nat) : Bool :=
  let r := s.red c
  (s.coord (s.crew r.entry).id).devs.all fun d => r.contrib.any fun x => x.1 == d.dev

/-- The coordinator combines what it has and sends the results and ranks (R232, R233). -/
def State.redCombine (s : State) (c : Nat) (isPartial : Bool) : State :=
  let r := s.red c
  let id := (s.crew r.entry).id
  let res := reduceAll r.all isPartial
  let s := s.each (s.otherDevs id) fun s d =>
    (s.sendCrew d (.result id r.src r.param r.mark res)).sendCrew d
      (.rank id r.src r.param r.mark (ranksOf r.all d))
  let s := s.redKeep c res
  let isRank := match r.grade with
    | some t => s.rankSource t == (r.src, r.param)
    | none => true
  s.when isRank fun s => s.writeRanks c (ranksOf r.all s.devId)

/-- The reduction of the present source finishes at the coordinator, and those of a grading that can follow. -/
def State.redFinish (s : State) (c : Nat) (isPartial : Bool) : Nat → State
  | 0 => s
  | n + 1 =>
    let s := s.redCombine c isPartial
    match (s.red c).todo with
    | [] => s.redEnd c
    | src :: rest =>
      let s := s.redNext c src rest
      if s.redComplete c then s.redFinish c false n else s

/-- The results of the present source reach a device that does not coordinate: RED_DONE with the last of them, and the end
of a reduction, whose ranks follow (R233). -/
def State.redResult (s : State) (c : Nat) (res : RedResult) : State :=
  let s := s.redKeep c res
  if !(s.red c).todo.isEmpty then s
  else (s.modRed c fun r => { r with state := if r.grade.isNone then 3 else r.state }).raise 0x037 8

/-- At mark T the context collects the local values (R231, R232). -/
def State.redCollect (s : State) (c : Nat) : State :=
  let r := s.red c
  let e := s.crew r.entry
  let srcs := match r.grade with
    | some t => (s.gradeSources t ++ (s.critsOf t).map Crit.source).eraseDups
    | none => [(r.src, r.param)]
  let snap := srcs.map fun x => (x, s.sourceValues e.mask x.1 x.2 r.mark)
  let s := s.modRed c fun r => { r with state := 2, snap := snap, stats := [], ranks := [] }
  let first := match r.grade with
    | some t => s.gradeSources t
    | none => [(r.src, r.param)]
  match first with
  | [] => s
  | x :: rest =>
    let s := s.redNext c x rest
    if e.coord = s.devId && s.redComplete c then s.redFinish c false (rest.length + 1) else s

/-- REDUCE and GRADE take a context (R232, R235). -/
def State.redStart (s : State) (e src param : Nat) (grade : Option Nat) : State :=
  let mark := s.crewMarkArg
  if (s.crew e).state ≠ 2 then s.crewDone 1
  else if !s.running 0x037 then s.crewDone 10
  else if (grade.isNone && !sourceOk src) || !s.markAhead mark then s.crewDone 5
  else
    match (List.range 8).find? fun c => (s.red c).state == 0 || (s.red c).state == 3 with
    | none => s.crewDone 9
    | some c =>
      let s := s.modRed c fun _ => { state := 1, entry := e, src := src, param := param, mark := mark, grade := grade }
      (s.put Reg.CREW_STAT 18 16 c).crewDone 0

/-- INFO (R221, R246). -/
def State.crewInfoOp (s : State) (e : Nat) : State :=
  let c := s.crew e
  let q := s.coord c.id
  let mine := c.state == 2 && c.coord == s.devId
  let s := s.wrN Reg.CREW_INFO0 (c.id + 2 ^ 12 * c.policy + 2 ^ 16 * c.coord + 2 ^ 30 * c.state)
  let s := s.wrN Reg.CREW_INFO1 c.n
  let s := s.wrN Reg.CREW_INFO2 (c.mask.length + 2 ^ 16 * (c.gen % 65536))
  let s := s.wrN Reg.CREW_INFO3 (if mine then q.m % 2 ^ 18 + 2 ^ 18 * q.devs.length else 0)
  let s := s.wrN Reg.CREW_INFO4 (if mine then q.a % 2 ^ 18 else 0)
  (s.each (List.range 8) fun s w =>
    s.wrN (Reg.CREW_MASK w) (((List.range 32).map fun i => if c.mask.contains (32 * w + i) then 2 ^ i else 0).sum)).crewDone 0

/-! ### Meanings -/

/-- R221. -/
def execCrewNop (e : Nat) (s : State) : Answer := answer (wfEntry e) (s.crewCmd fun s => s.crewDone 0)
/-- R221, R222, R223. -/
def execCrewJoin (e : Nat) (s : State) : Answer := answer (wfEntry e) (s.crewCmd fun s => s.crewJoinOp e)
/-- R221. -/
def execCrewSetmask (e : Nat) (s : State) : Answer := answer (wfEntry e) (s.crewCmd fun s => s.crewSetmaskOp e)
/-- R221, R224. -/
def execCrewSeal (e : Nat) (s : State) : Answer := answer (wfEntry e) (s.crewCmd fun s => s.crewSealOp e)
/-- R221: the entry goes to READY on acknowledgement, in the generation that the coordinator has open. -/
def execCrewSealAck (e gen : Nat) (s : State) : Answer :=
  answer (wfEntry e) (if (s.crew e).sealing then (s.modCrew e fun c => { c with gen := gen }).crewSealed e else s)
/-- R222: NO_COORD; the entry stays OPEN. -/
def execCrewSealTimeout (e : Nat) (s : State) : Answer :=
  answer (wfEntry e)
    (if (s.crew e).sealing then (s.modCrew e fun c => { c with sealing := false }).crewDone 7 else s)
/-- R221, R222. -/
def execCrewOpen (e : Nat) (s : State) : Answer := answer (wfEntry e) (s.crewCmd fun s => s.crewOpenOp e)
/-- R221. -/
def execCrewLeave (e : Nat) (s : State) : Answer := answer (wfEntry e) (s.crewCmd fun s => s.crewLeaveOp e)
/-- R229. -/
def execCrewTrans (e : Nat) (s : State) : Answer := answer (wfEntry e) (s.crewCmd fun s => s.crewTransOp e)
/-- R232. -/
def execCrewReduce (e : Nat) (s : State) : Answer :=
  answer (wfEntry e) (s.crewCmd fun s => s.redStart e (s.get Reg.CREW_ARG0 7 0) (s.get Reg.CREW_ARG0 15 8) none)
/-- R235. -/
def execCrewGrade (e : Nat) (s : State) : Answer :=
  answer (wfEntry e) (s.crewCmd fun s => s.redStart e 0 0 (some (s.get Reg.CREW_ARG0 1 0)))
/-- R221, R246. -/
def execCrewInfo (e : Nat) (s : State) : Answer := answer (wfEntry e) (s.crewCmd fun s => s.crewInfoOp e)
/-- R221: ops 10 to 15 complete BAD_ARG. -/
def execCrewReservedOp (e op : Nat) (s : State) : Answer :=
  answer (wfEntry e && decide (10 ≤ op) && decide (op < 16)) (s.crewCmd fun s => s.crewDone 5)
/-- R224: a heartbeat returns. -/
def execCrewHeartbeatRx (crew : Nat) (s : State) : Answer :=
  answer (decide (crew < 4096)) (s.each (s.readyOf crew) fun s e => s.modCrew e fun c => { c with lost := false })
/-- R224: COORD_LOST. -/
def execCoordHeartbeatTimeout (e : Nat) (s : State) : Answer :=
  answer (wfEntry e)
    (let c := s.crew e
     if c.state = 2 && c.coord != s.devId && !c.lost && s.running 0x036 && s.slp != 4 && s.slp != 5 &&
         decide (s.fab.quietTo ≤ s.now) then
       (s.modCrew e fun c => { c with lost := true }).raise 0x036 13
     else s)

/-- R225. -/
def execCrewArrivalRx (crew dev gen arrived withdrawn : Nat) (s : State) : Answer :=
  answer (decide (crew < 4096) && decide (dev < 512)) (s.countArrivals crew dev gen arrived withdrawn)
/-- R226, R227. -/
def execCrewReleaseRx (crew gen mark : Nat) (s : State) : Answer :=
  answer (decide (crew < 4096)) (s.releaseRx crew gen (mark * markNs))
/-- R229, R230. -/
def execCrewTransRx (crew op mark : Nat) (s : State) : Answer :=
  answer (decide (crew < 4096) && transOp op) (s.transRx crew op mark)
/-- R231, R232. -/
def execReductionMark (c : Nat) (s : State) : Answer :=
  answer (decide (c < 8))
    (if (s.red c).state = 1 && decide ((s.red c).mark * markNs ≤ s.now) then s.redCollect c else s)
/-- R232. -/
def execReductionContribRx (c dev : Nat) (vals : List (Nat × Int)) (s : State) : Answer :=
  answer (decide (c < 8) && decide (dev < 512))
    (if (s.red c).state = 2 then
       let s := s.modRed c fun r => { r with contrib := r.contrib.filter (fun x => x.1 != dev) ++ [(dev, vals)] }
       if s.redComplete c then s.redFinish c false ((s.red c).todo.length + 1) else s
     else s)
/-- R233: what has not come is left out. -/
def execReductionDeadline (c : Nat) (s : State) : Answer :=
  answer (decide (c < 8))
    (let r := s.red c
     if r.state = 2 then
       if (s.crew r.entry).coord = s.devId then s.redFinish c (!s.redComplete c) (r.todo.length + 1)
       else if (s.crew r.entry).lost then
         ((s.redKeep c { isPartial := true }).writeRanks c []).redEnd c
       else s
     else s)
/-- R233. -/
def execReductionResultRx (c : Nat) (r : RedResult) (s : State) : Answer :=
  answer (decide (c < 8)) (if (s.red c).state = 2 then s.redResult c r else s)
/-- R233, R235. -/
def execReductionRankRx (c : Nat) (ranks : List (Nat × Nat)) (s : State) : Answer :=
  answer (decide (c < 8))
    (let r := s.red c
     if r.state = 2 then
       let isRank := match r.grade with
         | some t => s.rankSource t == (r.src, r.param)
         | none => true
       let s := s.when isRank fun s => s.writeRanks c ranks
       match r.grade, r.todo with
       | some t, [] => (s.modRed c fun r => { r with state := 3 }).gradeAssign c t
       | some _, src :: rest => s.redNext c src rest
       | none, _ => s
     else if r.state = 3 && r.grade.isNone then s.writeRanks c ranks
     else s)
/-- R224: a device registers its members, or deregisters. -/
def execCrewRegistrationRx (crew dev : Nat) (count : Option Nat) (s : State) : Answer :=
  answer (decide (crew < 4096) && decide (dev < 512))
    (if (s.readyOf crew).any fun e => (s.crew e).coord == s.devId then
       let s := s.registerDev crew dev count
       if count.isSome then s.sendCrew dev (.sealAck crew (s.coord crew).gen) else s.decideRelease crew
     else s)
/-- R224: this coordinator sends its heartbeats. -/
def execCoordHeartbeatSend (s : State) : Answer :=
  .next (if s.running 0x036 && !s.halted then
    s.each (s.crews.filter fun x => x.2.state == 2 && x.2.coord == s.devId) fun s x =>
      s.each (s.otherDevs x.2.id) fun s d => s.sendCrew d (.heartbeat x.2.id)
    else s)

end Sys2Proof.Machine
end

