-- ==== Sys2Proof/Machine/FieldDie.lean ====
section
/-!
DEFINITION. The field die itself (15_field_die.md): its registers, the zone trip matrix, the applied states of load switches
and digital outputs, fail-safe, supplies, and what its detectors find. The link that joins it to the core is in Field.lean.
-/
namespace Sys2Proof.Machine

/-! ### Registers and occurrences of the field die -/

def State.setField (s : State) (f : Field) : State := { s with field := f }
def State.frd (s : State) (a : Nat) : Word := Sparse.get (resetValue s.part s.straps a) s.field.regs a
def State.fwr (s : State) (a : Nat) (v : Word) : State :=
  s.setField { s.field with regs := Sparse.set (resetValue s.part s.straps a) s.field.regs a v }
def State.fget (s : State) (a hi lo : Nat) : Nat := (s.frd a).fld hi lo
def State.fput (s : State) (a hi lo v : Nat) : State := s.fwr a ((s.frd a).setFld hi lo v)
def State.fbit (s : State) (a i : Nat) : Bool := (s.frd a).getLsbD i
def State.fsetBit (s : State) (a i : Nat) (b : Bool) : State := s.fput a i i b.toNat
def State.fcount (s : State) (a hi lo : Nat) (n : Nat := 1) : State :=
  s.fput a hi lo (min (s.fget a hi lo + n) (2 ^ (hi + 1 - lo) - 1))

/-- An event of page `p`, kept for the core as an occurrence (R468). -/
def State.fEvent (s : State) (p b : Nat) : State :=
  let s := s.setField { s.field with events := s.field.events ++ [(p, b)] }
  s.fsetBit (Reg.PG_EVRAW p) b true

/-- State of a page that the field die holds (R494). -/
def State.fpg (s : State) (p : Nat) : Nat := s.fget (Reg.PG_STAT p) 2 0
def State.fsetPg (s : State) (p st : Nat) : State := s.fput (Reg.PG_STAT p) 2 0 st
def State.frunning (s : State) (p : Nat) : Bool := s.fpg p == 3

/-- A load switch at the field die, and its page. -/
def State.lsDyn (s : State) (n : Nat) : LsDyn := Sparse.get {} s.field.ls n
def State.setLs (s : State) (n : Nat) (d : LsDyn) : State := s.setField { s.field with ls := Sparse.set {} s.field.ls n d }
def lsPage (n : Nat) : Nat := 0x0C3 + n / 8

/-- A rail (0 FV24, 1 LSV, 2 DOV) is in under-voltage (R473). -/
def State.railUv (s : State) (r : Nat) : Bool := s.field.uv.contains r

/-! ### The zone trip matrix (R489 to R493) -/

/-- The selected inputs of route `r` that are active, lowest index first. -/
def State.zoneInputs (s : State) (r : Nat) : List Nat :=
  let di := s.frd (Reg.ZT_DIMASK r) &&& (s.frd Reg.DI_LEVEL ^^^ s.frd (Reg.ZT_DIPOL r))
  let w := s.frd (Reg.ZT_OTHER r)
  (List.range 32).filter (fun i => di.getLsbD i) ++
    ((List.range 16).filter fun i => w.getLsbD i && s.field.mask.testBit i).map (32 + ·) ++
    ((List.range 3).filter fun i => w.getLsbD (16 + i) && s.railUv i).map (48 + ·) ++
    (if w.getLsbD 19 && s.field.failsafe && s.field.byWdt then [51] else []) ++
    (if w.getLsbD 20 && s.field.test then [52] else [])

def State.zoneFired (s : State) (r : Nat) : Bool := s.fbit Reg.ZT_FIRED r

/-- One route on the present inputs: its active bits, and its firing. -/
def State.zoneRoute (s : State) (r : Nat) : State :=
  let ins := s.zoneInputs r
  let on := !ins.isEmpty
  let s := (s.fsetBit Reg.ZT_ACTIVE r on).fsetBit (Reg.ZT_STAT r) 1 on
  if s.frunning 0x0C5 && s.fbit (Reg.ZT_OTHER r) 31 && !s.zoneFired r && on then
    let s := (s.fsetBit Reg.ZT_FIRED r true).fsetBit (Reg.ZT_STAT r) 0 true
    ((s.fput (Reg.ZT_STAT r) 15 8 (ins.headD 0)).fcount Reg.ZT_CNT 31 0).fEvent 0x0C5 8
  else s

/-- `ACT_LS` and `ACT_DO` in force of a route (R493). -/
def State.zoneActs (s : State) (r : Nat) : Word × Word := Sparse.get (0, 0) s.field.zones r
def State.routeOff (s : State) (n : Nat) : Bool := (List.range 16).any fun r => s.zoneFired r && (s.zoneActs r).1.getLsbD n
def State.routeOn (s : State) (n : Nat) : Bool :=
  (List.range 16).any fun r => s.zoneFired r && (s.zoneActs r).1.getLsbD (16 + n)
def State.routeDo (s : State) (n : Nat) : Bool := (List.range 16).any fun r => s.zoneFired r && (s.zoneActs r).2.getLsbD n

/-! ### Load switches (R485, R487) -/

/-- The fail-safe state of a load switch (R471). -/
def State.lsFailsafe (s : State) (n : Nat) : Bool :=
  match s.fget (Reg.LS_FS n) 1 0 with
  | 1 => true
  | 2 => (s.lsDyn n).hold
  | _ => false

/-- Lines 3 to 6 of R487. -/
def State.lsWanted (s : State) (n : Nat) : Bool :=
  if s.routeOff n then false
  else if s.routeOn n then true
  else if s.field.failsafe then s.lsFailsafe n
  else (s.lsDyn n).cmd

/-- The applied state: all lines of R487. -/
def State.lsApplied (s : State) (n : Nat) : Bool :=
  !(s.railUv 0 || s.railUv 1) && !(s.lsDyn n).wait && (s.lsDyn n).prot == 0 && s.lsWanted n

/-- `STAT.STATE` (R485). -/
def State.lsShown (s : State) (n : Nat) : Nat :=
  let d := s.lsDyn n
  if d.prot ≠ 0 then d.prot
  else if s.railUv 0 || s.railUv 1 || (d.wait && s.lsWanted n) then 7
  else if !d.on then 0
  else if d.limiting then 3
  else if d.inrush then 1
  else 2

/-- Load switch `n` takes its applied state; a turn-on starts its inrush window (R481) and is counted. -/
def State.lsSettle (s : State) (n : Nat) : State :=
  let d := s.lsDyn n
  let on := s.lsApplied n
  let rise := on && !d.on
  let window := d.cfg.fld 1 0 == 1 || d.cfg.fld 1 0 == 2
  let s := s.setLs n
    { d with on := on, inrush := on && (if rise then window else d.inrush), limiting := on && !rise && d.limiting }
  let s := if rise then s.fcount (Reg.LS_CYC n) 31 0 else s
  let s := (s.fput (Reg.LS_STAT n) 2 0 (s.lsShown n)).fsetBit (Reg.LS_STAT n) 3
    (s.field.failsafe && !s.routeOff n && !s.routeOn n)
  let s := (s.fsetBit (Reg.LS_STAT n) 4 (s.routeOff n)).fsetBit (Reg.LS_STAT n) 5 (s.routeOn n)
  let s := (s.fput (Reg.LS_STAT n) 11 8 d.rleft).fput (Reg.LS_STAT n) 14 12 d.fcode
  let b := Reg.LSB_SUM (n / 8)
  (s.fsetBit b (n % 8) on).fsetBit b (8 + n % 8) (d.prot == 5 || d.prot == 6)

/-! ### Digital outputs (R480) -/

def State.doApplied (s : State) (n : Nat) : Bool :=
  s.field.doCmd.testBit n && !s.field.failsafe && !s.railUv 0 && !s.railUv 2 && !s.field.doWait.contains n &&
    !s.routeDo n && !s.fbit Reg.DO_FLT n

/-- The field die after any change: routes, load switches, digital outputs, `FL.STAT`. -/
def State.fieldSettle (s : State) : State :=
  if !s.field.alive then s
  else
    let s := s.each (List.range 16) State.zoneRoute
    let s := s.each (List.range 16) State.lsSettle
    let s := s.each (List.range 16) fun s n => s.fsetBit Reg.DO_OUT n (s.doApplied n)
    let s := s.fput Reg.FL_STAT 1 0 s.field.failsafe.toNat
    s.each (List.range 3) fun s r => s.fsetBit Reg.FL_STAT (4 + r) (!s.railUv r)

/-- Of the outputs `ns`, those whose applied state is off wait for their slots (R475); those that are on stay so. -/
def State.lsStagger (s : State) (ns : List Nat) : State :=
  s.each (ns.filter fun n => !(s.lsDyn n).on) fun s n => s.setLs n { s.lsDyn n with wait := true }
def State.doStagger (s : State) (ns : List Nat) : State :=
  s.setField { s.field with
    doWait := (List.range 16).filter fun n => s.field.doWait.contains n || (ns.contains n && !s.fbit Reg.DO_OUT n) }

/-- Every load switch, and every digital output. -/
def sixteen : List Nat := List.range 16

/-! ### Fail-safe (R470 to R472) -/

/-- The field die enters FAILSAFE. -/
def State.enterFailsafe (s : State) (wdt : Bool) : State :=
  if s.field.failsafe then s.setField { s.field with byWdt := s.field.byWdt || wdt }
  else
    let s := s.each (List.range 16) fun s n => s.setLs n { s.lsDyn n with hold := (s.lsDyn n).cmd }
    s.setField { s.field with failsafe := true, byWdt := wdt }

/-- `RESUME` arrives in FAILSAFE. -/
def State.leaveFailsafe (s : State) : State :=
  if !s.field.failsafe then s
  else
    let s := s.setField { s.field with failsafe := false, byWdt := false }
    (((s.fsetBit Reg.FL_STAT 2 false).lsStagger sixteen).doStagger sixteen).fEvent 0x0C0 11

/-- Domain F is cleared (R474); the rails are what they are. -/
def State.clearField (s : State) : State := s.setField { uv := s.field.uv, freset := true }

/-! ### Protections of load switches (R482 to R484) -/

/-- A fault of channel `n` with its code: RETRY_WAIT with retries left, else LATCHED. -/
def State.lsFault (s : State) (n code : Nat) : State :=
  let d := s.lsDyn n
  let s := s.setLs n { d with prot := if d.rleft = 0 then 5 else 4, fcode := code, due := false }
  let s := s.fEvent (lsPage n) 8
  (if d.rleft = 0 then s.fEvent (lsPage n) 12 else s).fieldSettle

/-- THERM. -/
def State.lsTherm (s : State) (n mj : Nat) : State :=
  let s := s.setLs n { s.lsDyn n with prot := 6, fcode := 3, due := false }
  let s := (s.fcount (Reg.LS_TENG n) 31 0 mj).fput (Reg.LS_STAT n) 31 24 (max 175 (s.fget (Reg.LS_STAT n) 31 24))
  ((s.fEvent (lsPage n) 8).fEvent (lsPage n) 9).fieldSettle

/-- A retry turns the channel on again. -/
def State.lsRetryNow (s : State) (n : Nat) : State :=
  s.setLs n { s.lsDyn n with prot := 0, due := false, rleft := (s.lsDyn n).rleft - 1 }

/-- A CLR reaches channel `n` (R483, R484, R488). -/
def State.lsClrRx (s : State) (n : Nat) : State :=
  let d := s.lsDyn n
  let retry := d.cfg.fld 27 24
  if d.on && (d.limiting || d.inrush) then s.fEvent (lsPage n) 1
  else if d.prot = 6 && decide (140 ≤ s.fget (Reg.LS_STAT n) 31 24) then s.fEvent (lsPage n) 11
  else if d.prot = 5 || d.prot = 6 then s.setLs n { d with prot := 0, fcode := 0, rleft := retry }
  else s.setLs n { d with rleft := retry }

/-- A commanded state in force; a command OFF ends RETRY_WAIT (R483). -/
def State.lsCommand (s : State) (n : Nat) (on : Bool) : State :=
  let d := s.lsDyn n
  let d := if d.prot = 4 && d.cmd && !on then { d with prot := 0, due := false } else d
  s.setLs n { d with cmd := on }

/-! ### Page life cycles held at the field die (R494) -/

/-- R481 refuses the configuration of load switch `n`. -/
def State.lsBad (s : State) (n : Nat) : Bool :=
  let w := s.frd (Reg.LS_CFG n)
  let lim := w.fld 7 2
  let peak := w.fld 15 8
  let prof := w.fld 1 0
  lim < 5 || 60 < lim || peak < 5 || 60 < peak || peak < lim ||
    ((prof == 1 || prof == 2) && (w.fld 21 16 == 0 || 50 < w.fld 21 16))

/-- R493 refuses route `r`. -/
def State.zoneBad (s : State) (r : Nat) : Bool :=
  s.fbit (Reg.ZT_OTHER r) 31 && s.frd (Reg.ZT_DIMASK r) == 0 && s.fget (Reg.ZT_OTHER r) 20 0 == 0 &&
    s.frd (Reg.ZT_ACT_SL r) == 0 && s.frd (Reg.ZT_ACT_LS r) == 0 && s.frd (Reg.ZT_ACT_DO r) == 0

def State.fieldCfgOk (s : State) (p : Nat) : Bool :=
  match p with
  | 0x0C3 => (List.range 8).all fun n => !s.lsBad n
  | 0x0C4 => (List.range 8).all fun n => !s.lsBad (8 + n)
  | 0x0C5 => (List.range 16).all fun r => !s.zoneBad r
  | _ => true

/-- The configuration of page `p` comes into force at RUN. -/
def State.fieldTake (s : State) (p : Nat) : State :=
  match p with
  | 0x0C2 => s.setField { s.field with doCmd := s.fget Reg.DO_CMD 15 0, doAuto := s.fget Reg.DO_CFG 15 0 }
  | 0x0C5 => s.setField { s.field with zones := (List.range 16).map fun r => (r, s.frd (Reg.ZT_ACT_LS r), s.frd (Reg.ZT_ACT_DO r)) }
  | _ =>
    if p = 0x0C3 || p = 0x0C4 then
      s.each (List.range 8) fun s i =>
        let n := (p - 0x0C3) * 8 + i
        (s.setLs n { s.lsDyn n with cfg := s.frd (Reg.LS_CFG n), rcfg := s.frd (Reg.LS_RCFG n) }).lsCommand n
          (s.fbit (Reg.LS_CMD n) 0)
    else s

/-- A start of page `p` ends its checks; `stop` says that a STOP came meanwhile (R58, R59). -/
def State.fieldStart (s : State) (p : Nat) (envOk stop : Bool) : State :=
  if s.fieldCfgOk p && envOk then
    if stop then s.fsetPg p 4
    else (((s.fsetPg p 3).fieldTake p).fEvent p 2).fieldSettle
  else
    let s := if s.fget (Reg.PG_FAULT p) 15 0 = 0 then s.fput (Reg.PG_FAULT p) 15 0 3 else s
    (s.fsetPg p 1).fEvent p 3

/-- Page `p` of the field die enters FAULTED. -/
def State.fieldFault (s : State) (p code : Nat) : State :=
  let old := s.fget (Reg.PG_FAULT p) 15 0
  let s := if old = 0 || old = 3 then s.fput (Reg.PG_FAULT p) 15 0 code else s
  ((s.fcount (Reg.PG_FCNT p) 31 0).fsetPg p 5).fEvent p 4

/-- The registers of a page at their reset values. -/
def State.fieldClearPage (s : State) (p : Nat) : State :=
  let s := s.setField { s.field with regs := s.field.regs.filter fun e => e.1 / 0x1000 != p }
  if p = 0x0C2 then s.setField { s.field with doCmd := 0, doAuto := 65535 }
  else if p = 0x0C3 || p = 0x0C4 then
    s.setField { s.field with ls := s.field.ls.filter fun e => lsPage e.1 != p }
  else if p = 0x0C5 then s.setField { s.field with zones := [] }
  else s

/-- A `PG_CTRL` command reaches the field die (R51, R58). -/
def State.fieldPgCtrl (s : State) (p : Nat) (v : Word) : State :=
  let st := s.fpg p
  if v.getLsbD 2 then
    if st = 1 || st = 5 then ((s.fieldClearPage p).fEvent p 2).fieldSettle else s.fEvent p 1
  else if v.getLsbD 1 then
    if st = 3 || st = 5 then s.fsetPg p 4 else if st = 2 then s.fieldStart p true true else s.fEvent p 1
  else if v.getLsbD 0 then
    if st = 1 then s.fsetPg p 2 else s.fEvent p 1
  else s

/-- The writes of `v` to the register at `a` under its access types (R20), as the field die stores it. -/
def storeFields (r : RegRow) (old v : Word) (rwq rwl : Bool) : Word :=
  r.fields.foldl
    (fun w f => match f.1 with
      | .rw => (w &&& ~~~f.2) ||| (v &&& f.2)
      | .w1c => w &&& ~~~(v &&& f.2)
      | .w1s => w ||| (v &&& f.2)
      | .rwq => if rwq then (w &&& ~~~f.2) ||| (v &&& f.2) else w
      | .rwl => if rwl then (w &&& ~~~f.2) ||| (v &&& f.2) else w
      | _ => w)
    old

/-- The row of a register has a field of an access type. -/
def rowHas (r : RegRow) (a : Acc) : Bool := r.fields.any fun f => f.1 == a

/-- ZT.RELEASE (R492). -/
def State.zoneRelease (s : State) (v : Word) : State :=
  let named := (List.range 16).filter fun r => v.getLsbD r && s.zoneFired r
  let free := named.filter fun r => (s.zoneInputs r).isEmpty
  let s := if free.length < named.length then s.fEvent 0x0C5 10 else s
  if free.isEmpty then s
  else
    let ls := sixteen.filter fun n => free.any fun r => (s.zoneActs r).1.getLsbD n || (s.zoneActs r).1.getLsbD (16 + n)
    let dos := sixteen.filter fun n => free.any fun r => (s.zoneActs r).2.getLsbD n
    let s := s.each free fun s r => (s.fsetBit Reg.ZT_FIRED r false).fsetBit (Reg.ZT_STAT r) 0 false
    ((s.lsStagger ls).doStagger dos).fEvent 0x0C5 9

/-- A write of the queue of R468 takes effect at the field die. -/
def State.fieldWrite (s : State) (a : Nat) (v : Word) : State :=
  let p := a / 0x1000
  if a = Reg.PG_CTRL p then
    if p = 0x0C0 then (if v.getLsbD 2 then s.fieldClearPage p else s) else s.fieldPgCtrl p v
  else if a = Reg.PG_EVSET p then s.fwr (Reg.PG_EVRAW p) (s.frd (Reg.PG_EVRAW p) ||| v)
  else if a = Reg.ZT_RELEASE then s.zoneRelease v
  else if a = Reg.ZT_TEST then s.setField { s.field with test := s.field.test || v.getLsbD 0 }
  else
    match (List.range 16).find? fun n => a = Reg.LS_CTRL n with
    | some n => if v.getLsbD 0 then s.lsClrRx n else s
    | none =>
      match regRow a with
      | none => s
      | some r =>
        let open_ := p = 0x0C0 || s.fpg p == 1
        let s := if rowHas r .rwq && !open_ then s.fEvent p 0 else s
        s.fwr a (storeFields r (s.frd a) v open_ true)

/-! ### What the detectors of the field die find -/

/-- The field die acts only while FV24 supplies it. -/
def State.onField (s : State) (f : State → State) : State := if s.field.alive then f s else s

/-- R470: the watchdog expires. -/
def execFieldWatchdogExpiry (s : State) : Answer :=
  .next ((s.injStep 0x0C0 0x11 0).onField fun s =>
    let s := (s.fcount Reg.FL_FERR 31 16).fEvent 0x0C0 10
    let s := s.setField { s.field with goodRun := 0 }
    (s.enterFailsafe true).fieldSettle)

/-- R473. -/
def execRailUndervoltage (r : Nat) (s : State) : Answer :=
  answer (decide (r < 3))
    ((s.injStep 0x0C0 0x12 r).onField fun s =>
      if s.railUv r then s
      else
        let s := s.setField { s.field with uv := s.field.uv ++ [r] }
        let lo := if r = 0 then 16 else if r = 1 then 0 else 8
        ((s.fcount Reg.FL_UVCNT (lo + 7) lo).fEvent 0x0C0 12).fieldSettle)

/-- R475: the rail has recovered; the outputs that it governs wait for their slots. -/
def execRailRecovered (r : Nat) (s : State) : Answer :=
  answer (decide (r < 3))
    (s.onField fun s =>
      if !s.railUv r then s
      else
        let s := s.setField { s.field with uv := s.field.uv.filter fun x => x != r }
        let s := if r = 2 then s else s.lsStagger sixteen
        let s := if r = 1 then s else s.doStagger sixteen
        (s.fEvent 0x0C0 13).fieldSettle)

/-- The load switch comes to its slot: a retry that fell due is made. A new under-voltage has put the slot off. -/
def State.lsSlot (s : State) (n : Nat) : State :=
  let d := s.lsDyn n
  if s.railUv 0 || s.railUv 1 then s
  else
    let s := s.setLs n { d with wait := false }
    if d.due && d.prot = 4 then s.lsRetryNow n else s

/-- R475: slot `n`. -/
def execOutputStaggerSlot (n : Nat) (s : State) : Answer :=
  answer (wfLs n)
    (s.onField fun s =>
      let s := s.lsSlot n
      let s := if s.railUv 0 || s.railUv 2 then s
        else s.setField { s.field with doWait := s.field.doWait.filter fun x => x != n }
      s.fieldSettle)

/-- R474. -/
def execFv24Loss (s : State) : Answer := .next (s.setField { alive := false })
/-- At the return of FV24 armed wake decoders get their configuration again, with FEC 0 (R453). -/
def rearm (x : Can) : Can := { x with fec := 0, fecHigh := false, matched := 0, window := none }

def execFv24Return (s : State) : Answer :=
  .next
    (if s.field.alive then s
    else
      let s : State := { s with cans := s.cans.map fun (e : Nat × Can) => (e.1, rearm e.2) }
      s.setField { freset := true })

/-- R477, R478: an input is accepted at a level. -/
def State.diAccept (s : State) (n : Nat) (raw : Bool) (ns : Nat) : State :=
  let lost := s.injFires 0x0C1 0x10 0
  let s := s.injStep 0x0C1 0x10 0
  let cfg := s.frd (Reg.DI_CFG n)
  let level := raw != cfg.getLsbD 18
  let s := s.fsetBit Reg.DI_RAW n level
  if s.fbit Reg.DI_LEVEL n == level then s
  else
    let s := s.fsetBit Reg.DI_LEVEL n level
    let picked := if level then cfg.getLsbD 16 else cfg.getLsbD 17
    let s := if !(picked && s.frunning 0x0C1) then s
      else if s.field.edges.length < 128 && !lost then s.setField { s.field with edges := s.field.edges ++ [(n, level, ns)] }
      else (s.setField { s.field with lost := s.field.lost + 1 }).fEvent 0x0C1 9
    s.fieldSettle

def execDiEdgeAccepted (n : Nat) (raw : Bool) (ns : Nat) (s : State) : Answer :=
  answer (decide (n < 32)) (s.onField fun s => s.diAccept n raw ns)

/-- R479: the driver of output `n` reaches 150 °C. -/
def execDoOvertemp (n : Nat) (s : State) : Answer :=
  answer (wfLs n)
    ((s.injStep 0x0C2 0x10 n).onField fun s => ((s.fsetBit Reg.DO_FLT n true).fEvent 0x0C2 8).fieldSettle)

/-- R479: an output with `AUTO` has cooled by 15 K. -/
def execDoAutoRestart (n : Nat) (s : State) : Answer :=
  answer (wfLs n)
    (s.onField fun s => if s.field.doAuto.testBit n then (s.fsetBit Reg.DO_FLT n false).fieldSettle else s)

/-- R482: LIMITING is entered or left. -/
def execLsLimiting (n : Nat) (on : Bool) (s : State) : Answer :=
  answer (wfLs n)
    (s.onField fun s => if (s.lsDyn n).on then (s.setLs n { s.lsDyn n with limiting := on }).fieldSettle else s)

/-- R482: LIMITING for `TBLANK`, or the detector made to see it. -/
def execLsOvercurrent (n : Nat) (s : State) : Answer :=
  answer (wfLs n)
    (let inj := s.injFires (lsPage n) 0x10 (n % 8)
     (s.injStep (lsPage n) 0x10 (n % 8)).onField fun s =>
       if (s.lsDyn n).on && ((s.lsDyn n).limiting || inj) then s.lsFault n 1 else s)

/-- R482. -/
def execLsShort (n : Nat) (s : State) : Answer :=
  answer (wfLs n)
    ((s.injStep (lsPage n) 0x11 (n % 8)).onField fun s => if (s.lsDyn n).on then s.lsFault n 2 else s)

/-- R483, R475: the retry falls due; before its slot it is made at the slot. -/
def execLsRetry (n : Nat) (s : State) : Answer :=
  answer (wfLs n)
    (s.onField fun s =>
      let d := s.lsDyn n
      if d.prot ≠ 4 then s
      else if s.railUv 0 || s.railUv 1 || d.wait then s.setLs n { d with due := true }
      else (s.lsRetryNow n).fieldSettle)

/-- R481. -/
def execLsInrushEnd (n : Nat) (s : State) : Answer :=
  answer (wfLs n) (s.onField fun s => (s.setLs n { s.lsDyn n with inrush := false }).fieldSettle)

/-- R483: 10 s on without a fault. -/
def execLsRleftReload (n : Nat) (s : State) : Answer :=
  answer (wfLs n)
    (s.onField fun s =>
      let d := s.lsDyn n
      if d.on then (s.setLs n { d with rleft := d.cfg.fld 27 24 }).fieldSettle else s)

/-- R484. -/
def execLsThermal (n mj : Nat) (s : State) : Answer :=
  answer (wfLs n)
    ((s.injStep (lsPage n) 0x12 (n % 8)).onField fun s => s.lsTherm n mj)

/-- R486: the diagnosis of an off channel; LS_DIAG on each rise. -/
def State.lsDiag (s : State) (n : Nat) (found : Nat) : State :=
  let now := if (s.lsDyn n).on || !(s.lsDyn n).rcfg.getLsbD 8 then 0 else found
  let old := s.fget (Reg.LS_DIAG n) 2 0
  let rise := (List.range 3).any fun i => now.testBit i && !old.testBit i
  let s := s.fput (Reg.LS_DIAG n) 2 0 now
  if rise then s.fEvent (lsPage n) 10 else s

def execLsDiagCheck (n : Nat) (openLoad toSupply backfeed : Bool) (s : State) : Answer :=
  answer (wfLs n) (s.onField fun s => s.lsDiag n (openLoad.toNat + 2 * toSupply.toNat + 4 * backfeed.toNat))

/-- R476: the 1 s mean of the sum, its peak, SUM_HIGH above 16 A. -/
def execLsumUpdate (mean : Nat) (s : State) : Answer :=
  .next (s.onField fun s =>
    let m := satNat 16 mean
    let s := (s.fput Reg.FL_LSUM 15 0 m).fput Reg.FL_LSUM 31 16 (max m (s.fget Reg.FL_LSUM 31 16))
    if 16000 < mean then s.fEvent 0x0C0 14 else s)

end Sys2Proof.Machine
end

