-- ==== Sys2Proof/Machine/Sequencer.lean ====
section
/-!
DEFINITION. Step programs: the kinds of terminations and limits (R168 to R174), branches and loop counters (R175,
R176), the entry to a step and the chain of transitions of one service (R177, R178).
-/
namespace Sys2Proof.Machine

/-! ### Step time and control sample -/

/-- Step time in ns in the service that looks at the window closing at strobe `wi` (R169, R180). -/
def State.stepNs (s : State) (k wi : Nat) : Nat :=
  match (s.prog k).frozen with
  | some f => f
  | none => strobeNs wi + s.tsNs - (s.prog k).sNs

/-- The two V1 means of R170: that of the latest second and that of 60 s before it. -/
def State.slopePair (s : State) (k : Nat) : Option (Mean × Mean) :=
  let c := s.ctl k
  if !c.v1New then none
  else
    match c.v1s with
    | [] => none
    | m :: older => (older.find? fun o => o.stamp + 60 == m.stamp).map fun o => (m, o)

/-- 60 × slope × n × n0 in nV/s, and n × n0 (R170). -/
def slopeNum (p : Mean × Mean) : Int := (p.1.sum * p.2.n - p.2.sum * p.1.n) * 100
def slopeDen (p : Mean × Mean) : Nat := 60 * p.1.n * p.2.n

/-! ### Kinds (R168) -/

/-- Kinds with a signed `THR`. -/
def kindSigned (kind : Nat) : Bool := kind == 3 || kind == 4 || kind == 11 || kind == 12

/-- `KIND` and `THR` of a termination or limit word. -/
def kindOf (w : Word) : Nat := w.fld 7 0
def thrOf (w : Word) : Int := if kindSigned (kindOf w) then Word.signed 24 (w.fld 31 8) else (w.fld 31 8 : Nat)

/-- An edge latched for input `i` matches the operand `thr` of DIN. -/
def State.dinHolds (s : State) (k thr : Nat) : Bool :=
  (s.prog k).din.any fun (i, edge) =>
    i == thr % 32 &&
      (match thr / 32 % 4 with
        | 0 => edge == 0
        | 1 => edge == 1
        | 2 => true
        | _ => Config.freeBool s.free)

/-- The kind of a word holds for channel `k` on the control sample `w` (R168). -/
def State.kindHolds (s : State) (k : Nat) (w : Window) (word : Word) : Bool :=
  let thr := thrOf word
  let n : Int := w.n
  let t := s.stepNs k w.idx
  let temp := s.tempNow k
  let meas := decide (w.n ≠ 0)
  match kindOf word with
  | 1 => decide (thr * 1000000 ≤ t)
  | 2 => decide (thr * 1000000000 ≤ t)
  | 3 => meas && decide (thr * 10 * n ≤ w.sumV)
  | 4 => meas && decide (w.sumV ≤ thr * 10 * n)
  | 5 => meas && decide ((w.sumI.natAbs : Int) ≤ thr * 10 * n) &&
      (if s.chMode k = 2 then decide (1000000000 ≤ t) else s.bit (Reg.CH_STAT k) 9)
  | 6 => meas && decide (thr * 10 * n ≤ (w.sumI.natAbs : Int))
  | 7 => decide (thr * 36000000000 ≤ ((s.qNow k).natAbs : Int))
  | 8 => decide (thr * 3600000000000000000 ≤ ((s.eNow k).natAbs : Int))
  | 9 =>
    decide (61000000000 ≤ t) &&
      (match s.slopePair k with
        | some p => decide (((slopeNum p).natAbs : Int) ≤ thr * slopeDen p)
        | none => false)
  | 10 =>
    decide (61000000000 ≤ t) &&
      (match s.slopePair k with
        | some p => decide (thr * slopeDen p ≤ ((slopeNum p).natAbs : Int))
        | none => false)
  | 11 => decide (temp ≠ -32768) && decide (thr ≤ temp)
  | 12 => decide (temp ≠ -32768) && decide (temp ≤ thr)
  | 13 => s.dinHolds k (word.fld 31 8)
  | 14 => (s.prog k).msgs.contains (word.fld 23 8)
  | 15 => (s.prog k).rels.any fun (crew, at_) => crew == word.fld 19 8 && decide (at_ ≤ strobeNs w.idx)
  | 16 => s.bit (Reg.CH_STAT k) 9
  | 17 => (s.eis k).active && ((s.eis k).trunc || decide (strobeNs (s.eis k).endIdx ≤ strobeNs w.idx + s.tsNs))
  | 18 =>
    let c := s.stepWord k 3
    decide (max thr.toNat 1 * (c.fld 15 0 + c.fld 31 16) ≤ (s.prog k).frames)
  | _ => false

/-- Dwell of point `i` of the PROFILE table of the current step, and its value (R167). -/
def State.profilePoint (s : State) (k i : Nat) : Nat × Int :=
  let first := (s.stepWord k 1).fld 11 0
  let blk := first + i / 7
  let w := 2 + 2 * (i % 7)
  (max 1 ((s.entryWord k blk (w + 1)).fld 15 0), (s.entryWord k blk w).toInt)

/-- Frames of `n` points of the table from point `i` on. -/
def State.profileFrames (s : State) (k : Nat) : Nat → Nat → Nat
  | 0, _ => 0
  | n + 1, i => (s.profilePoint k i).1 + s.profileFrames k n (i + 1)

/-- Points of the table. -/
def State.profileCount (s : State) (k : Nat) : Nat := (s.stepWord k 2).fld 15 0

/-- A termination or limit word holds (R168). -/
def State.wordHolds (s : State) (k : Nat) (w : Window) (word : Word) : Bool :=
  if kindOf word = 19 then
    decide (max (word.fld 31 8) 1 * s.profileFrames k (s.profileCount k) 0 ≤ (s.prog k).frames)
  else s.kindHolds k w word

/-- The value that a limit tests, in the unit of its `THR`, rounded toward zero (R238). -/
def State.kindValue (s : State) (k : Nat) (w : Window) (word : Word) : Int :=
  let t := s.stepNs k w.idx
  match kindOf word with
  | 1 => (t / 1000000 : Nat)
  | 2 => (t / 1000000000 : Nat)
  | 3 => Int.tdiv w.sumV (10 * w.n)
  | 4 => Int.tdiv w.sumV (10 * w.n)
  | 6 => (w.sumI.natAbs / (10 * w.n) : Nat)
  | 7 => ((s.qNow k).natAbs / 36000000000 : Nat)
  | 8 => ((s.eNow k).natAbs / 3600000000000000000 : Nat)
  | 10 =>
    match s.slopePair k with
    | some p => ((slopeNum p).natAbs / slopeDen p : Nat)
    | none => 0
  | _ => s.tempNow k

/-! ### Limits (R174) -/

/-- `LACT` of limit `n`. -/
def State.limitAct (s : State) (k n : Nat) : Nat := (s.stepWord k 0).fld (17 + 2 * n) (16 + 2 * n)

def State.limitHolds (s : State) (k : Nat) (w : Window) (n : Nat) : Bool := s.wordHolds k w (s.stepWord k (12 + n))

/-- Limits that hold, lowest slot first. -/
def State.limitsHeld (s : State) (k : Nat) (w : Window) : List Nat :=
  (List.range 4).filter fun n => s.limitHolds k w n

/-- The limit that acts: FAULT or ABORT, or PAUSE while RUNNING; the lowest slot wins (R184). -/
def State.limitActing (s : State) (k : Nat) (w : Window) : Option Nat :=
  (s.limitsHeld k w).find? fun n =>
    s.limitAct k n == 0 || s.limitAct k n == 1 || (s.limitAct k n == 2 && s.chState k == 2)

/-- LIMIT_WARN or LIMIT_PAUSE of limit `n` (R238). -/
def State.limitEvent (s : State) (k : Nat) (w : Window) (code n : Nat) : State :=
  let word := s.stepWord k (12 + n)
  s.genEvent k code (strobeNs w.idx) (s.kindValue k w word) (thrOf word) n

/-- Every limit with WARN that holds gives its event, once per step. -/
def State.limitWarns (s : State) (k : Nat) (w : Window) : State :=
  s.each ((s.limitsHeld k w).filter fun n => s.limitAct k n == 3 && !(s.prog k).warned.contains n) fun s n =>
    (s.limitEvent k w 0x200 n).modProg k fun p => { p with warned := p.warned ++ [n] }

/-! ### Terminations -/

def State.termHolds (s : State) (k : Nat) (w : Window) (n : Nat) : Bool := s.wordHolds k w (s.stepWord k (8 + n))

/-- Terminations that hold, lowest slot first; they are tested only in RUNNING (R173). -/
def State.termsHeld (s : State) (k : Nat) (w : Window) : List Nat :=
  if s.chState k = 2 then (List.range 4).filter fun n => s.termHolds k w n else []

/-- Another termination or limit held in the same window (R183). -/
def State.moreHeld (s : State) (k : Nat) (w : Window) : Bool :=
  decide (1 < (s.termsHeld k w).length + (s.limitsHeld k w).length)

/-! ### Pausing -/

/-- A strobe index that no sample has. -/
def noStrobe : Nat := 2 ^ 64

/-- The step of channel `k` is frozen at the service of boundary `b`, in state `st` (PAUSED or HELD) (R136). A step with
no frame point of its own yet has its S only at RESUME (R169, R175). -/
def State.freeze (s : State) (k b st : Nat) : State :=
  let f := s.stepNs k b
  let s := s.modProg k fun p => { p with frozen := some f }
  let s := s.when (f == 0) fun s => s.modCtl k fun c => { c with qFrom := some noStrobe }
  (s.pauseSweep k).setChState k st

/-- The program of channel `k` ends: its demand ramps to 0 (R138). -/
def State.endProgram (s : State) (k : Nat) : State := s.modCtl k fun c => { c with ending := true }

/-! ### Entry to a step (R172, R177, R203, R209) -/

/-- The local crew entries, READY, of a crew that channel `k` is a member of. -/
def State.crewEntries (s : State) (k crew : Nat) : List Nat :=
  (s.crews.filter fun e => e.2.state == 2 && e.2.id == crew && e.2.mask.contains k).map (·.1)

/-- Channel `k` declares its arrival at a crew (R172, R225). -/
def State.arrive (s : State) (k crew : Nat) : State :=
  match s.crewEntries k crew with
  | [] => s.genEvent k 0x300 s.now crew 0 0
  | es => s.each es fun s e =>
      let c := Sparse.get {} s.crews e
      if c.arrived.contains k then s
      else { s with crews := Sparse.insert s.crews e { c with arrived := c.arrived ++ [k] } }

/-- The BARRIER terminations of the current step declare arrival in its first service (R172). -/
def State.declareArrivals (s : State) (k : Nat) : State :=
  let words := ((List.range 4).map fun n => s.stepWord k (8 + n)).filter fun w => kindOf w == 15
  (s.each words fun s w => s.arrive k (w.fld 19 8)).modProg k fun p => { p with declared := true }

/-- A trend starts with a REST or OCVHOLD step (R209). -/
def State.startTrend (s : State) (k sNs : Nat) : State :=
  if s.bit (Reg.RT_CFG k) 24 && s.running 0x035 then
    s.modTrend k fun t => { t with next := some (sNs, s.rd (Reg.RT_CFG k), (s.rd (Reg.RT_TCO k)).toInt) }
  else s

/-- The EIS step now entered is refused (R203). -/
def State.sweepRefused (s : State) (k : Nat) : Bool :=
  (s.sweep ((s.stepWord k 2).fld 3 0)).state != 2 || !s.running 0x034 || !s.descOk (k / 16)

/-- The step of entry `idx` becomes current in the service of boundary `b`, in PAUSED where `paused` says so. -/
def State.enterStep (s : State) (k idx b : Nat) (paused : Bool) : State :=
  let start := s.nextStart b
  let wasOcv := s.chMode k == 9 && s.chState k != 1
  let s := s.modProg k fun p =>
    { p with idx := idx, live := true, frames := 0, sNs := start, frozen := if paused then some 0 else none
             din := [], msgs := [], rels := [], declared := false, warned := [] }
  let mode := (s.stepWord k 0).fld 3 0
  let addr := (match (s.prog k).slot with
    | some sl => (Sparse.get {} s.slots sl).base + idx
    | none => 0)
  let s := (s.put (Reg.CH_POS k) 15 0 addr).put (Reg.CH_POS k) 23 16 0
  let s := (s.put (Reg.CH_STAT k) 7 4 mode).setBit (Reg.CH_STAT k) 9 false
  let s := s.modCtl k fun c =>
    { c with cvFirst := true, uRun := 0, cRun := 0, entered := true, runFrom := start
             recon := wasOcv && mode != 9, qFrom := some (if paused then noStrobe else start / 16000) }
  let rec_ := s.stepWord k 4
  let tag := s.stepTag k
  let s := s.modProg k fun p =>
    { p with sampOld := if p.samp.start = start then p.sampOld else some { p.samp with stop := some (p.samp.stop.getD start) }
             samp := { rec_ := rec_, tag := tag, idx := idx, mode := mode, start := start } }
  let s := s.setChState k (if paused then 3 else 2)
  let s := s.when (mode == 0 || mode == 9) fun s => s.startTrend k start
  if mode = 8 then
    if s.sweepRefused k then (s.endStep k 19 start 0xFFF false).endProgram k
    else (s.startSweep k ((s.stepWord k 2).fld 3 0) (start / 16000)).declareArrivals k
  else s.declareArrivals k

/-! ### Branches (R175, R176) -/

/-- `NSTEP` of the channel's program. -/
def State.nstep (s : State) (k : Nat) : Nat :=
  match (s.prog k).slot with
  | some sl => (Sparse.get {} s.slots sl).nstep
  | none => 0

/-- The branch field of termination `n`. -/
def State.branch (s : State) (k n : Nat) : Nat :=
  (s.stepWord k (5 + n / 2)).fld (16 * (n % 2) + 15) (16 * (n % 2))

/-- The next entry, none at the end of the program, and the loop counters after a LOOP branch. -/
def State.nextEntry (s : State) (k n : Nat) : Option Nat × List Nat :=
  let p := s.prog k
  let br := s.branch k n
  let target := br % 4096
  let next := if p.idx + 1 = s.nstep k then none else some (p.idx + 1)
  match br / 4096 % 8 with
  | 1 => (some target, p.ctr)
  | 2 =>
    let c := (s.stepWord k 0).fld 9 8
    let cnt := (s.stepWord k 7).fld 15 0
    let v := p.ctr.getD c 0
    let v := if v = 0 then cnt else v
    let v := v - 1
    (if 0 < v then some target else next, p.ctr.set c v)
  | 3 => (none, p.ctr)
  | 4 => (some target, p.ctr)
  | _ => (next, p.ctr)

/-- The step ends by termination `n`, and its branch is taken (R175, R177). -/
def State.takeTerm (s : State) (k b n : Nat) (more : Bool) : State :=
  let r := s.nextEntry k n
  let pauseAt := s.branch k n / 4096 % 8 == 4
  let s := s.endStep k (1 + n) (s.nextStart b) (r.1.getD 0xFFF) more
  let s := s.modProg k fun p => { p with ctr := r.2 }
  match r.1 with
  | none => s.endProgram k
  | some i => s.enterStep k i b pauseAt

/-- The acting limit `n` takes its effect (R174). -/
def State.takeLimit (s : State) (k b : Nat) (w : Window) (n : Nat) : State :=
  match s.limitAct k n with
  | 0 => s.tripCh k 13 (8 + n) (s.nextStart b) (s.moreHeld k w)
  | 1 => (s.endStep k (8 + n) (s.nextStart b) 0xFFF (s.moreHeld k w)).endProgram k
  | _ => (s.freeze k b 3).limitEvent k w 0x201 n

/-- Limits, then terminations, on one control sample; each transition goes round again, at most `fuel` of them
(R177, R178). -/
def State.runStep : Nat → State → Nat → Nat → Window → State
  | 0, s, k, b, w =>
    if !(s.prog k).live then s
    else
      let s := s.limitWarns k w
      match s.limitActing k w with
      | some n => s.takeLimit k b w n
      | none => if (s.termsHeld k w).isEmpty then s else s.raise 0x031 11
  | fuel + 1, s, k, b, w =>
    if !(s.prog k).live then s
    else
      let s := s.limitWarns k w
      match s.limitActing k w with
      | some n => s.takeLimit k b w n
      | none =>
        match (s.termsHeld k w).head? with
        | none => s
        | some n => State.runStep fuel (s.takeTerm k b n (s.moreHeld k w)) k b w

/-- The windows since the last service, earliest first; the first in which a limit acts or a termination holds decides
(R180). -/
def State.runWindows (s : State) (k b : Nat) : List Window → State
  | [] => s
  | w :: ws =>
    match (s.prog k).due with
    | some n =>
      let s := s.modProg k fun p => { p with due := none }
      if !(s.prog k).live then s
      else if 4 ≤ n then s.takeLimit k b w (n - 4)
      else if s.chState k = 2 then s.takeTerm k b n false
      else s
    | none =>
    if (s.limitActing k w).isSome || !(s.termsHeld k w).isEmpty then State.runStep 8 s k b w
    else (s.limitWarns k w).runWindows k b ws

end Sys2Proof.Machine
end

