-- ==== Sys2Proof/Machine/Control.lean ====
section
/-!
DEFINITION. The loop equations of a service (R122 to R133): setpoints, the CC, CV, CCCV, CP and CR laws, PULSE, PROFILE
and EIS patterns, range selection, clamps, slew and frame points. Currents with fractions are in units of 2^−16 µA, and
voltages with fractions in units of 2^−16 of 100 nV (R130).
-/
namespace Sys2Proof.Machine

/-! ### Gain sets (R131) -/

/-- The words KP, KI, CC, SLEW in use of gain set `g`. -/
def State.gainWords (s : State) (g : Nat) : List Word :=
  Sparse.get [0x0000C350, 0x004C4B40, 0x138800C8, 0x00002710] s.gains g

/-- The gain set of the current step, as its four words. -/
def State.gain (s : State) (k w : Nat) : Word := (s.gainWords ((s.stepWord k 0).fld 7 4)).getD w 0

def State.gKp (s : State) (k : Nat) : Int := (s.gain k 0).toNat
def State.gKi (s : State) (k : Nat) : Int := (s.gain k 1).toNat
def State.gKicc (s : State) (k : Nat) : Int := (s.gain k 2).fld 15 0
def State.gTrimMax (s : State) (k : Nat) : Int := (s.gain k 2).fld 31 16
def State.gSlew (s : State) (k : Nat) : Int := (s.gain k 3).toNat

/-- 2^16. -/
def one : Int := 65536

/-! ### What a service computes from -/

/-- The operands of one service: channel, boundary, control sample. -/
structure Svc where
  k   : Nat
  b   : Nat
  win : Window
  deriving DecidableEq, Repr

/-- VC and IC of the service with their fractions (R121). -/
def Svc.vc (v : Svc) : Int := roundDiv (v.win.sumV * one) (max v.win.n 1)
def Svc.ic (v : Svc) : Int := roundDiv (v.win.sumI * one) (max v.win.n 1)

/-- The last frame point committed. -/
def State.lastPoint (s : State) (k : Nat) : Point :=
  match (s.ctl k).nxt.getLast? with
  | some p => p
  | none => ((s.ctl k).cur.getLast?).getD {}

def State.trimOf (s : State) (k r : Nat) : Int := if r = 0 then (s.ctl k).trim0 else (s.ctl k).trim1

def State.setTrim (s : State) (k r : Nat) (v : Int) : State :=
  s.modCtl k fun c => if r = 0 then { c with trim0 := v } else { c with trim1 := v }

/-- The bound of the trim: TRIM_MAX ppm of IFSr (R123). -/
def State.trimBound (s : State) (k r : Nat) : Int := roundDiv (s.gTrimMax k * s.ifs k r * one) 1000000

/-- µA that a power in mW gives at VC, at least 0.5 V, with fractions (R126, R128). -/
def Svc.powerToI (v : Svc) (p : Int) : Int :=
  let n := max v.win.n 1
  if v.win.sumV < 5000000 * n then roundDiv (p * 10000000000 * one) 5000000
  else roundQuot (p * 10000000000 * one * n) v.win.sumV

/-- Iset of the step for this service, for CC, CCCV, CP and CR (R122, R126, R127). -/
def State.isetU (s : State) (v : Svc) : Int :=
  let a := s.stepWord v.k 1
  match s.chMode v.k with
  | 4 => v.powerToI a.toInt
  | 5 => roundQuot (-(v.win.sumV * 100000 * one)) ((a.toNat : Int) * (max v.win.n 1 : Nat))
  | _ => a.toInt * one

/-- Vset (R166). -/
def State.vset (s : State) (k : Nat) : Int :=
  if s.chMode k = 2 then (s.stepWord k 1).toInt else (s.stepWord k 2).toInt

/-- Ilim in µA with its sign; 0 where the step gives none (R166). -/
def State.ilim (s : State) (k : Nat) : Int :=
  match s.chMode k with
  | 6 => max ((s.stepWord k 1).toInt.natAbs : Int) ((s.stepWord k 2).toInt.natAbs : Int)
  | _ => (s.stepWord k 3).toInt

/-! ### Range selection (R132) -/

/-- `pct` percent of IFS1 in µA, times 100. -/
def State.pctIfs1 (s : State) (k hi lo : Nat) : Int := (s.get Reg.LOOP_RANGE hi lo : Int) * s.ifs k 1

/-- A magnitude in units of 2^−16 µA is at most `DOWN` percent of IFS1. -/
def State.belowDown (s : State) (k : Nat) (i : Int) : Bool :=
  decide ((i.natAbs : Int) * 100 ≤ s.pctIfs1 k 7 0 * one)

/-- A magnitude is above `UP` percent of IFS1. -/
def State.aboveUp (s : State) (k : Nat) (i : Int) : Bool :=
  decide (s.pctIfs1 k 15 8 * one < (i.natAbs : Int) * 100)

/-- The setpoints of the step are all low enough for range 1 from its first frame. -/
def State.setpointsLow (s : State) (v : Svc) : Bool :=
  match s.chMode v.k with
  | 1 => s.belowDown v.k (s.isetU v)
  | 4 => s.belowDown v.k (s.isetU v)
  | 5 => s.belowDown v.k (s.isetU v)
  | 6 => s.belowDown v.k ((s.stepWord v.k 1).toInt * one) && s.belowDown v.k ((s.stepWord v.k 2).toInt * one)
  | _ => false

/-- The range before the demand is known: the policy of a fixed range, the setpoints at a step's entry, or the 64 low
services. -/
def State.rangeFirst (s : State) (v : Svc) : Nat :=
  let c := s.ctl v.k
  if s.nrange v.k ≠ 2 then 0
  else
    match c.pol with
    | 1 => 0
    | 2 => 1
    | _ =>
      let mode := s.chMode v.k
      if mode = 7 || mode = 8 then c.rngCur
      else if c.entered && s.setpointsLow v then 1
      else if c.rngCur = 0 && decide (64 ≤ c.low) then 1
      else c.rngCur

/-- In range 1 under AUTO, a demand above `UP` commands range 0. -/
def State.rangeFinal (s : State) (v : Svc) (r : Nat) (demand : Int) : Nat :=
  let mode := s.chMode v.k
  if r = 1 && (s.ctl v.k).pol == 0 && mode != 7 && mode != 8 && s.aboveUp v.k demand then 0 else r

/-! ### The laws (R123 to R127) -/

/-- The trim updates in this service (R123, R129). -/
def State.trimUpdates (s : State) (v : Svc) : Bool :=
  let c := s.ctl v.k
  !c.entered && decide (c.runFrom + s.tsNs ≤ strobeNs v.b) && !c.slewPrev && !v.win.rset && decide (v.win.n ≠ 0)

/-- c[n] and the trim behind it, for range `r`. -/
def State.ccLaw (s : State) (v : Svc) (r : Nat) : Int × Int :=
  let old := s.trimOf v.k r
  let iset := s.isetU v
  let bound := s.trimBound v.k r
  let new := if s.trimUpdates v then
      clampI (-bound) bound (old + roundDiv (s.gKicc v.k * (s.nStroke * 32 : Nat) * (iset - v.ic)) 1000000)
    else old
  (iset + new, new)

/-- e[n] of R124. -/
def State.cvErr (s : State) (v : Svc) : Int := s.vset v.k * one - v.vc

/-- u[n] of R124, held over an RSET sample (R129). -/
def State.cvLaw (s : State) (v : Svc) : Int :=
  let c := s.ctl v.k
  let e := s.cvErr v
  let d := if c.cvFirst then (s.lastPoint v.k).dmd * one else c.d
  let e1 := if c.cvFirst then e else c.e
  if v.win.rset || v.win.n = 0 then (if c.cvFirst then d else c.u)
  else
    d + roundDiv (s.gKp v.k * (e - e1)) 10000 + roundDiv (s.gKi v.k * (s.nStroke * 32 : Nat) * e) 10000000000

/-- A CV demand held between 0 and Ilim. -/
def cvClamp (ilim u : Int) : Int :=
  if 0 ≤ ilim then clampI 0 (ilim * one) u else clampI (ilim * one) 0 u

/-- The demand of a CC, CV, CCCV, CP or CR service in range `r`: the state with its controllers advanced, and d[n]. -/
def State.law (s : State) (v : Svc) (r : Nat) : State × Int :=
  let k := v.k
  match s.chMode k with
  | 2 =>
    let u := s.cvLaw v
    let d := cvClamp (s.ilim k) u
    let e := s.cvErr v
    (s.modCtl k fun c => { c with d := d, e := e, u := u, cvFirst := false }, d)
  | 3 =>
    let cc := s.ccLaw v r
    let u := s.cvLaw v
    let e := s.cvErr v
    let pos := decide (0 < (s.stepWord k 1).toInt)
    let chooseU := if pos then decide (u < cc.1) else decide (cc.1 < u)
    let d := if pos then max 0 (min cc.1 u) else min 0 (max cc.1 u)
    let s := if chooseU then s else s.setTrim k r cc.2
    let s := s.modCtl k fun c =>
      { c with d := d, e := e, u := u, cvFirst := false
               uRun := if chooseU then c.uRun + 1 else 0, cRun := if chooseU then 0 else c.cRun + 1 }
    let s := s.when (decide (2 ≤ (s.ctl k).uRun)) fun s => s.setBit (Reg.CH_STAT k) 9 true
    let s := s.when (decide (2 ≤ (s.ctl k).cRun)) fun s => s.setBit (Reg.CH_STAT k) 9 false
    (s, d)
  | _ =>
    let cc := s.ccLaw v r
    (s.setTrim k r cc.2, cc.1)

/-! ### Patterns (R128) -/

/-- The table point that frame `f` of the PROFILE table falls in. -/
def State.profileAt (s : State) (k : Nat) : Nat → Nat → Nat → Int
  | 0, _, _ => 0
  | n + 1, i, f =>
    let p := s.profilePoint k i
    if f < p.1 then p.2 else s.profileAt k n (i + 1) (f - p.1)

/-- The untrimmed current of frame `f` of the step, at frame index `fi`, with fractions. -/
def State.pattern (s : State) (v : Svc) (f fi : Nat) : Int :=
  let k := v.k
  match s.chMode k with
  | 6 =>
    let c := s.stepWord k 3
    let t1 := c.fld 15 0
    let per := t1 + c.fld 31 16
    if f % per < t1 then (s.stepWord k 1).toInt * one else (s.stepWord k 2).toInt * one
  | 7 =>
    let n := s.profileCount k
    let total := s.profileFrames k n 0
    let x := s.profileAt k n 0 (f % total)
    if (s.stepWord k 2).getLsbD 16 then v.powerToI x else x * one
  | _ => (s.stepWord k 1).toInt * one + s.excite k fi

/-! ### Frame points (R113, R129) -/

/-- The magnitude that clamps a frame point in µA: IFSr, and the step's Ilim where it gives one. -/
def State.pointBound (s : State) (k r : Nat) : Int :=
  let i := ((s.ilim k).natAbs : Int)
  if i = 0 then s.ifs k r else min (s.ifs k r) i

/-- A run of `n` points from `last` toward `target`, each at most `slew` µA from the one before (0: no limit). -/
def slewRun (target slew : Int) (conn : Bool) : Nat → Int → List Point
  | 0, _ => []
  | n + 1, last =>
    let p := if slew = 0 then target else last + clampI (-slew) slew (target - last)
    { dmd := p, conn := conn } :: slewRun target slew conn n p

/-- The slew of the step's gain set in µA per frame. -/
def State.slewStep (s : State) (k : Nat) : Int := 8 * s.gSlew k

/-- Points are committed: the next stroke's, with the range, the frames of the step, and the flags of the service. -/
def State.commitPoints (s : State) (k r frames : Nat) (pts : List Point) (slewed clamped : Bool) : State :=
  let low := pts.all fun p => s.belowDown k (p.dmd * one)
  let s := s.modCtl k fun c =>
    { c with nxt := pts, nxtF := frames, rngNxt := r, slewNxt := slewed, entered := false, recon := false
             low := if low then c.low + 1 else 0 }
  let s := s.modProg k fun p => { p with frames := p.frames + frames }
  s.setBit (Reg.CH_STAT k) 11 clamped

/-- The ramp to 0 of PAUSED, HELD and the end of a program (R129, R136, R138). -/
def State.rampPoints (s : State) (v : Svc) : State :=
  let k := v.k
  let last := s.lastPoint k
  let n := 4 * s.nStroke
  let first : List Point := if (s.ctl k).recon then [{ dmd := 0, conn := true }] else []
  let conn := s.chMode k != 9
  let entering := (s.ctl k).entered && s.chMode k == 9 && last.conn
  let pts :=
    if entering then zeroPoints n
    else if s.chMode k = 9 then List.replicate n {}
    else first ++ slewRun 0 (s.slewStep k) conn (n - first.length) last.dmd
  let r := if (s.ctl k).entered then s.rangeFirst v else (s.ctl k).rngCur
  s.commitPoints k r 0 pts false false

/-- Frame points of REST and OCVHOLD (R122, R179). -/
def State.restPoints (s : State) (v : Svc) : State :=
  let k := v.k
  let n := 4 * s.nStroke
  let r := s.rangeFirst v
  let ocv := s.chMode k == 9
  let pts :=
    if ocv then (if (s.ctl k).entered && (s.lastPoint k).conn then zeroPoints n else List.replicate n {})
    else List.replicate n { dmd := 0, conn := true }
  s.commitPoints k r n pts false false

/-- Frame points of modes 1 to 5 (R123 to R127, R129). -/
def State.lawPoints (s : State) (v : Svc) : State :=
  let k := v.k
  let n := 4 * s.nStroke
  let first : List Point := if (s.ctl k).recon then [{ dmd := 0, conn := true }] else []
  let r0 := s.rangeFirst v
  let l := s.law v r0
  let r := s.rangeFinal v r0 l.2
  let s := l.1
  let trim := s.trimOf k r
  let s := s.setBit (Reg.CH_STAT k) 10 (decide (s.chMode k ≠ 2) &&
    decide ((trim.natAbs : Int) = s.trimBound k r))
  let bound := s.pointBound k r
  let want := roundDiv l.2 65536
  let target := clampI (-bound) bound want
  let last := if first.isEmpty then (s.lastPoint k).dmd else 0
  let run := slewRun target (s.slewStep k) true (n - first.length) last
  let pts := first ++ run.map fun p => { p with dmd := clampI (-bound) bound p.dmd }
  let slewed := decide (s.slewStep k ≠ 0) && decide (s.slewStep k < ((target - last).natAbs : Int))
  let clamped := decide (want ≠ target) || run.any fun p => decide (bound < (p.dmd.natAbs : Int))
  s.commitPoints k r n pts slewed clamped

/-- Frame points of PULSE, PROFILE and EIS (R128). -/
def State.patternPoints (s : State) (v : Svc) : State :=
  let k := v.k
  let n := 4 * s.nStroke
  let first : List Point := if (s.ctl k).recon then [{ dmd := 0, conn := true }] else []
  let r := s.rangeFirst v
  let trim := s.trimOf k r
  let bound := s.pointBound k r
  let m := n - first.length
  let fi := 2 * (v.b + 2 * s.nStroke) + first.length
  let raw := (List.range m).map fun i => roundDiv (s.pattern v ((s.prog k).frames + i) (fi + i) + trim) 65536
  let most := raw.foldl (fun a x => max a (x.natAbs : Int)) 0
  let r' := if s.chMode k = 6 then s.rangeFinal v r (most * one) else r
  let bound := if r' = r then bound else s.pointBound k r'
  let pts := first ++ raw.map fun x => { dmd := clampI (-bound) bound x, conn := true }
  let clamped := raw.any fun x => decide (bound < (x.natAbs : Int))
  let s := s.when (clamped && (s.eis k).active) fun s =>
    let at_ := (List.range m).filter fun i => decide (bound < ((raw.getD i 0).natAbs : Int))
    let new := at_.map fun i => ((fi + i) / 2, (fi + i) / 2 + 1, true)
    s.modEis k fun e => { e with marks := new ++ e.marks }
  s.commitPoints k r' m pts false clamped

/-- The frame points of a served channel (R117 step 4, R122). -/
def State.computePoints (s : State) (v : Svc) : State :=
  let st := s.chState v.k
  if st = 2 && (s.prog v.k).live then
    match s.chMode v.k with
    | 0 => s.restPoints v
    | 9 => s.restPoints v
    | 6 => s.patternPoints v
    | 7 => s.patternPoints v
    | 8 => s.patternPoints v
    | _ => s.lawPoints v
  else if st = 2 || st = 3 || st = 4 then s.rampPoints v
  else s

end Sys2Proof.Machine
end

