-- ==== Sys2Proof/Machine/ChanOps.lean ====
section
/-!
DEFINITION. Channel commands (R138 to R142) and the owner-lost policy (R147), as the service of boundary `b` executes
them. An operation answers the state and the status of R139.
-/
namespace Sys2Proof.Machine

/-! ### Pages that a channel depends on (R140, R141) -/

/-- The channel's page, the loop engine, the step store, its measure page and its stage link. -/
def depPages (k : Nat) : List Nat := [chPage k, 0x030, 0x031, measPage k, slPage k]

def State.depsRun (s : State) (k : Nat) : Bool := (depPages k).all s.running

/-! ### ARM (R140, R159) -/

/-- A transmitter override of R145 or R267 lasts on the link. -/
def Link.forcing (l : Link) : Bool := l.ovr.any fun o => o.holds || decide (o.sent < 2)

/-- The stage is up with an accepted descriptor, fitted, and reports neither `SFAULT` nor `SSAFE`. -/
def State.stageReady (s : State) (k : Nat) : Bool :=
  let n := k / 16
  s.fitted k && s.get (Reg.SL_STAT n) 2 0 == 3 && !s.bit (Reg.SL_STAT n) 4 && !s.bit (Reg.SL_STAT n) 5 &&
    !(s.link n).forcing

/-- The latched sense, thermistor, calibration and Kelvin faults that refuse ARM. -/
def State.mstatClean (s : State) (k : Nat) : Bool :=
  let m := s.rd (mstat k)
  !(m.getLsbD 0 || m.getLsbD 1 || m.getLsbD 2 || m.getLsbD 3 || m.getLsbD 16 || m.getLsbD 6 ||
    (m.getLsbD 4 && s.bit (Reg.CH_PROT k) 6))

/-- VC is above −0.1 V. -/
def State.vcAbove (s : State) (k : Nat) : Bool :=
  let w := (s.ctl k).lastWin
  decide (w.n ≠ 0) && decide (-1000000 * (w.n : Int) < w.sumV)

/-- The loaded program that `ENTRY` names (R159). -/
def State.loadedSlot (s : State) (k : Nat) : Option Nat :=
  let entry := s.get (Reg.CH_CFG k) 15 0
  (s.slots.find? fun e => e.2.state == 2 && e.2.base == entry && (e.2.owner == s.chOwner k || e.2.owner == 0)).map
    (·.1)

/-- The first check of R140 that fails, numbered from 1 in its order; 0 where all hold. -/
def State.armCheck (s : State) (k : Nat) : Nat :=
  if !s.depsRun k then 1
  else if !s.stageReady k then 2
  else if s.bit (mstat k) 5 then 3
  else if !s.mstatClean k then 4
  else if !s.vcAbove k then 5
  else if (s.loadedSlot k).isNone || s.get (Reg.CH_CFG k) 17 16 == 3 then 6
  else 0

/-- ARM takes its effect: the slot and the configuration latched, the integrators and estimates restarted. -/
def State.armed (s : State) (k b : Nat) : State :=
  match s.loadedSlot k with
  | none => s
  | some sl =>
    let d := Sparse.get {} s.slots sl
    let s := s.lifeRestart k
    let s := { s with slots := Sparse.insert s.slots sl { d with refs := d.refs + 1 } }
    let pol := s.get (Reg.CH_CFG k) 17 16
    let s := s.modProg k fun p => { p with slot := some sl, idx := 0, live := false, hist := [], frozen := none }
    let s := s.modCtl k fun c =>
      { c with pol := pol, armIdx := b, qchg := 0, qdis := 0, echg := 0, edis := 0, qstep := 0, estep := 0
               qFrom := none, ending := false, dvAcc := {}, dvLast := none, dvTest := none, dtAcc := {}, dtMeans := []
               dtTest := none, dtBad := false, v1Acc := {}, v1s := [], v1New := false, miss := 0
               low := 0 }
    let s := (s.modMeas k fun m => { m with kc := [] }).wr (kres k) 0
    let s := s.put (Reg.CH_STAT k) 7 4 0
    s.setChState k 1

def State.opArm (s : State) (k b : Nat) : State × Nat :=
  if s.chState k ≠ 0 then (s, 1)
  else
    let n := s.armCheck k
    if n ≠ 0 then (s.put (Reg.CH_FCAUSE k) 15 12 n, 2) else (s.armed k b, 0)

/-! ### START, PAUSE, RESUME, STOP, HOLD, SAFE -/

/-- A status STOPPED where a page the channel depends on is not RUNNING, BAD_STATE where the state refuses. -/
def State.opGuard (s : State) (k : Nat) (ok : Bool) : Option Nat :=
  if !s.depsRun k then some 4 else if !ok then some 1 else none

def State.opStart (s : State) (k b : Nat) : State × Nat :=
  match s.opGuard k (s.chState k == 1) with
  | some st => (s, st)
  | none => ((s.modProg k fun p => { p with ctr := [0, 0, 0, 0] }).enterStep k 0 b false, 0)

def State.opPause (s : State) (k b : Nat) : State × Nat :=
  match s.opGuard k (s.chState k == 2 && !(s.ctl k).ending) with
  | some st => (s, st)
  | none => (s.freeze k b 3, 0)

/-- RUNNING again at the frozen point of the step (R124, R136, R138). -/
def State.resumed (s : State) (k b : Nat) : State :=
  let start := s.nextStart b
  let f := (s.prog k).frozen.getD 0
  let d := (start - f - (s.prog k).sNs) / 16000
  let s := s.modProg k fun p => { p with sNs := start - f, frozen := none }
  let s := s.modCtl k fun c => { c with cvFirst := true, runFrom := start }
  let s := s.when (f == 0) fun s => s.modCtl k fun c => { c with entered := true, qFrom := some (start / 16000) }
  (s.resumeSweep k (start / 16000) d).setChState k 2

def State.opResume (s : State) (k b : Nat) : State × Nat :=
  match s.opGuard k (s.chState k == 3 || s.chState k == 4) with
  | some st => (s, st)
  | none => (s.resumed k b, 0)

def State.opStop (s : State) (k b : Nat) : State × Nat :=
  match s.opGuard k (s.chLive k) with
  | some st => (s, st)
  | none =>
    if s.chState k = 1 then (s.enterIdle k, 0)
    else ((s.endStep k 16 (s.nextStart b) 0xFFF false).endProgram k, 0)

def State.opSafe (s : State) (k b : Nat) : State × Nat :=
  match s.chState k with
  | 6 => (s, 1)
  | 5 => (s, 0)
  | _ => (s.tripAt k 37 b, 0)

def State.opHold (s : State) (k b : Nat) : State × Nat :=
  match s.opGuard k ((s.chState k == 2 || s.chState k == 3) && !(s.ctl k).ending) with
  | some st => (s, st)
  | none => if s.chState k = 3 then (s.setChState k 4, 0) else (s.freeze k b 4, 0)

/-! ### CLEAR (R142) -/

/-- The page whose stop a SAFE cause names (R141). -/
def causePage (k cause : Nat) : Option Nat :=
  match cause with
  | 35 => some (measPage k)
  | 38 => some 0x030
  | 39 => some (measPage k)
  | 40 => some (slPage k)
  | 41 => some 0x031
  | 42 => some (chPage k)
  | 43 => some 0x030
  | _ => none

/-- The latched `MSTAT` bits behind a FAULTED cause are clear. -/
def State.causeUnlatched (s : State) (k cause : Nat) : Bool :=
  let m := s.rd (mstat k)
  match cause with
  | 8 => !(m.getLsbD 0 || m.getLsbD 1 || m.getLsbD 2 || m.getLsbD 3 || m.getLsbD 16)
  | 9 => !m.getLsbD 4
  | 12 => !m.getLsbD 6
  | _ => true

/-- The measured value that a FAULTED cause names is back inside its limit. -/
def State.causeInside (s : State) (k cause : Nat) : Bool :=
  let w := (s.ctl k).lastWin
  match cause with
  | 1 => decide (w.maxV ≤ s.rdI (Reg.CH_VMAX k))
  | 2 => decide (s.rdI (Reg.CH_VMIN k) ≤ w.minV)
  | 3 =>
    let imax := (s.rd (Reg.CH_IMAX k)).toNat
    if imax = 0 then decide (100 * w.maxI ≤ 105 * s.ifs k (s.ctl k).rngCur) else decide (w.maxI ≤ imax)
  | 4 => decide (s.tempNow k ≠ -32768) && decide (s.tempNow k ≤ s.getI (Reg.CH_TLIM k) 15 0)
  | 5 => decide (-1000000 ≤ w.minV)
  | 10 => !s.bit (Reg.SL_CHST (k / 16)) (k % 16)
  | _ => true

/-- The first check of R142 that fails, numbered from 1 in the order of its sentences; 0 where all hold. -/
def State.clearCheck (s : State) (k : Nat) : Nat :=
  let cause := s.get (Reg.CH_FCAUSE k) 7 0
  let l := s.link (k / 16)
  if s.chState k = 5 then
    if l.ovr.any fun o => o.cause == 32 && o.holds then 1
    else if !s.stageReady k then 2
    else
      match causePage k cause with
      | some p => if s.running p then 0 else 3
      | none => 0
  else if !s.causeUnlatched k cause then 4
  else if !s.causeInside k cause then 5
  else if l.forcing then 2
  else 0

def State.opClear (s : State) (k : Nat) : State × Nat :=
  if s.chState k ≠ 5 && s.chState k ≠ 6 then (s, 1)
  else
    let n := s.clearCheck k
    if n ≠ 0 then (s.put (Reg.CH_FCAUSE k) 15 12 n, 2) else (s.enterIdle k, 0)

/-! ### One command (R138, R139, R146) -/

/-- A seat may command the channel: the coxswain, or the owner while its grant stands (R146, R147). -/
def State.mayCommand (s : State) (k seat : Nat) : Bool :=
  seat == 0 || (seat == s.chOwner k && !(s.ctl k).orphan)

/-- `LASTCMD` and `LASTST` of R156. -/
def State.noteCmd (s : State) (k op st : Nat) : State :=
  (s.put (Reg.CH_STAT k) 19 16 op).put (Reg.CH_STAT k) 22 20 st

/-- The op itself, ownership taken for granted. -/
def State.opBody (s : State) (k op b : Nat) : State × Nat :=
  match op with
  | 0 => (s, 0)
  | 1 => s.opArm k b
  | 2 => s.opStart k b
  | 3 => s.opPause k b
  | 4 => s.opResume k b
  | 5 => s.opStop k b
  | 6 => s.opSafe k b
  | 7 => s.opClear k
  | 8 => s.opHold k b
  | _ => (s, 1)

/-- A command of seat `seat` with its status; it leaves `LASTCMD` and `LASTST` behind. -/
def State.chanOp (s : State) (k op seat b : Nat) : State × Nat :=
  if !s.hasCh k then (s, 5)
  else
    let r := if !s.mayCommand k seat || (op == 8 && seat != 0) then (s, 3) else s.opBody k op b
    (r.1.noteCmd k op r.2, r.2)

/-! ### The owner-lost policy (R147) -/

/-- The pending crew STARTs of a member, by their slots. -/
def Crew.startsOf (c : Crew) (k : Nat) : List (Nat × Nat) :=
  if c.mask.contains k then (c.trans.filter fun t => t.1 == 2).map fun t => (t.2.2, k) else []

/-- Every pending start of the channel is cancelled: a START that waits for its service, and those of pending crew
transitions. -/
def State.cancelStart (s : State) (k : Nat) : State :=
  let s : State := { s with crews := s.crews.map fun e => (e.1, { e.2 with skip := e.2.skip ++ e.2.startsOf k }) }
  s.modCtl k fun c => { c with cmds := c.cmds.filter fun x => x.op != 2 }

def State.ownerLostPolicy (s : State) (k b : Nat) : State :=
  if !(s.ctl k).ownerLost then s
  else
    let s := s.modCtl k fun c => { c with ownerLost := false }
    let st := s.chState k
    let olp := s.get (Reg.CH_CFG k) 31 30
    if !s.chLive k then s
    else
      let s :=
        match olp with
        | 1 =>
          match st with
          | 1 => s.cancelStart k
          | 2 => if (s.ctl k).ending then s else s.freeze k b 4
          | 3 => s.setChState k 4
          | _ => s
        | 2 => s.tripAt k 36 b
        | _ => s
      s.genEvent k 0x500 s.now olp (s.chOwner k) 0

end Sys2Proof.Machine
end

