-- ==== Sys2Proof/Machine/Eis.lean ====
section
/-!
DEFINITION. The EIS engine (05_impedance_and_rest.md): the integration windows, the least-squares fit and the results,
and the meanings of the sweep-table commands and of a finished point.
-/
namespace Sys2Proof.Machine

/-! ### Integration windows (R196, R201) -/

/-- Strobes after Ap that end `n` whole periods of a sine point. -/
def EisPt.periodsEnd (p : EisPt) (n : Nat) : Nat := if p.freq.toNat = 0 then 0 else n * 6250000000 / p.freq.toNat

/-- The last strobe after Ap of the window, 68,750 for a DC-resistance point. -/
def EisPt.windowEnd (p : EisPt) : Nat := if p.isDcr then 68750 else p.periodsEnd (p.nset + p.nint)

/-- Strobes in the integration window of a sine point. -/
def EisPt.windowLen (p : EisPt) : Nat := p.periodsEnd (p.nset + p.nint) - p.periodsEnd p.nset

/-- The three windows of a DC-resistance point, as first and last strobe after Ap. -/
def dcrBase : Nat × Nat := (1, 6250)
def dcr10 : Nat × Nat := (6812, 6875)
def dcr1s : Nat × Nat := (68687, 68750)

def inSpan (w : Nat × Nat) (t : Nat) : Bool := decide (w.1 ≤ t) && decide (t ≤ w.2)

/-- Strobe `t` after Ap lies in a window of the point. -/
def EisPt.inWindow (p : EisPt) (t : Nat) : Bool :=
  if p.isDcr then inSpan dcrBase t || inSpan dcr10 t || inSpan dcr1s t
  else decide (p.periodsEnd p.nset < t) && decide (t ≤ p.windowEnd)

/-- A base sample reaches the point being measured: its strobe index, its flags and its values. -/
def EisWin.take (w : EisWin) (idx : Nat) (fl : BitVec 8) (v i : Int) : EisWin :=
  let t := idx - w.start
  if idx ≤ w.start || !w.pt.inWindow t then w
  else
    let excluded := fl.getLsbD 1 || fl.getLsbD 5 || fl.getLsbD 7
    { w with
      total := w.total + 1
      excl := if excluded then w.excl + 1 else w.excl
      samples := if excluded then w.samples else (t, v, i) :: w.samples
      ovr := w.ovr || fl.getLsbD 0
      unreg := w.unreg || fl.getLsbD 3
      refq := w.refq || fl.getLsbD 4 }

/-- The window of the point ends at or before strobe index `idx`. -/
def EisWin.ended (w : EisWin) (idx : Nat) : Bool := decide (w.start + w.pt.windowEnd ≤ idx)

/-- A point that has ended goes to the finished ones, and the next point of its table, if any, takes its place. -/
def State.eisAdvance (s : State) (k : Nat) (w : EisWin) : Option EisWin :=
  let t := s.sweep w.table
  if w.point + 1 < t.npts then some (s.pointWin k w.table (w.point + 1) (w.start + w.pt.strobes)) else none

/-- The sample of strobe `idx` reaches the sweep of channel `k`. -/
def State.eisSample (s : State) (k idx : Nat) (fl : BitVec 8) (v i : Int) : State :=
  let e := s.eis k
  let s := match e.prev with
    | none => s
    | some (w, stop) =>
      if stop < idx then s.modEis k fun e => { e with prev := none }
      else
        let w := w.take idx fl v i
        if w.ended idx then
          s.modEis k fun e => { e with done := e.done ++ [w], prev := (s.eisAdvance k w).map fun n => (n, stop) }
        else s.modEis k fun e => { e with prev := some (w, stop) }
  if !e.active || e.trunc || e.paused || (s.sweep e.table).npts ≤ e.win.point then s
  else
    let w := e.win.take idx fl v i
    if w.ended idx then
      let next := (s.eisAdvance k w).getD { w with point := w.point + 1, samples := [], start := w.start + w.pt.strobes }
      s.modEis k fun e => { e with done := e.done ++ [w], win := next }
    else s.modEis k fun e => { e with win := w }

/-! ### The fit (R196, R197) -/

/-- The basis functions of the fit at a sample: 1, τ, cos ωτ, sin ωτ. -/
def EisPt.basis (p : EisPt) (t : Nat) : List Int :=
  let num := t * p.freq.toNat % 6250000000
  [1, t, Config.cos60 num 6250000000, Config.sin60 num 6250000000]

/-- The determinant of a square matrix by its first row. -/
def det : Nat → List (List Int) → Int
  | 0, _ => 1
  | n + 1, m =>
    match m with
    | [] => 1
    | row :: rest =>
      (row.zipIdx.map fun x =>
        (if x.2 % 2 = 0 then x.1 else -x.1) * det n (rest.map fun r => r.eraseIdx x.2)).sum

/-- The normal matrix of the fit, and its right-hand side for a list of values. -/
def normal (bs : List (List Int)) : List (List Int) :=
  (List.range 4).map fun a => (List.range 4).map fun b => (bs.map fun x => x.getD a 0 * x.getD b 0).sum

def rhs (bs : List (List Int)) (ys : List Int) : List Int :=
  (List.range 4).map fun a => ((bs.zip ys).map fun x => x.1.getD a 0 * x.2).sum

/-- Cramer's numerator of coefficient `j`. -/
def cramer (m : List (List Int)) (r : List Int) (j : Nat) : Int :=
  det 4 ((m.zip r).map fun x => x.1.set j x.2)

/-- A fit: the common denominator, the numerators of its coefficients, and the residual sum of squares times the
denominator. -/
structure Fit where
  den : Int
  num : List Int
  rss : Int

def fitOf (bs : List (List Int)) (ys : List Int) : Fit :=
  let m := normal bs
  let r := rhs bs ys
  let d := det 4 m
  let c := (List.range 4).map (cramer m r)
  { den := d, num := c
    rss := d * (ys.map fun y => y * y).sum - ((c.zip r).map fun x => x.1 * x.2).sum }

/-- A result in nΩ: a quotient of 100 nV by µA, its whole value held at ±2,147,483,647, and whether it was held. -/
def nanoOhm (num den : Int) : Int × Bool :=
  let z := roundQuot (num * 100000000) den
  (clampI (-2147483647) 2147483647 z, decide (2147483647 < (z.natAbs : Int)))

/-- What a point's samples give: RZRE, RZIM, RUNC, RIAMP, whether a part saturated, and whether the current is below a
quarter of the amplitude. -/
structure Est where
  re    : Int
  im    : Int
  unc   : Nat
  amp   : Nat
  sat   : Bool
  lowI  : Bool

/-- An estimate whose value the manual does not state: the fit is singular or the current is 0. -/
def openEst (n : Nat) : Est :=
  { re := Config.freeInt n, im := Config.freeInt (n + 1), unc := Config.freeNat n, amp := Config.freeNat (n + 1)
    sat := false, lowI := true }

/-- The estimate of a sine point (R196, R197). -/
def sineEst (n : Nat) (p : EisPt) (xs : List EisSample) : Est :=
  let bs := xs.map fun x => p.basis x.1
  let v := fitOf bs (xs.map fun x => x.2.1)
  let i := fitOf bs (xs.map fun x => x.2.2)
  let vc := v.num.getD 2 0
  let vd := v.num.getD 3 0
  let ic := i.num.getD 2 0
  let id := i.num.getD 3 0
  let ii := id * id + ic * ic
  let vv := vd * vd + vc * vc
  if ii = 0 || v.den ≤ 0 then openEst n
  else
    let re := nanoOhm (vd * id + vc * ic) ii
    let im := nanoOhm (vc * id - vd * ic) ii
    let m := xs.length
    -- RUNC² = 2 / M × (sv² × |I|² + si² × |V|²) / |I|⁴ × 10^16, with sv² = rss / den / (M − 4); the phasors are the
    -- numerators × 2^60 / den
    let num := 2 * (v.rss * ii + i.rss * vv) * v.den * 10 ^ 16
    let den : Int := ((m * (m - 4) : Nat) : Int) * 2 ^ 120 * ii * ii
    { re := re.1, im := im.1, sat := re.2 || im.2
      unc := if den ≤ 0 then Config.freeNat n else sqrtRound num.toNat den.toNat
      amp := sqrtRound (ii * 2 ^ 120).toNat (v.den * v.den).toNat
      lowI := decide (16 * ii * 2 ^ 120 < p.amp.toInt * p.amp.toInt * (v.den * v.den)) }

/-- Sum and count of a value over a window of a DC-resistance point. -/
def spanMean (xs : List EisSample) (w : Nat × Nat) (f : EisSample → Int) : Int × Int :=
  let ys := (xs.filter fun x => inSpan w x.1).map f
  (ys.sum, ys.length)

/-- (a − b) as a quotient of two means. -/
def meanDiff (a b : Int × Int) : Int × Int := (a.1 * b.2 - b.1 * a.2, a.2 * b.2)

/-- The estimate of a DC-resistance point (R201). The manual gives no formula for its RUNC. -/
def dcrEst (n : Nat) (p : EisPt) (xs : List EisSample) : Est :=
  let v := fun w => spanMean xs w fun x => x.2.1
  let i := fun w => spanMean xs w fun x => x.2.2
  let v10 := meanDiff (v dcr10) (v dcrBase)
  let i10 := meanDiff (i dcr10) (i dcrBase)
  let v1s := meanDiff (v dcr1s) (v dcrBase)
  let i1s := meanDiff (i dcr1s) (i dcrBase)
  if i10.1 = 0 || i1s.1 = 0 || i10.2 = 0 || i1s.2 = 0 then openEst n
  else
    let r10 := nanoOhm (v10.1 * i10.2) (v10.2 * i10.1)
    let r1s := nanoOhm (v1s.1 * i1s.2) (v1s.2 * i1s.1)
    { re := r10.1, im := r1s.1, sat := r10.2 || r1s.2, unc := Config.freeNat n
      amp := (roundQuot (i10.1.natAbs : Int) i10.2).toNat
      lowI := decide (4 * (i10.1.natAbs : Int) < (p.amp.toInt.natAbs : Int) * i10.2) }

/-! ### Results (R198, R199) -/

/-- Fewer than half the samples of a window are included. -/
def EisWin.thin (w : EisWin) : Bool :=
  if w.pt.isDcr then
    [dcrBase, dcr10, dcr1s].any fun d =>
      decide (2 * (w.samples.filter fun x => inSpan d x.1).length < d.2 + 1 - d.1)
  else decide (2 * w.samples.length < w.pt.windowLen) || decide (w.samples.length < 8)

/-- More than 1 % of the window's samples are excluded. -/
def EisWin.gaps (w : EisWin) : Bool := decide (w.total < 100 * w.excl)

/-- A mark of `kind` touches the frames of the point. -/
def EisWin.marked (w : EisWin) (marks : List (Nat × Nat × Bool)) (kind : Bool) : Bool :=
  marks.any fun m => m.2.2 == kind && decide (w.start < m.2.1) && decide (m.1 < w.start + w.pt.strobes)

/-- The instant at which the integration window ends (R199, R201). -/
def EisWin.time (w : EisWin) : Nat :=
  strobeNs w.start +
    (if w.pt.isDcr then 1100000000
     else (roundDiv ((w.pt.nset + w.pt.nint) * 10 ^ 14 : Nat) (max 1 w.pt.freq.toNat)).toNat)

/-- A word with the given bits set. -/
def flagWord (bits : List (Nat × Bool)) : Word :=
  bits.foldl (fun w b => if b.2 then w ||| BitVec.ofNat 32 (2 ^ b.1) else w) 0

/-- The result of a finished point; `n` numbers the free values that it may use. -/
def EisWin.result (w : EisWin) (n : Nat) (marks : List (Nat × Nat × Bool)) : EisRes :=
  let e : Est :=
    if w.skipBw then { re := 0, im := 0, unc := 0, amp := 0, sat := false, lowI := false }
    else if w.pt.isDcr then dcrEst n w.pt w.samples
    else sineEst n w.pt w.samples
  let invalid := w.skipBw || w.tstep || w.ovf || w.thin || (w.pt.isDcr && e.lowI)
  { zre := e.re, zim := e.im, unc := min e.unc (2 ^ 32 - 1), iamp := min e.amp (2 ^ 32 - 1), time := w.time
    flags := (flagWord
      [(0, !invalid), (1, w.skipBw), (2, w.marked marks true), (3, w.ovr || e.sat), (4, w.unreg), (5, w.refq),
        (6, e.lowI), (7, w.gaps), (8, w.marked marks false), (9, w.tstep), (10, w.ovf), (11, w.pt.isDcr)]).setFld 31 16
          (min w.excl 65535) }

/-- The EIS_POINT record of a result (R237). -/
def eisRecord (k : Nat) (w : EisWin) (r : EisRes) : Record :=
  { typ := 4, sub := w.table, chan := k, x := r.flags.fld 11 0, time := r.time
    body := leBytesI 4 r.zre ++ leBytesI 4 r.zim ++ leBytes 4 (if w.pt.isDcr then 0 else w.pt.freq.toNat) ++
      leBytes 3 (min r.unc 16777215) ++ [BitVec.ofNat 8 w.point] }

/-- Every sweep in progress is cut: excitation 0, no result of its point (R204). -/
def State.truncSweeps (s : State) : State :=
  let ks := s.channels.filter fun k => (s.eis k).active || (s.eis k).prev.isSome
  let s := s.each ks fun s k => s.modEis k fun e => { e with trunc := true, prev := none }
  s.when (!ks.isEmpty) fun s => s.raise 0x034 11

/-- ACC_FAULT (R208). -/
def State.accFault (s : State) : State := (s.pageFault 0x034 0x0100).truncSweeps

/-- R199: the oldest finished point of channel `k` is stored and its record queued. -/
def State.eisResultDone (s : State) (k : Nat) : State :=
  match (s.eis k).done with
  | [] => s
  | w :: rest =>
    if s.injFires 0x034 0x10 0 then ((s.injStep 0x034 0x10 0).modEis k fun e => { e with done := rest }).accFault
    else
      let s := s.injStep 0x034 0x10 0
      let r := w.result s.free (s.eis k).marks
      let s := { s with eisRes := Sparse.insert s.eisRes (k * 64 + w.point) r, free := s.free + 2 }
      let s := s.modEis k fun e => { e with done := rest, marks := e.marks.filter fun m => decide (w.start < m.2.1) }
      let s := s.genRecord (eisRecord k w r)
      s.when (!r.flags.getLsbD 0) fun s => (s.count Reg.EIS_ERR 15 0).raise 0x034 10

def execEisPointResult (k : Nat) (s : State) : Answer :=
  answer (decide (k < 256)) (if s.running 0x034 || s.pg 0x034 == 4 then s.eisResultDone k else s)

/-! ### Sweep-table operations (R190 to R192) -/

/-- The `WHY` of a point, 0 where it passes (R191). -/
def EisPt.why (p : EisPt) : Nat :=
  let dcr := p.typ == 1
  if 1 < p.typ.toNat then 7
  else if (if dcr then p.freq != 0 else decide (p.freq.toNat < 1000) || decide (500000000 < p.freq.toNat)) then 2
  else if (if dcr then p.amp == 0 else decide (p.amp.toInt < 1) || decide (16777215 < p.amp.toInt)) then 3
  else if !dcr && p.nint == 0 then 4
  else if dcr && p.nset != 0 then 7
  else 0

/-- The first offending point of `n` from `p` on, with its reason. -/
def Sweep.badPoint (w : Sweep) : Nat → Nat → Option (Nat × Nat)
  | 0, _ => none
  | n + 1, p => if (w.pt p).why = 0 then w.badPoint n (p + 1) else some (p, (w.pt p).why)

/-- What SEAL finds: the offending point and the reason (R191). -/
def Sweep.sealCheck (w : Sweep) : Option (Nat × Nat) :=
  if w.npts = 0 ∨ 64 < w.npts then some (0, 1)
  else if 600000 < w.lead then some (0, 5)
  else
    match w.badPoint w.npts 0 with
    | some e => some e
    | none =>
      if 864000000000000 < w.lead * 1000000 + w.restStrobes 0 w.npts * 16000 then some (0, 6) else none

/-- The point window. -/
def State.eisWindow (s : State) : EisPt :=
  { typ := s.rd Reg.EIS_PT_TYPE, freq := s.rd Reg.EIS_PT_FREQ, amp := s.rd Reg.EIS_PT_AMP, cyc := s.rd Reg.EIS_PT_CYC }

/-- `BUSY` clears and `STATUS` is written; TCMD_DONE (R190). -/
def State.eisDone (s : State) (status errpt why : Nat) : State :=
  (({ s with eisOp := none }).wrN Reg.EIS_TSTAT (status * 256 + errpt * 65536 + why * 2 ^ 24)).raise 0x034 8

/-- The effect of a table op at its completion. -/
def State.eisTableOp (s : State) (op t : Nat) : State :=
  let w := s.sweep t
  let i := s.get Reg.EIS_TIDX 5 0
  match op with
  | 0 => s.eisDone 0 0 0
  | 1 =>
    if w.state = 1 then s.eisDone 1 0 0
    else if w.refs ≠ 0 then s.eisDone 2 0 0
    else (s.setSweep t { w with state := 1 }).eisDone 0 0 0
  | 2 =>
    if w.state ≠ 1 then s.eisDone 1 0 0
    else (s.setSweep t { w with pts := Sparse.set {} w.pts i s.eisWindow }).eisDone 0 0 0
  | 3 =>
    let p := w.pt i
    let s := (((s.wr Reg.EIS_PT_TYPE p.typ).wr Reg.EIS_PT_FREQ p.freq).wr Reg.EIS_PT_AMP p.amp).wr Reg.EIS_PT_CYC p.cyc
    ((s.wrN Reg.EIS_THDR w.npts).wrN Reg.EIS_TLEAD w.lead).eisDone 0 0 0
  | 4 =>
    if w.state ≠ 1 then s.eisDone 1 0 0
    else
      let w' := { w with npts := s.get Reg.EIS_THDR 6 0, lead := (s.rd Reg.EIS_TLEAD).toNat }
      match w'.sealCheck with
      | some (p, why) => s.eisDone 4 p why
      | none => (s.setSweep t { w' with state := 2 }).eisDone 0 0 0
  | 5 =>
    if w.state = 0 then s.eisDone 1 0 0
    else if w.refs ≠ 0 then s.eisDone 2 0 0
    else (s.setSweep t {}).eisDone 0 0 0
  | _ => s.eisDone 3 0 0

/-- An op is written: dropped while `BUSY` is set, refused where the page is neither STOPPED nor RUNNING, else begun. -/
def State.eisBegin (s : State) (op t : Nat) : State :=
  if !s.has 0x034 then s
  else if s.bit Reg.EIS_TSTAT 0 then s.raise 0x034 9
  else if !s.settled 0x034 then s.eisDone 1 0 0
  else ({ s with eisOp := some (op, t) }).setBit Reg.EIS_TSTAT 0 true

/-- R190, op 0. -/
def execEisTableNop (t : Nat) (s : State) : Answer := answer (decide (t < 16)) (s.eisBegin 0 t)
/-- R190, op 1. -/
def execEisTableOpen (t : Nat) (s : State) : Answer := answer (decide (t < 16)) (s.eisBegin 1 t)
/-- R190, op 2. -/
def execEisTableWrite (t : Nat) (s : State) : Answer := answer (decide (t < 16)) (s.eisBegin 2 t)
/-- R190, op 3. -/
def execEisTableRead (t : Nat) (s : State) : Answer := answer (decide (t < 16)) (s.eisBegin 3 t)
/-- R190, R191, op 4. -/
def execEisTableSeal (t : Nat) (s : State) : Answer := answer (decide (t < 16)) (s.eisBegin 4 t)
/-- R190, op 5. -/
def execEisTableClear (t : Nat) (s : State) : Answer := answer (decide (t < 16)) (s.eisBegin 5 t)
/-- R190: ops 6 to 15 complete BAD_ARG. -/
def execEisTableReservedOp (t op : Nat) (s : State) : Answer :=
  answer (decide (t < 16) && decide (6 ≤ op) && decide (op < 16)) (s.eisBegin op t)

/-- R190: the op in progress completes. -/
def execEisTableOpComplete (s : State) : Answer :=
  .next (match s.eisOp with
    | none => s
    | some (op, t) => s.eisTableOp op t)

end Sys2Proof.Machine
end

