-- ==== Sys2Proof/Machine/Flags.lean ====
section
/-!
DEFINITION. The sample flags (R72), the calibration model (R85, R86), and the averaging decimator (R70 to R75).
-/
namespace Sys2Proof.Machine

/-! ### Calibration (R85, R86) -/

/-- R85: V in 100 nV of a raw code. -/
def Coeff.volts (c : Coeff) (raw : Int) : Int := roundDiv ((raw * 256 - c.ov) * c.kv) (2 ^ 32)

/-- OIr and GIr of range `r`. -/
def Coeff.oi (c : Coeff) (r : Nat) : Int := if r = 0 then c.oi0 else c.oi1
def Coeff.gi (c : Coeff) (r : Nat) : Nat := if r = 0 then c.gi0 else c.gi1

/-- R86: I in µA of a raw code on range `r` with the effective gain `ki`. -/
def Coeff.amps (c : Coeff) (r ki : Nat) (raw : Int) : Int := roundDiv ((raw * 256 - c.oi r) * ki) (2 ^ 32)

/-- Rsh in nΩ, IFS in mA and the sense range of range `r` of the accepted descriptor of link `n` (R89, R259). -/
def State.descRsh (s : State) (n r : Nat) : Nat := s.descU32 n (24 + 12 * r + 4)
def State.descSense (s : State) (n r : Nat) : Nat := byteAt (s.link n).desc (24 + 12 * r)

/-- KNOMr (R89): 2 × Sr × 10^15 / Rsh, with Sr 0.125 V or 0.03125 V. -/
def knomOf (sense rsh : Nat) : Nat :=
  if rsh = 0 then 0 else (roundDiv (if sense = 0 then 250000000000000 else 62500000000000) rsh).toNat

/-- R86: the effective gain from KNOMr, GIr and the shunt trim in ppm. -/
def kiOf (knom gi : Nat) (trim : Int) : Nat := (roundDiv (knom * gi * (1000000 + trim)) (2 ^ 30 * 1000000)).toNat

/-! ### Sample flags (R72) -/

/-- The flag set from its eight conditions, OVR first. -/
def sflag (ovr chk rset unreg refq hold tstep calb : Bool) : BitVec 8 :=
  BitVec.ofNat 8 (ovr.toNat + 2 * chk.toNat + 4 * rset.toNat + 8 * unreg.toNat + 16 * refq.toNat + 32 * hold.toNat +
    64 * tstep.toNat + 128 * calb.toNat)

/-- A sample that the averaging decimator leaves out: CHK, HOLD or CALB. -/
def excluded (fl : BitVec 8) : Bool := fl.getLsbD 1 || fl.getLsbD 5 || fl.getLsbD 7

/-- A raw code at its bounds (R68). -/
def rawSat (raw : Int) : Bool := decide (raw ≤ -8388608) || decide (8388607 ≤ raw)

/-- OVR: a saturated code or a voltage outside −0.26 V to +5.26 V (R68). -/
def isOvr (rawV rawI v : Int) : Bool :=
  rawSat rawV || rawSat rawI || decide (v < -2600000) || decide (52600000 < v)

/-! ### The averaging decimator (R70 to R75) -/

/-- A base sample enters the window. -/
def Avg.add (a : Avg) (fl : BitVec 8) (v i : Int) : Avg :=
  let inc := !excluded fl
  { a with
    deliv := a.deliv + 1
    flags := a.flags ||| fl
    cnt := if inc then a.cnt + 1 else a.cnt
    sumV := if inc then a.sumV + v else a.sumV
    sumI := if inc then a.sumI + i else a.sumI }

/-- The window empties. -/
def Avg.clear (a : Avg) : Avg := { a with sumV := 0, sumI := 0, cnt := 0, deliv := 0, flags := 0 }

/-- The values of an output, none where the window gives none (R73). -/
def Avg.value (a : Avg) : Option (Int × Int) :=
  if a.deliv = 0 then none
  else if a.cnt = 0 then a.out
  else some (meanOf a.sumV a.cnt, meanOf a.sumI a.cnt)

/-- The flags of an output: the OR of the window's, HOLD where nothing was included, TSTEP after a timebase step. -/
def Avg.outFlags (a : Avg) : BitVec 8 :=
  a.flags ||| (if a.cnt = 0 then 0x20 else 0) ||| (if a.tstep then 0x40 else 0)

/-- A written D takes effect at strobe `idx` where it divides it (R71). -/
def Avg.newD (a : Avg) (idx : Nat) : Avg :=
  match a.dPend with
  | some d => if idx % d = 0 then { a.clear with d := d, dPend := none } else a
  | none => a

/-- Strobe `idx` closes a window of D, and a written D may take effect: the output, if any, with its D. -/
def Avg.tick (a : Avg) (idx : Nat) : Avg × Option (Int × Int × BitVec 8 × Nat) :=
  if idx % a.d = 0 then
    match a.value with
    | some (v, i) => (({ a.clear with out := some (v, i), tstep := false }).newD idx, some (v, i, a.outFlags, a.d))
    | none => (a.clear.newD idx, none)
  else (a.newD idx, none)

/-- A timebase step discards the partial mean, and a written D with it (R75, R78). -/
def Avg.step (a : Avg) : Avg :=
  { a.clear with tstep := true, d := a.dPend.getD a.d, dPend := none }

end Sys2Proof.Machine
end

