-- ==== Sys2Proof/Machine/Trend.lean ====
section
/-!
DEFINITION. Rest trends (R209 to R215): the wake window, the sums and the fit, and the wakes.
-/
namespace Sys2Proof.Machine

/-- `WAKE` as W acts, in minutes (R209). -/
def wakeMinutes (cfg : Word) : Nat := max 1 (min (cfg.fld 10 0) 1440)

/-- The instant of wake `m` of a trend, in ns (R209). -/
def Trend.wakeNs (t : Trend) (m : Nat) : Nat := t.s + m * t.w * 60000000000

/-- A trend ends after its step has ended, and the one entered then takes its place (R209): the state at instant `ns`. -/
def Trend.turn (t : Trend) (ns : Nat) : Trend :=
  let t := match t.stop with
    | some e => if e < ns then { t with active := false, stop := none } else t
    | none => t
  match t.next with
  | none => t
  | some (start, cfg, tco) =>
    if start < ns then
      { active := true, s := start, w := wakeMinutes cfg, skip := cfg.fld 23 16, tcomp := cfg.getLsbD 25
        tco := if cfg.getLsbD 25 then tco else 0 }
    else t

/-- Instant `ns` lies in the window of the next wake (R210). -/
def Trend.inWindow (t : Trend) (ns : Nat) : Bool :=
  t.active && decide (t.wakeNs (t.m + 1) < ns + 10000000000) && decide (ns ≤ t.wakeNs (t.m + 1))

/-- A base sample of instant `ns` (R210). -/
def Trend.sample (t : Trend) (ns : Nat) (fl : BitVec 8) (v : Int) : Trend :=
  let t := t.turn ns
  if !t.inWindow ns then t
  else
    let t := { t with bad := t.bad || fl.getLsbD 0 || fl.getLsbD 3 || fl.getLsbD 4 }
    if fl.getLsbD 1 || fl.getLsbD 5 || fl.getLsbD 7 then t else { t with sumV := t.sumV + v, cntV := t.cntV + 1 }

/-- A temperature conversion of instant `ns` (R210). -/
def Trend.conversion (t : Trend) (ns : Nat) (temp : Int) : Trend :=
  let t := t.turn ns
  if t.inWindow ns then { t with sumT := t.sumT + temp, cntT := t.cntT + 1 } else t

/-- The sums restart: the next usable point sets a new V0 and Tref (R215). -/
def Trend.clearSums (t : Trend) : Trend :=
  { t with n := 0, sx := 0, sxx := 0, sy := 0, sxy := 0, syy := 0, zero := none, restart := true, full := false }

/-- n² Sxx / n, n² Sxy / n and n² Syy / n of R211, as whole numbers: n times each. -/
def Trend.nSxx (t : Trend) : Int := (t.n * t.sxx : Nat) - (t.sx * t.sx : Nat)
def Trend.nSxy (t : Trend) : Int := (t.n : Int) * t.sxy - (t.sx : Int) * t.sy
def Trend.nSyy (t : Trend) : Int := (t.n : Int) * (t.syy : Int) - t.sy * t.sy

/-- `SLOPE` and `SSIG` from the sums (R211). -/
def Trend.fit (t : Trend) : Trend :=
  if t.n < 3 then { t with slope := 0, ssig := 0, noFit := true }
  else
    let num := (t.nSyy * t.nSxx - t.nSxy * t.nSxy).toNat * 3600
    let den := (t.nSxx * t.nSxx).toNat * (t.n - 2) * (t.w * t.w)
    { t with
      slope := roundDiv (60 * t.nSxy) (t.nSxx * t.w).toNat
      ssig := sqrtRound num (max 1 den)
      noFit := false }

/-- A usable point (vm, Tm) of wake m enters the sums (R211). -/
def Trend.add (t : Trend) (vm tm : Int) : Trend :=
  match t.zero with
  | none =>
    -- the first point: y = 0
    { t with zero := some (vm, tm), v0 := vm, n := 1, sx := t.m, sxx := t.m * t.m, sy := 0, sxy := 0, syy := 0 }
  | some (v0, t0) =>
    if 65535 ≤ t.n then t
    else
      let y := vm - v0 - roundDiv (t.tco * (tm - t0)) 100
      { t with
        n := t.n + 1
        sx := t.sx + t.m
        sxx := t.sxx + t.m * t.m
        sy := t.sy + y
        sxy := t.sxy + t.m * y
        syy := t.syy + (y * y).toNat }

/-- The wake's window gives no usable point (R210). -/
def Trend.isGap (t : Trend) : Bool := decide (100 * t.cntV < 90 * 625000) || t.bad

/-- One wake: the point is formed, added where it is usable, and the results and flags updated (R210 to R212). -/
def Trend.wake (t : Trend) : Trend :=
  let gap := t.isGap
  let m := t.m + 1
  let skip := decide (m ≤ t.skip)
  let vm := meanOf (t.sumV * 100) t.cntV
  let tm := if t.cntT = 0 then -32768 else meanOf t.sumT t.cntT
  let t := { t with m := m, gap := gap, skipped := skip, lastV := roundDiv vm 100, lastT := tm, rflag := t.restart }
  let t := if gap || skip then t else { t.add vm tm with restart := false }
  let t := { t with full := decide (65535 ≤ t.n) }
  { t.fit with sumV := 0, cntV := 0, sumT := 0, cntT := 0, bad := false }

/-- The REST_TREND record of the latest wake (R237). -/
def trendRecord (k : Nat) (t : Trend) : Record :=
  { typ := 5, chan := k
    x := t.noFit.toNat + 2 * t.full.toNat + 4 * t.gap.toNat + 8 * t.skipped.toNat + 16 * t.rflag.toNat
    time := t.wakeNs t.m
    body := bytes32 t.slope ++ bytes32 t.lastV ++ leBytes 2 (satNat 16 t.ssig) ++ leBytes 2 t.m ++ leBytes 2 t.n ++
      leBytesI 2 t.lastT }

/-- Records held by die `d` (R214). -/
def State.heldTrend (s : State) (d : Nat) : List Record := Sparse.get [] s.trendPend d

/-- A record of the trend engine: held on its die in Feather, where 1,536 of them raise PEND_HIGH and a wake request,
else generated at once (R214). -/
def State.trendOut (s : State) (r : Record) : State :=
  if s.feather then
    let d := r.chan / 128
    let l := s.heldTrend d ++ [r]
    let s := { s with trendPend := Sparse.set [] s.trendPend d (l.take 2048) }
    s.when (decide (l.length = 1536)) fun s => (s.raise 0x035 9).wakeRequest 7
  else s.genRecord r

/-- R212: a wake instant of the trend of channel `k`. -/
def State.trendWake (s : State) (k : Nat) : State :=
  let t := s.trend k
  -- a wake instant that the step's end shares still belongs to the trend that ends (R209)
  let t := if t.active && decide (t.wakeNs (t.m + 1) ≤ s.now) then t else t.turn s.now
  let due := t.active && decide (t.wakeNs (t.m + 1) ≤ s.now) && t.stop.all fun e => decide (t.wakeNs (t.m + 1) ≤ e)
  if !due then s.modTrend k fun _ => t
  else
    let u := t.wake
    let s := s.modTrend k fun _ => u
    let s := s.when (u.full && !t.full) fun s => s.raise 0x035 8
    s.trendOut (trendRecord k u)

/-- Die `d` powers its converters down again once no wake window of its trends is open (R214). -/
def State.convertersDown (s : State) (d : Nat) : State :=
  if s.feather && (s.die d).checkEnd.isNone && !(s.channels.any fun k => k / 128 == d && (s.trend k).inWindow (s.now + 1)) then
    s.modDie d fun x => { x with converters := false }
  else s

/-- A reference changeover or a commit restarts the sums of channel `k` (R215). -/
def State.trendRestart (s : State) (k : Nat) : State :=
  if (s.trend k).active then (s.modTrend k Trend.clearSums).raise 0x035 10 else s

/-- Every trend ends (R215: STOP of the page). -/
def State.stopTrends (s : State) : State :=
  s.each s.channels fun s k => s.modTrend k fun t => { t with active := false, stop := none, next := none }

/-- Channels of die `d` with a trend. -/
def State.trendChannels (s : State) (d : Nat) : List Nat :=
  s.channels.filter fun k => k / 128 == d && (s.trend k).active

/-- R214: in Feather, die `d` powers its converters for the channels in trend, 11 s before a wake: the sense-open checks
that R98 deferred run in the second that follows. -/
def State.powerConverters (s : State) (d : Nat) : State :=
  if s.feather && s.hasDie d && !(s.trendChannels d).isEmpty then
    s.modDie d fun x => { x with converters := true }
  else s

/-- A check window that has lasted 10 s closes. -/
def State.checkClose (s : State) : State :=
  s.each (List.range 2) fun s d =>
    match (s.die d).checkEnd with
    | some e => if e ≤ s.now then (s.modDie d fun x => { x with checkEnd := none }).convertersDown d else s
    | none => s

end Sys2Proof.Machine
end

