-- ==== Sys2Proof/Machine/Measure.lean ====
section
/-!
DEFINITION. Cell measurement (02_measurement.md): what one base sample does on its way to the loop engine, the averaging
decimator and the records, and the meanings of strobes, frames, ovens, references, thermistors and contact checks.
-/
namespace Sys2Proof.Machine

/-! ### SAMPLE records (R182, R237) -/

/-- The body of a SAMPLE record. -/
def State.sampleBody (s : State) (k tag : Nat) (v i : Int) (fl : BitVec 8) (d : Nat) : List Byte :=
  bytes32 v ++ bytes32 i ++ leBytesI 2 (s.tempNow k) ++ [fl, BitVec.ofNat 8 tag] ++ leBytes 2 (d - 1) ++
    [BitVec.ofNat 8 (s.chState k), 0]

def sampleRecord (k : Nat) (p : Samp) (x : Nat × Nat × List Byte) : Record :=
  { typ := 1, sub := x.2.1, chan := k, x := p.idx % 4096 + 4096 * p.mode, time := x.1, body := x.2.2 }

/-- An output is recorded under the policy of `REC` (R182). -/
def Samp.takes (p : Samp) (ifs v i : Int) : Bool :=
  let sdiv := max 1 (p.rec_.fld 15 4)
  match p.rec_.fld 3 0 with
  | 1 => true
  | 2 => p.seen % sdiv == 0
  | 3 =>
    p.seen == 0 || decide ((p.rec_.fld 23 16 : Int) * 1000 ≤ ((v - p.lastV).natAbs : Int)) ||
      decide ((p.rec_.fld 31 24 : Int) * ifs ≤ 1000 * ((i - p.lastI).natAbs : Int)) || decide (sdiv ≤ p.since + 1)
  | 4 => p.seen == 0
  | _ => false

/-- The policy after an output `x` with values `v` and `i`. -/
def Samp.note (p : Samp) (taken : Bool) (v i : Int) (x : Nat × Nat × List Byte) : Samp :=
  { p with
    seen := p.seen + 1
    since := if taken then 0 else p.since + 1
    lastV := if taken then v else p.lastV
    lastI := if taken then i else p.lastI
    held := if p.rec_.fld 3 0 = 4 && !taken then some x else p.held }

/-- FIRSTLAST: the last output of a step whose points have ended by `ns` is recorded. -/
def State.flushSamp (s : State) (k ns : Nat) : State :=
  let ended := fun (p : Samp) => p.stop.any fun e => decide (e ≤ ns)
  let emit := fun (s : State) (p : Samp) =>
    match p.held with
    | some x => s.genRecord (sampleRecord k p x)
    | none => s
  let s := match (s.prog k).sampOld with
    | some p => if ended p then (emit s p).modProg k fun q => { q with sampOld := none } else s
    | none => s
  let p := (s.prog k).samp
  if ended p && p.held.isSome then (emit s p).modProg k fun q => { q with samp := { q.samp with held := none } } else s

/-- An averaged output of instant `ns` reaches the step in which it falls (R182). -/
def State.sampOutput (s : State) (k ns : Nat) (v i : Int) (fl : BitVec 8) (d : Nat) : State :=
  let r := s.get (mstat k) 7 7
  let ifs := s.ifs k (s.ctl k).rngCur
  let inside := fun (p : Samp) => decide (p.start ≤ ns) && p.stop.all fun e => decide (ns < e)
  match (s.prog k).sampOld with
  | some p =>
    if inside p then
      let x := (ns, r, s.sampleBody k p.tag v i fl d)
      let t := p.takes ifs v i
      let s := s.modProg k fun q => { q with sampOld := some (p.note t v i x) }
      s.when t fun s => s.genRecord (sampleRecord k p x)
    else s
  | none =>
    let p := (s.prog k).samp
    if inside p then
      let x := (ns, r, s.sampleBody k p.tag v i fl d)
      let t := p.takes ifs v i
      let s := s.modProg k fun q => { q with samp := p.note t v i x }
      s.when t fun s => s.genRecord (sampleRecord k p x)
    else s

/-! ### What the loop engine keeps of a sample (R111, R121, R134, R143, R170) -/

/-- A base sample as it is delivered: strobe index, flags, V and I of R74. -/
structure Smp where
  idx : Nat
  fl  : BitVec 8
  v   : Int
  i   : Int
  deriving DecidableEq, Repr

/-- The sample enters a window (R121). -/
def Window.add (w : Window) (x : Smp) : Window :=
  let a : Int := x.i.natAbs
  { w with
    n := w.n + 1, sumV := w.sumV + x.v, sumI := w.sumI + x.i
    maxV := if w.n = 0 then x.v else max w.maxV x.v
    minV := if w.n = 0 then x.v else min w.minV x.v
    maxI := max w.maxI a
    rset := w.rset || x.fl.getLsbD 2 }

/-- The sample enters the window of its stroke; `w2` is 2N, `live` says that unserved windows are kept. -/
def Ctl.window (c : Ctl) (w2 : Nat) (live : Bool) (x : Smp) : Ctl :=
  if w2 = 0 then c
  else
    let target := ceilDiv x.idx w2 * w2
    if c.win.idx = target then { c with win := c.win.add x }
    else
      { c with wins := if live && c.win.n != 0 then c.wins ++ [c.win] else c.wins
               win := ({ idx := target } : Window).add x }

/-- The integrators (R134). -/
def Ctl.integrate (c : Ctl) (x : Smp) : Ctl :=
  let c := match c.qFrom with
    | some f => if f ≤ x.idx then { c with qFrom := none, qstep := 0, estep := 0 } else c
    | none => c
  let q := 16 * x.i
  let e := 16 * x.v * x.i
  { c with
    qchg := c.qchg + q.toNat, qdis := c.qdis + (-q).toNat, echg := c.echg + e.toNat, edis := c.edis + (-e).toNat
    qstep := c.qstep + q, estep := c.estep + e }

/-- A sample enters the mean of its interval, named by `target`. -/
def Mean.into (m : Mean) (target : Nat) (v : Int) : Mean :=
  if m.stamp = target then { m with sum := m.sum + v, n := m.n + 1 } else { stamp := target, sum := v, n := 1 }

/-- The 100 ms mean of R143 closes at strobe `idx`. -/
def Ctl.closeDv (c : Ctl) (idx : Nat) : Ctl :=
  if idx % 6250 ≠ 0 then c
  else
    let m := c.dvAcc
    if m.stamp = idx && 6000 ≤ m.n && c.armIdx + 6250 ≤ idx then
      { c with dvLast := some m, dvAcc := {}
               dvTest := match c.dvLast with
                 | some l => if l.stamp + 6250 = idx then some (m, l) else none
                 | none => none }
    else { c with dvLast := none, dvAcc := {} }

/-- The 1 s mean of R170 closes at strobe `idx`. -/
def Ctl.closeV1 (c : Ctl) (idx : Nat) : Ctl :=
  if idx % 62500 ≠ 0 then c
  else if c.v1Acc.stamp = idx / 62500 && c.v1Acc.n ≠ 0 then
    { c with v1s := (c.v1Acc :: c.v1s).take 61, v1Acc := {}, v1New := true }
  else { c with v1Acc := {} }

/-- The means of V over 100 ms and 1 s (R143, R170). -/
def Ctl.means (c : Ctl) (x : Smp) : Ctl :=
  let c := if excluded x.fl then c
    else { c with dvAcc := c.dvAcc.into (ceilDiv x.idx 6250 * 6250) x.v
                  v1Acc := c.v1Acc.into (ceilDiv x.idx 62500) x.v }
  (c.closeDv x.idx).closeV1 x.idx

/-- A sample reaches the loop engine. -/
def State.intoLoop (s : State) (k : Nat) (x : Smp) : State :=
  let busy := s.chState k != 0
  s.modCtl k fun c =>
    let c := c.window (2 * s.nStroke) (s.chLive k) x
    if busy then (c.integrate x).means x else c

/-- The windows that end at marks (R231). -/
def ChanMeas.mark (m : ChanMeas) (x : Smp) : ChanMeas :=
  let target := ceilDiv x.idx 64
  let a : MarkWin := if m.markAcc.mark = target then m.markAcc else { mark := target }
  let a := { a with n := a.n + 1, sumV := a.sumV + x.v, sumI := a.sumI + x.i
                    bad := a.bad || x.fl.getLsbD 3 || x.fl.getLsbD 5 || x.fl.getLsbD 7 }
  if x.idx % 64 = 0 then { m with markAcc := {}, markLast := a } else { m with markAcc := a }

/-! ### One base sample (R69 to R74) -/

/-- A sense-open check holds strobe `idx` (R97). -/
def ChanMeas.checking (m : ChanMeas) (idx : Nat) : Bool :=
  m.soc.any fun c => decide (c.start < idx) && decide (idx ≤ c.start + 6)

/-- The readings that a sense-open check keeps (R97). -/
def Soc.note (c : Soc) (idx : Nat) (v rawI : Int) : Soc :=
  if idx = c.start then { c with ref := some (v, rawI) }
  else if c.start < idx ∧ idx ≤ c.start + 6 then { c with chk := c.chk ++ [(v, rawI)] }
  else c

/-- The path of channel `k` on the calibration bus: none, voltage (0) or current (1) (R90). -/
def State.busPath (s : State) (k : Nat) : Option Nat :=
  if s.bit (mstat k) 5 then some (s.get (Reg.CAL_STAT (k / 128)) 24 24) else none

/-- V and I of a raw reading of strobe `idx` on the range in effect then (R77, R85, R86). -/
def State.calibrate (s : State) (k idx : Nat) (raw : Int × Int) : Int × Int :=
  let c := s.ch k
  let r := if idx ≤ c.meas.rsetFrom && c.meas.rsetFrom != 0 then c.meas.rsetOld else s.get (mstat k) 7 7
  (c.meas.coef.volts raw.1, c.meas.coef.amps r (if r = 0 then c.ki0 else c.ki1) raw.2)

/-- The sample of channel `k` at strobe `idx` from its raw codes, none where the frame was lost: flags (R72) and the
values of R74. -/
def State.sampleOf (s : State) (k idx : Nat) (raw : Option (Int × Int)) : Smp :=
  let d := k / 128
  let m := s.chMeas k
  let chk := m.checking idx
  let bus := s.busPath k
  let live := (raw.map (s.calibrate k idx)).getD (m.goodV, m.goodI)
  let ovr := raw.any fun x => isOvr x.1 x.2 live.1
  let fl := sflag ovr chk (decide (m.rsetFrom < idx) && decide (idx ≤ m.rsetTo)) (s.get (Reg.MEAS_OVEN_STAT d) 2 0 != 2)
    ((s.die d).refq || (s.die d).refHold) raw.isNone false bus.isSome
  { idx := idx, fl := fl
    v := if chk || raw.isNone || bus == some 0 then m.goodV else live.1
    i := if chk || raw.isNone || bus == some 1 then m.goodI else live.2 }

/-- The measurement state of channel `k` after its sample `x`. -/
def ChanMeas.after (m : ChanMeas) (x : Smp) (reading : Option (Int × Int)) : ChanMeas :=
  let good := !excluded x.fl
  let m := m.mark x
  { m with
    goodV := if good then x.v else m.goodV
    goodI := if good then x.i else m.goodI
    soc := match reading with
      | some (v, rawI) => m.soc.map fun c => c.note x.idx v rawI
      | none => m.soc
    avg := ((m.avg.add x.fl x.v x.i).tick x.idx).1 }

/-- The base sample of channel `k` is delivered. -/
def State.deliver (s : State) (k idx : Nat) (raw : Option (Int × Int)) : State :=
  let x := s.sampleOf k idx raw
  let out := (((s.chMeas k).avg.add x.fl x.v x.i).tick idx).2
  let reading := raw.map fun r => ((s.calibrate k idx r).1, r.2)
  let s := s.modMeas k fun m => m.after x reading
  let s := s.put (mstat k) 15 8 x.fl.toNat
  let s := (s.intoLoop k x).eisSample k idx x.fl x.v x.i
  let s := s.modTrend k fun t => t.sample (strobeNs idx) x.fl x.v
  let s := s.flushSamp k (strobeNs idx)
  match out with
  | some (v, i, fl, d) => s.sampOutput k (strobeNs idx) v i fl d
  | none => s

/-! ### The dies -/

/-- Channels of die `d`. -/
def State.dieChannels (s : State) (d : Nat) : List Nat := s.channels.filter fun k => k / 128 == d

/-- Die `d` delivers samples: its page RUNNING, or stopping until the current sample is complete (R103). -/
def State.delivers (s : State) (d : Nat) : Bool :=
  s.hasDie d && (s.die d).powered && (s.die d).converters &&
    (s.pg (0x010 + d) == 3 || (s.pg (0x010 + d) == 4 && (s.die d).stopReq))

/-- Strobe index of the latest base strobe of die `d`. -/
def State.dieIdx (s : State) (d : Nat) : Nat := s.rd64 (Reg.MEAS_SIDX_LO d) (Reg.MEAS_SIDX_HI d)

/-- A measure page enters FAULTED: delivery stops, and its channels go to SAFE (R84). -/
def State.measFault (s : State) (d code : Nat) : State :=
  ((s.pageFault (0x010 + d) code).modDie d fun x => { x with waiting := false, lost := 0 }).safeAll (s.dieChannels d) 35

/-- A sample of a path reaches a MEASURE (R96). -/
def CalOp.note (c : CalOp) (idx : Nat) (code : Option Int) (oven : Bool) : CalOp :=
  match c with
  | .measuring since want n sum sumSq refChg bad =>
    if idx ≤ since || want ≤ n then c
    else
      match code with
      | some x => .measuring since want (n + 1) (sum + x * 256) (sumSq + (x * x * 65536).toNat) refChg (bad || oven)
      | none => .measuring since want n sum sumSq refChg (bad || oven)
  | _ => c

/-- The strobe `idx` of die `d` reaches a MEASURE with the raw codes of the connected channel, if they arrived. -/
def State.calSample (s : State) (d idx : Nat) (samples : List RawSample) : State :=
  let j := s.get (Reg.CAL_STAT d) 22 16
  let code := (samples.find? fun x => x.j == j).map fun x => if s.bit (Reg.CAL_STAT d) 24 then x.i else x.v
  s.modDie d fun x => { x with cal := x.cal.note idx code (s.get (Reg.MEAS_OVEN_STAT d) 2 0 != 2) }

/-- A strobe whose frame is lost: delivered as HOLD, counted; three in a row are MLINK_LOST (R102). -/
def State.lostStrobe (s : State) (d : Nat) : State :=
  let idx := s.dieIdx d
  let s := (s.count (Reg.MEAS_MLINK_ERR d) 31 16).raise (0x010 + d) 16
  let s := s.each (s.dieChannels d) fun s k => s.deliver k idx none
  let s := (s.calSample d idx []).modDie d fun x => { x with waiting := false, lost := x.lost + 1 }
  if 3 ≤ (s.die d).lost then s.measFault d 0x0101 else s

/-- A frame of die `d` arrives (R69, R102). -/
def State.frameRx (s : State) (d : Nat) (good : Bool) (samples : List RawSample) : State :=
  if !(s.die d).waiting then s
  else
    let p := 0x010 + d
    let bad := !good || s.injFires p 0x13 0
    let s := s.injStep p 0x13 0
    if bad then (s.count (Reg.MEAS_MLINK_ERR d) 15 0).lostStrobe d
    else
      let idx := s.dieIdx d
      let s := s.each (samples.filter fun x => s.hasCh (128 * d + x.j)) fun s x =>
        s.deliver (128 * d + x.j) idx (some (x.v, x.i))
      (s.calSample d idx samples).modDie d fun x => { x with waiting := false, lost := 0 }

/-- R69. -/
def execMeasureFrameRx (d : Nat) (good : Bool) (samples : List RawSample) (s : State) : Answer :=
  answer (decide (d < 2) && wfSamples samples) (s.frameRx d good samples)

/-- R102. -/
def execMeasureFrameDeadline (d : Nat) (s : State) : Answer :=
  answer (decide (d < 2)) (if (s.die d).waiting then s.lostStrobe d else s)

/-! ### The base strobe (R65) -/

/-- The oven of die `d` is enabled and powered: it leaves OFF for WARMING (R79, R80). -/
def State.ovenStart (s : State) (d : Nat) : State :=
  if s.hasDie d && s.bit (Reg.MEAS_OVEN_CTRL d) 0 && (s.die d).powered && s.get (Reg.MEAS_OVEN_STAT d) 2 0 == 0 then
    (s.put (Reg.MEAS_OVEN_STAT d) 2 0 1).raise (0x010 + d) 8
  else s

/-- The oven of die `d` is switched off, or its supplies are gone; FAULT stays (R79). -/
def State.ovenStop (s : State) (d : Nat) : State :=
  if s.get (Reg.MEAS_OVEN_STAT d) 2 0 = 4 then s else s.put (Reg.MEAS_OVEN_STAT d) 2 0 0

/-- The die changes over to the other reference (R82): open trends restart, and a MEASURE is spoiled. -/
def State.changeover (s : State) (d : Nat) : State :=
  let s := s.setBit (Reg.MEAS_REF_STAT d) 0 (!s.bit (Reg.MEAS_REF_STAT d) 0)
  let s := s.modDie d fun x =>
    { x with chgPend := false
             refHold := x.refHold || x.chgPend
             cal := match x.cal with
               | .measuring since want n sum sumSq _ oven => .measuring since want n sum sumSq true oven
               | c => c }
  (s.each (s.dieChannels d) fun s k => s.trendRestart k).raise (0x010 + d) 11

/-- KIr of channel `k` from its coefficients and the accepted descriptor (R86). -/
def State.kiOfCh (s : State) (k r : Nat) : Nat :=
  let n := k / 16
  if r < s.nrange k then
    kiOf (knomOf (s.descSense n r) (s.descRsh n r)) ((s.chMeas k).coef.gi r)
      (i16At (s.link n).desc (48 + 32 * r + 2 * (k % 16)))
  else 0

/-- What a base strobe applies to channel `k`: a committed set (R94), and the gains of R86. -/
def State.strobeCoef (s : State) (k : Nat) : State :=
  let s := match (s.chMeas k).coefNext with
    | some c => s.modMeas k fun m => { m with coef := c, coefNext := none }
    | none => s
  if s.descOk (k / 16) then
    let k0 := s.kiOfCh k 0
    let k1 := s.kiOfCh k 1
    s.modCh k fun c => { c with ki0 := k0, ki1 := k1 }
  else s

/-- The points that a service committed become the ones launched from this boundary on (R113). -/
def Ctl.shift (c : Ctl) : Ctl :=
  { c with
    cur := if c.nxt.isEmpty then c.cur.getLast?.toList else c.nxt
    rngCur := if c.nxt.isEmpty then c.rngCur else c.rngNxt
    slewPrev := c.slewCur, slewCur := c.slewNxt, slewNxt := false, nxt := [], nxtF := 0 }

/-- The 1 s mean of temperature closes at a whole second (R143 DTDT). -/
def Ctl.closeDt (c : Ctl) (sec : Nat) : Ctl :=
  let m := c.dtAcc
  let used := m.stamp + 1 == sec && m.n != 0 && !c.dtBad && decide (c.armIdx ≤ m.stamp * 62500)
  if used then
    { c with dtAcc := {}, dtBad := false, dtMeans := (m :: c.dtMeans).take 11
             dtTest := (c.dtMeans.find? fun o => o.stamp + 10 == m.stamp).map fun o => (m, o) }
  else { c with dtAcc := {}, dtBad := false, dtTest := none }

/-- A STOP of a measure page acts at the strobe that completes the current sample (R103). -/
def State.measStop (s : State) (d idx : Nat) : State :=
  let ks := s.dieChannels d
  let live := ks.filter s.chLive
  let s := s.safeAll ks 39
  let s := s.each live fun s k => s.forceFrom k (strobeNs idx + 4000)
  s.each ks fun s k => s.modMeas k fun m => { m with avg := m.avg.clear }

/-- The strobe reaches die `d`: its sample is awaited, or only a written D may take effect. -/
def State.dieStrobe (s : State) (d idx : Nat) : State :=
  let s := s.wr64 (Reg.MEAS_SIDX_LO d) (Reg.MEAS_SIDX_HI d) idx
  let s := if (s.die d).chgPend then s.changeover d else s
  let s := s.ovenStart d
  if s.delivers d then
    let s := s.modDie d fun x => { x with waiting := true }
    if s.pg (0x010 + d) = 4 then (s.measStop d idx).modDie d fun x => { x with stopReq := false } else s
  else s.each (s.dieChannels d) fun s k => s.modMeas k fun m => { m with avg := m.avg.newD idx }

/-- R65. -/
def State.baseStrobe (s : State) : State :=
  let idx := s.strobeIdx
  let s := s.checkClose
  let s := s.each ((List.range 2).filter s.hasDie) fun s d => s.dieStrobe d idx
  let s := s.each s.channels fun s k => s.strobeCoef k
  let s := s.when (s.nStroke != 0 && idx % (2 * s.nStroke) == 0) fun s =>
    s.each s.channels fun s k => s.modCtl k Ctl.shift
  s.when (idx % 62500 == 0) fun s =>
    s.each (s.channels.filter s.chLive) fun s k => s.modCtl k fun c => c.closeDt (idx / 62500)

def execBaseStrobe (s : State) : Answer := .next (if s.halted then s else s.baseStrobe)

/-! ### Thermistors (R76, R87, R88) -/

/-- Rth lies above `lim` mΩ, or below it, for the ratio `rho` / 2^22. -/
def rthAbove (rref rho lim : Nat) : Bool := decide (lim * (2 ^ 22 - rho) < rref * rho)
def rthBelow (rref rho lim : Nat) : Bool := decide (rref * rho < lim * (2 ^ 22 - rho))

/-- Profile of channel `k`: its type and coefficients (R87). -/
def State.tsProfile (s : State) (k : Nat) : Nat × Word × Word × Word :=
  let d := k / 128
  let p := s.get (mcfg k) 17 16
  (s.get (Reg.MEAS_TSP_TYPE d p) 2 0, s.rd (Reg.MEAS_TSP_C1 d p), s.rd (Reg.MEAS_TSP_C2 d p), s.rd (Reg.MEAS_TSP_C3 d p))

/-- What a conversion gives: the `MSTAT` bit of a fault, or the temperature. -/
def State.thermistor (s : State) (k rho : Nat) : Nat ⊕ Int :=
  let d := k / 128
  let (t, c1, c2, c3) := s.tsProfile k
  let pt := t == 3
  let rref := (s.rd (if pt then Reg.CAL_RREF1K d else Reg.CAL_RREF10K d)).toNat
  if s.injFires (0x010 + d) 0x15 (k % 128) || rthAbove rref rho (if pt then 4000000 else 2000000000) then .inl 2
  else if rthBelow rref rho (if pt then 500000 else 50000) then .inl 3
  else
    match Config.thermistor t c1 c2 c3 rref rho with
    | some x => if -32767 ≤ x ∧ x ≤ 32767 then .inr x else .inl 16
    | none => .inl 16

/-- A temperature reaches `MTEMP`, the mean of R143 and the trend. -/
def State.noteTemp (s : State) (k : Nat) (temp : Int) : State :=
  let idx := s.strobeIdx
  let s := s.put (mtemp k) 15 0 (Word.unsigned 16 temp)
  let s := s.modCtl k fun c =>
    let c := if c.dtAcc.stamp = idx / 62500 then c else { c with dtAcc := { stamp := idx / 62500 }, dtBad := false }
    if temp = -32768 then { c with dtBad := true } else { c with dtAcc := c.dtAcc.into (idx / 62500) temp }
  s.modTrend k fun t => t.conversion (strobeNs idx) temp

/-- R76 to R88: a conversion of channel `k` ends. -/
def State.tsConversion (s : State) (k rho : Nat) : State :=
  let d := k / 128
  if !(s.hasCh k && s.delivers d) then s
  else if !s.bit (mcfg k) 18 || (s.tsProfile k).1 == 0 then s.noteTemp k (-32768)
  else
    let r := s.thermistor k rho
    let s := s.injStep (0x010 + d) 0x15 (k % 128)
    match r with
    | .inl b => ((s.setBit (mstat k) b true).raise (0x010 + d) 14).noteTemp k (-32768)
    | .inr t => s.noteTemp k t

def execTsConversionDone (k rho : Nat) (s : State) : Answer :=
  answer (decide (k < 256) && decide (rho < 2 ^ 22)) (s.tsConversion k rho)

/-! ### ODR (R71) -/

/-- R71. -/
def execOdrWrite (k odr : Nat) (s : State) : Answer :=
  answer (decide (k < 256) && decide (odr < 65536))
    (if s.hasCh k then
      (s.put (mcfg k) 15 0 odr).modMeas k fun m => { m with avg := { m.avg with dPend := some (odr + 1) } }
    else s)

/-! ### Ovens (R79, R80) -/

/-- The oven can act: enabled, powered, not in FAULT. -/
def State.ovenRuns (s : State) (d : Nat) : Bool :=
  s.hasDie d && s.bit (Reg.MEAS_OVEN_CTRL d) 0 && (s.die d).powered && s.get (Reg.MEAS_OVEN_STAT d) 2 0 != 4

/-- R79. -/
def execOvenRegulated (d : Nat) (s : State) : Answer :=
  answer (decide (d < 2)) (if s.ovenRuns d then s.put (Reg.MEAS_OVEN_STAT d) 2 0 2 else s)

/-- R79, R80. -/
def execOvenDegraded (d : Nat) (s : State) : Answer :=
  answer (decide (d < 2))
    (if s.ovenRuns d && s.get (Reg.MEAS_OVEN_STAT d) 2 0 == 2 then
      (s.put (Reg.MEAS_OVEN_STAT d) 2 0 3).raise (0x010 + d) 8
    else s)

/-- R79, R80. -/
def execOvenFault (d : Nat) (s : State) : Answer :=
  answer (decide (d < 2))
    (if s.ovenRuns d then
      ((s.injStep (0x010 + d) 0x12 0).put (Reg.MEAS_OVEN_STAT d) 2 0 4).raise (0x010 + d) 9
    else s)

/-! ### References (R81 to R83) -/

/-- Both references inside their windows (R81, R83). -/
def State.refsGood (s : State) (d : Nat) (diff : Int) (ratio : Word) : State :=
  let p := 0x010 + d
  let s :=
    if diff.natAbs ≤ 1000 then
      let run := (s.die d).okRun + 1
      let s := (s.wr (Reg.MEAS_REF_RATIO d) ratio).put (Reg.MEAS_REF_STAT d) 31 16 0
      let s := s.when (decide (3 ≤ run)) fun s => s.setBit (Reg.MEAS_REF_STAT d) 3 false
      s.modDie d fun x => { x with okRun := run }
    else
      let s := (s.count (Reg.MEAS_REF_STAT d) 31 16).modDie d fun x => { x with okRun := 0 }
      s.when (decide (3 ≤ s.get (Reg.MEAS_REF_STAT d) 31 16) && !s.bit (Reg.MEAS_REF_STAT d) 3) fun s =>
        (s.setBit (Reg.MEAS_REF_STAT d) 3 true).raise p 10
  let drift := s.bit (Reg.MEAS_REF_STAT d) 3
  let ok := !drift && decide (diff.natAbs ≤ 1000)
  let s := s.modDie d fun x =>
    { x with refq := drift, refHold := false, ratio := if ok then ratio else x.ratio }
  s.when (!drift && s.get (Reg.MEAS_REF_CTRL d) 1 1 != s.get (Reg.MEAS_REF_STAT d) 0 0) fun s => s.changeover d

/-- One reference outside its window; `active` says that it is the active one (R81). With a changeover to come, samples
carry REFQ from the changeover on (R78, R82). -/
def State.refBad (s : State) (d : Nat) (active : Bool) : State :=
  let s := (s.put (Reg.MEAS_REF_STAT d) 31 16 0).raise (0x010 + d) 12
  let auto := active && s.bit (Reg.MEAS_REF_CTRL d) 0
  s.modDie d fun x =>
    { x with okRun := 0, refq := x.refq || !auto, chgPend := x.chgPend || auto }

/-- R81. -/
def State.crossCheck (s : State) (d : Nat) (ok1 ok2 : Bool) (diff : Int) (ratio : Word) : State :=
  let p := 0x010 + d
  let ok1 := ok1 && !s.injFires p 0x10 1
  let ok2 := ok2 && !s.injFires p 0x10 2
  let diff := if s.injFires p 0x11 0 then (if diff.natAbs ≤ 1000 then 1001 else diff) else diff
  let s := ((s.injStep p 0x10 1).injStep p 0x10 2).injStep p 0x11 0
  let s := s.wrI (Reg.MEAS_REF_DIFF d) diff
  let s := (s.setBit (Reg.MEAS_REF_STAT d) 1 ok1).setBit (Reg.MEAS_REF_STAT d) 2 ok2
  let act := s.bit (Reg.MEAS_REF_STAT d) 0
  if ok1 && ok2 then s.refsGood d diff ratio
  else if !ok1 && !ok2 then s.measFault d 0x0100
  else s.refBad d (if act then !ok2 else !ok1)

def execRefCrossCheck (d : Nat) (ok1 ok2 : Bool) (diff : Int) (ratio : Word) (s : State) : Answer :=
  answer (decide (d < 2) && decide (-(2 ^ 31) ≤ diff) && decide (diff < 2 ^ 31))
    (if s.hasDie d && (s.die d).powered then s.crossCheck d ok1 ok2 diff ratio else s)

/-! ### Sense-open checks (R97, R98) -/

/-- The period of the check in the channel's mode, in seconds (R98). -/
def State.socPeriod (s : State) (k : Nat) : Nat :=
  let st := s.chState k
  let rest := (st == 2 || st == 3 || st == 4) && (s.chMode k == 0 || s.chMode k == 9)
  if rest then s.get (Reg.MEAS_SOC_CFG (k / 128)) 23 12 else s.get (Reg.MEAS_SOC_CFG (k / 128)) 11 0

/-- The strobe is the start strobe of channel `k`, or the check was deferred in Feather (R98). -/
def State.socDue (s : State) (k : Nat) : Bool :=
  let p := s.socPeriod k
  p != 0 && (s.feather || (s.strobeIdx % 62500 == 8 * (k % 128) && s.tbSec % p == 0))

/-- R98: the check starts, unless the channel is on the calibration bus (R78). -/
def execSenseOpenCheckStart (k : Nat) (s : State) : Answer :=
  answer (decide (k < 256))
    (if s.hasCh k && s.delivers (k / 128) && s.bit (mcfg k) 19 && s.socDue k && !s.bit (mstat k) 5 then
      s.modMeas k fun m => { m with soc := some { start := s.strobeIdx } }
    else s)

/-- `THR` in mV; 0 acts as 50 (R98). -/
def State.socThr (s : State) (k : Nat) : Nat :=
  let t := s.get (Reg.MEAS_SOC_CFG (k / 128)) 31 24
  if t = 0 then 50 else t

/-- A reading of the voltage pair, of the current pair, differs by more than `thr` mV (R97). -/
def socV (c : Soc) (thr : Nat) : Bool :=
  c.ref.any fun r => c.chk.any fun x => decide ((thr * 10000 : Int) < ((x.1 - r.1).natAbs : Int))
def socI (c : Soc) (range thr : Nat) : Bool :=
  c.ref.any fun r => c.chk.any fun x =>
    decide ((thr * 2 ^ 23 * (if range = 0 then 1 else 4) : Int) < 125 * ((x.2 - r.2).natAbs : Int))

/-- R97: the six CHK samples have arrived. -/
def State.socDone (s : State) (k : Nat) : State :=
  match (s.chMeas k).soc with
  | none => s
  | some c =>
    let p := 0x010 + k / 128
    let j := k % 128
    let v := socV c (s.socThr k) || s.injFires p 0x14 j
    let i := socI c (s.get (mstat k) 7 7) (s.socThr k) || s.injFires p 0x14 (128 + j)
    let s := ((s.injStep p 0x14 j).injStep p 0x14 (128 + j)).modMeas k fun m => { m with soc := none }
    let s := s.when v fun s => s.setBit (mstat k) 0 true
    let s := s.when i fun s => s.setBit (mstat k) 1 true
    s.when (v || i) fun s => s.raise p 13

def execSenseOpenCheckDone (k : Nat) (s : State) : Answer :=
  answer (decide (k < 256))
    (if (s.chMeas k).soc.any fun c => decide (c.start + 6 ≤ s.dieIdx (k / 128)) then s.socDone k else s)

end Sys2Proof.Machine
end

