-- ==== Sys2Proof/Machine/StageLink.lean ====
section
/-!
DEFINITION. Stage links (07_stage_links.md): downstream frames, telemetry, the management exchange, the descriptor, link
states, and the transmitter overrides of R145 and R267.
-/
namespace Sys2Proof.Machine

/-! ### Link state -/

/-- `LSTATE` (R261). -/
def State.lstate (s : State) (n : Nat) : Nat := s.get (Reg.SL_STAT n) 2 0
def State.setLstate (s : State) (n st : Nat) : State := s.put (Reg.SL_STAT n) 2 0 st

/-- Channels of link `n`. -/
def State.linkChannels (s : State) (n : Nat) : List Nat := s.channels.filter fun k => k / 16 == n

/-! ### Management ops (R258, R643) -/

/-- An op of `MREQ` completes with a status and its answer. -/
def State.mreqDone (s : State) (n status mdata : Nat) : State :=
  (s.wrN (Reg.SL_MRSP n) (2 * status + 65536 * mdata)).raise (0x040 + n) 15

/-- Every op of the link that is unanswered or waiting completes LOST. -/
def State.opsLost (s : State) (n : Nat) : State :=
  let l := s.link n
  let own := l.mreq.isSome || (l.queue ++ l.flight).any fun m => m.mreq
  let s := s.modLink n fun l => { l with queue := [], flight := [], mreq := none }
  s.when own fun s => s.mreqDone n 3 0

/-- The descriptor is to be read: the 64 DESC_RD ops (R261). -/
def State.readDesc (s : State) (n : Nat) : State :=
  s.modLink n fun l =>
    { l with halves := [], queue := l.queue ++ (List.range 64).map fun h => { op := 1, arg := h } }

/-- The link enters ALIGN (R261). -/
def State.enterAlign (s : State) (n : Nat) : State :=
  ((s.opsLost n).setLstate n 1).modLink n fun l => { l with good := 0, bad := 0, wrong := 0, halves := [], reread := false }

/-- The waiting `MREQ` op goes out (R643). -/
def State.mreqOut (s : State) (n : Nat) : State :=
  match (s.link n).mreq with
  | none => s
  | some (op, arg) =>
    s.modLink n fun l => { l with mreq := none, queue := l.queue ++ [{ op := op, arg := arg, mreq := true }] }

/-- The link enters UP (R261, R267). -/
def State.enterUp (s : State) (n : Nat) : State :=
  let s := (s.setLstate n 3).modLink n fun l =>
    { l with ovr := l.ovr.filter (fun o => o.cause != 34), bad := 0, wrong := 0, reread := false }
  (((s.count (Reg.SL_UPS n) 15 0).raise (0x040 + n) 8).mreqOut n)

/-! ### The descriptor (R89, R259, R260) -/

/-- The bytes that 64 halfwords spell. -/
def descBytes (halves : List (Nat × Nat)) : List Byte :=
  ((List.range 64).map fun h => leBytes 2 (Sparse.get 0 halves h)).flatten

/-- A declared range passes R89 for its sense range, Rsh in nΩ and IFS in mA; `kis` are the KIr of its channels. -/
def shuntOk (sense rsh ifs : Nat) (kis : List Nat) : Bool :=
  let fs := if sense = 0 then 95000000000 else 23750000000
  let lo := if sense = 0 then 60000 else 15000
  decide (ifs * rsh ≤ fs) && decide (lo ≤ rsh) && kis.all fun x => decide (x < 2 ^ 32)

/-- KIr of the channels of link `n` under the descriptor `b`. -/
def State.kisOf (s : State) (n r : Nat) (b : List Byte) : List Nat :=
  (s.linkChannels n).map fun k =>
    kiOf (knomOf (byteAt b (24 + 12 * r)) (le32At b (28 + 12 * r))) ((s.chMeas k).coef.gi r)
      (i16At b (48 + 32 * r + 2 * (k % 16)))

/-- `DWHY` of the descriptor `b`, 0 where it is accepted (R260). -/
def State.descWhy (s : State) (n : Nat) (b : List Byte) : Nat :=
  let nr := byteAt b 12
  let rs := List.range nr
  if le16At b 0 ≠ 0x4B53 then 1
  else if le16At b 2 ≠ 1 then 2
  else if le32At b 124 ≠ (crc32c (b.take 124)).toNat then 3
  else if nr ≠ 1 && nr ≠ 2 then 4
  else if rs.any fun r => decide (1 < byteAt b (24 + 12 * r)) then 7
  else if rs.any fun r =>
      !shuntOk (byteAt b (24 + 12 * r)) (le32At b (28 + 12 * r)) (le32At b (32 + 12 * r)) (s.kisOf n r b) then 5
  else if le16At b 14 = 0 then 6
  else 0

/-- All 64 halfwords have been answered. -/
def State.descRead (s : State) (n : Nat) : State :=
  let b := descBytes (s.link n).halves
  let why := s.descWhy n b
  let s := s.each (List.range 32) fun s w => s.wrN (Reg.SL_DESC n w) (le32At b (4 * w))
  let s := s.wrN (Reg.SL_DWHY n) why
  let s := s.modLink n fun l => { l with halves := [], reread := false }
  if why = 0 then
    ((s.modLink n fun l => { l with desc := b }).setBit (Reg.SL_STAT n) 3 true).enterUp n
  else ((s.setBit (Reg.SL_STAT n) 3 false).setLstate n 4 |>.raise (0x040 + n) 10).mreqOut n

/-- An op completes with its answer (R258). -/
def State.mopDone (s : State) (n : Nat) (m : Mop) (mdata : Nat) : State :=
  let s := s.modLink n fun l => { l with flight := l.flight.erase m }
  let s := s.when (m.op == 2 && decide (m.arg < 16)) fun s => s.wrN (Reg.SL_CHFC n m.arg) (mdata % 256)
  if m.mreq then s.mreqDone n 0 mdata
  else if m.op = 1 then
    let s := s.modLink n fun l => { l with halves := Sparse.insert l.halves m.arg mdata }
    if (s.link n).halves.length = 64 then s.descRead n else s
  else s

/-- An op has failed three times (R258, R261). -/
def State.mopNoAnswer (s : State) (n : Nat) (m : Mop) : State :=
  let s := s.modLink n fun l => { l with flight := l.flight.erase m }
  if m.mreq then s.mreqDone n 2 0
  else if m.op = 1 && (s.lstate n == 2 || s.lstate n == 4) then s.enterAlign n
  else s

/-! ### Overrides (R145, R267) -/

/-- The transmitter of link `n` is overridden for a cause, from the first frame at least 4 µs after `det` ns. -/
def State.override (s : State) (n cause det : Nat) : State :=
  s.modLink n fun l =>
    if l.ovr.any fun o => o.cause == cause && o.holds then l
    else { l with ovr := l.ovr ++ [{ cause := cause, from_ := det + 4000 }] }

/-- An override no longer holds. -/
def State.overrideEnd (s : State) (n cause : Nat) : State :=
  s.modLink n fun l =>
    let ovr := l.ovr.map fun o => if o.cause = cause then { o with holds := false } else o
    { l with ovr := ovr.filter fun o => o.holds || decide (o.sent < 2) }

/-- A stage loss is detected at `det` ns (R267). -/
def State.stageLoss (s : State) (n det : Nat) : State :=
  if s.lstate n ≠ 3 then s
  else
    let s := (s.opsLost n).setLstate n 5
    let s := ((s.count (Reg.SL_UPS n) 31 16).raise (0x040 + n) 9).capture 37 det
    s.wakeSelf.override n 34 det

/-- The overrides whose frames are due. -/
def Link.acting (l : Link) (now : Nat) : List Ovr := l.ovr.filter fun o => decide (o.from_ ≤ now)

/-! ### Downstream frames (R252 to R255) -/

/-- What a frame says of one channel: enabled, connected, demand. -/
structure FrameCh where
  en   : Bool
  conn : Bool
  dmd  : Int
  deriving DecidableEq, Repr

/-- The channel of a frame point, and the points that remain: the last one stays (R137). -/
def Ctl.pop (c : Ctl) : Point × Ctl :=
  match c.cur with
  | [] => ({}, c)
  | [p] => (p, c)
  | p :: q :: r => (p, { c with cur := q :: r })

/-- The loop engine gives frame points: its page RUNNING, or STOPPING until its boundary (R141). -/
def State.loopDrives (s : State) : Bool := s.pg 0x030 == 3 || s.pg 0x030 == 4

/-- Forced zero demand of channel `k` acts at instant `now` (R103). -/
def Ctl.forces (c : Ctl) (now : Nat) : Bool := c.force.any fun t => decide (t ≤ now)

/-- What the frame launched now says of channel `k` under R255 and R137: `ov` is the number of frames that an override has
forced before, none without one. -/
def State.frameCh (s : State) (k : Nat) (ov : Option Nat) : FrameCh :=
  let st := s.chState k
  let c := s.ctl k
  let live := s.chLive k
  if st = 0 || !s.fitted k then { en := false, conn := false, dmd := 0 }
  else
    match ov with
    | some 0 => { en := true, conn := live || (c.pop.1).conn, dmd := 0 }
    | some _ => { en := true, conn := false, dmd := 0 }
    | none =>
      if c.forces s.now then { en := true, conn := !c.forced, dmd := 0 }
      else if !s.loopDrives then { en := true, conn := (c.pop.1).conn, dmd := 0 }
      else { en := true, conn := (c.pop.1).conn, dmd := (c.pop.1).dmd }

/-- Channel `k` after its frame. -/
def Ctl.sent (c : Ctl) (now : Nat) (idle : Bool) : Ctl :=
  if c.forces now then { c with forced := true, cur := [], nxt := [], nxtF := 0, force := if idle then none else c.force }
  else (c.pop).2

/-- A mask of the local channels that a condition picks. -/
def mask16 (f : Nat → Bool) : Nat := ((List.range 16).map fun i => if f i then 2 ^ i else 0).sum

/-- The next op to send: the first whose op and argument are not unanswered (R258). -/
def Link.nextOp (l : Link) : Option Mop :=
  l.queue.find? fun m => !(l.flight.any fun x => x.op == m.op && x.arg == m.arg)

/-- The op enters the frame; every op in flight has waited one frame more. -/
def Link.sendOp (l : Link) (m : Option Mop) : Link :=
  let fl := l.flight.map fun x => { x with wait := x.wait + 1 }
  match m with
  | none => { l with flight := fl }
  | some m => { l with queue := l.queue.erase m, flight := fl ++ [{ m with tries := m.tries + 1, wait := 0 }] }

/-- The 84 characters of a frame (R254). -/
def frameBytes (hdr fseq range en conn mop marg : Nat) (dmd : List Int) : List Byte :=
  let b := [BitVec.ofNat 8 hdr, BitVec.ofNat 8 fseq] ++ leBytes 2 range ++ leBytes 2 en ++ leBytes 2 conn ++
    [BitVec.ofNat 8 mop, BitVec.ofNat 8 marg] ++ leBytes 6 0 ++ (dmd.map (leBytesI 4)).flatten
  b ++ leBytes 4 (crc32c b).toNat

/-- A channel that an override disconnects enters SAFE, or FAULTED where the stage has flagged it (R267, R269). -/
def State.overrideTrip (s : State) (n k cause ns : Nat) (more : Bool) : State :=
  if cause = 33 && (s.link n).chflt.testBit (k % 16) && s.chLive k then s.tripCh k 10 17 ns more
  else s.tripCh k cause 18 ns more

/-- The overrides advance with a frame: after the zero-demand frame, the disconnect frame takes the channels to SAFE. -/
def State.overrideStep (s : State) (n : Nat) : State :=
  let acting := (s.link n).acting s.now
  let zero := acting.filter fun o => o.sent == 0
  let off := acting.filter fun o => o.sent == 1
  let s := match (off.map fun o => o.cause).min? with
    | none => s
    | some cause =>
      let ns := ((off.map Ovr.from_).min?).getD s.now
      let more := decide (1 < off.length)
      let ks := (s.linkChannels n).filter fun k => s.chState k != 0
      let s := s.each ks fun s k => s.overrideTrip n k cause ns more
      s.each ks fun s k => s.modCtl k fun c => { c with cur := [], nxt := [], nxtF := 0 }
  let now := s.now
  s.modLink n fun l =>
    let ovr := l.ovr.map fun o =>
      if zero.contains o then { o with sent := 1, from_ := now }
      else if off.contains o then { o with sent := 2 } else o
    { l with ovr := ovr.filter fun o => o.holds || decide (o.sent < 2) }

/-- The range that a frame commands takes effect on the measure die (R77). -/
def State.rangeTo (s : State) (k r : Nat) : State :=
  let old := s.get (mstat k) 7 7
  if old = r then s
  else
    let i := s.strobeIdx
    let n := if s.frameIdx % 2 = 0 then 2 else 3
    (s.put (mstat k) 7 7 r).modMeas k fun m => { m with rsetFrom := i, rsetTo := i + n, rsetOld := old }

/-- The frame of link `n` from what it says of each channel. -/
def State.sendFrame (s : State) (n : Nat) (chs : List (Nat × FrameCh)) (trip stale : Bool) (op : Option Mop) : State :=
  let at_ := fun i => ((chs.find? fun x => x.1 % 16 == i).map (·.2)).getD { en := false, conn := false, dmd := 0 }
  let en := mask16 fun i => (at_ i).en
  let conn := mask16 fun i => (at_ i).conn
  let range := mask16 fun i => (chs.any fun x => x.1 % 16 == i) && (s.ctl (16 * n + i)).rngCur == 1
  let dmd := if stale then ((s.link n).dmd ++ List.replicate 16 0).take 16 else (List.range 16).map fun i => (at_ i).dmd
  let fseq := s.frameIdx % 256
  let hdr := 1 + (if stale then 16 else 0) + (if trip then 32 else 0)
  let m := op.getD { op := 0, arg := 0 }
  let s := s.send (.stageFrame n (frameBytes hdr fseq range en conn m.op m.arg dmd))
  let s := s.each chs fun s x =>
    let r := (s.ctl x.1).rngCur
    ((s.wrI (Reg.CH_DMD x.1) (dmd.getD (x.1 % 16) 0)).put (Reg.CH_STAT x.1) 8 8 r).rangeTo x.1 r
  (s.modLink n fun l => { l with fseq := fseq, range := range, en := en, conn := conn, dmd := dmd, waiting := true })

/-- The three frames of STOPPING (R270): zero demand, disconnect, disable. -/
def State.stopFrame (s : State) (n : Nat) : State :=
  let l := s.link n
  let ks := s.linkChannels n
  let chs := ks.map fun k =>
    let f := s.frameCh k none
    (k, { en := f.en && decide (l.stopN < 2), conn := f.conn && decide (l.stopN < 1), dmd := (0 : Int) })
  if 2 < l.stopN then s
  else
    let s := s.sendFrame n chs false false none
    let cause := if l.ovr.any fun o => o.cause == 32 && o.holds then 32 else 40
    let s := s.when (l.stopN == 2) fun s => s.safeAll ks cause
    let s := s.when (l.stopN == 2) fun s => s.each ks fun s k => s.modCtl k fun c => { c with cur := [], nxt := [], nxtF := 0 }
    s.modLink n fun l => { l with stopN := l.stopN + 1 }

/-- A frame of a link in UP or LOST, with its points, its override and its op. -/
def State.upFrame (s : State) (n : Nat) (miss : Bool) : State :=
  let l := s.link n
  let acting := l.acting s.now
  let ov := (acting.map fun o => o.sent).max?
  let ks := s.linkChannels n
  let trip := ov.isSome && ks.any fun k => s.chState k != 0
  let chs := ks.map fun k => (k, s.frameCh k ov)
  let op := if s.lstate n = 3 then l.nextOp else none
  let now := s.now
  let s := s.sendFrame n chs trip (miss && !trip) op
  let s := s.each ks fun s k => s.modCtl k fun c => c.sent now (s.chState k == 0)
  (s.overrideStep n).modLink n fun l => l.sendOp op

/-- A frame of a link in ALIGN, DESC or REJECT: every `EN` 0. An override advances with it all the same (R145). -/
def State.quietFrame (s : State) (n : Nat) : State :=
  let op := if s.lstate n = 1 then none else (s.link n).nextOp
  let ks := s.linkChannels n
  let trip := !((s.link n).acting s.now).isEmpty && ks.any fun k => s.chState k != 0
  let chs := ks.map fun k => (k, { en := false, conn := false, dmd := (0 : Int) : FrameCh })
  ((s.sendFrame n chs trip false op).overrideStep n).modLink n fun l => l.sendOp op

/-- R252: the launch tick of link `n`. -/
def State.frameLaunch (s : State) (n : Nat) (ready : Bool) (slack : Nat) : State :=
  let ready := ready && !s.injFires 0x001 0x10 1
  let st := s.pg (0x040 + n)
  if !s.hasLink n then s
  else if st = 4 then s.stopFrame n
  else if st ≠ 3 || s.lstate n = 0 then s
  else
    let s := s.injStep 0x001 0x10 1
    let s := if ready then s.launch 1 slack else s.missLaunch 1
    if s.lstate n = 3 || s.lstate n = 5 then s.upFrame n (!ready) else s.quietFrame n

def execStageFrameLaunch (n : Nat) (ready : Bool) (slack : Nat) (s : State) : Answer :=
  answer (wfLink n && decide (slack < 65536)) (if s.halted then s else s.frameLaunch n ready slack)

/-! ### Telemetry (R253, R256, R257) -/

/-- A good frame (R251). -/
def telemetryGood (clean : Bool) (b : List Byte) : Bool :=
  clean && b.length == 84 && (crc32c (b.take 80)).toNat == le32At b 80

/-- The link exchanges frames. -/
def State.linkRuns (s : State) (n : Nat) : Bool :=
  s.hasLink n && (s.pg (0x040 + n) == 3 || s.pg (0x040 + n) == 4) && s.lstate n != 0

/-- A telemetry frame is missing or not good; `det` is its deadline. -/
def State.telemetryLost (s : State) (n det : Nat) : State :=
  let s := s.modLink n fun l => { l with waiting := false, bad := l.bad + 1, good := 0, wrong := 0 }
  if s.lstate n = 3 && decide (s.get (Reg.SL_CFG n) 3 0 ≤ (s.link n).bad) then s.stageLoss n det else s

/-- `VF` values of a frame (R256, R257). -/
def vfOf (b : List Byte) (i : Nat) : Word := BitVec.ofNat 32 (le32At b (16 + 4 * i))

def addVf (acc : List (Nat × Int × Nat)) (i : Nat) (v : Word) : List (Nat × Int × Nat) :=
  if v = 0x80000000 then acc
  else
    match Sparse.find? acc i with
    | some (sum, n) => Sparse.insert acc i (sum + v.toInt, n + 1)
    | none => Sparse.insert acc i (v.toInt, 1)

/-- The status that a good frame reports. -/
def State.noteTelemetry (s : State) (n : Nat) (b : List Byte) (rtt : Nat) : State :=
  let hdr : Word := BitVec.ofNat 32 (byteAt b 0)
  let chflt := le16At b 6
  let risen := BitVec.ofNat 32 chflt &&& ~~~(BitVec.ofNat 32 (s.get (Reg.SL_CHST n) 15 0))
  let s := ((s.setBit (Reg.SL_STAT n) 5 (hdr.getLsbD 4)).setBit (Reg.SL_STAT n) 4 (hdr.getLsbD 6)).put
    (Reg.SL_STAT n) 15 8 (byteAt b 12)
  let s := s.put (Reg.SL_STAT n) 23 16 (byteAt b 13)
  let s := s.wrN (Reg.SL_CHST n) (chflt + 65536 * le16At b 4)
  let s := s.wrN (Reg.SL_RTT n) (min rtt 65535 + 65536 * max (min rtt 65535) (s.get (Reg.SL_RTT n) 31 16))
  let s := s.each (List.range 16) fun s i => s.wr (Reg.SL_VF n i) (vfOf b i)
  let s := s.when (hdr.getLsbD 5) fun s => (s.count (Reg.SL_ERR2 n) 15 0).raise (0x040 + n) 13
  let s := s.when (risen != 0) fun s => s.raise (0x040 + n) 12
  s.modLink n fun l =>
    { l with chflt := (l.chflt ||| chflt)
             vfAcc := (List.range 16).foldl (fun a i => addVf a i (vfOf b i)) l.vfAcc
             queue := l.queue ++ (bitsOf risen).map fun i => { op := 2, arg := i } }

/-- The range comparison of R257. -/
def State.rangeCheck (s : State) (n : Nat) (b : List Byte) : State :=
  let l := s.link n
  let fit := if s.descOk n then le16At l.desc 14 else 0
  let diff := (List.range 16).any fun i =>
    fit.testBit i && l.en.testBit i && (le16At b 2).testBit i != l.range.testBit i
  s.when diff fun s => (s.count (Reg.SL_ERR2 n) 31 16).raise (0x040 + n) 14

/-- The answer that a frame carries meets its op (R258). -/
def State.answerOp (s : State) (n : Nat) (b : List Byte) : State :=
  match (s.link n).flight.find? fun m => m.op == byteAt b 8 && m.arg == byteAt b 9 with
  | some m => s.mopDone n m (le16At b 10)
  | none => s

/-- What a good frame means for the state of the link (R261, R267). -/
def State.linkProgress (s : State) (n : Nat) (b : List Byte) : State :=
  let sfault := (byteAt b 0).testBit 4
  let ssafe := (byteAt b 0).testBit 6
  let same := byteAt b 1 == (s.link n).fseq
  let s := s.modLink n fun l =>
    { l with waiting := false, bad := 0, good := l.good + 1, wrong := if same then 0 else l.wrong + 1 }
  let s := s.when (!sfault) fun s => s.overrideEnd n 33
  match s.lstate n with
  | 1 =>
    if 16 ≤ (s.link n).good then ((s.setLstate n 2).setBit (Reg.SL_STAT n) 3 false).readDesc n else s
  | 3 =>
    let lost := (ssafe && (s.linkChannels n).any fun k => s.chState k != 0) ||
      decide (s.get (Reg.SL_CFG n) 3 0 ≤ (s.link n).wrong)
    let fresh := sfault && !((s.link n).ovr.any fun o => o.cause == 33 && o.holds)
    let s := s.when fresh fun s => (s.raise (0x040 + n) 11).override n 33 s.now
    if lost then s.stageLoss n s.now else s
  | _ => s

/-- R257: a telemetry frame of link `n` arrives. -/
def State.telemetry (s : State) (n : Nat) (clean : Bool) (b : List Byte) (rtt : Nat) : State :=
  if !s.linkRuns n || !(s.link n).waiting then s
  else if 6000 < rtt then (s.count (Reg.SL_ERR n) 31 16).telemetryLost n s.now
  else
    let p := 0x040 + n
    let bad := !telemetryGood clean b || s.injFires p 0x10 0
    let s := s.injStep p 0x10 0
    if bad then (s.count (Reg.SL_ERR n) 15 0).telemetryLost n (s.now - rtt + 6000)
    else
      let s := (s.noteTelemetry n b rtt).rangeCheck n b
      (s.linkProgress n b).answerOp n b

def execTelemetryRx (n : Nat) (clean : Bool) (bytes : List Byte) (rtt : Nat) (s : State) : Answer :=
  answer (wfLink n && decide (bytes.length ≤ 84)) (s.telemetry n clean bytes rtt)

/-- R253. -/
def execTelemetryDeadline (n : Nat) (s : State) : Answer :=
  answer (wfLink n)
    (if s.linkRuns n && (s.link n).waiting then (s.count (Reg.SL_ERR n) 31 16).telemetryLost n s.now else s)

/-- R267: the receiver loses alignment or signal. -/
def execStageRxSignalLoss (n : Nat) (s : State) : Answer :=
  answer (wfLink n)
    (if s.linkRuns n then (s.stageLoss n s.now).modLink n fun l => { l with good := 0 } else s)

/-- R261: 100 µs in LOST. -/
def execStageLostTimeout (n : Nat) (s : State) : Answer :=
  answer (wfLink n) (if s.linkRuns n && s.lstate n == 5 then s.enterAlign n else s)

/-- R260: the descriptor is read again. -/
def execDescReread (n : Nat) (s : State) : Answer :=
  answer (wfLink n)
    (if s.running (0x040 + n) && s.lstate n == 4 && !(s.link n).reread then
      (s.readDesc n).modLink n fun l => { l with reread := true }
    else s)

/-- R258: an op has waited 4 frames. -/
def State.mopRetry (s : State) (n : Nat) : State :=
  match (s.link n).flight.find? fun m => decide (4 ≤ m.wait) with
  | none => s
  | some m =>
    if 3 ≤ m.tries then s.mopNoAnswer n m
    else s.modLink n fun l => { l with flight := l.flight.erase m, queue := { m with wait := 0 } :: l.queue }

def execMopRetry (n : Nat) (s : State) : Answer := answer (wfLink n) (s.mopRetry n)

/-- R643. -/
def State.mreq (s : State) (n op arg : Nat) : State :=
  let st := s.lstate n
  if !s.hasLink n then s
  else if s.bit (Reg.SL_MRSP n) 0 then s.raise (0x040 + n) 1
  else if op != 2 && op != 3 then s.mreqDone n 1 0
  else if 16 < arg && !(op == 3 && arg == 255) then s.mreqDone n 4 0
  else if !s.running (0x040 + n) || st == 0 || st == 1 || st == 5 then s.mreqDone n 3 0
  else
    let s := s.wrN (Reg.SL_MRSP n) 1
    let s := s.modLink n fun l => { l with mreq := some (op, arg) }
    if st = 2 then s else s.mreqOut n

def execMreqWrite (n : Nat) (v : Word) (s : State) : Answer :=
  answer (wfLink n) (s.mreq n (v.fld 7 0) (v.fld 15 8))

/-- The transmit PLL of a stage link loses lock (R274). -/
def State.stageUnlock (s : State) (n : Nat) : State :=
  if !s.hasLink n then s
  else
    let ks := s.linkChannels n
    let s := ((s.injStep (0x040 + n) 0x11 0).pageFault (0x040 + n) 0x0100).opsLost n
    let s := (s.safeAll ks 40).setLstate n 0
    (s.each ks fun s k => s.modCtl k fun c => { c with cur := [], nxt := [], nxtF := 0 }).modLink n fun l =>
      { l with waiting := false, ovr := [] }

/-- A stage-link page starts: its link looks for frames (R261). -/
def State.stageStart (s : State) (n : Nat) : State :=
  (s.enterAlign n).modLink n fun l => { l with stopN := 0, waiting := false, ovr := l.ovr.filter fun o => o.cause == 32 }

/-- A STOP arrives: every op completes LOST, and the STOPPING frames follow (R270). -/
def State.stageStop (s : State) (n : Nat) : State := (s.opsLost n).modLink n fun l => { l with stopN := 0 }

/-- The page leaves RUNNING for good: what its frames had still to do is done, and the link is OFF. -/
def State.stageStopped (s : State) (n : Nat) : State :=
  let s := (s.safeAll (s.linkChannels n) 40).setLstate n 0
  let s := s.each (s.linkChannels n) fun s k => s.modCtl k fun c => { c with cur := [], nxt := [], nxtF := 0 }
  s.modLink n fun l => { l with waiting := false, ovr := l.ovr.filter fun o => o.cause == 32 }

end Sys2Proof.Machine
end

