-- ==== Sys2Proof/Machine/Field.lean ====
section
/-!
DEFINITION. The field link at the core (R465 to R469, R494): downstream and upstream frames, the copy of the field die's
registers, the commands that travel to it, and what the core does with edges and fired routes.
-/
namespace Sys2Proof.Machine

def State.setFc (s : State) (f : FieldCore) : State := { s with fc := f }

/-! ### Fired routes at the core (R145, R469, R490) -/

/-- Routes that the core treats as fired. -/
def State.coreFired (s : State) : List Nat :=
  (List.range 16).filter fun r =>
    s.fc.fired.testBit r ||
      (s.bit Reg.FL_STAT 8 && (match Sparse.find? s.fc.routes r with
        | some x => x.2.getLsbD 31 && x.2.getLsbD 21
        | none => false))

/-- Stage links that fired routes name. -/
def State.zoneLinks (s : State) : List Nat :=
  let fired := s.coreFired
  (List.range 16).filter fun n =>
    s.hasLink n && fired.any fun r => ((Sparse.get (0, 0) s.fc.routes r).1).testBit n

/-- `f` changes which routes are fired: overrides of their links begin and end. -/
def State.withRoutes (s : State) (f : State → State) : State :=
  let old := s.zoneLinks
  let s := f s
  let new := s.zoneLinks
  let s := s.each (new.filter fun n => !old.contains n) fun s n => s.override n 32 s.now
  s.each (old.filter fun n => !new.contains n) fun s n => s.overrideEnd n 32

/-! ### Commands to the field die (R468, R494) -/

/-- A write for the field die joins the queue. -/
def State.fieldQueue (s : State) (a : Nat) (v : Word) : State :=
  s.setFc { s.fc with queue := s.fc.queue ++ [(a, (v, s.pg 0x0C0 == 1))] }

/-- Commanded levels of the digital outputs; while page 0x0C0 is STOPPED the copy follows at once. -/
def State.setDoCmd (s : State) (v : Nat) : State :=
  (s.setFc { s.fc with doCmd := v }).when (s.pg 0x0C0 == 1) fun s => s.put Reg.DO_CMD 15 0 v

/-- The levels of the bits of a mask are commanded by `seat`, within its grants (R480, R497). -/
def State.doCommand (s : State) (seat mask levels : Nat) : State :=
  let m := s.commandedBits seat 3 16 mask
  s.setDoCmd (((s.fc.doCmd ||| m) ^^^ m) ||| (m &&& levels))

/-- The commanded state of a load switch. -/
def State.lsCmdSet (s : State) (n : Nat) (on : Bool) : State :=
  let v := if on then s.fc.lsCmd ||| 2 ^ n else s.fc.lsCmd &&& (65535 - 2 ^ n)
  (s.setFc { s.fc with lsCmd := v }).when (s.pg 0x0C0 == 1) fun s => s.setBit (Reg.LS_CMD n) 0 on

/-- R497. -/
def execDoSetWrite (seat : Nat) (v : Word) (s : State) : Answer :=
  answer (decide (seat < 64)) (s.doCommand seat (v.fld 15 0) 65535)
def execDoClrWrite (seat : Nat) (v : Word) (s : State) : Answer :=
  answer (decide (seat < 64)) (s.doCommand seat (v.fld 15 0) 0)
def execDoFltClear (seat : Nat) (v : Word) (s : State) : Answer :=
  answer (decide (seat < 64)) (s.fieldQueue Reg.DO_FLT (BitVec.ofNat 32 (s.commandedBits seat 3 16 (v.fld 15 0))))

/-- R487, R498. -/
def execLsCmdWrite (n seat : Nat) (on : Bool) (s : State) : Answer :=
  answer (wfLs n && decide (seat < 64)) (if s.commands seat 2 n then s.lsCmdSet n on else s)
/-- R484. -/
def execLsClr (n seat : Nat) (s : State) : Answer :=
  answer (wfLs n && decide (seat < 64)) (if s.commands seat 2 n then s.fieldQueue (Reg.LS_CTRL n) 1 else s)

/-- R492. -/
def execZtRelease (v : Word) (s : State) : Answer := .next (s.fieldQueue Reg.ZT_RELEASE v)
/-- R499. -/
def execZtTest (v : Word) (s : State) : Answer := .next (s.fieldQueue Reg.ZT_TEST v)

/-- R472: RESUME is sent after at least 16 good downstream frames in a row, else discarded. -/
def execFlResume (s : State) : Answer :=
  .next (if s.bit Reg.BOOT_STAT 2 then s.raise 0x0C0 1
    else if 16 ≤ s.fc.echoRun then s.setFc { s.fc with resume := true } else s.raise 0x0C0 1)
def execFlForce (s : State) : Answer := .next (s.setFc { s.fc with force := true })
/-- R495: domain F, the commanded states with it, is cleared. -/
def execFlFrst (s : State) : Answer := .next (s.setFc { s.fc with frst := true, doCmd := 0, lsCmd := 0 })

/-! ### Downstream (R466) -/

/-- The stage-fault mask. -/
def State.stageFaults (s : State) : Nat :=
  ((List.range 16).filter fun n => (s.link n).ovr.any fun o => (o.cause == 33 || o.cause == 34) && o.holds).foldl
    (fun m n => m + 2 ^ n) 0

/-- A frame leaves for the field die. -/
def State.fieldSend (s : State) (f : DownFrame) : State :=
  (s.setFc { s.fc with seq := f.seq, down := some f, last := some f }).send (.fieldDown f)

/-- A frame whose content is ready. -/
def State.fieldFresh (s : State) : State :=
  let f : DownFrame :=
    { seq := (s.fc.seq + 1) % 256
      pg := if s.pg 0x0C0 = 4 then 1 else s.pg 0x0C0
      doCmd := s.fc.doCmd, lsCmd := s.fc.lsCmd, mask := s.stageFaults
      resume := s.fc.resume, force := s.fc.force, frst := s.fc.frst
      writes := (s.fc.queue.take 2).map fun w => (w.1, w.2.1) }
  let s := s.setFc { s.fc with resume := false, force := false, frst := false, queue := s.fc.queue.drop 2 }
  s.fieldSend f

/-- A frame with the previous commands and `STALE` (R31). -/
def State.fieldStale (s : State) : State :=
  let old := s.fc.last.getD { seq := 0, pg := s.pg 0x0C0, doCmd := 0, lsCmd := 0, mask := 0 }
  s.fieldSend { old with seq := (s.fc.seq + 1) % 256, stale := true, resume := false, force := false, frst := false, writes := [] }

/-- The core launches downstream frames: page 0x0C0 is RUNNING, or ends in STOPPING; domain D is not held cleared. -/
def State.fieldSends (s : State) : Bool :=
  (s.pg 0x0C0 == 3 || s.pg 0x0C0 == 4) && !s.halted && s.fc.loaded

def execFieldDownstreamLaunch (ready : Bool) (slack : Nat) (s : State) : Answer :=
  .next (if !s.fieldSends then s
    else
      let miss := !ready || s.injFires 0x001 0x10 3
      let s := s.injStep 0x001 0x10 3
      if miss then (s.missLaunch 3).fieldStale else (s.launch 3 slack).fieldFresh)

/-- A good downstream frame acts at the field die. -/
def State.fieldTakes (s : State) (f : DownFrame) : State :=
  let s := s.setField
    { s.field with goodRun := s.field.goodRun + 1, pg := f.pg, seq := f.seq, mask := f.mask, test := false }
  let s := if f.frst then s.clearField else s
  let s := if s.field.freset then s
    else
      let s := s.fput Reg.DO_CMD 15 0 f.doCmd
      let s := if s.frunning 0x0C2 then s.setField { s.field with doCmd := f.doCmd } else s
      s.each (List.range 16) fun s n =>
        let s := s.fsetBit (Reg.LS_CMD n) 0 (f.lsCmd.testBit n)
        if s.frunning (lsPage n) then s.lsCommand n (f.lsCmd.testBit n) else s
  let s := if f.resume then s.leaveFailsafe else s
  let s := if f.force then (s.enterFailsafe false).fsetBit Reg.FL_STAT 2 true else s
  let s := s.each f.writes fun s w => s.fieldWrite w.1 w.2
  s.fieldSettle

def execFieldDownstreamRx (good : Bool) (s : State) : Answer :=
  .next (match s.fc.down with
    | none => s
    | some f =>
      let bad := !good || s.injFires 0x0C0 0x10 0
      let s := (s.injStep 0x0C0 0x10 0).setFc { s.fc with down := none }
      if !s.field.alive then s
      else if bad then (s.setField { s.field with goodRun := 0 }).fcount Reg.FL_FERR 15 0
      else s.fieldTakes f)

/-! ### Upstream (R466 to R469) -/

/-- The measurements that a frame reports. -/
def State.fieldMeasured (s : State) (m : FieldMeas) : State :=
  let s := s.fwr Reg.FL_SUPPLY (BitVec.ofNat 32
    (satNat 8 m.fv24 + 2 ^ 8 * satNat 8 m.lsv + 2 ^ 16 * satNat 8 m.dov + 2 ^ 24 * Word.unsigned 8 (satSigned 8 m.temp)))
  s.each (m.ls.filter fun e => e.1 < 16) fun s e =>
    let s := s.fput (Reg.LS_STAT e.1) 31 24 (satNat 8 e.2.1)
    let i := satNat 16 e.2.2
    (s.fput (Reg.LS_I e.1) 15 0 i).fput (Reg.LS_I e.1) 31 16 (max i (s.fget (Reg.LS_I e.1) 31 16))

/-- The field die launches an upstream frame: at most six edges, every occurrence, its registers. -/
def State.fieldReport (s : State) : State :=
  let f := s.field
  let u : UpFrame :=
    { echo := f.seq, regs := f.regs, edges := f.edges.take 6, fired := s.fget Reg.ZT_FIRED 15 0
      events := f.events, lost := f.lost, freset := f.freset, pg := f.pg }
  let s := s.setField { f with edges := f.edges.drop 6, events := [], lost := 0, freset := false }
  s.setFc { s.fc with up := some u }

def execFieldUpstreamLaunch (m : FieldMeas) (s : State) : Answer :=
  .next (s.onField fun s => (s.fieldMeasured m).fieldReport)

/-- A frame that did not arrive leaves its content to the next one (R467). -/
def State.fieldKeep (s : State) : State :=
  match s.fc.up with
  | none => s
  | some u =>
    let f := s.field
    let s := s.setField
      { f with edges := u.edges ++ f.edges, events := u.events ++ f.events, lost := u.lost + f.lost,
               freset := u.freset || f.freset }
    s.setFc { s.fc with up := none }

/-- An upstream frame is missing or bad: field lost after `ULIM` of them. -/
def State.upLost (s : State) (crcBad : Bool) : State :=
  let s := s.fieldKeep
  let s := if crcBad then s.count Reg.FL_ERR 15 0 else s.count Reg.FL_ERR 31 16
  let s := s.setFc { s.fc with missing := s.fc.missing + 1, good := 0, echoRun := 0 }
  if s.get Reg.FL_CFG 23 20 ≤ s.fc.missing && !s.bit Reg.FL_STAT 8 then
    (s.withRoutes fun s => s.setBit Reg.FL_STAT 8 true).raise 0x0C0 8
  else s

def execFieldUpstreamMissing (crcBad : Bool) (s : State) : Answer := .next (s.upLost crcBad)

/-- The register belongs to the copy of the field die: domain F, and the header registers that R494 leaves there; the
event registers only as the copy is loaded (R468, R474). -/
def copied (all : Bool) (a : Nat) : Bool :=
  let p := a / 0x1000
  let o := a % 0x1000
  decide (0x0C0 ≤ p) && decide (p ≤ 0x0C5) &&
    (if o < 0x40 then
      (0x0C1 ≤ p && (o == 0x010 || o == 0x02C || o == 0x030)) || (all && (o == 0x014 || o == 0x018))
    else match regRow a with
      | some r => r.dom == .f
      | none => false)

/-- The copy takes the registers of a frame; writes made while page 0x0C0 was STOPPED and not yet sent stand (R494). -/
def State.copyRegs (s : State) (u : UpFrame) (all : Bool) : State :=
  let lost := s.bit Reg.FL_STAT 8
  let fresh := u.regs.filter fun e => copied all e.1
  let s := { s with regs := fresh.foldl (fun (m : List (Nat × Word)) (e : Nat × Word) => Sparse.insert m e.1 e.2) (s.regs.filter fun e => !copied all e.1) }
  let s := s.setBit Reg.FL_STAT 8 lost
  s.each (s.fc.queue.filter fun w => w.2.2) fun s (w : Nat × (Word × Bool)) =>
    match regRow w.1 with
    | some r => if r.dom == .f then s.wr w.1 (storeFields r (s.rd w.1) w.2.1 true true) else s
    | none => s

/-- The core copies `ACT_SL` and `OTHER` at the RUN of page 0x0C5 (R490). -/
def State.copyRoutes (s : State) : State :=
  s.setFc { s.fc with routes := (List.range 16).map fun r => (r, s.get (Reg.ZT_ACT_SL r) 15 0, s.rd (Reg.ZT_OTHER r)) }

/-- A reported edge (R478): counted, captured, latched by the live steps that started before it, a wake in Feather. -/
def State.edgeRx (s : State) (n : Nat) (rise : Bool) (ns : Nat) : State :=
  let s := (s.count Reg.DI_EDGES 15 0).capture n ns rise
  let s := s.each s.channels fun s k =>
    if (s.prog k).live && (s.prog k).sNs ≤ ns then
      s.modProg k fun p => { p with din := p.din ++ [(n, if rise then 0 else 1)] }
    else s
  let s := s.raise 0x0C1 8
  s.when (s.feather && s.bit (Reg.DI_CFG n) 19) fun s => s.wakeRequest 6

/-- A good upstream frame; in Easy mode page 0x0C0 runs (R570), and a field supply that has left its range shows as SUPPLY_FAULT
(R575). -/
def State.upRx (s : State) (u : UpFrame) : State :=
  let first := !s.fc.loaded
  let ran := s.running 0x0C5
  let echo := match s.fc.last with
    | some f => f.seq == u.echo
    | none => false
  let s := s.setFc
    { s.fc with up := none, missing := 0, good := s.fc.good + 1, loaded := true,
                echoRun := if echo then s.fc.echoRun + 1 else 0 }
  let s := s.copyRegs u (first || u.freset)
  let s := if first then s.setPg 0x0C0 (if s.bit Reg.BOOT_STAT 2 then 3 else u.pg) else s
  let s := if first || u.freset then
      s.setFc
        { s.fc with doCmd := s.get Reg.DO_CMD 15 0
                    lsCmd := ((List.range 16).filter fun n => s.bit (Reg.LS_CMD n) 0).foldl (fun m n => m + 2 ^ n) 0 }
    else s
  let s := s.when u.freset fun s => s.raise 0x0C0 15
  let s := s.when (s.running 0x0C5 && !ran) State.copyRoutes
  let s := s.each u.events fun s e => s.raise e.1 e.2
  let s := s.when (u.events.contains (0x0C0, 12)) fun s => s.raise 0x001 13
  let s := s.count Reg.DI_EDGES 31 16 u.lost
  let s := s.each u.edges fun s e => s.edgeRx e.1 e.2.1 e.2.2
  let back := s.bit Reg.FL_STAT 8 && decide (16 ≤ s.fc.good)
  let rises := (List.range 16).any fun r => u.fired.testBit r && !s.fc.fired.testBit r
  let s := s.withRoutes fun s =>
    (s.setFc { s.fc with fired := u.fired }).when back fun s => s.setBit Reg.FL_STAT 8 false
  let s := s.when rises fun s => (s.capture 36 s.now).wakeSelf
  s.when back fun s => s.raise 0x0C0 9

def execFieldUpstreamRx (s : State) : Answer :=
  .next (match s.fc.up with
    | none => s
    | some u =>
      let bad := s.injFires 0x0C0 0x10 1
      let s := s.injStep 0x0C0 0x10 1
      if bad then s.upLost true else (s.upRx u).regWrFollow)

/-- R495: no good upstream frame for 10 ms. -/
def execBarrierFail (s : State) : Answer :=
  .next (if s.running 0x0C0 then s.pageFault 0x0C0 0x0100 else s)

end Sys2Proof.Machine
end

