-- ==== Sys2Proof/Machine/Timebase.lean ====
section
/-!
DEFINITION. The timebase (08_timebase.md): the counter and its tick, INC, steps, the servo, the reference inputs, and the
catch units.
-/
namespace Sys2Proof.Machine

/-! ### The counter (R277, R278) -/

/-- INC in use, in 2^−32 ns. -/
def State.inc (s : State) : Nat := s.get Reg.TB_INC_HI 7 0 * 2 ^ 32 + (s.rd Reg.TB_INC_LO).toNat

def State.setInc (s : State) (v : Nat) : State := (s.wrN Reg.TB_INC_LO v).wrN Reg.TB_INC_HI (v / 2 ^ 32 % 256)

/-- The counter at `sec` seconds, `ns` nanoseconds and `frac` fraction bits. -/
def State.setCounter (s : State) (sec ns frac : Nat) : State :=
  ((s.wr64 Reg.TB_SEC_LO Reg.TB_SEC_HI sec).wrN Reg.TB_NS ns).wrN Reg.TB_FRAC frac

/-- The backup counter counts 4 ns (R294). -/
def State.bkTick (s : State) : State :=
  let f := s.power.bkFrac + 4 * 32768
  if f < 1000000000 then { s with power := { s.power with bkFrac := f } }
  else
    let s : State := { s with power := { s.power with bkFrac := f - 1000000000 } }
    let sub := s.get Reg.TB_BK_SUB 14 0 + 1
    if sub < 32768 then s.put Reg.TB_BK_SUB 14 0 sub
    else (s.put Reg.TB_BK_SUB 14 0 0).wr64 Reg.TB_BK_SEC_LO Reg.TB_BK_SEC_HI (s.rd64 Reg.TB_BK_SEC_LO Reg.TB_BK_SEC_HI + 1)

/-- One tick of the 250 MHz timing clock (R277); while domain D is held cleared only the backup counter runs. -/
def State.tick (s : State) : State :=
  let s := s.bkTick
  if s.power.held then s
  else
  let v := s.tbNs * 2 ^ 32 + (s.rd Reg.TB_FRAC).toNat + s.inc
  let ns := v / 2 ^ 32
  if 1000000000 ≤ ns then s.setCounter (s.tbSec + 1) (ns - 1000000000) (v % 2 ^ 32)
  else s.setCounter s.tbSec ns (v % 2 ^ 32)

/-- INC lies between 3.996 ns and 4.004 ns. -/
def incOk (v : Nat) : Bool := decide (3996 * 2 ^ 32 ≤ v * 1000) && decide (v * 1000 ≤ 4004 * 2 ^ 32)

/-- `TB.CFG.MODE` (R282). -/
def State.tbMode (s : State) : Nat := s.get Reg.TB_CFG 1 0
def State.tbServes (s : State) : Bool := s.tbMode == 1 || s.tbMode == 2

/-- R277, R282: the staged fraction. -/
def execTbIncLoWrite (v : Word) (s : State) : Answer :=
  .next (if s.tbServes then s.raise 0x050 15 else { s with incStage := v })

/-- R277, R282: the staged fraction and the written integer part are applied together, or rejected together. -/
def execTbIncHiWrite (v : Word) (s : State) : Answer :=
  let inc := v.fld 7 0 * 2 ^ 32 + s.incStage.toNat
  .next (if s.tbServes || !incOk inc then s.raise 0x050 15 else s.setInc inc)

/-- R278. -/
def execTbSecLoRead (s : State) : Answer := .next { s with tbLatch := (s.tbSec, s.tbNs, s.rd Reg.TB_FRAC) }

/-! ### Steps (R280, R281) -/

def State.setStep (s : State) (v : Option (Int × Nat)) : State := { s with stepPend := v }
def State.setServo (s : State) (v : Servo) : State := { s with servo := v }

/-- `TIME_VALID` is set, and `BK_VALID` with it (R284, R294). -/
def State.timeValid (s : State) : State :=
  if s.bit Reg.TB_STAT 8 then s else (s.setBit Reg.TB_STAT 8 true).setBit Reg.TB_BK_SUB 31 true

/-- R280 refuses a step of `d` ns. -/
def State.stepRefused (s : State) (d : Int) : Bool :=
  s.stepPend.isSome ||
    (decide (d < 0) && ((s.channels.any fun k => s.chState k != 0) || decide ((s.now : Int) + d < 0)))

/-- A step of `d` ns is requested. -/
def State.requestStep (s : State) (d : Int) : State :=
  if s.stepRefused d then s.raise 0x050 14
  else (s.setStep (some (d, s.now))).setBit Reg.TB_STAT 10 true

/-- R280: `STEP_NS` in its range and of the sign of `STEP_SEC`. -/
def stepOk (sec ns : Int) : Bool :=
  decide (-999999999 ≤ ns) && decide (ns ≤ 999999999) &&
    !(decide (sec < 0) && decide (0 < ns)) && !(decide (0 < sec) && decide (ns < 0))

/-- R280. -/
def execTbStepGo (v : Word) (s : State) : Answer :=
  let sec := s.rdI Reg.TB_STEP_SEC
  let ns := s.rdI Reg.TB_STEP_NS
  .next (if !v.getLsbD 0 then s
    else if !stepOk sec ns then s.raise 0x050 14
    else s.requestStep (sec * 1000000000 + ns))

/-- A strobe index moved with a step from index `a` to index `b`. -/
def shiftIdx (i a b : Nat) : Nat := i + b - a

/-- An EIS point in progress keeps its frames, and its result is spoiled (R204). -/
def EisWin.stepped (w : EisWin) (a b : Nat) : EisWin :=
  { w with start := shiftIdx w.start a b, tstep := w.tstep || decide (w.start < a) }

/-- What a step from strobe index `a` to `b` does to the measurement of channel `k` (R75, R143, R204, R215). -/
def State.stepChannel (s : State) (k a b : Nat) : State :=
  let s := s.modMeas k fun m =>
    { m with avg := m.avg.step, rsetFrom := shiftIdx m.rsetFrom a b, rsetTo := shiftIdx m.rsetTo a b
             soc := m.soc.map fun c => { c with start := shiftIdx c.start a b } }
  let s := s.modCtl k fun c =>
    { c with armIdx := b, dvAcc := {}, dvLast := none, dtAcc := {}, dtBad := false, v1Acc := {} }
  let s := s.modEis k fun e =>
    { e with win := e.win.stepped a b, endIdx := shiftIdx e.endIdx a b
             prev := e.prev.map fun p => (p.1.stepped a b, shiftIdx p.2 a b)
             marks := e.marks.map fun m => (shiftIdx m.1 a b, shiftIdx m.2.1 a b, m.2.2) }
  let ns := strobeNs a
  s.modTrend k fun t => { t with bad := t.bad || t.inWindow ns || t.inWindow (strobeNs b) }

/-- R281: the step tick. -/
def State.stepAt (s : State) (d : Int) : State :=
  let a := s.strobeIdx
  let t := ((s.now : Int) + d).toNat
  let s := (s.setStep none).setBit Reg.TB_STAT 10 false
  let s := s.setCounter (t / 1000000000) (t % 1000000000) (s.rd Reg.TB_FRAC).toNat
  let b := s.strobeIdx
  let s := s.each s.channels fun s k => s.stepChannel k a b
  let s := (s.raise 0x050 12).capture 35 s.now
  let s := s.setBit Reg.TB_STAT 9 false
  if s.tbMode = 0 then s.timeValid
  else
    -- ACQUIRE after a step; a servo that was LOCKED leaves it (R284)
    let s := s.when (s.get Reg.TB_STAT 2 0 == 2) fun s => s.raise 0x050 9
    let s := s.when (s.get Reg.TB_STAT 2 0 != 0) fun s => s.put Reg.TB_STAT 2 0 1
    s.setServo { s.servo with run := 0, last := none }

/-! ### The servo (R282 to R284) -/

/-- `ADJ_MAX` in the servo's unit, 2^−18 × 10^−9 ppb. -/
def State.adjMax (s : State) : Int := (s.get Reg.TB_LIMITS 11 0 * 1000 * 2 ^ 18 * 1000000000 : Nat)

/-- `STEP_THR` in 0.25 ns. -/
def State.stepThr (s : State) : Nat := s.get Reg.TB_LIMITS 31 16 * 4000

/-- `TRIM` in the servo's unit, 0 outside HYBRID. -/
def State.trim (s : State) : Int := if s.tbMode = 2 then s.rdI Reg.TB_TRIM * 1024 * 1000000000 else 0

/-- The adjustment a, in the servo's unit, takes effect: `TB.ADJ` and INC := 4 ns × (1 − a × 10^−9) (R283). -/
def State.applyAdj (s : State) (a : Int) : State :=
  let inc := (2 ^ 34 : Int) - roundDiv (a * 65536) (10 ^ 18)
  (s.wrI Reg.TB_ADJ (roundDiv a 1024000000000)).setInc inc.toNat

/-- `SERVO` of `TB.STAT`, with LOCKED and UNLOCKED raised as the state enters or leaves LOCKED (R284). -/
def State.servoState (s : State) (st : Nat) : State :=
  let old := s.get Reg.TB_STAT 2 0
  let s := s.put Reg.TB_STAT 2 0 st
  if old = st then s
  else if st = 2 then (s.raise 0x050 8).timeValid
  else if old = 2 then s.raise 0x050 9
  else s

/-- The lock state after an offset of `th` quarters of a nanosecond. -/
def State.servoLock (s : State) (th : Int) : State :=
  let thr := s.get Reg.TB_LOCK 15 0 * 4
  let inside := decide (th.natAbs ≤ thr)
  let run := if inside then s.servo.run + 1 else 0
  let s := s.setServo { s.servo with run := run }
  if s.get Reg.TB_STAT 2 0 = 2 then
    if 4 * thr < th.natAbs then s.servoState 1 else s
  else if inside && decide (s.get Reg.TB_LOCK 23 16 ≤ run) then s.servoState 2
  else s.servoState 1

/-- I after an offset (R283). -/
def State.integral (s : State) (th : Int) (tau : Nat) : Int :=
  clampI (-s.adjMax) s.adjMax (s.servo.acc + (s.rd Reg.TB_KI).toNat * th * tau)

/-- An offset beyond `STEP_THR`: a step in HW, a request in HYBRID, and the slew where no step is made (R283). -/
def State.servoFar (s : State) (th : Int) (tau : Nat) : State :=
  let slew := fun (s : State) => s.applyAdj (if 0 < th then -s.adjMax else s.adjMax)
  if s.tbMode = 1 then
    let d := roundDiv (-th) 4
    let refused := s.stepRefused d
    let s := s.setServo { s.servo with acc := 0 }
    let s := s.requestStep d
    if refused then slew s else s
  else
    let s := s.setServo { s.servo with acc := s.integral th tau }
    slew ((s.setBit Reg.TB_STAT 9 true).raise 0x050 13)

/-- An offset within `STEP_THR`: the PI law (R283). -/
def State.servoNear (s : State) (th : Int) (tau : Nat) : State :=
  let m := s.adjMax
  let acc := s.integral th tau
  let a := clampI (-m) m ((s.rd Reg.TB_KP).toNat * th * 1000000000 + acc + s.trim)
  ((s.setServo { s.servo with acc := acc }).setBit Reg.TB_STAT 9 false).applyAdj a

/-- The servo takes an offset, in 0.25 ns (R283); one that arrives while a step is pending is discarded (R295). -/
def State.servoOffset (s : State) (th : Int) : State :=
  if s.stepPend.isSome then s
  else
    let tau := (s.servo.last.map fun t => s.now - t).getD 0
    let s := s.wrI Reg.TB_OFS_LAST th
    let s := s.setServo { s.servo with last := some s.now }
    let s := s.servoLock th
    if s.stepThr < th.natAbs then s.servoFar th tau else s.servoNear th tau

/-- The servo takes offsets from source `src` (R282). -/
def State.servoTakes (s : State) (src : Nat) : Bool :=
  s.running 0x050 && s.tbServes && s.get Reg.TB_CFG 5 4 == src

/-- R282. -/
def execTbOfsInWrite (v : Word) (s : State) : Answer := .next (if s.servoTakes 1 then s.servoOffset v.toInt else s)

/-- R282: the offset of a `TIO_IN` edge, in 0.25 ns. -/
def State.tioOffset (s : State) : Int :=
  4 * (if s.tbNs < 500000000 then (s.tbNs : Int) else (s.tbNs : Int) - 1000000000)

/-- R284. -/
def execServoHoldoverTimeout (s : State) : Answer :=
  let st := s.get Reg.TB_STAT 2 0
  .next (if s.running 0x050 && s.tbServes && (st == 1 || st == 2) then
    let m := s.adjMax
    ((s.servoState 3).raise 0x050 16).applyAdj (clampI (-m) m (s.servo.acc + s.trim))
  else s)

/-- The servo is FREE: the page stops or faults (R284, R295). -/
def State.servoFree (s : State) : State :=
  let s := s.when (s.get Reg.TB_STAT 2 0 == 2) fun s => s.raise 0x050 9
  (s.put Reg.TB_STAT 2 0 0).setServo {}

/-! ### Reference inputs (R275, R276) -/

def State.refOk (s : State) (r : Nat) : Bool := s.bit Reg.TB_STAT (5 + r)

/-- The PLL changes over to reference `r`. -/
def State.refChange (s : State) (r : Nat) : State :=
  let s := (s.put Reg.TB_STAT 4 4 r).setBit Reg.TB_STAT 7 false
  ((s.count Reg.TB_REFMON 31 16).raise 0x050 10).capture 34 s.now

/-- Reference `r` has failed. -/
def State.refFailed (s : State) (r : Nat) : State :=
  let s := s.setBit Reg.TB_STAT (5 + r) false
  let act := s.get Reg.TB_STAT 4 4
  if act ≠ r then s
  else
    let s := s.raise 0x050 11
    if s.bit Reg.TB_REF 1 && s.refOk (1 - r) then s.refChange (1 - r) else s.setBit Reg.TB_STAT 7 true

/-- R275. -/
def execRefEdgeLoss (r : Nat) (s : State) : Answer :=
  answer (decide (r < 2)) ((s.injStep 0x050 0x10 r).refFailed r)

/-- R275: the 10 ms comparison. -/
def State.refCompare (s : State) (diff : Int) (worse : Nat) : State :=
  let f0 := s.injFires 0x050 0x10 0
  let f1 := s.injFires 0x050 0x10 1
  let s := (s.injStep 0x050 0x10 0).injStep 0x050 0x10 1
  let s := s.put Reg.TB_REFMON 15 0 (Word.unsigned 16 (satSigned 16 diff))
  let s := s.when (decide (10000 < diff.natAbs)) fun s => s.refFailed worse
  (s.when f0 fun s => s.refFailed 0).when f1 fun s => s.refFailed 1

def execRefFreqCheck (diff : Int) (worse : Nat) (s : State) : Answer :=
  answer (decide (worse < 2)) (s.refCompare diff worse)

/-- R276. -/
def execRefReturn (r : Nat) (s : State) : Answer :=
  answer (decide (r < 2))
    (if s.refOk r then s
     else
     let s := s.setBit Reg.TB_STAT (5 + r) true
     if s.bit Reg.TB_STAT 7 then
       (if s.get Reg.TB_STAT 4 4 = r then s.setBit Reg.TB_STAT 7 false else s.refChange r)
     else s)

/-- R296. -/
def execPllUnlock (s : State) : Answer :=
  .next (((s.injStep 0x050 0x11 0).pageFault 0x050 0x0100).servoFree)

/-- R294, R275: a whole second loads the backup count, and a `PREF` that differs takes effect; the boot timer has a second
less left (log 34). -/
def State.secondPassed (s : State) : State :=
  let s := (s.wr64 Reg.TB_BK_SEC_LO Reg.TB_BK_SEC_HI s.tbSec).put Reg.TB_BK_SUB 14 0 0
  let s : State := { s with power := { s.power with bkFrac := 0, opSec := s.power.opSec + 1 } }
  let s := s.put Reg.BOOT_TIMER 4 0 (s.get Reg.BOOT_TIMER 4 0 - 1)
  if s.refOk 0 && s.refOk 1 && s.get Reg.TB_REF 0 0 != s.get Reg.TB_STAT 4 4 then
    s.refChange (s.get Reg.TB_REF 0 0)
  else s

def execWholeSecond (s : State) : Answer := .next (if s.power.held then s else s.secondPassed)

/-! ### Catch units (R292, R293, R299) -/

/-- An op of a catch unit completes. -/
def State.catDone (s : State) (u status : Nat) : State := s.wrN Reg.CAT_STAT (status * 256 + u * 65536)

/-- State of unit `u`, and its owner. -/
def State.catState (s : State) (u : Nat) : Nat := s.get (Reg.CAT_USTAT u) 1 0
def State.catOwner (s : State) (u : Nat) : Nat := s.get (Reg.CAT_CFG u) 21 16

/-- `seat` may act on the unit: the CTRL window may act on any (R293). -/
def State.catMay (s : State) (u seat : Nat) : Bool := seat == 0 || s.catState u == 0 || s.catOwner u == seat

def State.catAlloc (s : State) (seat : Nat) : State :=
  match (List.range 16).find? fun u => s.catState u == 0 with
  | none => s.catDone 0 1
  | some u => ((s.put (Reg.CAT_USTAT u) 1 0 1).put (Reg.CAT_CFG u) 21 16 seat).catDone u 0

def State.catOp (s : State) (op u seat : Nat) : State :=
  let st := s.catState u
  if op = 0 then s.catDone u 0
  else if op = 1 then s.catAlloc seat
  else if !s.catMay u seat then s.catDone u 4
  else
    match op with
    | 2 =>
      if st ≠ 1 && st ≠ 3 then s.catDone u 2
      else if !s.running 0x053 then s.catDone u 5
      else if 39 < s.get (Reg.CAT_CFG u) 5 0 then s.catDone u 3
      else (s.put (Reg.CAT_USTAT u) 1 0 2).catDone u 0
    | 3 => if st ≠ 2 then s.catDone u 2 else (s.put (Reg.CAT_USTAT u) 1 0 1).catDone u 0
    | _ => if st ≠ 1 && st ≠ 3 then s.catDone u 2 else (s.put (Reg.CAT_USTAT u) 1 0 0).catDone u 0

/-- R292, op 0. -/
def execCatNop (u seat : Nat) (s : State) : Answer := answer (wfCat u seat) (s.catOp 0 u seat)
/-- R292, op 1. -/
def execCatAlloc (u seat : Nat) (s : State) : Answer := answer (wfCat u seat) (s.catOp 1 u seat)
/-- R292, op 2. -/
def execCatArm (u seat : Nat) (s : State) : Answer := answer (wfCat u seat) (s.catOp 2 u seat)
/-- R292, op 3. -/
def execCatDisarm (u seat : Nat) (s : State) : Answer := answer (wfCat u seat) (s.catOp 3 u seat)
/-- R292, op 4. -/
def execCatFree (u seat : Nat) (s : State) : Answer := answer (wfCat u seat) (s.catOp 4 u seat)

/-- R299: the oldest entry leaves the FIFO and shows in the unit's registers. -/
def State.catRead (s : State) (u : Nat) : State :=
  match s.catFifoOf u with
  | [] =>
    ((s.wr64 (Reg.CAT_E_SEC_LO u) (Reg.CAT_E_SEC_HI u) 0).wrN (Reg.CAT_E_NS u) 0).wrN (Reg.CAT_E_INFO u) 0
  | (sec, ns, rise) :: rest =>
    let s := s.setCatFifo u rest
    ((s.wr64 (Reg.CAT_E_SEC_LO u) (Reg.CAT_E_SEC_HI u) sec).wrN (Reg.CAT_E_NS u) ns).wrN (Reg.CAT_E_INFO u)
      (2 + rise.toNat)

def execCatFifoRead (u : Nat) (s : State) : Answer := answer (decide (u < 16)) (s.catRead u)

end Sys2Proof.Machine
end

