-- ==== Sys2Proof/Machine/Slots.lean ====
section
/-!
DEFINITION. Schedule slots (R289 to R291, R298) and the edges of `TIO_IN` (R282, R292).
-/
namespace Sys2Proof.Machine

/-! ### Slots -/

def State.schState (s : State) (i : Nat) : Nat := s.get (Reg.SCH_USTAT i) 1 0
def State.schOwner (s : State) (i : Nat) : Nat := s.get (Reg.SCH_CTRL i) 13 8
def State.schCrew (s : State) (i : Nat) : Bool := s.bit (Reg.SCH_CTRL i) 15
def State.schMnbl (s : State) (i : Nat) : Bool := s.bit (Reg.SCH_CTRL i) 4
def State.schAction (s : State) (i : Nat) : Nat := s.get (Reg.SCH_CTRL i) 2 0

/-- T and P of a slot in ns (R291). -/
def State.schT (s : State) (i : Nat) : Nat :=
  s.rd64 (Reg.SCH_T_SEC_LO i) (Reg.SCH_T_SEC_HI i) * 1000000000 + s.get (Reg.SCH_T_NS i) 29 0
def State.schP (s : State) (i : Nat) : Nat := (s.rd (Reg.SCH_PER_LO i)).toNat + 2 ^ 32 * s.get (Reg.SCH_PER_HI i) 15 0

/-- The next instant of an ARMED slot, and whether it fires late whatever the tick. -/
def State.schNext (s : State) (i : Nat) : Nat × Bool := Sparse.get (s.schT i, false) s.slotNext i
def State.setNext (s : State) (i : Nat) (n : Nat × Bool) : State := { s with slotNext := Sparse.insert s.slotNext i n }
def State.clearNext (s : State) (i : Nat) : State := { s with slotNext := Sparse.erase s.slotNext i }

/-- An op completes with a status (R293). -/
def State.schDone (s : State) (i status : Nat) : State := s.wrN Reg.SCH_STAT (status * 256 + i * 65536)

/-- What ARM refuses with BAD_ARG (R290). -/
def State.schBad (s : State) (i : Nat) : Bool :=
  let a := s.schAction i
  5 < a || (a == 1 && s.get (Reg.SCH_ARG i) 23 0 == 0) || (a == 2 && s.schT i % 16000 != 0) ||
    (decide (1 ≤ s.schP i) && decide (s.schP i < 16000))

/-- A slot that cannot fire on time and must not be late ends (R291); a transition of the crew unit is missed. -/
def State.schMissed (s : State) (i : Nat) : State :=
  let crew := s.schCrew i
  let s := (s.setBit (Reg.SCH_USTAT i) 3 true).count Reg.SCH_LATE 31 16
  let s := (s.raise 0x052 8).clearNext i
  if crew then (s.slotState i 0).transMiss i else s.slotState i 3

/-- Instants of a periodic slot up to the present are skipped. -/
def State.schSkip (s : State) (i t : Nat) : State :=
  let p := s.schP i
  let n := (s.now - t) / p + 1
  let s := (s.count (Reg.SCH_SKIP i) 31 0 n).setNext i (t + n * p, false)
  if s.schMnbl i then (s.count Reg.SCH_LATE 31 16 n).raise 0x052 8 else s

/-- ARM (R289 to R291). -/
def State.schArm (s : State) (i : Nat) : State :=
  let t := s.schT i
  let s := ((s.setBit (Reg.SCH_USTAT i) 2 false).setBit (Reg.SCH_USTAT i) 3 false).slotState i 2
  let s := s.setNext i (t, false)
  let s := if s.now ≤ t then s
    else if s.schP i ≠ 0 then s.schSkip i t
    else if s.schMnbl i then s.schMissed i
    else s.setNext i (t, true)
  s.schDone i 0

/-- ALLOC: the lowest FREE slot goes to the issuer. -/
def State.schAlloc (s : State) (seat : Nat) : State :=
  match s.freeSlot with
  | none => s.schDone 0 1
  | some i => (((s.put (Reg.SCH_CTRL i) 13 8 seat).setBit (Reg.SCH_CTRL i) 15 false).slotState i 1).schDone i 0

/-- `SCH.CMD` (R289, R293). -/
def State.schOp (s : State) (op i seat : Nat) : State :=
  let st := s.schState i
  if op = 0 then s.schDone i 0
  else if op = 1 then s.schAlloc seat
  else if 4 < op then s.schDone i 3
  else if (s.schCrew i && st != 0) || (seat != 0 && st != 0 && s.schOwner i != seat) then s.schDone i 4
  else
    match op with
    | 2 =>
      if st ≠ 1 && st ≠ 3 then s.schDone i 2
      else if !s.running 0x052 then s.schDone i 5
      else if s.schBad i then s.schDone i 3
      else s.schArm i
    | 3 => if st ≠ 2 then s.schDone i 2 else ((s.slotState i 1).clearNext i).schDone i 0
    | _ => if st ≠ 1 && st ≠ 3 then s.schDone i 2 else (s.slotState i 0).schDone i 0

/-- R289. -/
def execSchNop (slot seat : Nat) (s : State) : Answer := answer (wfSch slot seat) (s.schOp 0 slot seat)
def execSchAlloc (slot seat : Nat) (s : State) : Answer := answer (wfSch slot seat) (s.schOp 1 slot seat)
def execSchArm (slot seat : Nat) (s : State) : Answer := answer (wfSch slot seat) (s.schOp 2 slot seat)
def execSchDisarm (slot seat : Nat) (s : State) : Answer := answer (wfSch slot seat) (s.schOp 3 slot seat)
def execSchFree (slot seat : Nat) (s : State) : Answer := answer (wfSch slot seat) (s.schOp 4 slot seat)
def execSchReservedOp (slot seat op : Nat) (s : State) : Answer :=
  answer (wfSch slot seat && decide (5 ≤ op) && decide (op < 16)) (s.schOp op slot seat)

/-! ### Firing (R290, R291) -/

/-- The act of a slot. -/
def State.schAct (s : State) (i : Nat) (offs : Int × Int × Int) : State :=
  let w := s.rd (Reg.SCH_ARG i)
  match s.schAction i with
  | 1 => { s with tioOut := s.tioOut ++ [(i, w.getLsbD 24)] }
  | 2 =>
    let f := fun v : Int => Word.unsigned 8 (satSigned 8 v)
    let s := s.wrN Reg.TB_SALIGN (f offs.1 + 2 ^ 8 * f offs.2.1 + 2 ^ 16 * f offs.2.2)
    s.when (offs.1 != 0 || offs.2.1 != 0 || offs.2.2 != 0) fun s => s.raise 0x050 17
  | 3 => s.transFire i
  | 4 => s.doCommand (if s.schCrew i then 0 else s.schOwner i) (w.fld 15 0) (w.fld 31 16)
  | 5 => s.wakeRequest 4
  | _ => s

/-- The slot fires at the present tick. -/
def State.schFire (s : State) (i : Nat) (late : Bool) (slack : Nat) (offs : Int × Int × Int) : State :=
  let crew := s.schCrew i
  let t := (s.schNext i).1
  let s := s.launch 2 slack
  let s := (s.wr64 (Reg.SCH_F_SEC_LO i) (Reg.SCH_F_SEC_HI i) s.tbSec).wrN (Reg.SCH_F_NS i) s.tbNs
  let s := s.count (Reg.SCH_USTAT i) 31 16
  let s := if late then ((s.setBit (Reg.SCH_USTAT i) 2 true).count Reg.SCH_LATE 15 0).raise 0x052 9 else s
  let s := (s.capture 39 s.now).schAct i offs
  if crew then (s.clearNext i).slotState i 0
  else if s.schP i = 0 then (s.clearNext i).slotState i 3
  else s.setNext i (t + s.schP i, false)

/-- The slot is due at this tick (R31, R291). -/
def State.slotFire (s : State) (i : Nat) (ready : Bool) (slack : Nat) (offs : Int × Int × Int) : State :=
  let (t, late) := s.schNext i
  if s.schState i ≠ 2 || !s.running 0x052 || decide (s.now < t) then s
  else
    let passed := decide (t + 4 < s.now)
    let miss := !ready || s.injFires 0x001 0x10 2
    let s := s.injStep 0x001 0x10 2
    if passed && !late && s.schP i ≠ 0 then s.schSkip i t
    else if passed && s.schMnbl i then s.schMissed i
    else if miss then
      let s := s.missLaunch 2
      if s.schMnbl i then (if s.schP i = 0 then s.schMissed i else s.schSkip i t) else s.setNext i (t, true)
    else s.schFire i (late || passed) slack offs

/-- Instants of ARMED slots that have passed without firing, by a step or while the page was stopped (R291, R295). -/
def State.slotsPassed (s : State) : State :=
  s.each ((List.range 32).filter fun i => s.schState i == 2 && decide ((s.schNext i).1 < s.now)) fun s i =>
    let t := (s.schNext i).1
    if s.schP i ≠ 0 then s.schSkip i t
    else if s.schMnbl i then s.schMissed i
    else s.setNext i (t, true)

/-- `NS` has reached or crossed a multiple of `m` since the previous tick (R279). -/
def State.crossed (s : State) (m : Nat) : Bool :=
  decide ((s.tbNs * 2 ^ 32 + (s.rd Reg.TB_FRAC).toNat) % (m * 2 ^ 32) < s.inc)

/-- R280, R281: a pending step takes place at the first frame launch tick 4 µs or more after its request. -/
def execStepTick (s : State) : Answer :=
  .next (match s.stepPend with
    | some (d, t) => if t + 4000 ≤ s.now && s.crossed 8000 then (s.stepAt d).when (s.running 0x052) State.slotsPassed else s
    | none => s)

/-- R291. -/
def execSlotFire (slot : Nat) (ready : Bool) (slack : Nat) (offs : Int × Int × Int) (s : State) : Answer :=
  answer (decide (slot < 32)) (if s.halted then s else s.slotFire slot ready slack offs)

/-- R290: the pulse of a slot ends. -/
def execTioPulseEnd (slot : Nat) (s : State) : Answer :=
  answer (decide (slot < 32)) { s with tioOut := s.tioOut.filter fun e => e.1 != slot }

/-- R282, R292: an edge on `TIO_IN`. -/
def execTioInEdge (rise : Bool) (s : State) : Answer :=
  .next
    (let s := s.capture 32 s.now rise
     if rise && s.servoTakes 3 then s.servoOffset s.tioOffset else s)

end Sys2Proof.Machine
end

