-- ==== Sys2Proof/Machine/Seats.lean ====
section
/-!
DEFINITION. Seats (11_seats_and_host_ports.md): their states, the ports they are bound to, doorbells, MSI-X, seat resets,
and what a seat owns.
-/
namespace Sys2Proof.Machine

def pciePage (p : Nat) : Nat := 0x0F8 + p

/-! ### States (R359, R386 to R388) -/

/-- `PCIE[p].SEATS`: the seats bound to each port. -/
def State.seatsFollow (s : State) : State :=
  s.each (List.range 2) fun s p =>
    let m := ((List.range 64).filter fun i => s.seatState i != 0 && s.seatPort i == p).foldl (fun m i => m + 2 ^ i) 0
    s.wr64 (Reg.PCIE_SEATS_LO p) (Reg.PCIE_SEATS_HI p) m

/-- A seat enters a state; its rings follow (R244). -/
def State.setSeatState (s : State) (i st : Nat) : State :=
  let s := (s.put (Reg.ST_STAT i) 2 0 st).putSeatBit Reg.COX_DET_LO Reg.COX_DET_HI i (st == 2 || st == 4)
  (s.seatsFollow).ringsFollow i

/-- `FROZEN` and the share (R359, R379). -/
def State.setShare (s : State) (i share : Nat) : State :=
  (s.put (Reg.ST_STAT i) 15 8 share).setBit (Reg.ST_STAT i) 3 (share == 0)

/-- Channels whose grant the seat holds; seat 0 holds none (R359). -/
def State.granted (s : State) (i : Nat) : List Nat := if i = 0 then [] else s.channels.filter fun k => s.chOwner k == i

/-- `ST[s].GRANTS`. -/
def State.grantsFollow (s : State) (i : Nat) : State :=
  let g := s.granted i
  s.wrN (Reg.ST_GRANTS i) (g.length + 65536 * (g.filter fun k => (s.ctl k).orphan).length)

/-- `ST[s].QSET`. -/
def State.qsetFollow (s : State) (i : Nat) : State :=
  let t := s.seat i
  let bits := fun (l : List Nat) => l.foldl (fun m q => m + 2 ^ q) 0
  s.wrN (Reg.ST_QSET i)
    (bits ((t.sqs.filter fun e => e.2.depth != 0).map fun e => e.1) + 256 * bits (t.cqs.map fun e => e.1) +
      65536 * t.eq.isSome.toNat + 2 ^ 20 * bits (s.ringsUp i))

/-- The owner-lost policy of each channel grant is due at the next service (R147). -/
def State.ownerLost (s : State) (i : Nat) : State := s.each (s.granted i) fun s k => s.modCtl k fun c => { c with ownerLost := true }

/-- The seat is LOST (R360). -/
def State.seatLose (s : State) (i : Nat) : State := ((s.setSeatState i 4).ownerLost i).raise 0x080 12

/-- The bound port of an ACTIVE seat went down. -/
def State.seatDetach (s : State) (i : Nat) : State :=
  let s := (s.holdXfers i).modSeat i fun t => { t with detFrom := s.now }
  (s.setSeatState i 2).raise 0x080 11

/-! ### Ports (R358, R388) -/

/-- The port is down: its seats are DETACHED. -/
def State.portFall (s : State) (p : Nat) : State :=
  if !s.portUp p then s
  else
    let s := ((s.setBit (Reg.PCIE_LSTAT p) 0 false).count (Reg.PCIE_DOWNS p) 15 0).raise (pciePage p) 8
    let s := s.raise 0x080 13
    s.each ((List.range 64).filter fun i => s.seatState i == 1 && s.seatPort i == p) fun s i => s.seatDetach i

/-- R358. -/
def execPortDown (p : Nat) (d3 : Bool) (s : State) : Answer :=
  answer (decide (p < 2)) ((s.portFall p).when d3 fun s => s.setBit (Reg.PCIE_LSTAT p) 8 true)

/-- The MSI-X table of a port as a Function Level Reset leaves it (R358). -/
def State.msixReset (s : State) (p : Nat) : State := { s with msix := s.msix.filter fun e => e.1 / 512 != p }

/-- R358. -/
def execPcieFlr (p : Nat) (s : State) : Answer :=
  answer (decide (p < 2))
    (let s := ((s.portFall p).msixReset p).setBit (Reg.PCIE_LSTAT p) 9 true
     (s.count (Reg.PCIE_DOWNS p) 31 16).raise (pciePage p) 11)

/-- Easy mode (R566). -/
def State.easy (s : State) : Bool := s.bit Reg.BOOT_STAT 2

/-- The port is up. Seat 0 is ACTIVE again with it (R360); a tenant stays DETACHED until it is bound (R359). -/
def State.portRise (s : State) (p rate width : Nat) : State :=
  if !s.running (pciePage p) || (s.easy && p == 1) then s
  else
    let s := s.wrN (Reg.PCIE_LSTAT p) (1 + 2 * rate + 16 * width)
    let s := s.raise (pciePage p) 9
    if s.seatPort 0 = p && s.seatState 0 ≠ 3 then (s.freeHeld 0).setSeatState 0 1 else s.seatsFollow

/-- R388. -/
def execPcieLinkUp (p rate width : Nat) (s : State) : Answer :=
  answer (decide (p < 2) && decide (1 ≤ rate) && decide (rate ≤ 4) && decide (1 ≤ width) && decide (width < 16))
    (s.portRise p rate width)

/-- R360. -/
def execSeatLostTimeout (i : Nat) (s : State) : Answer :=
  answer (decide (i < 64))
    (if i ≠ 0 && s.seatState i = 2 && (s.rd (Reg.ST_LOSTTO i)).toNat ≠ 0 then s.seatLose i else s)

/-- R385. -/
def execMsixUnmask (p v : Nat) (s : State) : Answer :=
  answer (decide (p < 2) && decide (v < 512))
    (let m := s.msixEntry p v
     (s.setMsix p v { masked := false, pending := false }).when m.pending fun s => s.send (.msix p v))

/-! ### Doorbells (R361 to R363) -/

/-- The state accepts doorbells (R359). -/
def State.doorbells (s : State) (i : Nat) : Bool := s.seatState i == 1 || s.seatState i == 2

/-- An invalid doorbell: 0 SQ, 1 CQ, 2 EQ, 3 ring. -/
def State.dbInvalid (s : State) (i kind idx v : Nat) : State :=
  (s.count (Reg.SA_ERR i) 15 0).seatEvent i 6 ([BitVec.ofNat 8 kind, BitVec.ofNat 8 idx] ++ leBytes 4 v)

/-- A submission queue that is set up: one that QUEUE_DEL took away stands at depth 0 while entries of it are started. -/
def State.sqUp (s : State) (i q : Nat) : Option SubQ := (s.subq i q).filter fun d => d.depth != 0

def State.sqTail (s : State) (i q : Nat) : Nat := (s.rd (Reg.SA_SQ_TAIL i q)).toNat
def State.sqHead (s : State) (i q : Nat) : Nat := (s.rd (Reg.SA_SQ_HEAD i q)).toNat

/-- Steps from one index to another around a queue. -/
def around (depth a b : Nat) : Nat := (b + depth - a) % depth

/-- R362: a tail that would pass the head is refused. -/
def State.sqDoorbell (s : State) (i q v : Nat) : State :=
  if !s.doorbells i then s
  else
    match s.sqUp i q with
    | none => s.dbInvalid i 0 q v
    | some d =>
      let t := v % 65536
      if d.depth ≤ t then s.dbInvalid i 0 q v
      else if around d.depth (s.sqTail i q) (s.sqHead i q + d.depth - 1) < around d.depth (s.sqTail i q) t then
        s.dbInvalid i 0 q v
      else s.wrN (Reg.SA_SQ_TAIL i q) t

/-- The queue with its head moved: the entries that it covers are consumed. -/
def OutQ.consume (o : OutQ) (h : Nat) : OutQ := { o with head := h, live := o.live.drop (around o.depth o.head h) }

/-- R362, R369. -/
def State.cqDoorbell (s : State) (i q v : Nat) : State :=
  if !s.doorbells i then s
  else
    match s.cqOf i q with
    | none => s.dbInvalid i 1 q v
    | some o =>
      let h := v % 65536
      if o.depth ≤ h then s.dbInvalid i 1 q v
      else
        let s := s.modSeat i fun t => { t with cqs := Sparse.insert t.cqs q (o.consume h) }
        (s.wrN (Reg.SA_CQ_HEAD i q) h).cqDrain i q (s.seat i).heldC.length

/-- R362, R372. -/
def State.eqDoorbell (s : State) (i v : Nat) : State :=
  if !s.doorbells i then s
  else
    match (s.seat i).eq with
    | none => s.dbInvalid i 2 0 v
    | some o =>
      let h := v % 65536
      if o.depth ≤ h then s.dbInvalid i 2 0 v
      else
        let s := s.modSeat i fun t => { t with eq := some (o.consume h) }
        (s.wrN (Reg.SA_EQ_HEAD i) h).eqOverflow i

/-- R363. -/
def State.ringConsumed (s : State) (i r v : Nat) : State :=
  if !s.doorbells i then s
  else
    let ahead := (v + 2 ^ 32 - (s.ring i r).prod) % 2 ^ 32
    if 0 < ahead && ahead < 2 ^ 31 then s.dbInvalid i 3 r v
    else (s.modRing i r fun q => { q with cons := v % 2 ^ 32 }).wrN (Reg.SA_RING_CONS i r) v

def execSqDoorbell (i q v : Nat) (s : State) : Answer := answer (wfDb i q v) (s.sqDoorbell i q v)
def execCqDoorbell (i q v : Nat) (s : State) : Answer := answer (wfDb i q v) (s.cqDoorbell i q v)
def execEqDoorbell (i v : Nat) (s : State) : Answer := answer (wfDb i 0 v) (s.eqDoorbell i v)
/-- R363. -/
def execRingConsumerWrite (i r v : Nat) (s : State) : Answer :=
  answer (decide (i < 64) && decide (r < 4) && decide (v < 2 ^ 32)) (s.ringConsumed i r v)

/-! ### What a seat owns (R375, R380, R381) -/

/-- Owners of kinds 2 to 7 that `seat` holds, changed by `f`. -/
def State.ownersMap (s : State) (i : Nat) (f : Nat × Bool → Nat × Bool) : State :=
  { s with owners := (s.owners.map fun e => if e.2.1 == i then (e.1, f e.2) else e).filter fun e => e.2 != (0, false) }

/-- Every grant of the seat is orphaned (R380). -/
def State.orphanGrants (s : State) (i : Nat) : State :=
  if i = 0 then s
  else
    let s := s.each (s.granted i) fun s k => s.modCtl k fun c => { c with orphan := true }
    (s.ownersMap i fun e => (e.1, true)).grantsFollow i

/-- `PG_OWNER` of a channel page: the seat that holds all sixteen grants (R153). -/
def State.chPageOwner (s : State) (g : Nat) : State :=
  let o := s.chOwner (16 * g)
  s.put (Reg.PG_OWNER (0x020 + g)) 5 0 (if (List.range 16).all fun j => s.chOwner (16 * g + j) == o then o else 0)

/-- Every channel page follows its grants. -/
def State.chPagesFollow (s : State) : State :=
  s.each ((List.range 16).filter fun g => s.has (0x020 + g)) fun s g => s.chPageOwner g

/-- The channel has no owner any more, its state unchanged (R374 REVOKE). -/
def State.chRevoke (s : State) (k : Nat) : State :=
  (s.put (Reg.CH_CFG k) 29 24 0).modCtl k fun c => { c with orphan := false }

/-- The pages whose `PG_OWNER` a grant of the seat has set. -/
def State.ownedPages (s : State) (i : Nat) : List Nat :=
  (s.owners.filter fun e => e.2.1 == i && (e.1 / 256 == 6 || e.1 / 256 == 5)).map fun e =>
    if e.1 / 256 = 6 then e.1 % 256 else cvuPage (e.1 % 256)

/-- Every grant of the seat is revoked (R374 SEAT_CLOSE). -/
def State.revokeAll (s : State) (i : Nat) : State :=
  let s := s.each (s.granted i) fun s k => s.chRevoke k
  let s := s.each (s.ownedPages i) fun s p => s.put (Reg.PG_OWNER p) 5 0 0
  (((s.ownersMap i fun _ => (0, false)).chPagesFollow).grantsFollow i).modSeat i fun t => { t with evLost := 0 }

/-- Schedule slots and catch units of the seat are disarmed and freed (R381). -/
def State.freeUnits (s : State) (i : Nat) : State :=
  let sch := s.rd Reg.SCH_STAT
  let cat := s.rd Reg.CAT_STAT
  let s := s.each ((List.range 32).filter fun n => s.schState n != 0 && !s.schCrew n && s.schOwner n == i) fun s n =>
    (s.schOp 3 n 0).schOp 4 n 0
  let s := s.each ((List.range 16).filter fun u => s.catState u != 0 && s.catOwner u == i) fun s u =>
    (s.catOp 3 u 0).catOp 4 u 0
  (s.wr Reg.SCH_STAT sch).wr Reg.CAT_STAT cat

/-! ### Seat resets (R380) -/

/-- The instant t of a reset. -/
def State.resetStart (s : State) (i : Nat) (closing : Bool) : State :=
  let s := s.modSeat i fun t =>
    { t with started := [], waits := [], heldC := [], qout := [], credit := 0, binding := none
             closing := closing }
  let s := s.setDma { s.dma with fetchSusp := s.dma.fetchSusp.filter fun k => k / 8 != i }
  let s := (s.setBit (Reg.ST_STAT i) 16 false).setSeatState i 3
  let s := ((s.dropXfers i).ownerLost i).orphanGrants i
  -- R346
  s.unlockWins ((List.range 64).filter fun w => (s.win w).owner == i && (s.win w).cfg.getLsbD 0)

/-- Every field of domain S of the seat is cleared (R361, R387, R427). -/
def State.clearSeat (s : State) (i : Nat) : State :=
  let mine := fun (a : Nat) => a / 0x10000 == 0x10 + i && domOf a == some .s
  let s := { s with regs := s.regs.filter fun e => !mine e.1 }
  let s := s.each [Reg.ST_QSET i, Reg.ST_CNT i, Reg.ST_CHUNKS i, Reg.ST_EVLOST i, Reg.SNIC_TXR i, Reg.SNIC_TXR i + 4,
    Reg.SNIC_RXR i, Reg.SNIC_RXR i + 4, Reg.SNIC_RCFG i, Reg.SNIC_CNT i] fun s a => s.wr a 0
  let t := s.seat i
  let n : Snic := Sparse.get {} s.sw.snics i
  let s := { s with sw := { s.sw with snics := Sparse.insert s.sw.snics i { mac := n.mac } } }
  let s := { s with staging := s.staging.map fun (x : Staged) => if x.seat = i then { x with written := false } else x }
  { s with seats := Sparse.insert s.seats i { shareNext := t.shareNext, oweReset := !t.closing, detFrom := t.detFrom } }

/-- The mailbox command that waited for an event has its result. -/
def State.mbxResult (s : State) (ops : List Nat) (i : Nat) (st : Nat) (rsp : List Word) : State :=
  match s.mbx with
  | some m => if ops.contains m.op && m.seat == i && m.result.isNone then { s with mbx := some { m with result := some (st, rsp) } } else s
  | none => s

/-- The reset ends: `RST_DONE`, and the seat is ACTIVE with its port, share and `LOSTTO`, or FREE after SEAT_CLOSE. -/
def State.resetEnd (s : State) (i : Nat) : State :=
  let closing := (s.seat i).closing
  let s := s.each (s.enginesOf i) fun s e => s.abandon e.1 .ready
  let s := (s.clearSeat i).dropXfers i
  let s := (s.tlbDrop i).suspFollow i
  let s := (s.setBit (Reg.ST_STAT i) 16 true).putSeatBit Reg.COX_RSTDONE_LO Reg.COX_RSTDONE_HI i true
  let s := s.raise 0x080 10
  let s := if closing then ((s.revokeAll i).freeUnits i).setSeatState i 0
    else if s.portUp (s.seatPort i) then s.setSeatState i 1
    else (s.modSeat i fun t => { t with detFrom := s.now }).setSeatState i 2
  s.mbxResult [2, 3] i 0 []

/-- R380. -/
def execSeatResetDone (i : Nat) (s : State) : Answer :=
  answer (decide (i < 64)) (if s.seatState i = 3 then s.resetEnd i else s)

/-- R405: 2 µs after the reset started, a chunk whose source data has not all arrived is abandoned. -/
def execSeatResetChunkDeadline (i : Nat) (s : State) : Answer :=
  answer (decide (i < 64))
    (if s.seatState i = 3 then
      ((s.each ((s.enginesOf i).filter fun e => e.2.data.isNone) fun s e => s.abandon e.1 .ready).dropXfers i)
    else s)

/-! ### Rebinding (R383) -/

/-- Completion and event entries that no head covers are written again with identical content. -/
def State.rewriteLive (s : State) (i : Nat) : State :=
  let t := s.seat i
  let s := s.each t.cqs fun s (e : Nat × OutQ) => s.each e.2.live fun s (x : Nat × List Byte) =>
    s.queueWrite i { kind := 1, idx := e.1, addr := e.2.base + 16 * x.1, data := x.2 }
  match t.eq with
  | none => s
  | some o => s.each o.live fun s (x : Nat × List Byte) =>
    s.queueWrite i { kind := 2, addr := o.base + 32 * x.1, data := x.2 }

/-- Vectors of the queues whose entries the seat has not acknowledged. -/
def Seat.openVectors (t : Seat) : List Nat :=
  (((t.cqs.map fun e => e.2) ++ t.eq.toList).filter fun o => !o.live.isEmpty).map fun o => o.vec

/-- The seat goes on on its new port. -/
def State.bindEnd (s : State) (i p : Nat) : State :=
  let vecs := (s.seat i).openVectors.eraseDups
  let s := (s.modSeat i fun t => { t with binding := none }).put (Reg.ST_STAT i) 4 4 p
  let s := (s.freeHeld i).setSeatState i (if s.portUp p then 1 else 2)
  let s := s.rewriteLive i
  let s := s.seatEvent i 2 [BitVec.ofNat 8 p]
  (s.each vecs fun s v => s.msixSend i v).mbxResult [5] i 0 []

/-- R383: the chunks of the seat on the old port have finished. -/
def execSeatBindDone (i : Nat) (s : State) : Answer :=
  answer (decide (i < 64))
    (match (s.seat i).binding with
      | some p => if (s.enginesOf i).isEmpty then s.bindEnd i p else s
      | none => s)

end Sys2Proof.Machine
end

