-- ==== Sys2Proof/Machine/Mailbox.lean ====
section
/-!
DEFINITION. The coxswain mailbox (R373 to R377): its commands, the operands of which stand in `COX.ARG`.
-/
namespace Sys2Proof.Machine

/-! ### Running a command (R373, R376, R377) -/

def State.arg (s : State) (w : Nat) : Word := s.rd (Reg.COX_ARG w)

/-- The seat acted on. -/
def State.argSeat (s : State) : Nat := (s.arg 0).fld 15 8

/-- A status and response words at once. -/
abbrev MbxResult := Option (Nat × List Word)

/-- What a command does: the state after its effect, and its result, none while it waits for an event. -/
abbrev MbxBody := State → Nat → State × MbxResult

/-- A command refused with a status. -/
def refuse (s : State) (status : Nat) : State × MbxResult := (s, some (status, []))

/-- A command done. -/
def accept (s : State) (rsp : List Word := []) : State × MbxResult := (s, some (0, rsp))

/-- `COX.GO` for an op: discarded while BUSY; in Easy mode only the ops of R377 are offered; reserved bits of word 0
are refused. -/
def State.mbxRun (s : State) (op : Nat) (easyOk : Bool) (body : MbxBody) : State :=
  if s.bit Reg.COX_STAT 0 then s.raise 0x080 9
  else
    let s := s.setBit Reg.COX_STAT 0 true
    let seat := s.argSeat
    let r := if s.easy && !easyOk then refuse s 9
      else if (s.arg 0).fld 31 16 ≠ 0 then refuse s 2
      else body s seat
    { r.1 with mbx := some { op := op, seat := seat, result := r.2 } }

/-- A response word of a completed command; the manual gives most commands none, and the words then hold free values
(log 12). -/
def State.rspWrite (s : State) (rsp : List Word) (w : Nat) : State :=
  match rsp[w]? with
  | some v => s.wr (Reg.COX_RSP w) v
  | none => let s := s.useFree; s.wr (Reg.COX_RSP w) s.freeWord

/-- The command completes. -/
def State.mbxDone (s : State) : State :=
  match s.mbx with
  | none => s
  | some m =>
    match m.result with
    | none => s
    | some (st, rsp) =>
      let s := { s with mbx := none, mbxLog := ((List.range 16).map s.arg, st, s.now) :: s.mbxLog.take 15 }
      let seq := s.get Reg.COX_STAT 31 16
      let s := s.each (List.range 4) fun s w => s.rspWrite rsp w
      (s.wrN Reg.COX_STAT (256 * st + 65536 * ((seq + 1) % 65536))).raise 0x080 8

/-- R373. -/
def execMbxCommandDone (s : State) : Answer := .next s.mbxDone

/-! ### Seats (R374) -/

/-- Seat states that accept an op: the status of a refusal, 0 where it is accepted. -/
def State.liveSeat (s : State) (i : Nat) : Nat :=
  if 64 ≤ i then 2 else if s.seatState i = 1 || s.seatState i = 2 then 0 else 3

/-- SEAT_BIND and GRANT to a RESETTING seat complete BUSY (R376). -/
def State.busySeat (s : State) (i : Nat) : Nat := if s.seatState i = 3 then 5 else s.liveSeat i

def execMbxNop (s : State) : Answer := .next (s.mbxRun 0 true fun s _ => accept s)

/-- Ops that R374 does not list complete BAD_OP. -/
def execMbxBadOp (s : State) : Answer := .next (s.mbxRun ((s.arg 0).fld 7 0) false fun s _ => refuse s 1)

/-- The lowest FREE tenant seat. -/
def State.freeSeat (s : State) : Option Nat := (List.range 63).find? (fun i => s.seatState (i + 1) == 0) |>.map (· + 1)

/-- The seat opens on a port. -/
def State.openSeat (s : State) (i port share lost : Nat) : State :=
  let s := ((s.put (Reg.ST_STAT i) 4 4 port).setShare i share).wrN (Reg.ST_LOSTTO i) lost
  (s.modSeat i fun _ => {}).setSeatState i 1

def seatOpenBody : MbxBody := fun s seat =>
  let w := s.arg 1
  let port := w.fld 0 0
  if w.fld 7 1 ≠ 0 || w.fld 31 16 ≠ 0 || (64 ≤ seat && seat ≠ 255) then refuse s 2
  else
    let pick := if seat = 255 then s.freeSeat else some seat
    match pick with
    | none => refuse s 4
    | some i =>
      if s.seatState i ≠ 0 then refuse s 3
      else if !s.portUp port then refuse s 11
      else accept (s.openSeat i port (w.fld 15 8) (s.arg 2).toNat) [BitVec.ofNat 32 i]

def execSeatOpen (s : State) : Answer := .next (s.mbxRun 1 false seatOpenBody)

def seatCloseBody : MbxBody := fun s i =>
  if 64 ≤ i then refuse s 2
  else if i = 0 || s.seatState i = 0 then refuse s 3
  else (s.resetStart i true, none)

def execSeatClose (s : State) : Answer := .next (s.mbxRun 2 false seatCloseBody)

def seatResetBody : MbxBody := fun s i =>
  if 64 ≤ i then refuse s 2
  else if s.seatState i = 0 || s.seatState i = 3 then refuse s 3
  else (s.resetStart i false, none)

/-- R380. -/
def execSeatReset (s : State) : Answer := .next (s.mbxRun 3 false seatResetBody)

def seatShareBody : MbxBody := fun s i =>
  let w := s.arg 1
  if 64 ≤ i || w.fld 31 8 ≠ 0 || (i = 0 && w.fld 7 0 = 0) then refuse s 2
  else if s.seatState i = 0 then refuse s 3
  else accept (s.modSeat i fun t => { t with shareNext := some (w.fld 7 0) })

/-- R379. -/
def execSeatShare (s : State) : Answer := .next (s.mbxRun 4 false seatShareBody)

def seatBindBody : MbxBody := fun s i =>
  let w := s.arg 1
  if w.fld 31 1 ≠ 0 then refuse s 2
  else if s.busySeat i ≠ 0 then refuse s (s.busySeat i)
  else if !s.portUp (w.fld 0 0) then refuse s 11
  else (s.modSeat i fun t => { t with binding := some (w.fld 0 0) }, none)

/-- R383. -/
def execSeatBind (s : State) : Answer := .next (s.mbxRun 5 false seatBindBody)

def seatLostBody : MbxBody := fun s i =>
  if 64 ≤ i then refuse s 2
  else if i = 0 || (s.seatState i ≠ 1 && s.seatState i ≠ 2) then refuse s 3
  else accept (s.seatLose i)

def execSeatLost (s : State) : Answer := .next (s.mbxRun 6 false seatLostBody)

def seatInfoBody : MbxBody := fun s i =>
  if 64 ≤ i then refuse s 2
  else
    accept s [s.rd (Reg.ST_STAT i), s.rd (Reg.ST_QSET i), BitVec.ofNat 32 ((s.rd (Reg.ST_GRANTS i)).fld 8 0), s.rd (Reg.ST_LOSTTO i)]

def execSeatInfo (s : State) : Answer := .next (s.mbxRun 16 true seatInfoBody)

/-! ### Queues and rings (R374) -/

/-- A depth of R374. -/
def goodDepth (n : Nat) : Bool := (List.range 16).any fun i => n == 2 ^ (i + 1)

/-- The seat address in two words. -/
def State.argAddr (s : State) (w : Nat) : Nat := (s.arg w).toNat + 2 ^ 32 * (s.arg (w + 1)).toNat

/-- Reserved bits of word 1 of a queue command, or its kind 3. -/
def badQueueWord (w : Word) : Bool := w.fld 1 0 == 3 || w.fld 3 2 != 0 || w.fld 31 7 != 0

/-- The queue that the command names is set up. -/
def State.queueUp (s : State) (i kind q : Nat) : Bool :=
  match kind with
  | 0 => (s.sqUp i q).isSome
  | 1 => (s.cqOf i q).isSome
  | _ => (s.seat i).eq.isSome

/-- RESET_DONE is the first entry of the event queue after a reset (R380). -/
def State.payReset (s : State) (i : Nat) : State :=
  if (s.seat i).oweReset then (s.modSeat i fun t => { t with oweReset := false }).seatEvent i 3 [] else s

/-- A queue is set up with indices 0. -/
def State.setQueue (s : State) (i kind q depth base link : Nat) : State :=
  let s := match kind with
    | 0 =>
      let s := s.modSeat i fun t => { t with sqs := Sparse.insert t.sqs q { depth := depth, base := base, cq := link } }
      (s.wrN (Reg.SA_SQ_TAIL i q) 0).wrN (Reg.SA_SQ_HEAD i q) 0
    | 1 =>
      let s := s.modSeat i fun t => { t with cqs := Sparse.insert t.cqs q { depth := depth, base := base, vec := link } }
      s.wrN (Reg.SA_CQ_HEAD i q) 0
    | _ =>
      let s := s.modSeat i fun t => { t with eq := some { depth := depth, base := base, vec := link } }
      (s.wrN (Reg.SA_EQ_HEAD i) 0).payReset i
  s.qsetFollow i

def queueSetBody : MbxBody := fun s i =>
  let w := s.arg 1
  let q := w.fld 6 4
  let kind := w.fld 1 0
  let depth := (s.arg 2).toNat
  let base := s.argAddr 3
  let link := (s.arg 5).fld 2 0
  if s.liveSeat i ≠ 0 then refuse s (s.liveSeat i)
  else if badQueueWord w || base % 4096 ≠ 0 || (s.arg 5).fld 31 3 ≠ 0 then refuse s 2
  else if !goodDepth depth then refuse s 8
  else if s.queueUp i kind q then refuse s 5
  else if kind = 0 && (s.cqOf i link).isNone then refuse s 2
  else accept (s.setQueue i kind q depth base link)

def execQueueSet (s : State) : Answer := .next (s.mbxRun 8 false queueSetBody)

/-- A submission queue is deleted: its suspended transfers end as by ABORT (log 13), its other started entries still
complete, its unfetched entries are discarded. -/
def State.sqDelete (s : State) (i q : Nat) : State × Nat :=
  match s.sqUp i q with
  | none => (s, 0)
  | some d =>
    let n := around d.depth (s.sqHead i q) (s.sqTail i q)
    let mine := s.xfersOf i fun t => t.st == .suspended && (match t.kind with
      | .desc q' _ => q' == q
      | .record _ => false)
    let s := s.each mine fun s x => s.abortXfer x
    let rest := (s.seat i).started.any fun e => e.q == q
    let s := s.modSeat i fun t =>
      { t with sqs := if rest then Sparse.insert t.sqs q { d with depth := 0 } else Sparse.erase t.sqs q }
    let s := s.setDma { s.dma with fetchSusp := s.dma.fetchSusp.filter fun k => k != 8 * i + q }
    ((s.suspFollow i).qsetFollow i, n)

def queueDelBody : MbxBody := fun s i =>
  let w := s.arg 1
  let q := w.fld 6 4
  if s.liveSeat i ≠ 0 then refuse s (s.liveSeat i)
  else if badQueueWord w || !s.queueUp i (w.fld 1 0) q then refuse s 2
  else
    match w.fld 1 0 with
    | 0 =>
      let r := s.sqDelete i q
      accept r.1 [BitVec.ofNat 32 r.2]
    | 1 =>
      if (s.seat i).sqs.any fun e =>
          e.2.cq == q && (e.2.depth != 0 || (s.seat i).started.any fun x => x.q == e.1) then refuse s 5
      else
        accept ((s.modSeat i fun t =>
          { t with cqs := Sparse.erase t.cqs q, heldC := t.heldC.filter fun h => h.1 != q
                   qout := t.qout.filter fun w => !(w.kind == 1 && w.idx == q) }).suspFollow i |>.qsetFollow i)
    | _ => accept (((s.modSeat i fun t => { t with eq := none, qout := t.qout.filter fun w => w.kind != 2 }).suspFollow i).qsetFollow i)

def execQueueDel (s : State) : Answer := .next (s.mbxRun 9 false queueDelBody)

/-- State that a ring takes when it is set up (R244). -/
def State.ringState (s : State) (i : Nat) : Nat :=
  if s.seatState i = 2 then 2 else if s.seatShare i = 0 then 3 else 1

def ringSetBody : MbxBody := fun s i =>
  let w := s.arg 1
  let r := w.fld 1 0
  let depth := (s.arg 2).toNat
  if s.liveSeat i ≠ 0 then refuse s (s.liveSeat i)
  else if w.fld 3 2 ≠ 0 || w.fld 31 5 ≠ 0 then refuse s 2
  else if !goodDepth depth then refuse s 8
  else
    let s := s.modRing i r fun _ =>
      { policy := w.fld 4 4, depth := depth, base := s.argAddr 3, prodAddr := s.argAddr 5 }
    let s := (s.dropXfer (ringXfer i r)).suspFollow i
    accept (((s.wrN (Reg.SA_RING_CONS i r) 0).setRing i r (s.ringState i)).qsetFollow i)

/-- R374, R245. -/
def execRingSet (s : State) : Answer := .next (s.mbxRun 10 false ringSetBody)

def ringDelBody : MbxBody := fun s i =>
  let w := s.arg 1
  let r := w.fld 1 0
  if s.liveSeat i ≠ 0 then refuse s (s.liveSeat i)
  else if w.fld 31 2 ≠ 0 then refuse s 2
  else
    let s := s.setRing i r 0
    let s := s.each ((s.enginesOf i).filter fun e => e.2.x == ringXfer i r) fun s e => s.abandon e.1 .ready
    let s := { s with staging := s.staging.map fun (x : Staged) => if x.seat = i && x.ring = r then { x with written := false } else x }
    accept (((s.dropXfer (ringXfer i r)).suspFollow i).qsetFollow i)

def execRingDel (s : State) : Answer := .next (s.mbxRun 11 false ringDelBody)

/-! ### Grants (R375) -/

/-- What a GRANT or REVOKE names: its kind, and its resources by index. -/
structure Named where
  kind : Nat
  idxs : List Nat
  deriving DecidableEq, Repr

/-- Pages that kind 6 refuses. -/
def noOwnerPage (p : Nat) : Bool :=
  p ≤ 0x006 || (0x020 ≤ p && p ≤ 0x02F) || (0x080 ≤ p && p ≤ 0x084) || (0x0D0 ≤ p && p ≤ 0x0D2)

def bitsBelow (n m : Nat) : List Nat := (List.range n).filter fun i => m.testBit i

/-- The resources of the words W1 to W3; none: BAD_ARG. The group bit of a MAC, bit 0 of its first byte, is W2 [24]. -/
def State.named (s : State) (i : Nat) : Option Named :=
  let w2 := s.arg 2
  let w3 := s.arg 3
  if (s.arg 1).fld 31 4 ≠ 0 then none
  else
    match (s.arg 1).fld 3 0 with
    | 1 =>
      if w2.fld 31 16 ≠ 0 || w2.fld 15 8 < w2.fld 7 0 || w3.fld 31 2 ≠ 0 || w3.fld 1 0 = 3 then none
      else some ⟨1, (List.range (w2.fld 15 8 + 1 - w2.fld 7 0)).map (· + w2.fld 7 0)⟩
    | 2 => if w2.fld 31 16 ≠ 0 then none else some ⟨2, bitsBelow 16 w2.toNat⟩
    | 3 => if w2.fld 31 16 ≠ 0 then none else some ⟨3, bitsBelow 16 w2.toNat⟩
    | 4 => if w2.fld 31 8 ≠ 0 then none else some ⟨4, bitsBelow 8 w2.toNat⟩
    | 5 => if w2.fld 31 8 ≠ 0 then none else some ⟨5, bitsBelow 8 w2.toNat⟩
    | 6 => if w2.fld 31 8 ≠ 0 || noOwnerPage (w2.fld 7 0) then none else some ⟨6, [w2.fld 7 0]⟩
    | 7 =>
      let pvid := w2.fld 11 0
      if w2.fld 15 12 ≠ 0 || pvid = 0 || pvid = 4095 || w2.getLsbD 24 then none else some ⟨7, [i]⟩
    | _ => none

/-- The part has the resource (R12). -/
def State.resourceAt (s : State) (kind idx : Nat) : Bool :=
  match kind with
  | 1 => s.hasCh idx
  | 2 => s.has (0x0C3 + idx / 8)
  | 3 => s.has 0x0C2
  | 4 => s.has (0x0B0 + idx)
  | 5 => s.has (cvuPage idx)
  | 6 => s.has idx
  | _ => s.has 0x0A8

/-- Owner of a resource, and whether its grant is orphaned. -/
def State.holder (s : State) (kind idx : Nat) : Nat × Bool :=
  if kind = 1 then (s.chOwner idx, (s.ctl idx).orphan) else s.ownerEntry kind idx

/-- Another seat holds the resource, neither LOST nor by an orphaned grant (R375). -/
def State.heldBy (s : State) (i kind idx : Nat) : Bool :=
  let h := s.holder kind idx
  h.1 != 0 && h.1 != i && !h.2 && s.seatState h.1 != 4

/-- Records held for the former owner of a channel go to ring 3 of seat 0, RECORD_LOSS first (R245). -/
def State.handOver (s : State) (k i : Nat) : State :=
  let o := s.chOwner k
  if o = 0 || o = i then s
  else
    let s := s.flushLoss k
    { s with staging := s.staging.map fun (x : Staged) =>
        if x.record.chan = k && x.seat = o then { x with seat := 0, ring := 3, written := false } else x }

/-- A channel is granted (R146, R147). -/
def State.grantCh (s : State) (i k pol : Nat) : State :=
  let o := s.chOwner k
  let s := s.handOver k i
  let s := (s.put (Reg.CH_CFG k) 29 24 i).put (Reg.CH_CFG k) 31 30 pol
  (s.modCtl k fun c => { c with orphan := false }).grantsFollow o

/-- A check-value unit is granted (R533). -/
def State.grantCvu (s : State) (i u : Nat) : State :=
  let s := if (s.cvu u).owner = i then s else s.cvuReset u
  let c := s.cvu u
  (s.setCvu u { c with owner := i }).put (Reg.PG_OWNER (cvuPage u)) 5 0 i

/-- A seat NIC interface is enabled with its MAC and `PVID` (R426). -/
def State.grantSnic (s : State) (i : Nat) : State :=
  let mac := (s.arg 2).fld 31 16 * 2 ^ 32 + (s.arg 3).toNat
  let n : Snic := Sparse.get {} s.sw.snics i
  let s := { s with sw := { s.sw with snics := Sparse.insert s.sw.snics i { n with mac := mac } } }
  (s.setBit (Reg.SNIC_STAT i) 0 true).put (Reg.SNIC_STAT i) 27 16 ((s.arg 2).fld 11 0)

/-- One resource is granted to a seat. -/
def State.grantOne (s : State) (i kind idx : Nat) : State :=
  match kind with
  | 1 => s.grantCh i idx ((s.arg 3).fld 1 0)
  | 5 => (s.grantCvu i idx).setOwner 5 idx i false
  | 6 => (s.put (Reg.PG_OWNER idx) 5 0 i).setOwner 6 idx i false
  | 7 => (s.grantSnic i).setOwner 7 i i false
  | _ => s.setOwner kind idx i false

/-- The MAC of a kind 7 grant is held by another seat's interface. -/
def State.macHeld (s : State) (i : Nat) : Bool :=
  let mac := (s.arg 2).fld 31 16 * 2 ^ 32 + (s.arg 3).toNat
  s.sw.snics.any fun e => e.1 != i && (s.ownerEntry 7 e.1).1 == e.1 && s.bit (Reg.SNIC_STAT e.1) 0 && e.2.mac == mac

def grantBody : MbxBody := fun s i =>
  if s.busySeat i ≠ 0 then refuse s (s.busySeat i)
  else
    match s.named i with
    | none => refuse s 2
    | some n =>
      if n.idxs.any fun x => !s.resourceAt n.kind x then refuse s 7
      else if (n.idxs.any fun x => s.heldBy i n.kind x) || (n.kind == 7 && s.macHeld i) then refuse s 6
      else accept (((s.each n.idxs fun s x => s.grantOne i n.kind x).grantsFollow i).chPagesFollow)

/-- R375. -/
def execGrant (s : State) : Answer := .next (s.mbxRun 12 false grantBody)

/-- One resource loses its owner; its state stays. -/
def State.revokeOne (s : State) (kind idx : Nat) : State :=
  match kind with
  | 1 => (s.chRevoke idx).grantsFollow (s.chOwner idx)
  | 5 => (s.put (Reg.PG_OWNER (cvuPage idx)) 5 0 0).setOwner 5 idx 0 false
  | 6 => (s.put (Reg.PG_OWNER idx) 5 0 0).setOwner 6 idx 0 false
  | 7 => (s.setBit (Reg.SNIC_STAT idx) 0 false).setOwner 7 idx 0 false
  | _ => s.setOwner kind idx 0 false

def revokeBody : MbxBody := fun s i =>
  if 64 ≤ i then refuse s 2
  else
    match s.named i with
    | none => refuse s 2
    | some n =>
      if n.idxs.any fun x => !s.resourceAt n.kind x then refuse s 7
      else if n.idxs.any fun x => s.heldBy i n.kind x then refuse s 6
      else accept (((s.each n.idxs fun s x => s.revokeOne n.kind x).grantsFollow i).chPagesFollow)

/-- R374, R375. -/
def execRevoke (s : State) : Answer := .next (s.mbxRun 13 false revokeBody)

end Sys2Proof.Machine
end

