-- ==== Sys2Proof/Machine/Security.lean ====
section
/-!
DEFINITION. Crypto jobs (R516, R523), attestation (R517, R524), measurement registers (R502), authenticated commands and debug
access (R518 to R520).
-/
namespace Sys2Proof.Machine

/-! ### Crypto jobs -/

/-- The job is under way with its status and what it will write. -/
def State.cryStart (s : State) (status : Nat) (mem : Option (Nat × List Byte) := none) (regs : List (Nat × Word) := []) :
    State :=
  s.setKey { s.key with cryJob := some { status := status, mem := mem, regs := regs } }

/-- Bytes as writes of the registers from `a` on. -/
def regWrites (a : Nat) (b : List Byte) : List (Nat × Word) :=
  (List.range (b.length / 4)).map fun i => (a + 4 * i, BitVec.ofNat 32 (ofLeBytes ((b.drop (4 * i)).take 4)))

def State.cryLen (s : State) : Nat := s.get Reg.CRY_LEN 30 0
def State.crySlot (s : State) : Nat := s.get Reg.CRY_JOB 13 8
def State.cryDst (s : State) : Nat := s.rd64 Reg.CRY_DST_LO Reg.CRY_DST_HI

/-- A range that a job may use: device DRAM, clear of record staging and the switch spill region. -/
def State.cryRange (s : State) (a n : Nat) : Bool :=
  n == 0 || (s.dramHas a n && !overlap (a, n) s.stageArea && !overlap (a, n) s.spillArea)

/-- `CRY.GO`: discarded while BUSY; a page that is not RUNNING completes STOPPED. -/
def State.cryGo (s : State) (body : State → State) : State :=
  if s.bit Reg.CRY_STAT 0 then s.raise 0x0D1 1
  else
    let s := s.setBit Reg.CRY_STAT 0 true
    if !s.running 0x0D1 then s.cryStart 15 else body s

/-- The source of a job whose output takes `out` bytes at the destination; the status of a source that reads
uncorrectable is a free value (log 31). -/
def State.crySource (s : State) (out : Nat) (body : State → List Byte → State) : State :=
  let src := s.rd64 Reg.CRY_SRC_LO Reg.CRY_SRC_HI
  if 2 ^ 30 < s.cryLen || !s.cryRange src s.cryLen || !s.cryRange s.cryDst out then s.cryStart 2
  else if s.cryLen = 0 then body s []
  else
    match s.dramRead src s.cryLen with
    | (s, none) => s.useFree.cryStart (s.freeWord.toNat % 16)
    | (s, some b) => body s b

/-- A job under the key of `CRY.JOB`'s slot, of a type and usage. -/
def State.cryKey (s : State) (typ usage : Nat) (body : State → KeyHalf → State) : State :=
  let k := s.keyFor s.crySlot typ usage
  if k.1 ≠ 0 then s.cryStart k.1 else body s k.2

/-- R516, op 1. -/
def State.crySha (s : State) : State := s.crySource 0 fun s b => s.cryStart 0 none (regWrites (Reg.CRY_DIG 0) (sha512 b))
def execCrySha512 (s : State) : Answer := .next (s.cryGo State.crySha)

/-- Op 2. -/
def State.cryHmac (s : State) : State :=
  s.cryKey 2 4 fun s k => s.crySource 0 fun s b => s.cryStart 0 none (regWrites (Reg.CRY_DIG 0) (hmac512 k.mat b))
def execCryHmac512 (s : State) : Answer := .next (s.cryGo State.cryHmac)

/-- Ops 3 and 4: the AAD is the first `AADLEN` bytes of the source. -/
def State.cryGcm (s : State) (enc : Bool) : State :=
  s.cryKey 1 0 fun s k =>
    let n := s.get Reg.CRY_AADLEN 30 0
    if s.cryLen < n then s.cryStart 2
    else s.crySource (s.cryLen - n) fun s b =>
      let iv := s.regBytes (Reg.CRY_IV 0) 3
      let out := gcmCrypt k.mat iv (b.drop n)
      let tag := gcmTag k.mat iv (b.take n) (if enc then out else b.drop n)
      if enc then s.cryStart 0 (some (s.cryDst, out)) (regWrites (Reg.CRY_TAG 0) tag)
      else if s.regBytes (Reg.CRY_TAG 0) 4 == tag then s.cryStart 0 (some (s.cryDst, out))
      else s.cryStart 7 (some (s.cryDst, List.replicate out.length 0))
def execCryGcmEnc (s : State) : Answer := .next (s.cryGo fun s => s.cryGcm true)
def execCryGcmDec (s : State) : Answer := .next (s.cryGo fun s => s.cryGcm false)

/-- Op 5; a job of length 0 has no output. -/
def State.cryWrap (s : State) : State :=
  s.cryKey 1 1 fun s k =>
    let n := if s.cryLen = 0 then 0 else (s.cryLen + 7) / 8 * 8 + 8
    s.crySource n fun s b => s.cryStart 0 (if n = 0 then none else some (s.cryDst, kwpWrap k.mat b))
def execCryKw (s : State) : Answer := .next (s.cryGo State.cryWrap)

/-- Op 6. -/
def State.cryUnwrap (s : State) : State :=
  s.cryKey 1 1 fun s k =>
    s.crySource (s.cryLen - 8) fun s b =>
      if b.isEmpty then s.cryStart 0
      else match kwpUnwrap k.mat b with
        | some m => s.cryStart 0 (some (s.cryDst, m))
        | none => s.cryStart 7 (some (s.cryDst, List.replicate (b.length - 8) 0))
def execCryKwu (s : State) : Answer := .next (s.cryGo State.cryUnwrap)

/-- A number in `n` big-endian bytes of RSA material from offset `o` (R505). -/
def rsaPart (mat : List Byte) (o n : Nat) : Nat := ofBe ((mat.drop o).take n)

/-- The signature of a digest under an RSA_PRIV key, with a free salt. -/
def State.rsaSign (s : State) (mat digest : List Byte) : State × List Byte :=
  let p := fun i => rsaPart mat (516 + 256 * i) 256
  ({ s with free := s.free + 64 }, pssSign (p 0) (p 1) (p 2) (p 3) (p 4) digest (s.freeBytes 64))

/-- Op 7. -/
def State.crySign (s : State) : State :=
  s.cryKey 3 2 fun s k =>
    let r := s.rsaSign k.mat (s.regBytes (Reg.CRY_DIG 0) 16)
    r.1.cryStart 0 none (regWrites (Reg.CRY_SIG 0) r.2)
def execCryPssSign (s : State) : Answer := .next (s.cryGo State.crySign)

/-- Op 8. -/
def State.cryVerify (s : State) : State :=
  s.cryKey 4 3 fun s k =>
    let ok := pssVerify (rsaPart k.mat 0 512) (rsaPart k.mat 512 4) (s.regBytes (Reg.CRY_DIG 0) 16)
      (s.regBytes (Reg.CRY_SIG 0) 128)
    s.cryStart (if ok then 0 else 7)
def execCryPssVerify (s : State) : Answer := .next (s.cryGo State.cryVerify)

def execCryBadOp (s : State) : Answer := .next (s.cryGo fun s => s.cryStart 1)

/-- R523: a disagreement of the engines discards the output and puts the page in FAULTED. -/
def State.cryDone (s : State) : State :=
  match s.key.cryJob with
  | none => s
  | some j =>
    let bad := s.injFires 0x0D1 0x10 0
    let s := (s.injStep 0x0D1 0x10 0).setKey { s.key with cryJob := none }
    if bad then ((s.wr Reg.CRY_STAT 0).pageFault 0x0D1 0x0100).debugFollow
    else
      let s := match j.mem with
        | some m => s.dramWrite m.1 m.2
        | none => s
      let s := s.each j.regs fun s w => s.wr w.1 w.2
      ((s.wrN Reg.CRY_STAT (256 * j.status)).raise 0x0D1 8).debugFollow

def execCryJobDone (s : State) : Answer := .next s.cryDone

/-! ### Measurement registers and images (R500, R502) -/

/-- Mi := SHA-512(Mi ‖ x). -/
def State.extend (s : State) (i : Nat) (x : List Byte) : State :=
  s.wrBytes (Reg.ATT_M (16 * i)) (sha512 (s.regBytes (Reg.ATT_M (16 * i)) 16 ++ x))

/-- M0 to M3 are 64 zero bytes each. -/
def State.clearM (s : State) : State := s.each (List.range 64) fun s w => s.wr (Reg.ATT_M w) 0

/-- `n` bytes of bank `b` of the boot flash from `o` on; an erased byte reads 0xFF. -/
def State.flashRead (s : State) (b o n : Nat) : List Byte :=
  (List.range n).map fun i => Sparse.get 0xFF s.flash (0x2000000 * b + o + i)

/-- The running bank; in Easy mode there is none. -/
def State.bank (s : State) : Nat := s.get Reg.BOOT_STAT 0 0

/-- The SHA-512 of the owner's modulus, where `OKH` is programmed. -/
def State.okhNow (s : State) : Option (List Byte) :=
  if s.bit Reg.KEY_FUSE 1 then some (s.key.okh.getD (toBe 64 Config.okh)) else none

/-- The rollback floor, max(F, L) (R503), and `SVN` of the running image. -/
def State.floor (s : State) : Nat := max (s.get Reg.KEY_ROLL 7 0) (s.get Reg.KEY_ROLL 15 8)
def State.svn (s : State) : Nat := s.get Reg.KEY_ROLL 23 16

/-! ### Attestation (R517) -/

/-- A command of page 0x0D2 while nothing is under way; else it is discarded (log 32). -/
def State.attCmd (s : State) (body : State → State) : State :=
  if s.bit Reg.ATT_STAT 0 then s.raise 0x0D2 1
  else if !s.running 0x0D2 then (s.wrN Reg.ATT_STAT (256 * 3)).raise 0x0D2 8
  else body s

def State.attDone (s : State) (status n : Nat) : State := (s.wrN Reg.ATT_STAT (256 * status + 65536 * n)).raise 0x0D2 8

def execAttNop (s : State) : Answer := .next (s.attCmd id)

def execAttReport (s : State) : Answer :=
  .next (s.attCmd fun s => (s.setKey { s.key with attBusy := true }).setBit Reg.ATT_STAT 0 true)

/-- The directory that the report digests: 12 bytes for each slot from 1 to 63 (log 32). -/
def State.keyDir (s : State) : List Byte :=
  ((List.range 63).map fun i =>
    let n := i + 1
    let h := if n < 8 then (if s.rootOk then some (s.domainKey n) else none) else (s.keySlot n).cur
    let h := h.getD { typ := 0, usage := 0 }
    leBytes 4 h.kid ++ leBytes 4 (s.keyGen n) ++ leBytes 1 h.typ ++ leBytes 1 h.usage ++ leBytes 2 h.parent).flatten

/-- Bytes 0 to 511 of a report. -/
def State.reportBytes (s : State) (kid : Nat) : List Byte :=
  let easy := s.bit Reg.BOOT_STAT 2
  leBytes 2 1 ++ leBytes 1 1 ++ leBytes 1 (s.get Reg.KEY_DEBUG 1 0) ++ leBytes 4 (s.rd Reg.DEV_PARTNUM).toNat ++
    serialBytes ++ leBytes 2 (s.devId + 32768 * s.idValid.toNat) ++ leBytes 1 s.bank ++
    leBytes 1 (s.okhNow.isSome.toNat + 2 * easy.toNat) ++ leBytes 4 s.floor ++ leBytes 4 s.svn ++
    s.flashRead s.bank 16 8 ++ leBytes 8 s.tbSec ++ leBytes 4 kid ++ leBytes 4 (s.rd Reg.KEY_JSEQ).toNat ++ leBytes 12 0 ++
    s.regBytes (Reg.ATT_M 0) 64 ++ s.regBytes (Reg.ATT_NONCE 0) 16 ++ sha512 s.keyDir ++ leBytes 64 0

/-- The attestation key, in the slot of `ATT.KSLOT`. -/
def State.attKey (s : State) : Option KeyHalf :=
  let r := s.keyFor (s.get Reg.ATT_KSLOT 5 0) 3 2
  if r.1 = 0 then some r.2 else none

def State.attReport (s : State) : State :=
  if !s.key.attBusy then s
  else
    let s := s.setKey { s.key with attBusy := false }
    match s.attKey with
    | none => (s.attDone 1 0).debugFollow
    | some k =>
      let b := s.reportBytes k.kid
      let r := s.rsaSign k.mat (sha512 b)
      ((r.1.wrBytes (Reg.ATT_BUF 0) (b ++ r.2)).attDone 0 1024).debugFollow

def execAttReportDone (s : State) : Answer := .next s.attReport

def execAttCert (s : State) : Answer :=
  .next (s.attCmd fun s =>
    let b := (Config.cert).take 2048
    (s.wrBytes (Reg.ATT_BUF 0) b).attDone 0 b.length)

/-- EXTEND extends M3 (R502). -/
def execAttExtend (s : State) : Answer :=
  .next (s.attCmd fun s => (s.extend 3 (s.regBytes (Reg.ATT_BUF 0) 16)).attDone 0 0)

/-! ### Authenticated commands (R518, R519) -/

/-- AUTH_FAIL with a reason; the fourth failure in a row throttles CHALLENGE. -/
def State.authFail (s : State) (reason : Nat) : State × MbxResult :=
  let n := s.key.authFails + 1
  (s.setKey { s.key with authFails := n, authShut := s.key.authShut || decide (4 ≤ n) },
    some (10, [BitVec.ofNat 32 reason]))

def challengeBody : MbxBody := fun s _ =>
  if s.key.authShut then (s, some (10, [9]))
  else
    let b := s.freeBytes 16
    let s := { s with free := s.free + 16 }
    accept (s.setKey { s.key with authNonce := some (ofLeBytes b, s.tbSec) })
      ((List.range 4).map fun i => BitVec.ofNat 32 (ofLeBytes ((b.drop (4 * i)).take 4)))

def execAuthChallenge (s : State) : Answer := .next (s.mbxRun 24 true challengeBody)

/-- A field of the token as a number. -/
def tokNat (t : List Byte) (o n : Nat) : Nat := ofLeBytes ((t.drop o).take n)

/-- Who may sign an operation: the owner, either key, or anyone (R519). -/
def State.authOk (s : State) (op : Nat) (hash : List Byte) : Bool :=
  let v := hash == toBe 64 Config.vkh
  let o := s.okhNow == some hash
  match op with
  | 6 => true
  | 2 => v || o
  | 4 => v || o
  | _ => if s.okhNow.isSome then o else v

/-- The first check that a token fails, in the order READ, FORMAT, NONCE, SERIAL, KEY, SIG, STATE (log 33). -/
def State.tokenFault (s : State) (nonce : Option (Nat × Nat)) (op : Nat) (t : List Byte) : Option Nat :=
  let fresh := match nonce with
    | some (n, at') => n == tokNat t 16 16 && decide (s.tbSec ≤ at' + 60)
    | none => false
  let modulus := (t.drop 64).take 512
  if (s.arg 4).toNat ≠ 1088 || t.length ≠ 1088 || tokNat t 0 2 ≠ 1 || tokNat t 2 2 ≠ op || 1 < tokNat t 4 1 || tokNat t 5 3 ≠ 0 then some 5
  else if !fresh then some 1
  else if tokNat t 8 8 ≠ Config.serial % 2 ^ 64 then some 2
  else if !s.authOk op (sha512 modulus) then some 3
  else if !pssVerify (ofBe modulus) 65537 (sha512 (t.take 576)) (t.drop 576) then some 4
  else if op = 6 && s.okhNow.isSome then some 7
  else none

/-- EXECUTE consumes the nonce; the body says whether the arguments are refused. -/
def executeBody (op : Nat) (tok : Option (List Byte)) (body : State → List Byte → State × MbxResult) : MbxBody := fun s _ =>
  let nonce := s.key.authNonce
  let s := s.setKey { s.key with authNonce := none }
  match tok with
  | none => s.authFail 8
  | some t =>
    match s.tokenFault nonce op t with
    | some r => s.authFail r
    | none => body s t

/-- The operation is done: the run of failures ends. -/
def authDone (s : State) : State × MbxResult := accept (s.setKey { s.key with authFails := 0 })

def State.execute (s : State) (op : Nat) (tok : Option (List Byte)) (body : State → List Byte → State × MbxResult) : Answer :=
  .next (s.mbxRun 24 true (executeBody op tok body))

/-- R519, op 1. -/
def execAuthInjArm (tok : Option (List Byte)) (s : State) : Answer :=
  s.execute 1 tok fun s t => authDone (s.injSet (if tokNat t 32 4 = 0 then none else some (tokNat t 32 4)))

def execAuthInjDisarm (tok : Option (List Byte)) (s : State) : Answer := s.execute 2 tok fun s _ => authDone s.injClear

def execAuthDebugUnlock (tok : Option (List Byte)) (s : State) : Answer :=
  s.execute 3 tok fun s t =>
    let l := tokNat t 32 1
    if l = 1 || l = 2 then authDone (s.setDebug l) else s.authFail 6

def execAuthDebugLock (tok : Option (List Byte)) (s : State) : Answer := s.execute 4 tok fun s _ => authDone (s.setDebug 0)

/-- R504: the record, the mirror, the fuses. Without its record nothing changes; the status shown then is a free value
(log 33). -/
def State.svnCommit (s : State) (n : Nat) (ok : Bool) : State × MbxResult :=
  if !(decide (s.floor < n) && decide (n ≤ s.svn)) then s.authFail 6
  else if !ok then (s.useFree.raise 0x0D0 12, some (s.freeWord.toNat % 256, []))
  else authDone (((s.journalWrite { seq := 0, kind := 3, slot := 0, gen := n }).put Reg.KEY_ROLL 15 8 n).put Reg.KEY_ROLL 7 0 n)

def execAuthSvnCommit (tok : Option (List Byte)) (ok : Bool) (s : State) : Answer :=
  s.execute 5 tok fun s t => s.svnCommit (tokNat t 32 4) ok

/-- `OKH` is burnt. -/
def execAuthOwnerSet (tok : Option (List Byte)) (s : State) : Answer :=
  s.execute 6 tok fun s t =>
    authDone ((s.setKey { s.key with okh := some (sha512 ((t.drop 64).take 512)) }).setBit Reg.KEY_FUSE 1 true)

/-- R518. -/
def execAuthNonceExpiry (s : State) : Answer := .next (s.setKey { s.key with authNonce := none })
def execAuthThrottleExpiry (s : State) : Answer :=
  .next (if s.key.authShut then s.setKey { s.key with authShut := false, authFails := 0 } else s)

end Sys2Proof.Machine
end

