-- ==== Sys2Proof/Machine/Crumb.lean ====
section
/-!
DEFINITION. Crumb records (R585 to R590): sections, header and signature, the summary slots and the record in device DRAM.
-/
namespace Sys2Proof.Machine

/-- Bytes padded to a multiple of 16. -/
def pad16 (b : List Byte) : List Byte := b ++ List.replicate ((16 - b.length % 16) % 16) 0

/-- Section PAGES: 24 bytes for each present page (R587). -/
def State.pagesSection (s : State) : List Byte :=
  (((List.range 256).filter s.has).map fun p =>
    leBytes 2 p ++ leBytes 2 0 ++
      ([Reg.PG_ID p, Reg.PG_STAT p, Reg.PG_EVRAW p, Reg.PG_FAULT p, Reg.PG_FCNT p].map fun a =>
        leBytes 4 (s.rd a).toNat).flatten).flatten

/-- Section CHANNELS: 16 bytes for each of 256 channels. -/
def State.channelsSection (s : State) : List Byte :=
  ((List.range 256).map fun k =>
    if s.hasCh k then
      ([Reg.CH_STAT k, Reg.CH_FCAUSE k, Reg.CH_POS k, Reg.CH_DMD k].map fun a => leBytes 4 (s.rd a).toNat).flatten
    else leBytes 16 0).flatten

/-- Section MAILBOX: the last sixteen commands. -/
def State.mailboxSection (s : State) : List Byte :=
  (s.mbxLog.map fun (x : List Word × Nat × Nat) =>
    (x.1.map fun w => leBytes 4 w.toNat).flatten ++ leBytes 8 x.2.1 ++ leBytes 8 x.2.2).flatten

/-- Sections 4 to 6 hold diagnostic content: as many free bytes as a free value says (log 36). -/
def State.freeSection (s : State) : State × List Byte :=
  let n := Config.freeNat s.free
  let s := s.useFree
  ({ s with free := s.free + n }, s.freeBytes n)

/-- Sections cut to a room in bytes: those that fit, and whether one was cut. -/
def fitSections : Nat → List (Nat × List Byte) → List (Nat × List Byte) × Bool
  | _, [] => ([], false)
  | room, (t, b) :: rest =>
    if (pad16 b).length ≤ room then
      let r := fitSections (room - (pad16 b).length) rest
      ((t, b) :: r.1, r.2)
    else
      let r := fitSections 0 rest
      ((t, b.take (room / 16 * 16)) :: r.1, true)

/-- The header (R586). -/
def State.crumbHeader (s : State) (kind flags seq len : Nat) (cause : Word) (kid : Nat) (secs : List (Nat × List Byte)) :
    List Byte :=
  let easy := kind == 2
  leBytes 4 0x4255524B ++ leBytes 2 1 ++ leBytes 1 kind ++ leBytes 1 flags ++ leBytes 4 seq ++ leBytes 4 len ++
    leBytes 8 s.now ++ serialBytes ++ leBytes 4 (s.rd Reg.DEV_PARTNUM).toNat ++ leBytes 4 cause.toNat ++
    leBytes 4 (s.rd Reg.BOOT_CHK).toNat ++ leBytes 4 (if easy then 0 else s.svn) ++
    (if easy then leBytes 8 0 else s.flashRead s.bank 16 8) ++ leBytes 1 (if easy then 0xFF else s.bank) ++
    leBytes 1 secs.length ++ leBytes 2 (s.get Reg.RST_CAUSE 15 0) ++ leBytes 4 kid ++ s.regBytes (Reg.ATT_M 0) 16 ++
    ((secs.map fun x => leBytes 2 x.1 ++ leBytes 2 0 ++ leBytes 4 x.2.length).flatten ++ leBytes 128 0).take 128

/-- A whole record of at most `cap` bytes, signed where the attestation key is loaded. -/
def State.crumbRecord (s : State) (kind seq cap : Nat) (summary : Bool) (cause : Word) (secs : List (Nat × List Byte)) :
    State × List Byte :=
  let fit := fitSections (cap - 768) secs
  let body := (fit.1.map fun x => pad16 x.2).flatten
  let key := s.attKey
  let flags := key.isNone.toNat + 2 * fit.2.toNat + 4 * summary.toNat
  let kid := match key with
    | some k => k.kid
    | none => 0
  let b := s.crumbHeader kind flags seq (256 + body.length + 512) cause kid fit.1 ++ body
  match key with
  | some k =>
    let r := s.rsaSign k.mat (sha512 b)
    (r.1, b ++ r.2)
  | none => (s, b ++ leBytes 512 0)

/-- The slot for the next summary: an invalid one, else the oldest. -/
def State.crumbSlot (s : State) : Nat :=
  let c := fun i => (Sparse.get {} s.crumbs i : Crumb)
  match (List.range 8).find? fun i => !(c i).valid with
  | some i => i
  | none => (List.range 8).foldl (fun b i => if (c i).seq < (c b).seq then i else b) 0

/-- The words of a record. -/
def wordsOf (b : List Byte) : List Word :=
  (List.range ((b.length + 3) / 4)).map fun i => BitVec.ofNat 32 (ofLeBytes ((b.drop (4 * i)).take 4))

/-- A crumb record of a kind: the full record in the crumb area, then the summary in its slot (R588). -/
def State.writeCrumb (s : State) (kind : Nat) (cause : Word) : State :=
  let seq := (s.crumbSeq + 1) % 2 ^ 32
  let e := s.freeSection
  let c := e.1.freeSection
  let t := c.1.freeSection
  let brief := [(1, s.pagesSection), (2, s.channelsSection)] ++
    (if kind = 2 then [] else [(3, s.mailboxSection), (4, e.2)])
  let full := brief ++ (if kind = 2 then [] else [(5, c.2), (6, t.2)])
  let s : State := { t.1 with crumbSeq := seq }
  let area := s.crumbArea
  let s := if area.2 = 0 then s
    else
      let r := s.crumbRecord kind seq area.2 false cause full
      r.1.dramWrite area.1 r.2
  let r := s.crumbRecord kind seq 16384 true cause brief
  let slot := s.crumbSlot
  { r.1 with crumbs := Sparse.insert r.1.crumbs slot { valid := true, seq := seq, words := wordsOf r.2 } }

/-- The release of domain D finds the valid slots (R589). -/
def State.crumbFind (s : State) : State :=
  let good := s.crumbs.filter fun (e : Nat × Crumb) => e.2.valid
  match good with
  | [] => s.wr Reg.LIFE_CRUMB_LAST 0
  | e :: es =>
    let best := es.foldl (fun (b x : Nat × Crumb) => if b.2.seq < x.2.seq then x else b) e
    let mask := (good.map fun (x : Nat × Crumb) => 2 ^ x.1).sum
    let s := s.wrN Reg.LIFE_CRUMB_LAST (best.1 + 8 + 256 * mask + 65536 * (best.2.seq % 65536))
    let new := decide (s.crumbSeen < best.2.seq)
    ({ s with crumbSeen := best.2.seq }).when new fun s => s.raise 0x004 10

end Sys2Proof.Machine
end

