-- ==== Sys2Proof/Machine/Guard.lean ====
section
/-!
DEFINITION. The guard (R118, R143): which protections hold for a channel on the stroke window that closes at a
boundary, and the trip that follows (R144, R148).
-/
namespace Sys2Proof.Machine

/-- The demand that UV looks at (R143). -/
def State.guardDemand (s : State) (k : Nat) : Int :=
  if s.chState k = 1 || (s.chState k = 2 && (s.chMode k = 0 || s.chMode k = 9)) then 0 else s.rdI (Reg.CH_DMD k)

/-- The DVDT comparison of two means (R143). -/
def State.dvdtHolds (s : State) (k : Nat) : Bool :=
  match (s.ctl k).dvTest with
  | none => false
  | some (new, old) =>
    let mode := s.chMode k
    let run := s.chState k != 1
    let suspended := run && (mode == 6 || mode == 7 || mode == 8 ||
      decide (strobeNs new.stamp < (s.prog k).sNs + 1000000000))
    !suspended &&
      decide ((s.get (Reg.CH_DVDT k) 15 0 : Int) * 10 * (new.n * old.n : Nat) <
        ((new.sum * old.n - old.sum * new.n).natAbs : Int))

/-- The DTDT comparison of two means of temperature (R143). -/
def State.dtdtHolds (s : State) (k : Nat) : Bool :=
  match (s.ctl k).dtTest with
  | none => false
  | some (new, old) =>
    decide ((s.get (Reg.CH_TLIM k) 31 16 : Int) * (new.n * old.n : Nat) < new.sum * old.n - old.sum * new.n)

/-- The protection of a cause holds for channel `k` on window `w` (R143). -/
def State.protHolds (s : State) (k : Nat) (w : Window) (cause : Nat) : Bool :=
  let m := s.rd (mstat k)
  let en := fun i => s.bit (Reg.CH_PROT k) i
  let meas := decide (w.n ≠ 0)
  match cause with
  | 1 => en 0 && meas && decide (s.rdI (Reg.CH_VMAX k) < w.maxV)
  | 2 => en 1 && meas && decide (w.minV < s.rdI (Reg.CH_VMIN k)) && decide (s.guardDemand k ≤ 0)
  | 3 =>
    let imax := (s.rd (Reg.CH_IMAX k)).toNat
    en 2 && meas &&
      (if imax = 0 then s.descOk (k / 16) && decide (105 * s.ifs k (s.ctl k).rngCur < 100 * w.maxI)
       else decide ((imax : Int) < w.maxI))
  | 4 => en 3 && decide (s.getI (Reg.CH_TLIM k) 15 0 < s.tempNow k)
  | 5 => meas && decide (w.minV < -1000000)
  | 6 => en 4 && s.dvdtHolds k
  | 7 => en 5 && s.dtdtHolds k
  | 8 => m.getLsbD 0 || m.getLsbD 1 || m.getLsbD 2 || m.getLsbD 3 || m.getLsbD 16
  | 9 => en 6 && m.getLsbD 4
  | 10 => (s.link (k / 16)).chflt.testBit (k % 16)
  | 12 => m.getLsbD 6
  | _ => false

/-- The causes that the guard finds, lowest first; `bad` says that its two copies disagree. -/
def State.guardCauses (s : State) (k : Nat) (w : Window) (bad : Bool) : List Nat :=
  ((List.range 13).filter fun c => s.protHolds k w c) ++ (if bad then [14] else [])

/-- The guard result of channel `k` is applied (R117, R148). -/
def State.guardCh (s : State) (k b : Nat) (bad : Bool) : State :=
  if !s.chLive k then s
  else
    let s := s.when bad fun s => s.count Reg.LOOP_LANE_ERR 31 16
    match s.guardCauses k (s.ctl k).lastWin bad with
    | [] => s
    | c :: more => s.tripAt k c b (!more.isEmpty)

/-- The comparisons of a second are made once. -/
def State.guardDone (s : State) (k : Nat) : State :=
  s.modCtl k fun c => { c with dvTest := none, dtTest := none }

end Sys2Proof.Machine
end

