-- ==== Sys2Proof/Machine/Stroke.lean ====
section
/-!
DEFINITION. The stroke (R111 to R121, R131, R134, R135, R147): closing the windows, the guard pass, the services with
their lanes and misses, and the meanings of the loop-engine and channel commands.
-/
namespace Sys2Proof.Machine

/-! ### Closing the windows -/

/-- The window of channel `k` that closes at boundary `b`: kept for the next service and for CLEAR (R121, R180). -/
def State.closeWindow (s : State) (k b : Nat) : State :=
  let live := s.chLive k
  s.modCtl k fun c =>
    let w : Window := if c.win.idx = b then c.win else { idx := b }
    { c with lastWin := w, win := if c.win.idx = b then {} else c.win
             wins := if live then c.wins ++ [w] else [] }

/-! ### The Kelvin estimate (R99) -/

/-- The mean of the estimates in 10 µΩ, from 0 to 65,535. -/
def kelvinMean (kc : List (Int × Int)) : Nat :=
  let sum := (kc.map fun x => roundQuot (x.1 * 10000 * one) x.2).sum
  min 65535 (roundDiv sum (max 1 kc.length * 65536)).toNat

/-- A stroke of channel `k` qualifies for the Kelvin estimate with the stage's voltage `vf`. -/
def State.kelvin (s : State) (k : Nat) (w : Window) (vf : Int × Nat) : State :=
  let d := k / 128
  let imin : Int := s.get (Reg.MEAS_KC_CFG d) 15 0 * 1000
  if s.bit (mcfg k) 20 && w.n != 0 && vf.2 != 0 && decide (imin * w.n ≤ (w.sumI.natAbs : Int)) && w.sumI != 0 then
    let dv := meanOf vf.1 vf.2 - meanOf w.sumV w.n
    let kc := ((dv, meanOf w.sumI w.n) :: (s.chMeas k).kc).take 64
    let s := s.modMeas k fun m => { m with kc := kc }
    let m := kelvinMean kc
    let s := (s.put (kres k) 15 0 m).count (kres k) 31 16
    let thr := s.get (Reg.MEAS_KC_CFG d) 31 16
    s.when (decide (64 ≤ s.get (kres k) 31 16) && thr != 0 && decide (thr < m)) fun s =>
      (s.setBit (mstat k) 4 true).raise (measPage k) 15
  else s

/-! ### One service (R117) -/

/-- VC and IC of a window become those of the latest service (R154). -/
def State.noteSample (s : State) (k : Nat) (w : Window) : State :=
  if w.n = 0 then s
  else (s.wr (Reg.CH_VNOW k) (word32 (meanOf w.sumV w.n))).wr (Reg.CH_INOW k) (word32 (meanOf w.sumI w.n))

/-- One pending command of channel `k` is executed, and its status reaches the entry or the crew behind it. -/
def State.runCmd (s : State) (k b : Nat) (x : Cmd) : State :=
  let r := s.chanOp k x.op x.seat b
  let s := r.1
  let s := match x.sqe with
    | some (q, cid) => s.chanServed x.seat q cid k r.2
    | none => s
  match x.crew with
  | some c => if r.2 = 0 then s else s.genEvent k 0x303 s.now c x.op r.2
  | none => s

/-- Pending commands in order of arrival. -/
def State.runCmds (s : State) (k b : Nat) : State :=
  let cmds := (s.ctl k).cmds
  let s := s.modCtl k fun c => { c with cmds := [] }
  s.each cmds fun s x => s.runCmd k b x

/-- Step time in ms, as `STEPT` reads it. -/
def State.noteStepTime (s : State) (k b : Nat) : State :=
  if (s.prog k).live then s.wrN (Reg.CH_STEPT k) (s.stepNs k b / 1000000) else s

/-- Limits, terminations and frame points of a service (R117 steps 3 and 4). -/
def State.serveTail (s : State) (k b : Nat) (wins : List Window) : State :=
  let last := (wins.getLast?).getD { idx := b }
  let s := (s.runWindows k b wins).noteSample k last
  let s := s.computePoints { k := k, b := b, win := last }
  (s.noteStepTime k b).modCtl k fun c => { c with v1New := false }

/-- The whole service of channel `k` at boundary `b`, its guard result applied before. -/
def State.serve (s : State) (k b : Nat) : State :=
  let wins := (s.ctl k).wins
  let s := s.modCtl k fun c => { c with wins := [], miss := 0, unserved := false }
  let s := s.setBit (Reg.CH_STAT k) 12 false
  let s := match wins.head? with
    | some w => s.noteSample k w
    | none => s
  let s := (s.ownerLostPolicy k b).runCmds k b
  s.serveTail k b wins

/-- A channel that the stroke does not serve holds its last frame point; patterns keep their timing (R119). -/
def State.hold (s : State) (k : Nat) (overrun : Bool) : State :=
  let n := 4 * s.nStroke
  let mode := s.chMode k
  let s := s.modCtl k fun c => { c with unserved := overrun }
  let s := s.when ((mode == 6 || mode == 7) && (s.prog k).live && s.chState k == 2) fun s =>
    s.modProg k fun p => { p with frames := p.frames + n }
  s.when (s.eis k).active fun s => s.modEis k fun e =>
    { e with marks := (s.boundary + 2 * s.nStroke, s.boundary + 4 * s.nStroke, false) :: e.marks }

/-! ### Lane pairs (R115, R120) -/

/-- `PAIRi` of `LOOP.STAT`: 0 ACTIVE, 1 SPARE, 2 RETIRED. -/
def State.pair (s : State) (i : Nat) : Nat := s.get Reg.LOOP_STAT (17 + 2 * i) (16 + 2 * i)
def State.setPair (s : State) (i v : Nat) : State := s.put Reg.LOOP_STAT (17 + 2 * i) (16 + 2 * i) v

/-- The ACTIVE pairs, lowest first. -/
def State.activePairs (s : State) : List Nat := (List.range 3).filter fun i => s.pair i == 0

/-- The pair that serves the `i`-th channel of a stroke. -/
def pairFor (active : List Nat) (i : Nat) : Option Nat :=
  match active with
  | [] => none
  | [a] => some a
  | a :: b :: _ => some (if i % 2 = 0 then a else b)

/-- The pair is retired (R120). -/
def State.retirePair (s : State) (p : Nat) : State :=
  ((s.setPair p 2).count Reg.LOOP_LANE_ERR 15 0).raise 0x030 9

/-- The pairs after a stroke: a spare takes the place of a retired pair (R120). -/
def State.replacePairs (s : State) (retired : List Nat) : State :=
  s.each retired fun s _ =>
    match (List.range 3).find? fun i => s.pair i == 1 with
    | some i => s.setPair i 0
    | none => s.raise 0x030 10

/-- The loop engine is gone: what a channel had committed gives way to zero demand, one frame of it still connected
(R137, R141). -/
def Ctl.cut (c : Ctl) : Ctl :=
  if c.nxt.isEmpty && !c.cur.any Point.conn then c
  else { c with cur := zeroPoints 2, nxt := [], nxtF := 0, rngNxt := c.rngCur, ending := false }

def State.loopCut (s : State) : State := s.each (s.channels.filter fun k => s.chState k != 0) fun s k => s.modCtl k Ctl.cut

/-- LANES_EXHAUSTED: the page enters FAULTED and its channels go SAFE (R120, R141). -/
def State.lanesOut (s : State) : State := ((s.pageFault 0x030 0x0100).safeAll s.channels 43).loopCut

/-! ### The services of a stroke -/

/-- The channels in the order of service (R116). -/
def State.serveOrder (s : State) : List Nat :=
  let first := if s.bit Reg.LOOP_CFG 8 then 16 * (s.strokes % 16) else 0
  ((List.range 256).map fun i => (first + i) % 256).filter s.hasCh

/-- A channel that takes a place in the service (R114). -/
def State.chRuns (s : State) (k : Nat) : Bool := s.chState k == 2 || s.chState k == 3 || s.chState k == 4

/-- A channel that only has commands pending, or an owner lost, in IDLE, ARMED, SAFE or FAULTED. -/
def State.serveIdle (s : State) (k b : Nat) : State :=
  let s := (s.ownerLostPolicy k b).runCmds k b
  if s.chRuns k then s.serveTail k b [(s.ctl k).lastWin] else s.modCtl k fun c => { c with wins := [], v1New := false }

/-- The progress of a stroke: the state, the places of service taken, the channels served, the pairs retired. -/
structure Progress where
  s       : State
  place   : Nat := 0
  served  : Nat := 0
  retired : List Nat := []

/-- One channel of a stroke (R115 to R120). -/
def serveOne (b : Nat) (env : StrokeEnv) (active : List Nat) (x : Progress) (k : Nat) : Progress :=
  let s := x.s
  if !s.chRuns k then { x with s := s.serveIdle k b }
  else
    match pairFor active x.place with
    | none => { x with s := s.hold k false }
    | some p =>
      if x.retired.contains p then { x with s := s.hold k false, place := x.place + 1 }
      else
        let bad := env.laneBad.contains k || s.injFires 0x030 0x10 p || s.injFires 0x030 0x01 p
        let s := (s.injStep 0x030 0x10 p).injStep 0x030 0x01 p
        if bad then
          { x with s := (s.retirePair p).hold k false, place := x.place + 1, retired := p :: x.retired }
        else if env.missed.contains k then { x with s := s.hold k true, place := x.place + 1 }
        else { x with s := s.serve k b, place := x.place + 1, served := x.served + 1 }

/-! ### Stops that act at a stroke boundary (R141) -/

/-- The channels that a page's stop moves, and its cause, for the pages whose stop acts at a stroke boundary. -/
def State.stopMoves (s : State) (p : Nat) : State :=
  if p = 0x030 then s.safeAll s.channels 38
  else if p = 0x031 then s.safeAll s.channels 41
  else if 0x020 ≤ p ∧ p < 0x030 then s.safeAll (s.channels.filter fun k => chPage k == p) 42
  else s

/-- Pages whose stop acts at this boundary. -/
def State.boundaryStops (s : State) : State :=
  s.each ([0x030, 0x031] ++ (List.range 16).map (0x020 + ·)) fun s p => if s.pg p = 4 then s.stopMoves p else s

/-! ### Faults of the step store met in a service (R184, R186) -/

/-- An uncorrectable entry: the slot is BAD and its channels go SAFE (R184). -/
def State.progBad (s : State) (sl : Nat) : State :=
  let d := Sparse.get {} s.slots sl
  let s := { s with slots := Sparse.insert s.slots sl { d with state := 3 } }
  let s := (s.count Reg.STEP_ECC 31 16).raise 0x031 10
  s.safeAll (s.channels.filter fun k => (s.prog k).slot == some sl) 41

/-- DIR_CORRUPT (R186). -/
def State.dirCorrupt (s : State) : State := (s.pageFault 0x031 0x0100).safeAll s.channels 41

/-- What the fabric's faults make of the step store in this stroke. -/
def State.storeFaults (s : State) (env : StrokeEnv) : State :=
  let fired := s.injFires 0x031 0x10 1
  let dir := s.injFires 0x031 0x11 0
  let s := (s.when (s.injFires 0x031 0x10 0) fun s => s.count Reg.STEP_ECC 15 0)
  let s := ((s.injStep 0x031 0x10 0).injStep 0x031 0x10 1).injStep 0x031 0x11 0
  let first := if fired then (s.channels.filter fun k => s.chRuns k && (s.prog k).live).head?.toList else []
  let s := s.each (env.storeBad ++ first) fun s k =>
    if s.chRuns k then
      match (s.prog k).slot with
      | some sl => s.progBad sl
      | none => s
    else s
  s.when (env.dirBad || dir) State.dirCorrupt

/-! ### The stroke boundary -/

/-- A gain set is taken into use from its shadow copy (R131). -/
def State.takeGains (s : State) : State :=
  let s := s.each (bitsOf s.gainReq) fun s g =>
    let words := [s.rd (Reg.LOOP_GAIN_KP g), s.rd (Reg.LOOP_GAIN_KI g), s.rd (Reg.LOOP_GAIN_CC g),
      s.rd (Reg.LOOP_GAIN_SLEW g)]
    { s with gains := Sparse.insert s.gains g words }
  { s with gainReq := 0 }

/-- The latest base strobe is a stroke boundary of a loop engine that serves, at least 2 µs after RUNNING (R111,
R152). -/
def State.atBoundary (s : State) : Bool :=
  (s.pg 0x030 == 3 || s.pg 0x030 == 4) && s.nStroke != 0 && s.strobeIdx % (2 * s.nStroke) == 0 &&
    decide (s.loopFrom + 2000 ≤ strobeNs s.strobeIdx)

/-- The guard results of every channel, with the injected ones (R118, R537). -/
def State.guardPass (s : State) (b : Nat) (env : StrokeEnv) : State :=
  s.each s.channels fun s k =>
    let bad := env.guardBad.contains k || s.injFires 0x030 0x11 k
    let ov := s.injFires (chPage k) 0x10 (k % 16)
    let s := (s.injStep 0x030 0x11 k).injStep (chPage k) 0x10 (k % 16)
    let s := if ov && s.chLive k then s.tripAt k 1 b else s.guardCh k b bad
    s.guardDone k

/-- The Kelvin estimates of the stroke (R99, R253). -/
def State.kelvinPass (s : State) : State :=
  s.each (s.channels.filter s.chRuns) fun s k =>
    match ((s.link (k / 16)).vfAcc.find? fun x => x.1 == k % 16).map (·.2) with
    | some vf => s.kelvin k (s.ctl k).lastWin vf
    | none => s

/-- The telemetry of the closed stroke window is used up (R253, R268). -/
def State.clearTelemetry (s : State) : State :=
  s.each (s.links.map (·.1)) fun s n => s.modLink n fun l => { l with vfAcc := [], chflt := 0 }

/-- `LOOP.SVC`: the last stroke, and the largest (R149). -/
def State.noteService (s : State) (svc : Nat) : State :=
  let v := min svc 65535
  (s.put Reg.LOOP_SVC 15 0 v).put Reg.LOOP_SVC 31 16 (max v (s.get Reg.LOOP_SVC 31 16))

/-- The services of the stroke of boundary `b`. -/
def State.servePass (s : State) (b : Nat) (env : StrokeEnv) : State :=
  let x := s.serveOrder.foldl (serveOne b env s.activePairs) { s := s }
  let s := x.s.put Reg.LOOP_STAT 8 0 x.served
  let s := s.replacePairs x.retired
  s.when (!x.retired.isEmpty && s.activePairs.isEmpty) State.lanesOut

/-- An injected launch miss of class STROKE leaves every served channel unserved (R31, R537). -/
def State.injMiss (s : State) (env : StrokeEnv) : StrokeEnv :=
  if s.injFires 0x001 0x10 0 then { env with missed := s.channels } else env

/-- Kinds that Feather tests at their instants (R181): TIME, DIN, MSG, BARRIER. -/
def featherKind (w : Word) : Bool :=
  kindOf w == 1 || kindOf w == 2 || kindOf w == 13 || kindOf w == 14 || kindOf w == 15

/-- One of them holds for the resting channel `k`. -/
def State.featherHolds (s : State) (k b : Nat) : Bool :=
  let w : Window := { idx := b }
  (s.termsHeld k w).any (fun n => featherKind (s.stepWord k (8 + n))) ||
    (s.limitsHeld k w).any (fun n => featherKind (s.stepWord k (12 + n)))

/-- A stroke in Feather (R181, R559): no service; the guard looks at the base samples of wake and check windows. -/
def State.featherStroke (s : State) (b : Nat) (env : StrokeEnv) : State :=
  let s := s.guardPass b env
  let s := s.each (s.channels.filter s.chRuns) fun s k =>
    (s.modCtl k fun c => { c with wins := [] }).when (s.featherHolds k b) State.wakeSelf
  s.clearTelemetry

/-- What a stroke boundary does (R111 to R121). -/
def State.stroke (s : State) (env : StrokeEnv) : State :=
  if !s.atBoundary then s
  else
    let b := s.strobeIdx
    let env := s.injMiss env
    let s := (s.injStep 0x001 0x10 0).takeGains.capture 33 (strobeNs b)
    let s := s.each s.channels fun s k => s.closeWindow k b
    let missed := env.missed.filter fun k => s.hasCh k && s.chRuns k
    let s := s.boundaryStops
    if s.pg 0x030 = 4 then s.clearTelemetry
    else if s.feather then s.featherStroke b env
    else
      let s := (s.storeFaults env).guardPass b env
      let s := s.kelvinPass
      let s := s.servePass b env
      let s := s.each missed fun s k => s.modCtl k fun c => { c with unserved := true }
      let s := (s.launch 0 env.slack).noteService env.svc
      let s := { s with strokes := s.strokes + 1 }
      s.crewReports.clearTelemetry

/-! ### Meanings -/

/-- R111. -/
def execStrokeBoundary (env : StrokeEnv) (s : State) : Answer := .next (if s.halted then s else s.stroke env)

/-- One channel that the stroke did not serve (R31, R119). -/
def State.overrun (s : State) (k : Nat) : State :=
  if !(s.ctl k).unserved then s
  else
    let s := s.modCtl k fun c => { c with unserved := false, miss := c.miss + 1 }
    let s := (s.count Reg.LOOP_OVR_CNT 31 0).count (Reg.CH_TRIP k) 15 0
    let s := s.setBit (Reg.CH_STAT k) 12 true
    let s := (s.missLaunch 0).raise 0x030 8
    let lim := s.get Reg.LOOP_CFG 15 12
    if lim ≠ 0 && decide (lim ≤ (s.ctl k).miss) && s.chLive k then s.tripAt k 11 s.boundary else s

/-- R31, R119: the stroke deadline passes. -/
def execStrokeDeadline (s : State) : Answer := .next (s.each s.channels fun s k => s.overrun k)

/-- R131. -/
def execGainCommit (v : Word) (s : State) : Answer :=
  .next (if s.has 0x030 then { s with gainReq := s.gainReq ||| (v &&& 0x0000FFFF) } else s)

/-- R135: `GO` is set, or ignored while it reads 1. -/
def execAccSelGo (k : Nat) (s : State) : Answer :=
  answer (decide (k < 256))
    (if !s.has 0x030 then s
     else if s.bit Reg.LOOP_ACC_SEL 31 then s.raise 0x030 1
     else s.wrN Reg.LOOP_ACC_SEL (k + 2 ^ 31))

/-- The 96-bit words of an integrator (R17, R149). -/
def State.wr96 (s : State) (w : Nat) (v : Int) : State :=
  let u := Word.unsigned 96 v
  ((s.wrN (Reg.LOOP_ACC w) u).wrN (Reg.LOOP_ACC (w + 1)) (u / 2 ^ 32)).wrN (Reg.LOOP_ACC (w + 2)) (u / 2 ^ 64)

/-- R135: the six integrators and the strobe index are latched. -/
def execAccLatch (s : State) : Answer :=
  .next (if s.bit Reg.LOOP_ACC_SEL 31 then
    let c := s.ctl (s.get Reg.LOOP_ACC_SEL 7 0)
    let s := (((s.wr96 0 c.qchg).wr96 3 c.qdis).wr96 6 c.echg).wr96 9 c.edis
    let s := (s.wr96 12 c.qstep).wr96 15 c.estep
    let s := s.wr64 Reg.LOOP_ACC_SIDX_LO Reg.LOOP_ACC_SIDX_HI s.strobeIdx
    (s.setBit Reg.LOOP_ACC_SEL 31 false).raise 0x030 11
  else s)

/-- The boundary whose service executes a channel command: the latest one, or the latest strobe where the loop engine
has no stroke. -/
def State.cmdBoundary (s : State) : Nat := if s.nStroke = 0 then s.strobeIdx else s.boundary

/-- A channel command executed in the service of the latest boundary; one that changes the step replaces the points
that this service had committed (R117, R138). -/
def State.chanRow (s : State) (k op seat : Nat) : State :=
  let b := s.cmdBoundary
  let r := s.chanOp k op seat b
  let s := r.1
  if r.2 = 0 && (op == 2 || op == 3 || op == 4 || op == 5 || op == 8) && s.chRuns k then
    let s := s.modProg k fun p => { p with frames := p.frames - (s.ctl k).nxtF }
    let s := s.modCtl k fun c => { c with nxt := [], nxtF := 0 }
    s.serveTail k b [(s.ctl k).lastWin]
  else s

/-- R138, op 0. -/
def execChNop (k seat : Nat) (s : State) : Answer := answer (wfChan k seat) (s.chanRow k 0 seat)
/-- R140, op 1. -/
def execChArm (k seat : Nat) (s : State) : Answer := answer (wfChan k seat) (s.chanRow k 1 seat)
/-- R138, op 2. -/
def execChStart (k seat : Nat) (s : State) : Answer := answer (wfChan k seat) (s.chanRow k 2 seat)
/-- R138, op 3. -/
def execChPause (k seat : Nat) (s : State) : Answer := answer (wfChan k seat) (s.chanRow k 3 seat)
/-- R138, op 4. -/
def execChResume (k seat : Nat) (s : State) : Answer := answer (wfChan k seat) (s.chanRow k 4 seat)
/-- R138, op 5. -/
def execChStop (k seat : Nat) (s : State) : Answer := answer (wfChan k seat) (s.chanRow k 5 seat)
/-- R138, op 6. -/
def execChSafe (k seat : Nat) (s : State) : Answer := answer (wfChan k seat) (s.chanRow k 6 seat)
/-- R142, op 7. -/
def execChClear (k seat : Nat) (s : State) : Answer := answer (wfChan k seat) (s.chanRow k 7 seat)
/-- R138, op 8. -/
def execChHold (k seat : Nat) (s : State) : Answer := answer (wfChan k seat) (s.chanRow k 8 seat)
/-- R138: ops 9 to 15 complete BAD_STATE. -/
def execChReservedOp (k seat op : Nat) (s : State) : Answer :=
  answer (wfChan k seat && decide (9 ≤ op) && decide (op < 16)) (s.chanRow k op seat)

/-- The ramp to 0 of a channel has reached its end: every frame point sent and committed is 0. -/
def State.rampDone (s : State) (k : Nat) : Bool :=
  let c := s.ctl k
  c.ending && s.rd (Reg.CH_DMD k) == 0 && (c.cur ++ c.nxt).all fun p => p.dmd == 0

/-- R138: the channel disconnects and enters IDLE. -/
def execRampToIdle (k : Nat) (s : State) : Answer :=
  answer (decide (k < 256)) (if s.hasCh k && s.chRuns k && s.rampDone k then s.enterIdle k else s)

end Sys2Proof.Machine
end

