-- ==== Sys2Proof/Machine/Rest.lean ====
section
/-!
DEFINITION. Resting channels in the Feather state (R181, R212, R214, R559): rest wakes with the terminations and limits that
they test, converters, and check windows.
-/
namespace Sys2Proof.Machine

/-- A word of kind V, T or DVDT holds on the averages of a rest wake: `v` and, of the wake before, `old` in µV, `t` in 0.01 K,
`w` minutes between them (R181, log 35). -/
def restHolds (v t : Int) (old : Option Int) (w : Nat) (word : Word) : Bool :=
  let thr := thrOf word
  let slope := fun (o : Int) => (((v - o) * 1000).natAbs : Int)
  match kindOf word with
  | 3 => decide (thr ≤ v)
  | 4 => decide (v ≤ thr)
  | 9 => (match old with
    | some o => decide (slope o ≤ thr * (60 * w))
    | none => false)
  | 10 => (match old with
    | some o => decide (thr * (60 * w) ≤ slope o)
    | none => false)
  | 11 => decide (t ≠ -32768) && decide (thr ≤ t)
  | 12 => decide (t ≠ -32768) && decide (t ≤ thr)
  | _ => false

/-- The limits and terminations of channel `k` on a rest wake in Feather: one that fires is kept for the first service of Run,
and the device asks to wake. -/
def State.restTest (s : State) (k : Nat) (before : Trend) : State :=
  let t := s.trend k
  if !s.feather || t.gap || !s.chRuns k || !(s.prog k).live then s
  else
    let old := if before.m = 0 then none else some before.lastV
    let f := fun (w : Word) => restHolds t.lastV t.lastT old t.w w
    let lim := (List.range 4).find? fun n => f (s.stepWord k (12 + n)) && s.limitAct k n != 3
    let term := (List.range 4).find? fun n => f (s.stepWord k (8 + n))
    match lim, term with
    | some n, _ => (s.modProg k fun p => { p with due := some (n + 4) }).wakeSelf
    | none, some n => if s.chState k = 2 then (s.modProg k fun p => { p with due := some n }).wakeSelf else s
    | none, none => s

/-- R212. -/
def execRestTrendWake (k : Nat) (s : State) : Answer :=
  answer (decide (k < 256))
    (if s.hasCh k && s.running 0x035 then
      let before := s.trend k
      let s := s.trendWake k
      (if (s.trend k).m = before.m then s else s.restTest k before).convertersDown (k / 128)
    else s)

/-- R214: 11 s before a wake. -/
def execTrendConverterPowerUp (d : Nat) (s : State) : Answer := answer (decide (d < 2)) (s.powerConverters d)

/-- REST and OCVHOLD channels of die `d` without a trend. -/
def State.checkChannels (s : State) (d : Nat) : List Nat :=
  s.channels.filter fun k => k / 128 == d && s.chRuns k && (s.chMode k == 0 || s.chMode k == 9) && !(s.trend k).active

/-- A check window opens on each die that has such channels (R559). -/
def State.checkWindow (s : State) : State :=
  if !s.feather then s
  else
    s.each ((List.range 2).filter fun d => s.hasDie d && !(s.checkChannels d).isEmpty) fun s d =>
      s.modDie d fun x => { x with converters := true, checkEnd := some (s.now + 10000000000) }

def execFeatherCheckWindow (s : State) : Answer := .next s.checkWindow

end Sys2Proof.Machine
end

