-- ==== Sys2Proof/Machine/Boot.lean ====
section
/-!
DEFINITION. Images and the boot chain (R500, R501, R503), reset triggers and their records (R546 to R551), the start of a release
of domain D with Easy mode (R565 to R571), and the recovery commands (R572).
-/
namespace Sys2Proof.Machine

def State.setPower (s : State) (p : Power) : State := { s with power := p }

/-! ### Images -/

/-- A field of a list of bytes. -/
def fieldAt (b : List Byte) (o n : Nat) : Nat := ofLeBytes ((b.drop o).take n)
def bytesAt (b : List Byte) (o n : Nat) : List Byte := (b.drop o).take n

def bankSize : Nat := 0x2000000

/-- `PARTS` bit of a part (R500). -/
def Part.imageBit : Part → Nat
  | .yk2561 => 0
  | .yk1281 => 1
  | .yk2560 => 2
  | .yk0001 => 3

/-- Entry `i` of the section table of a header. -/
def sectAt (h : List Byte) (i : Nat) : List Byte := bytesAt h (64 + 80 * i) 80

/-- Check 2 of R501. -/
def imageFormat (h : List Byte) : Bool :=
  let n := fieldAt h 6 2
  let good := fun i =>
    let e := sectAt h i
    let (t, o, l) := (fieldAt e 0 1, fieldAt e 4 4, fieldAt e 8 4)
    fieldAt e 1 3 == 0 && fieldAt e 12 4 == 0 &&
      (if i < n then decide (1 ≤ t) && decide (t ≤ 3) && decide (3072 ≤ o) && decide (o + l ≤ bankSize) else t == 0)
  fieldAt h 4 2 == 1 && decide (1 ≤ n) && decide (n ≤ 8) && fieldAt h 64 1 == 1 && (List.range 8).all good &&
    decide (fieldAt h 12 4 < 2) && fieldAt h 28 36 == 0 && fieldAt h 704 320 == 0

/-- The digest of section `i` of bank `b` equals its entry. -/
def State.sectionOk (s : State) (b : Nat) (h : List Byte) (i : Nat) : Bool :=
  let e := sectAt h i
  sha512 (s.flashRead b (fieldAt e 4 4) (fieldAt e 8 4)) == bytesAt e 16 64

/-- A signature in the header over its first `n` bytes, at `sig`, under the modulus at `m`. -/
def headSigned (h : List Byte) (n sig m : Nat) : Bool :=
  pssVerify (ofBe (bytesAt h m 512)) 65537 (sha512 (h.take n)) (bytesAt h sig 512)

/-- The check code of bank `b` (R501): the STAGE1 section alone, or every section with `full`. -/
def State.imageCode (s : State) (b : Nat) (full readOk : Bool) : Nat :=
  let h := s.flashRead b 0 3072
  let svn := fieldAt h 8 4
  let secs := if full then fieldAt h 6 2 else 1
  if fieldAt h 0 4 ≠ 0x4B594D49 then 1
  else if !imageFormat h then 2
  else if !(fieldAt h 24 4).testBit s.part.imageBit then 3
  else if sha512 (bytesAt h 2048 512) ≠ toBe 64 Config.vkh then 4
  else if !headSigned h 1024 1024 2048 then 5
  else
    let own := match s.okhNow with
      | none => 0
      | some k =>
        if !(fieldAt h 12 4).testBit 0 || sha512 (bytesAt h 2560 512) ≠ k then 6
        else if !headSigned h 1536 1536 2560 then 7
        else 0
    if own ≠ 0 then own
    else if svn < s.floor || 64 < svn then 8
    else if !(List.range secs).all fun i => s.sectionOk b h i then 9
    else if !readOk then 10
    else 0

/-! ### Resets (R546 to R551) -/

def State.done (s : State) : Bool := s.bit Reg.BOOT_STAT 1
def State.fails (s : State) : Nat := s.get Reg.BOOT_SEL 9 8

/-- A failed start: `FAILS` and the count rise, and the code is kept (R567). -/
def State.failStart (s : State) (code : Nat) : State :=
  let s := (s.put Reg.BOOT_SEL 9 8 (min 3 (s.fails + 1))).count Reg.BOOT_COUNT 31 16
  s.setPower { s.power with lastFail := code }

/-- Operating seconds since the latest flush are added (R581). -/
def State.opFlush (s : State) : State :=
  let s' := s.wr64 Reg.LIFE_OPSEC_LO Reg.LIFE_OPSEC_HI (s.rd64 Reg.LIFE_OPSEC_LO Reg.LIFE_OPSEC_HI + s.power.opSec)
  s'.setPower { s.power with opSec := 0 }

/-- A reset starts: its record, and the count of a start that it makes a failed one. A trigger during a reset, or with
domain D held cleared, adds nothing (log 37). -/
def State.trigger (s : State) (cause : Nat) (fail : Option Nat) : State :=
  if s.halted then s
  else
    let s := s.opFlush
    let s := match fail with
      | some code => if s.done then s else s.failStart code
      | none => s
    s.setPower { s.power with cause := some cause, records := ((cause, s.tbSec, s.fails) :: s.power.records).take 64 }

/-- The firmware starts: M0 and M1 are extended by the running image, M2 by the digest of its configuration, a free value
(R502). -/
def State.measureBoot (s : State) : State :=
  let h := s.flashRead s.bank 0 3072
  let s := s.extend 0 (sha512 (h.take 1536))
  let s := s.each ((List.range (fieldAt h 6 2)).drop 1) fun s i => s.extend 1 (bytesAt (sectAt h i) 16 64)
  ({ s with free := s.free + 64 }).extend 2 (s.freeBytes 64)

/-- A management restart (R551), with the record that the restarted firmware writes (R586). -/
def State.mgmtRestart (s : State) : State :=
  if s.halted then s
  else if s.easy || s.imageCode s.bank false true ≠ 0 then s.trigger 3 (some 3)
  else
    let s := s.clearM.measureBoot
    let s := ((s.setBit Reg.BOOT_STAT 3 true).count Reg.RST_CNT 31 16).raise 0x002 8
    let s := s.setPower { s.power with restart := some s.tbSec }
    s.useFree.writeCrumb 3 s.freeWord

/-- A write of `RST.CTRL` with its key (R576). -/
def State.rstCtrl (s : State) (v : Word) (bit : Nat) (f : State → State) : State :=
  if v.fld 31 16 ≠ 0xC10D then s.raise 0x002 1 else if v.getLsbD bit then f s else s

def execRstDevrst (v : Word) (s : State) : Answer := .next (s.rstCtrl v 0 fun s => s.trigger 4 none)
def execRstMgmtrst (v : Word) (s : State) : Answer := .next (s.rstCtrl v 1 State.mgmtRestart)
/-- R547. -/
def execResetNLow (s : State) : Answer := .next (s.trigger 2 none)

/-- R550. A restart counts as completed when the watchdog next expires. -/
def State.watchdog (s : State) : State :=
  let s := s.injStep 0x002 0x10 0
  if s.halted then s
  else if !s.done then s.trigger 3 (some 3)
  else
    match s.power.restart with
    | some t => if s.tbSec ≤ t + 600 then s.trigger 3 (some 3) else s.mgmtRestart
    | none => s.mgmtRestart

def execMgmtWatchdogExpiry (s : State) : Answer := .next s.watchdog

/-- R550, second stage. -/
def execWatchdogReset (s : State) : Answer := .next (if s.power.restart.isSome then s.trigger 3 (some 3) else s)

/-- R546: 1 ms after REC_RESTART. -/
def execFirmwareReset (s : State) : Answer := .next (if s.power.recDue then s.trigger 4 none else s)

/-- R567. -/
def execBootTimerExpiry (s : State) : Answer := .next (if s.done || s.easy then s else s.trigger 5 (some 1))
def execBootHashFail (s : State) : Answer := .next (if s.done || s.easy then s else s.trigger 5 (some 5))

/-- R566. -/
def execBootComplete (s : State) : Answer :=
  .next
    (if s.halted || s.done || s.easy then s
    else (((s.wr Reg.BOOT_TIMER 0).setBit Reg.BOOT_STAT 1 true).put Reg.BOOT_SEL 9 8 0).raise 0x003 8)

/-- R588: the crumb record, then the reset. -/
def execFatalError (code : Word) (s : State) : Answer :=
  .next (if s.halted || s.easy then s else (s.writeCrumb 1 code).trigger 6 (some 4))

/-! ### The start (R503, R565 to R570) -/

/-- The attestation key that the firmware or the ROM restores (R517). -/
def State.loadAttKey (s : State) : State :=
  let n := s.get Reg.ATT_KSLOT 5 0
  if n < 8 || !s.rootOk then s
  else
    s.setKeySlot n
      { cur := some { typ := 3, usage := 4, parent := 1, pgen := s.keyGen 1, depth := 1, kid := Config.attKid % 2 ^ 32
                      mat := toBe 1796 Config.attMat } }

/-- Pages that run in Easy mode (R570). -/
def easyPages : List Nat := [0x0A0, 0x0C0, 0x0D0, 0x0D1, 0x0D2, 0x0F8]

/-- Easy mode is entered with a reason. -/
def State.easyEnter (s : State) (reason : Nat) (readBad : List Nat) : State :=
  let s := s.wrN Reg.BOOT_EASY_REASON (reason + 256 * s.power.lastFail)
  let s := (s.put Reg.BOOT_CHK 7 0 (s.imageCode 0 false (!readBad.contains 0))).put Reg.BOOT_CHK 15 8
    (s.imageCode 1 false (!readBad.contains 1))
  let s := (s.wr Reg.BOOT_TIMER 0).setBit Reg.BOOT_STAT 2 true
  let s := s.each (easyPages.filter s.has) fun s p => s.setPg p 3
  let s := s.each s.channels fun s k => (s.put (Reg.CH_STAT k) 2 0 5).put (Reg.CH_FCAUSE k) 7 0 38
  let s := s.when (s.has 0x0A0) fun s =>
    s.each (List.range (if s.part.hasSwitch then 12 else 2)) fun s p => s.setBit (Reg.PORT_CFG p) 0 (p == 0)
  let s : State := { s with fc := { s.fc with force := true } }
  let s := s.loadAttKey
  let s := if reason = 2 then s else s.writeCrumb 2 (s.rd Reg.BOOT_EASY_REASON)
  s.raise 0x003 9

/-- The ROM loads the image of bank `b`. -/
def State.loadBank (s : State) (b : Nat) : State :=
  let s := (s.put Reg.BOOT_STAT 0 0 b).put Reg.BOOT_STAT 15 8 (s.fails + 1)
  let s := s.put Reg.KEY_ROLL 23 16 (fieldAt (s.flashRead b 0 3072) 8 4)
  s.measureBoot.loadAttKey

/-- A bank is checked, and its code recorded. -/
def State.checkBank (s : State) (b : Nat) (readBad : List Nat) : State × Bool :=
  let c := s.imageCode b false (!readBad.contains b)
  (s.put Reg.BOOT_CHK (8 * b + 7) (8 * b) c, c == 0)

/-- The ROM picks a bank (R565), or none (R567). -/
def State.rom (s : State) (life : Nat) (readBad : List Nat) : State :=
  let s := s.count Reg.BOOT_COUNT 15 0
  let roll := s.floor
  let s := (s.put Reg.KEY_ROLL 7 0 roll).put Reg.KEY_ROLL 15 8 roll
  if life ≠ 0 then s.easyEnter 2 readBad
  else if s.fails = 3 then s.easyEnter 1 readBad
  else if !s.bit Reg.KEY_FUSE 0 then s.easyEnter 3 readBad
  else
    let pref := s.get Reg.BOOT_SEL 0 0
    let first := if s.fails = 1 then 1 - pref else pref
    let r := s.checkBank first readBad
    if r.2 then r.1.loadBank first
    else
      let q := r.1.checkBank (1 - first) readBad
      if q.2 then q.1.loadBank (1 - first) else q.1.trigger 5 (some 2)

/-- R571: the announcement of the ROM on E0. -/
def State.announcement (s : State) : List Byte :=
  let payload := leBytes 2 1 ++ leBytes 4 (s.rd Reg.DEV_PARTNUM).toNat ++ serialBytes ++
    leBytes 4 (s.rd Reg.BOOT_EASY_REASON).toNat ++ leBytes 2 (s.get Reg.BOOT_CHK 15 0) ++ leBytes 1 s.fails ++
    leBytes 1 (s.get Reg.BOOT_SEL 0 0) ++ leBytes 4 s.floor
  List.replicate 6 0xFF ++ [0x02] ++ leBytes 5 Config.serial ++ [0x88, 0xB5] ++ (payload ++ List.replicate 46 0).take 46

def execEasyAnnounce (s : State) : Answer :=
  .next (if s.easy && !s.halted then s.send (.ethFrame 0 s.announcement true) else s)

/-! ### Recovery (R572) -/

/-- Op 32. -/
def recInfoBody : MbxBody := fun s _ =>
  accept s
    [s.rd Reg.BOOT_EASY_REASON,
      BitVec.ofNat 32 (s.get Reg.BOOT_CHK 15 0 + 65536 * s.fails + 2 ^ 24 * s.get Reg.BOOT_SEL 0 0), BitVec.ofNat 32 s.floor,
      BitVec.ofNat 32 (if s.easy then 0xFF else s.bank)]

def execRecInfo (s : State) : Answer := .next (s.mbxRun 32 true recInfoBody)

/-- The bank of W1; its other bits are reserved. -/
def State.argBank (s : State) : Nat := (s.arg 1).fld 0 0
def State.badBank (s : State) : Bool := (s.arg 1).fld 31 1 != 0

/-- A write of the running bank outside Easy mode. -/
def State.ownBank (s : State) (b : Nat) : Bool := !s.easy && s.bank == b

/-- Op 33. -/
def recEraseBody : MbxBody := fun s _ =>
  let b := s.argBank
  if s.badBank || s.ownBank b then refuse s 2
  else
    accept
      { s with flash := s.flash.filter fun (e : Nat × Byte) => e.1 / bankSize != b
               flashPages := s.flashPages.filter fun p => p / (bankSize / 256) != b }

def execRecErase (s : State) : Answer := .next (s.mbxRun 33 true recEraseBody)

/-- Bytes programmed into the flash from an address on. -/
def flashWrite (m : List (Nat × Byte)) (a : Nat) : List Byte → List (Nat × Byte)
  | [] => m
  | b :: bs => flashWrite (Sparse.set 0xFF m a b) (a + 1) bs

/-- Op 34: the region must have been erased since its last write. -/
def recWriteBody (data : List Byte) : MbxBody := fun s _ =>
  let b := s.argBank
  let off := (s.arg 2).toNat
  let len := (s.arg 5).toNat
  let pages := (List.range (len / 256)).map fun i => (b * bankSize + off) / 256 + i
  if s.badBank || s.ownBank b || off % 256 ≠ 0 || len % 256 ≠ 0 || len < 256 || 65536 < len || bankSize < off + len ||
      pages.any (fun p => s.flashPages.contains p) then refuse s 2
  else
    accept
      { s with flash := flashWrite s.flash (b * bankSize + off) ((data ++ List.replicate len 0).take len)
               flashPages := pages ++ s.flashPages }

def execRecWrite (data : List Byte) (s : State) : Answer := .next (s.mbxRun 34 true (recWriteBody data))

/-- Op 35. -/
def recVerifyBody (readOk : Bool) : MbxBody := fun s _ =>
  if s.badBank then refuse s 2 else accept s [BitVec.ofNat 32 (s.imageCode s.argBank true readOk)]

def execRecVerify (readOk : Bool) (s : State) : Answer := .next (s.mbxRun 35 true (recVerifyBody readOk))

/-- Op 36. -/
def recSelectBody (readOk : Bool) : MbxBody := fun s _ =>
  let c := s.imageCode s.argBank true readOk
  if s.badBank then refuse s 2
  else if c ≠ 0 then (s, some (10, [BitVec.ofNat 32 c]))
  else accept (s.put Reg.BOOT_SEL 0 0 s.argBank) [0]

def execRecSelect (readOk : Bool) (s : State) : Answer := .next (s.mbxRun 36 true (recSelectBody readOk))

/-- Op 37. -/
def recRestartBody (readOk : Bool) : MbxBody := fun s _ =>
  let c := s.imageCode (s.get Reg.BOOT_SEL 0 0) true readOk
  if c ≠ 0 then (s, some (10, [BitVec.ofNat 32 c]))
  else
    let s := s.put Reg.BOOT_SEL 9 8 0
    accept (s.setPower { s.power with recDue := true })

/-- R573. -/
def execRecRestart (readOk : Bool) (s : State) : Answer := .next (s.mbxRun 37 true (recRestartBody readOk))

end Sys2Proof.Machine
end

