-- ==== Sys2Proof/Machine/SwitchBuffer.lean ====
section
/-!
DEFINITION. The buffer of the switch core (13_switch_core.md), its captures, and what a port's end discards: what a change of
reachability needs.
-/
namespace Sys2Proof.Machine

def State.setSw (s : State) (w : Switch) : State := { s with sw := w }

/-- The part has the switch port (R1, R10). -/
def State.hasPort (s : State) (p : Nat) : Bool := if s.part.hasSwitch then decide (p < 22) else decide (p < 2)

/-- `PORT[p].CFG`; tunnels, MGMT and SNIC have none and take its reset value with the largest `MTU` (log 16); a management
port has `EN` alone and an `MTU` of 1,522 (R430). -/
def State.portCfg (s : State) (p : Nat) : Word :=
  if !s.part.hasSwitch then BitVec.ofNat 32 (1522 * 65536 + s.get (Reg.PORT_CFG p) 0 0)
  else if p < 12 then s.rd (Reg.PORT_CFG p)
  else 0x24000003

/-- State of a tunnel. -/
def State.tunState (s : State) (t : Nat) : Nat := s.get (Reg.TUN_STAT t) 1 0

/-- A counter of an Ethernet port; other ports have none. -/
def State.portCount (s : State) (p a hi lo : Nat) (n : Nat := 1) : State := if p < 12 then s.count a hi lo n else s

/-- Bytes of a frame from destination address to FCS (R410). -/
def frameLen (b : List Byte) : Nat := b.length + 4

/-- Cells of a frame (R416). -/
def frameCells (b : List Byte) : Nat := (frameLen b + 255) / 256

/-! ### Buffer (R416, R417) -/

def State.swFrame (s : State) (f : Nat) : SwFrame := Sparse.get { bytes := [], inPort := 0, ts := 0, vid := 0, pcp := 0, cls := 0 } s.sw.swFrames f
def State.swQueue (s : State) (q : Nat) : List SwCopy := Sparse.get [] s.sw.swQueues q
def State.setSwQueue (s : State) (q : Nat) (l : List SwCopy) : State := s.setSw { s.sw with swQueues := Sparse.set [] s.sw.swQueues q l }

/-- Every copy that is queued. -/
def State.swCopies (s : State) : List SwCopy := s.sw.swQueues.flatMap fun e => e.2

/-- Cells of the on-die buffer in use: those of each frame with a copy on die, once. -/
def State.onDie (s : State) : Nat :=
  let live := s.swCopies
  (s.sw.swFrames.map fun e => if live.any fun c => c.frame == e.1 && !c.spilled then frameCells e.2.bytes else 0).sum

/-- Cells of a queue. -/
def State.queueCells (s : State) (q : Nat) : Nat := ((s.swQueue q).map fun c => frameCells (s.swFrame c.frame).bytes).sum

/-- Bytes of the spill region in use, in whole cells. -/
def State.spillBytes (s : State) : Nat :=
  ((s.swCopies.filter fun c => c.spilled).map fun c => 256 * frameCells (s.swFrame c.frame).bytes).sum

/-- Frames whose last copy has gone leave the buffer; the buffer's registers follow (R421, R431). -/
def State.swFollow (s : State) : State :=
  let live := s.swCopies
  let s := s.setSw { s.sw with swFrames := s.sw.swFrames.filter fun e => live.any fun c => c.frame == e.1 }
  let n := s.onDie
  let s := (s.put Reg.SW_BUF 14 0 n).put Reg.SW_BUF 30 16 (max n (s.get Reg.SW_BUF 30 16))
  let s := s.wrN Reg.SW_SPILL_STAT (((live.filter fun c => c.spilled).map fun c => c.frame).eraseDups).length
  let low := decide (100 * n < s.get Reg.SW_SPILL_CFG 31 24 * 24576)
  let s := s.setSw { s.sw with
    swSpill := s.sw.swSpill.filter fun q => !low || (s.swQueue q).any fun c => c.spilled }
  s.each (List.range 12) fun s p =>
    s.setBit (Reg.PORT_STAT p) 4 ((List.range 8).any fun c => (s.swQueue (8 * p + c)).any fun x => x.spilled)

/-! ### Mirroring (R424) -/

/-- The 160-byte entry of a capture. -/
def mirEntry (f : SwFrame) (m time out why : Nat) : List Byte :=
  let head := leBytes 8 time ++ leBytes 2 (frameLen f.bytes) ++ [BitVec.ofNat 8 f.inPort, BitVec.ofNat 8 out,
    BitVec.ofNat 8 (why + 8 * f.cls + 64 * f.colour), BitVec.ofNat 8 m] ++ leBytes 2 f.vid ++ leBytes 12 0
  let hdr := (f.bytes ++ List.replicate 128 0).take 128
  head ++ leBytes 4 (crc32c (head ++ hdr)).toNat ++ hdr

/-- A session captures: its entry is written and `PROD` advances, or the ring is full, or lies where there is no memory
(log 58). -/
def State.mirCapture (s : State) (f : SwFrame) (m time out why : Nat) : State :=
  let prod := (s.rd (Reg.MIR_PROD m)).toNat
  let depth := 2 ^ s.get (Reg.MIR_CFG m) 12 8
  let at_ := (s.mirrorArea m).1 + 160 * (prod % depth)
  if depth ≤ (prod + 2 ^ 32 - (s.rd (Reg.MIR_CONS m)).toNat) % 2 ^ 32 || !s.dramHas at_ 160 then s.count (Reg.MIR_LOST m) 31 0
  else (s.dramWrite at_ (mirEntry f m time out why)).wrN (Reg.MIR_PROD m) (prod + 1)

/-- A frame or copy that a session selects: one in `SAMPLE` is captured. -/
def State.mirTake (s : State) (f : SwFrame) (m time out why : Nat) : State :=
  let n := max 1 (s.get (Reg.MIR_CFG m) 31 16)
  let k := Sparse.get 0 s.sw.mirSkip m + 1
  if n ≤ k then (s.setSw { s.sw with mirSkip := Sparse.set 0 s.sw.mirSkip m 0 }).mirCapture f m time out why
  else s.setSw { s.sw with mirSkip := Sparse.set 0 s.sw.mirSkip m k }

/-- The sessions that `sel` selects capture a frame. -/
def State.mirror (s : State) (f : SwFrame) (time out why : Nat) (sel : State → Nat → Bool) : State :=
  if !s.running 0x0A6 then s
  else
    s.each ((List.range 4).filter fun m => s.bit (Reg.MIR_CFG m) 0 && sel s m) fun s m => s.mirTake f m time out why

def State.mirDrop (s : State) (f : SwFrame) (p why : Nat) : State := s.mirror f f.ts p why fun s m => s.bit (Reg.MIR_CFG m) 1

/-! ### The MAC table's dynamic entries (R413) -/

def State.setMacs (s : State) (l : List MacEnt) : State :=
  let s := s.setSw { s.sw with macs := l, macFull := s.sw.macFull && l.length == 16384 }
  s.wrN Reg.MAC_COUNT (l.length + 65536 * (l.filter fun e => e.static).length)

/-- Dynamic entries of the masked ports leave the table. -/
def State.macFlush (s : State) (mask : Nat) : State := s.setMacs (s.sw.macs.filter fun e => e.static || e.mask &&& mask == 0)

/-! ### Flushes (R422) -/

/-- The queued copies of a port are discarded, on die and spilled. -/
def State.flushPort (s : State) (p : Nat) : State :=
  let gone := (List.range 8).flatMap fun c => s.swQueue (8 * p + c)
  let s := s.portCount p (Reg.PORT_FLUSH p) 31 0 gone.length
  let s := s.each gone fun s c => s.mirDrop (s.swFrame c.frame) p 6
  let s := s.each (List.range 8) fun s c => s.setSwQueue (8 * p + c) []
  s.swFollow

/-- A port leaves UP: its queues are flushed, and its dynamic MAC entries removed unless `KEEP_MAC` is set. -/
def State.portFlush (s : State) (p : Nat) : State :=
  let s := if s.part.hasSwitch then s.flushPort p else s
  if (s.portCfg p).getLsbD 2 then s else s.macFlush (2 ^ p)

/-! ### Tunnels (R425) -/

/-- A tunnel may be up: its peer is reachable and has a path; that the peer's tunnel names this one is taken for granted
(log 18). -/
def State.tunReady (s : State) (t : Nat) : Bool :=
  let dev := s.get (Reg.TUN_CFG t) 8 0
  s.running 0x0A7 && s.bit (Reg.TUN_CFG t) 15 && s.fab.known.contains dev && s.canReach dev

/-- Tunnels follow their page and the reachability of their peers. -/
def State.tunFollow (s : State) : State :=
  s.each (List.range 8) fun s t =>
    if s.tunReady t then s.put (Reg.TUN_STAT t) 1 0 2
    else if s.tunState t = 2 then
      let s := (s.put (Reg.TUN_STAT t) 1 0 0).portFlush (12 + t)
      s.setSw { s.sw with tunAsm := s.sw.tunAsm.filter fun x => x.tun != t }
    else s

end Sys2Proof.Machine
end

