-- ==== Sys2Proof/Machine/Bruil.lean ====
section
/-!
DEFINITION. The Bruil links and the routing page (09_bruil_fabric.md): flits and replay, identity, failover, the delivery of
packets, posted-write acknowledgements, fences, TIME flits and fabric sleep.
-/
namespace Sys2Proof.Machine

def blPage (n : Nat) : Nat := 0x060 + n

/-! ### Identity (R305 to R307) -/

/-- What this device sends in IDENT on link `n`. -/
def State.identOf (s : State) (n : Nat) : Peer :=
  let c := s.xyz s.devId
  let sh := s.shape
  { id := if s.idValid then some s.devId else none
    x := c.1, y := c.2.1, z := c.2.2, sx := sh.1, sy := sh.2.1, sz := sh.2.2
    wrap := s.get Reg.RTG_CFG 4 2, dir := s.linkDir n, link := n, serial := Config.serial }

/-- A direction of one of the three dimensions. -/
def directional (d : Nat) : Bool := decide (1 ≤ d) && decide (d ≤ 6)

/-- Why an identity is refused (R306); none: accepted. -/
def State.refusal (s : State) (n : Nat) (p : Peer) : Option Nat :=
  let d := s.linkDir n
  let me := s.xyz s.devId
  let pid := p.id.getD 0
  if p.serial = Config.serial then some 4
  else if (p.sx, p.sy, p.sz) != s.shape || p.wrap != s.get Reg.RTG_CFG 4 2 then some 3
  else if directional d && (p.dir != opposite d) then some 3
  else if !directional d && directional p.dir then some 3
  else if pid = s.devId then some 1
  else if directional d && s.stepDir me d != some (p.x, p.y, p.z) then some 3
  else if s.fab.known.contains pid && (match Sparse.find? s.fab.topo pid with
      | some t => t.1 != p.serial
      | none => false) then some 1
  else none

/-- AGREE reaches a device (R326): before C it will sleep; after C it does not, and it wakes the others at Z. -/
def State.agreeRx (s : State) (mark : Nat) : State :=
  if s.slp = 1 then
    let s := s.wr64 Reg.RT_SLP_C_LO Reg.RT_SLP_C_HI mark
    if s.now < mark * markPeriod then (s.setSlp 2).raise 0x068 12 else { s with fab := { s.fab with wakeHeld := true } }
  else if s.slp = 0 then s.sleepAbort
  else s

/-- The leader looks whether every reachable device has voted. -/
def State.leaderCheck (s : State) : State :=
  if s.sleepLeader && s.slp = 1 && s.fab.known.all (fun d => s.fab.votes.contains d) then
    let c := (s.now + 2000000 + markPeriod - 1) / markPeriod
    let s := s.each s.others fun s d => s.fabricSend d 1 64 0 (.agree c)
    s.agreeRx c
  else s

/-- A device that joins or leaves before C aborts the agreement, and the leader's voting starts again; while votes are
collected, those of the devices still reachable count (R329). -/
def State.sleepCheck (s : State) (before : List Nat) : State :=
  if !s.sleepLeader || s.fab.known == before then s
  else if s.slp = 2 && decide (s.now < s.sleepC) then s.sleepAbort.setVotes []
  else s.leaderCheck

/-- The set of ACTIVE links has changed (R308, R329, R425). -/
def State.linksNow (s : State) : State := s.linksChanged.tunFollow.sleepCheck s.fab.known

/-- The link goes ACTIVE with its peer (R302). -/
def State.blActive (s : State) (n : Nat) (p : Peer) : State :=
  let s := s.modBl n fun b =>
    { b with peer := some p, rxSeq := 0, nak := false, txSeq := 0, replays := 0, launch := [], arrival := none
             timeDue := false, delays := [] }
  let s := s.wr (Reg.BL_STAT n) (BitVec.ofNat 32 (3 + 128 + p.id.getD 0 * 256 + p.link * 2 ^ 24 + 15 * 2 ^ 28))
  let s := (s.count (Reg.BL_ERR2 n) 31 16).raise (blPage n) 8
  let s := s.linksNow
  let s := s.blDrain n (s.bl n).wait.length
  if s.get Reg.RT_SLP_STAT 2 0 = 5 && s.fab.slept.all (fun m => s.linkUp m) then
    -- every link of the device is back (R327, R328)
    (({ s with fab := { s.fab with slept := [], quietTo := s.now + 10000000 } }).put Reg.RT_SLP_STAT 2 0 0).raise 0x068 15
  else s

/-- The link is EXCLUDED with a reason. -/
def State.blExclude (s : State) (n why : Nat) (p : Peer) : State :=
  let s := s.modBl n fun b => { b with peer := some p }
  ((s.setLst n 5).put (Reg.BL_STAT n) 6 4 why).raise (blPage n) 11

/-- Discovery: the coordinates that a neighbour on a directional link implies (R305). -/
def State.discover (s : State) (n : Nat) (p : Peer) : Option Nat :=
  let d := s.linkDir n
  if p.id.isNone || !directional d then none
  else (s.stepDir (p.x, p.y, p.z) (opposite d)).map s.idAt

/-- The device discovers its identifier instead of sampling it. -/
def State.discovers (s : State) : Bool := s.bit Reg.RTG_CFG 0 && !s.bit Reg.RTG_CFG 1

/-- The identity of a peer is judged in IDENT. -/
def State.identRx (s : State) (n : Nat) (p : Peer) : State :=
  if s.lst n = 5 then s.modBl n fun b => { b with peer := some p }
  else if s.lst n ≠ 2 then s
  else
    let late := s.discovers && !s.idValid
    let gives := s.discover n p
    if late && p.id.isSome && directional (s.linkDir n) && gives.isNone then s.blExclude n 2 p
    else
      let s := match late, gives with
        | true, some id => s.wr Reg.RT_ID (BitVec.ofNat 32 (id % 512 + 0x600 + s.get Reg.RT_ID 24 16 * 65536))
        | _, _ => s
      if !s.idValid || p.id.isNone then s
      else
        match s.refusal n p with
        | some why => s.blExclude n why p
        | none => s.blActive n p

/-- R306. -/
def execBruilIdentRx (n : Nat) (p : Peer) (s : State) : Answer :=
  answer (wfBl n) (if s.running (blPage n) then s.identRx n p else s)

/-- R302: the cause of an exclusion is looked at again. -/
def execBruilExclRecheck (n : Nat) (s : State) : Answer :=
  answer (wfBl n)
    (if s.lst n = 5 && s.running (blPage n) then
      match (s.bl n).peer with
      | none => s
      | some p => if s.idValid && p.id.isSome && (s.refusal n p).isNone then s.blActive n p else s
    else s)

/-! ### Failure and failover (R313, R314) -/

/-- A packet that was on a failed link goes out again, ahead of new ones, or draws NO_ROUTE (R314, R318). -/
def State.reinject (s : State) (p : Packet) : State :=
  match s.forward p 0 with
  | some t => t
  | none =>
    if p.cls = 5 then
      if p.src = s.devId then s.logRerr p.tag p.init 1 p.dst (loadAddr p.load)
      else s.fabricSend p.src 3 p.init p.tag (.err p.init 1 (loadAddr p.load))
    else if p.cls = 4 && p.src ≠ s.devId then s.fabricSend p.src 2 64 p.tag (.wcpl 0 1 [])
    else s

/-- The reachable destinations whose primary link is `n`. -/
def State.primaryOn (s : State) (n : Nat) : List Nat := s.fab.known.filter fun d => s.primaryLink d == some n

/-- ACTIVE leaves for `st`: its destinations move to alternates, and what it had not delivered follows them. -/
def State.blDown (s : State) (n st : Nat) (replay : Bool) : State :=
  let b := s.bl n
  let back := (if replay then b.unack.map fun u => u.2.2 else []) ++ b.wait
  let moved := s.primaryOn n
  let s := s.modBl n fun b => { b with unack := [], wait := [], launch := [], arrival := none, timeDue := false }
  let s := (s.setLst n st).setBit (Reg.BL_STAT n) 7 false
  let s := s.each moved fun s d => s.when (upOnly s (s.altLink d)).isSome fun s => s.useAlt d
  let s := s.each back fun s p => s.reinject p
  s.linksNow

/-- The link enters FAILED (R313). -/
def State.blFail (s : State) (n : Nat) (replay : Bool) : State :=
  if !s.linkUp n then s
  else
    let s := (s.count (Reg.BL_ERR2 n) 15 0).raise (blPage n) 9
    s.blDown n 4 replay

/-- R313. -/
def execBruilAckTimeout (n : Nat) (s : State) : Answer :=
  answer (wfBl n) (if (s.bl n).unack.isEmpty then s else s.blFail n true)

/-- R313; in TRAIN the count of good flits starts again. -/
def execBruilSignalLoss (n : Nat) (s : State) : Answer :=
  answer (wfBl n) ((s.modBl n fun b => { b with good := 0 }).blFail n true)

/-- R303. -/
def execDepartRx (n : Nat) (s : State) : Answer := answer (wfBl n) (s.blFail n false)

/-- R302. -/
def execBruilFailedRetrain (n : Nat) (s : State) : Answer :=
  answer (wfBl n)
    (if s.lst n = 4 && s.running (blPage n) then (s.modBl n fun b => { b with good := 0 }).setLst n 1 else s)

/-- R274, R330: the transmit PLL of a link page loses lock. -/
def State.serdesUnlock (s : State) (p : Nat) : State :=
  if p < 0x050 then s.stageUnlock (p - 0x040)
  else if s.running p then ((s.injStep p 0x11 0).blFail (p - 0x060) true).pageFault p 0x0100
  else s

def execSerdesUnlock (p : Nat) (s : State) : Answer :=
  answer ((decide (0x040 ≤ p) && decide (p < 0x050)) || (decide (0x060 ≤ p) && decide (p < 0x068))) (s.serdesUnlock p)

/-! ### Pages (R302, R303) -/

/-- The link's page enters RUNNING. -/
def State.blStart (s : State) (n : Nat) : State :=
  (s.modBl n fun b => { b with good := 0, peer := none }).setLst n 1

/-- An ACTIVE link sends DEPART, forwards what is queued on it, and goes to OFF. -/
def State.blStop (s : State) (n : Nat) : State :=
  if s.linkUp n then
    let s := s.send (.bruilDepart n)
    let s := s.each (s.bl n).wait fun s p => (s.modBl n fun b => { b with wait := b.wait.erase p }).blEmit n p
    s.blDown n 0 false
  else s.setLst n 0

/-- The routing page leaves RUNNING: its links depart, and an agreement before C is off for this device (R303, R329). -/
def State.routingStop (s : State) : State :=
  (s.when (decide (s.now < s.sleepC)) State.sleepLeave).each (List.range 8) fun s n => s.blStop n

/-- The identifier as the routing page finds it when it starts (R305). -/
def State.routingStart (s : State) : State :=
  let strap := s.get Reg.RT_ID 24 16
  let s := if s.discovers then
      (if s.bit Reg.RT_ID 10 then s else s.wrN Reg.RT_ID (strap * 65536))
    else s.wrN Reg.RT_ID (strap + 512 + strap * 65536)
  s.each ((List.range 8).filter fun n => s.running (blPage n) && s.lst n == 0) fun s n => s.blStart n

/-- R331: two links of one direction, or a directional link in a dimension of size 1. -/
def State.routingInvalid (s : State) : Bool :=
  (List.range 8).any fun n =>
    let d := s.linkDir n
    directional d && (coordIn s.shape (dimOf d) == 1 || (List.range 8).any fun m => m != n && s.linkDir m == d)

/-- R330. -/
def State.blInvalid (s : State) (n : Nat) : Bool :=
  s.get (Reg.BL_CFG n) 11 8 == 0 || decide (s.get (Reg.BL_CFG n) 23 16 < 20)

/-! ### Flits (R301, R302, R313) -/

/-- `ACK` takes packets whose last flit it covers. -/
def State.ackTo (s : State) (n ack : Nat) : State :=
  let b := s.bl n
  let rest := b.unack.dropWhile fun u => decide ((ack + 4096 - u.1) % 4096 < 2048)
  if rest.length = b.unack.length then s
  else
    let s := s.modBl n fun b => { b with unack := rest, replays := 0 }
    s.blDrain n (s.bl n).wait.length

/-- A NAK: the flits after the latest `ACK` are sent again, or the link fails after `REPLAY_LIM` replays. -/
def State.nakRx (s : State) (n : Nat) : State :=
  let b := s.bl n
  if b.unack.isEmpty then s
  else if s.get (Reg.BL_CFG n) 11 8 ≤ b.replays then s.blFail n true
  else
    let s := s.modBl n fun b => { b with replays := b.replays + 1 }
    let s := (s.count (Reg.BL_ERR n) 31 16).raise (blPage n) 10
    s.each b.unack fun s u => s.send (.packet n ((u.1 + 4097 - u.2.1) % 4096) u.2.2)

/-- The acknowledgement that the next flit carries. -/
def State.sendAck (s : State) (n : Nat) (nak : Bool) : State := s.send (.bruilAck n (((s.bl n).rxSeq + 4095) % 4096) nak)

/-- A flit that fails or is out of sequence: NAK on the first one. -/
def State.nakSend (s : State) (n : Nat) : State :=
  if (s.bl n).nak then s
  else ((s.modBl n fun b => { b with nak := true }).sendAck n true).raise (blPage n) 10

/-- A good flit on an ACTIVE link. -/
def State.flitGood (s : State) (n : Nat) (hdr : Word) : State :=
  let s := s.ackTo n (hdr.fld 27 16)
  let s := s.when (hdr.getLsbD 28) fun s => s.nakRx n
  let kind := hdr.fld 15 12
  if kind ≠ 1 && kind ≠ 2 then s
  else if hdr.fld 11 0 = (s.bl n).rxSeq then
    (s.modBl n fun b => { b with rxSeq := (b.rxSeq + 1) % 4096, nak := false }).sendAck n false
  else s.nakSend n

/-- A flit of 64 bytes arrives (R302, R313). -/
def State.flitRx (s : State) (n : Nat) (bytes : List Byte) : State :=
  let ok := crc32c (bytes.take 60) == BitVec.ofNat 32 (le32At bytes 60) && !s.injFires (blPage n) 0x10 0
  let s := s.injStep (blPage n) 0x10 0
  let hdr := BitVec.ofNat 32 (le32At bytes 0)
  let s := s.when (!ok) fun s => s.count (Reg.BL_ERR n) 15 0
  match s.lst n with
  | 1 =>
    let s := s.modBl n fun b => { b with good := if ok then b.good + 1 else 0 }
    if (s.bl n).good < 64 then s else (s.setLst n 2).send (.bruilIdent n (s.identOf n))
  | 3 => if ok then s.flitGood n hdr else s.nakSend n
  | _ => s

def execBruilFlitRx (n : Nat) (bytes : List Byte) (s : State) : Answer :=
  answer (wfBl n && bytes.length == 64) (if s.running (blPage n) then s.flitRx n bytes else s)

/-! ### Reachability (R308) -/

def execLinkStateAnnounceRx (dev serial : Nat) (nbrs : List Nat) (s : State) : Answer :=
  answer (decide (dev < 512) && nbrs.all fun d => decide (d < 512))
    (if !s.fabricOn || dev = s.devId || Sparse.find? s.fab.topo dev = some (serial, nbrs) then s
    else
      let s := { s with fab := { s.fab with topo := Sparse.insert s.fab.topo dev (serial, nbrs) } }
      (s.updateReach.tunFollow.sleepCheck s.fab.known).flood dev serial nbrs none)

/-! ### Packets (R311, R315, R317, R318) -/

/-- The error return of a posted write goes to its source. -/
def State.errReturn (s : State) (p : Packet) (code : Nat) : State :=
  s.fabricSend p.src 3 p.init p.tag (.err p.init code (loadAddr p.load))

/-- A posted write meets its target (R318, R395). -/
def State.postedWrite (s : State) (p : Packet) (addr : Nat) (data : List Byte) : State :=
  if !s.running 0x069 then s.errReturn p 4
  else if !s.dramHas addr data.length then s.errReturn p 2
  else if !s.admits p.src p.init 1 true addr data.length then (s.errReturn p 3).raise 0x069 9
  else s.dramWrite addr data

/-- A packet is delivered in order; what its content does beyond a posted write
or a message is its own command. -/
def State.deliverPacket (s : State) (p : Packet) : State :=
  let s := match p.load with
    | .write addr data => s.postedWrite p addr data
    | .message id hop data => s.mbPush (.fabric p.src hop) id data
    | _ => s
  if p.cls = 5 then { s with fab := { s.fab with ackOwed := Sparse.insert s.fab.ackOwed (p.src * 128 + p.init) p.eseq } } else s

/-- Held packets follow while they are in order. -/
def State.releaseHeld (s : State) (key : Nat) : Nat → State
  | 0 => s
  | n + 1 =>
    let e := Sparse.get 0 s.fab.eseqRx key
    match s.fab.gapHeld.find? fun h => h.1 == key && h.2.eseq == e with
    | none => s
    | some h =>
      let s := { s with fab := { s.fab with gapHeld := s.fab.gapHeld.erase h, eseqRx := Sparse.set 0 s.fab.eseqRx key ((e + 1) % 65536) } }
      (s.deliverPacket h.2).releaseHeld key n

/-- A packet reaches its destination: in order, a duplicate, or behind a gap (R315). -/
def State.packetHere (s : State) (p : Packet) : State :=
  let key := p.src * 16 + p.cls
  let e := Sparse.get 0 s.fab.eseqRx key
  let ahead := (p.eseq + 65536 - e) % 65536
  if ahead = 0 then
    let s := { s with fab := { s.fab with eseqRx := Sparse.set 0 s.fab.eseqRx key ((e + 1) % 65536) } }
    (s.deliverPacket p).releaseHeld key s.fab.gapHeld.length
  else if 32768 ≤ ahead then s.count Reg.RT_DUP 15 0
  else if s.fab.gapHeld.any fun h => h.1 == key && h.2.eseq == p.eseq then s.count Reg.RT_DUP 15 0
  else { s with fab := { s.fab with gapHeld := s.fab.gapHeld ++ [(key, p)] } }

/-- A packet that arrived on link `n` is delivered, forwarded, or refused (R311). -/
def State.packetRx (s : State) (n : Nat) (p : Packet) : State :=
  if p.dst = s.devId then s.packetHere p
  else
    match s.forward p (s.linkDir n) with
    | some t => t
    | none => s.reinject p

/-- The routing table's detector (R537): TABLE_ECC, and the links depart (R331). -/
def State.routingEcc (s : State) : State :=
  (s.pageFault 0x068 0x0100).routingStop

def execBruilPacketRx (n : Nat) (p : Packet) (s : State) : Answer :=
  answer (wfBl n && decide (p.src < 512) && decide (p.dst < 512) && decide (p.cls < 7) && decide (p.eseq < 65536))
    (if !s.fabricOn || !s.linkUp n then s
    else if s.injFires 0x068 0x10 0 then (s.injStep 0x068 0x10 0).routingEcc
    else (s.injStep 0x068 0x10 0).packetRx n p)

/-- The held packet of a key that comes first after the expected number. -/
def State.firstHeld (s : State) (key : Nat) : Option Packet :=
  let e := Sparse.get 0 s.fab.eseqRx key
  let ahead := fun (p : Packet) => (p.eseq + 65536 - e) % 65536
  (s.fab.gapHeld.filter fun h => h.1 == key).foldl
    (fun best h => match best with
      | none => some h.2
      | some b => if ahead h.2 < ahead b then some h.2 else some b) none

/-- R315: the gap is lost; a posted write lost in it is reported with a `TAG`, an initiator and an address that the
destination does not know (free values). -/
def State.gapLost (s : State) (src cls : Nat) : State :=
  let key := src * 16 + cls
  match s.firstHeld key with
  | none => s
  | some p =>
    let s := s.count Reg.RT_DUP 31 16
    let e := Sparse.get 0 s.fab.eseqRx key
    let lost := (p.eseq + 65536 - e) % 65536
    let s := if cls = 5 then
        s.each (List.range lost) fun s _ =>
          let s := s.useFree
          let w := s.freeWord
          s.fabricSend src 3 (w.fld 22 16) (w.fld 15 0) (.err (w.fld 22 16) 6 (Config.freeNat s.free))
      else s
    ({ s with fab := { s.fab with eseqRx := Sparse.set 0 s.fab.eseqRx key p.eseq } }).releaseHeld key s.fab.gapHeld.length

def execSeqGapTimeout (src cls : Nat) (s : State) : Answer :=
  answer (decide (src < 512) && decide (cls < 7)) (if s.fabricOn then s.gapLost src cls else s)

/-- R317. -/
def execPerrAckSend (s : State) : Answer :=
  .next (if s.fabricOn && !s.halted then
    ({ s with fab := { s.fab with ackOwed := [] } }).each s.fab.ackOwed fun s a =>
      s.fabricSend (a.1 / 128) 3 (a.1 % 128) 0 (.ack (a.1 % 128) a.2)
  else s)

/-- R318. -/
def State.perrRx (s : State) (dev init : Nat) (upTo : Option Nat) (err : Option (Nat × Nat × Nat)) : State :=
  let s := match err with
    | some (tag, code, addr) => s.logRerr tag init code dev addr
    | none => s
  match upTo with
  | some e => { s with fab := { s.fab with acked := Sparse.insert s.fab.acked (dev * 128 + init) e } }
  | none => s

def execPerrRx (dev init : Nat) (upTo : Option Nat) (err : Option (Nat × Nat × Nat)) (s : State) : Answer :=
  answer (decide (dev < 512) && decide (init < 65))
    (if s.fabricOn then s.perrRx dev init upTo err else s)

/-- R312. -/
def execRouteReturn (dst : Nat) (s : State) : Answer :=
  answer (decide (dst < 512))
    (match Sparse.find? s.fab.onAlt dst with
      | none => s
      | some t =>
        if t + 20000 ≤ s.now && (upOnly s (s.primaryLink dst)).isSome then
          ({ s with fab := { s.fab with onAlt := Sparse.erase s.fab.onAlt dst } }).altStat
        else s)

/-- R331: the oldest entry leaves the log and shows in `RERR0` to `RERR3`. -/
def execRerrLogRead (s : State) : Answer :=
  .next (match s.fab.rerrLog with
    | [] => ((s.wr Reg.RT_RERR0 0).wr Reg.RT_RERR1 0).wr64 Reg.RT_RERR2 Reg.RT_RERR3 0
    | (tag, init, code, dev, addr) :: rest =>
      let s := { s with fab := { s.fab with rerrLog := rest } }
      ((s.wrN Reg.RT_RERR0 (tag % 65536 + init * 65536 + 2 ^ 23 + code * 2 ^ 24)).wrN Reg.RT_RERR1 dev).wr64
        Reg.RT_RERR2 Reg.RT_RERR3 addr)

/-! ### Fences (R319, R320) -/

/-- A fence of an initiator covers what it posted since the one before. -/
def State.fenceIssue (s : State) (init : Nat) (kind : FenceKind) : State :=
  let mine := s.fab.posted.filter fun e => e.1 % 128 == init
  let f : Fence := { init := init, kind := kind, need := mine.map fun e => (e.1 / 128, e.2) }
  { s with fab := { s.fab with
      fences := s.fab.fences ++ [f]
      posted := s.fab.posted.filter fun e => e.1 % 128 != init } }

/-- A transfer whose chunks are all done ends with its fence (R396). -/
def State.xferFenced (s : State) (x status : Nat) : State :=
  match Sparse.find? s.dma.xfers x with
  | none => s
  | some t =>
    let s := { s with dma := { s.dma with xfers := Sparse.erase s.dma.xfers x } }
    match t.kind with
    | .desc q cid =>
      let det := if status = 0 then 0 else status + 2
      s.complete t.seat q cid (if det = 0 then 0 else 5) det t.pos
    | .record _ => s

/-- A fence completes with a status; the failed mark of its initiator is cleared. -/
def State.fenceEnd (s : State) (f : Fence) (status : Nat) : State :=
  let s := { s with fab := { s.fab with
      fences := s.fab.fences.erase f
      failedInit := s.fab.failedInit.filter fun i => i != f.init } }
  match f.kind with
  | .rt =>
    let more := s.fab.fences.any fun g => g.kind == .rt
    (s.wrN Reg.RT_FSTAT (more.toNat + 2 * status)).raise 0x068 11
  | .sqe i q cid => s.complete i q cid (if status = 0 then 0 else 5) status 0
  | .dma x => s.xferFenced x status

/-- The destination has acknowledged past an `ESEQ`. -/
def State.ackedPast (s : State) (init : Nat) (n : Nat × Nat) : Bool :=
  match Sparse.find? s.fab.acked (n.1 * 128 + init) with
  | some a => decide ((a + 65536 - n.2) % 65536 < 32768)
  | none => false

/-- The oldest fence of an initiator. -/
def State.fenceOf (s : State) (init : Nat) : Option Fence := s.fab.fences.find? fun f => f.init == init

def execFenceComplete (init : Nat) (s : State) : Answer :=
  answer (decide (init < 65))
    (match s.fenceOf init with
      | none => s
      | some f =>
        if f.need.all fun n => s.ackedPast init n then s.fenceEnd f (if s.fab.failedInit.contains init then 1 else 0) else s)

def execFenceTimeout (init : Nat) (s : State) : Answer :=
  answer (decide (init < 65))
    (match s.fenceOf init with
      | none => s
      | some f => s.fenceEnd f 2)

/-- R319. -/
def execRtFence (v : Word) (s : State) : Answer :=
  .next (if v.getLsbD 0 && s.fabricOn then (s.setBit Reg.RT_FSTAT 0 true).fenceIssue 0 .rt else s)

/-! ### Time transfer (R321 to R323) -/

/-- The time depth of this device (R321). -/
def State.timeDepth (s : State) : Nat :=
  if s.get Reg.TB_CFG 5 4 ≠ 2 then 0 else s.get Reg.RT_STAT 23 20

/-- The counter in units of 10 ps. -/
def State.now10ps (s : State) : Nat := s.now * 100 + (s.rd Reg.TB_FRAC).toNat * 100 / 2 ^ 32

/-- A mark: every ACTIVE link launches its TIME flit; one that was due and did not come is missing. -/
def State.timeLaunch (s : State) (n : Nat) : State :=
  if !s.linkUp n then s
  else
    let b := s.bl n
    let s := s.when b.timeDue fun s => s.count (Reg.BL_TCNT n) 31 16
    let t := s.now10ps
    let s := s.modBl n fun b => { b with launch := t :: b.launch.take 1, timeDue := true }
    s.send (.timeFlit n t b.arrival (s.get Reg.TB_STAT 2 0) s.timeDepth)

/-- R226, R321: a crew mark. -/
def execCrewMark (s : State) : Answer :=
  .next (if s.strobeIdx % 64 = 0 && !s.halted then s.each (List.range 8) fun s n => s.timeLaunch n else s)

/-- The link whose offsets the servo takes (R323). -/
def State.timeLink (s : State) : Nat :=
  let f := s.get Reg.TB_CFG 10 8
  if !s.linkUp f && s.bit Reg.RT_TALT 3 then s.get Reg.RT_TALT 2 0 else f

/-- A good TIME flit: the delay, once the peer has timed one of this device's flits, and the offset (R322). -/
def State.timeGood (s : State) (n aL lP : Nat) (aP : Option Nat) (depth : Nat) : State :=
  let b := s.bl n
  let s := (s.count (Reg.BL_TCNT n) 15 0).put (Reg.BL_STAT n) 31 28 depth
  let delays : List Int := match aP, (b.launch.drop 1).head? with
    | some p, some l => (((aL : Int) - (lP : Int)) + ((p : Int) - (l : Int))) :: b.delays.take 63
    | _, _ => b.delays
  let s := s.modBl n fun b => { b with arrival := some aL, timeDue := false, delays := delays }
  if delays.isEmpty then s
  else
    let d := roundDiv delays.sum (2 * delays.length)
    let s := s.wr (Reg.BL_DELAY n) (BitVec.ofInt 32 d)
    let th := roundDiv ((aL : Int) - (lP + d + s.rdI (Reg.BL_ASYM n))) 25
    let s := s.wr (Reg.BL_TOFS n) (word32 th)
    if s.timeLink = n then
      let s := s.when (s.get Reg.TB_CFG 5 4 == 2) fun s => s.put Reg.RT_STAT 23 20 (min 15 (depth + 1))
      s.when (s.servoTakes 2) fun s => s.servoOffset th
    else s

def execTimeFlitRx (n : Nat) (good : Bool) (aL lP : Nat) (aP : Option Nat) (depth : Nat) (s : State) : Answer :=
  answer (wfBl n && decide (depth < 16))
    (if !s.linkUp n then s
    else if good then s.timeGood n aL lP aP depth
    else (s.modBl n fun b => { b with timeDue := false }).count (Reg.BL_TCNT n) 31 16)

/-! ### Fabric sleep (R326 to R329) -/

/-- The leader takes a vote, or its withdrawal. -/
def State.takeVote (s : State) (dev : Nat) (on : Bool) : State :=
  let rest := s.fab.votes.filter fun d => d != dev
  (s.setVotes (if on then dev :: rest else rest)).leaderCheck

def State.voteWrite (s : State) (on : Bool) : State :=
  let s := s.setBit Reg.RT_SLP_CTRL 0 on
  if !s.fabricOn then s
  else
    let tell := fun (s : State) => if s.sleepLeader then s.takeVote s.devId on else s.fabricSend 0 1 64 0 (.vote on)
    match on, s.slp with
    | true, 0 => tell (s.setSlp 1)
    | true, 1 => tell s
    | false, 1 => tell (s.setSlp 0)
    | false, 2 => if s.now < s.sleepC then tell s.sleepAbort else s
    | _, _ => s

/-- R326, step 1. -/
def execSleepVoteWrite (on : Bool) (s : State) : Answer := .next (s.voteWrite on)

/-- R326, step 2. -/
def execSleepVoteRx (dev : Nat) (on : Bool) (s : State) : Answer :=
  answer (decide (dev < 512)) (if s.fabricOn && s.sleepLeader then s.takeVote dev on else s)

def execSleepAgreeRx (mark : Nat) (s : State) : Answer := .next (if s.fabricOn then s.agreeRx mark else s)

/-- R326, step 3. -/
def execSleepAbortRx (dev : Nat) (s : State) : Answer :=
  answer (decide (dev < 512))
    (if !s.fabricOn then s
    else if s.sleepLeader then
      ((s.setVotes (s.fab.votes.filter fun d => d != dev)).each s.others fun s d => s.fabricSend d 1 64 0 .abort).sleepLeave
    else s.sleepLeave)

/-- R326, step 4: Z is one mark after C. -/
def State.sleepNow (s : State) : State :=
  if s.slp = 2 then
    let ls := (List.range 8).filter fun n => s.linkUp n
    let s := s.each ls fun s n => (s.modBl n fun b => { b with launch := [], timeDue := false }).setLst n 6
    let s := s.tunFollow
    let s := (({ s with fab := { s.fab with slept := ls } }).setSlp 4).raise 0x068 14
    let s := s.when s.sleepLeader fun s => s.setVotes []
    if s.fab.wakeHeld then s.startWake s.devId none else s
  else if s.fab.wakeHeld then
    ({ s with fab := { s.fab with wakeHeld := false } }).each ((List.range 8).filter fun n => s.linkUp n) fun s n => s.send (.beacon n s.devId)
  else s

def execSleepInstant (s : State) : Answer :=
  .next (if s.sleepC + markPeriod ≤ s.now then s.sleepNow else s)

/-- R327. -/
def execWakeRequest (src : Nat) (s : State) : Answer :=
  answer (decide (1 ≤ src) && decide (src ≤ 8)) (s.wakeRequest src)

/-- R327, source SOFTWARE. -/
def execSlpWakeWrite (s : State) : Answer := .next (s.wakeRequest 1)

/-- R327: a listening link detects a beacon. -/
def State.beaconRx (s : State) (n dev : Nat) : State :=
  if s.lst n ≠ 6 then s
  else
    let s := s.raise (blPage n) 12
    let s := s.wrN Reg.RT_WAKESRC (9 + n * 16 + dev * 65536 + 2 ^ 31)
    s.startWake dev (some n)

def execWakeBeaconRx (n dev : Nat) (s : State) : Answer := answer (wfBl n && decide (dev < 512)) (s.beaconRx n dev)

end Sys2Proof.Machine
end

