-- ==== Sys2Proof/Machine/Bridges.lean ====
section
/-!
DEFINITION. The near side of the window bridge (10_bridges.md): windows and their accesses, byte lanes, locks, messages
and commits. The far side stands in Inbound.lean, the message bridge in MsgBridge.lean.
-/
namespace Sys2Proof.Machine

/-! ### Windows (R332, R333, R348) -/

def Win.en (w : Win) : Bool := w.cfg.getLsbD 0
/-- CLASS 1 is REGISTER. -/
def Win.isReg (w : Win) : Bool := w.cfg.getLsbD 1
def Win.swap (w : Win) : Nat := w.cfg.fld 3 2
def Win.pages (w : Win) : Nat := 2 ^ w.cfg.fld 5 4
def Win.lockOk (w : Win) : Bool := w.cfg.getLsbD 6
def Win.frame (w : Win) : Nat := w.cfg.fld 18 16

def State.winAccs (s : State) (w : Nat) : List WinAcc := Sparse.get [] s.brg.winAccs w
def State.setWinAccs (s : State) (w : Nat) (l : List WinAcc) : State :=
  (s.setBrg { s.brg with winAccs := Sparse.set [] s.brg.winAccs w l }).setBit (Reg.WIN_STAT w) 1 (l.any fun a => a.sent)

/-- The enabled window that covers an offset of a seat's window region. -/
def State.winAt (s : State) (seat off : Nat) : Option Nat :=
  (List.range 64).find? fun w =>
    let x := s.win w
    let f := (off - 0x8000) / 0x1000
    x.en && x.owner == seat && decide (x.frame ≤ f) && decide (f < x.frame + x.pages)

/-- Window and offset within it that an access names. -/
def State.winOf (s : State) : WinAddr → Option (Nat × Nat)
  | .seat i off => (s.winAt i off).map fun w => (w, off - 0x8000 - (s.win w).frame * 0x1000)
  | .firmware w off => if (s.win w).en && decide (off < (s.win w).pages * 0x1000) then some (w, off) else none

/-- The initiator of an access (R309). -/
def winInit : WinAddr → Nat
  | .seat i _ => i
  | .firmware _ _ => 64

/-! ### Byte lanes (R334) -/

/-- Unit of a DI mode. -/
def diUnit (swap : Nat) : Nat := 2 ^ swap

/-- Far offset of an access of `n` bytes at near offset `off`. -/
def farOff (swap off n : Nat) : Nat :=
  let u := diUnit swap
  if swap = 0 || u < n then off else off - off % u + (u - off % u - n)

/-- Bytes in the far order, and back. -/
def swapBytes (swap : Nat) (data : List Byte) : List Byte :=
  let u := diUnit swap
  if swap = 0 then data
  else if data.length ≤ u then data.reverse
  else (List.range (data.length / u)).flatMap fun i => ((data.drop (i * u)).take u).reverse

/-- Why a window refuses an access at the near side (R333): none, SIZE or ALIGN. -/
def Win.refuses (w : Win) (off n : Nat) : Option Nat :=
  if w.isReg then (if (n = 4 || n = 8) && off % n = 0 then none else some 17)
  else if 64 < n || n = 0 || 64 < off % 64 + n then some 18
  else if w.swap ≠ 0 && !((n = 1 || n = 2 || n = 4 || n = 8) && off % n = 0) then some 18
  else none

/-! ### Ends of an access (R339) -/

/-- A failure is logged, counted, raised and reported to the window's owner. -/
def State.winFailed (s : State) (w code init addr : Nat) : State :=
  let s := (s.put (Reg.WIN_STAT w) 15 8 code).count (Reg.WIN_STAT w) 31 16
  let s := if s.brg.elog.length < 32 then s.setBrg { s.brg with elog := s.brg.elog ++ [(code, w, init, addr)] }
    else s.count Reg.WB_ERRCNT 15 0
  let s := s.when (code == 21) fun s => s.setBit (Reg.WIN_STAT w) 2 false
  let s := s.raise 0x069 8
  s.seatEvent (s.win w).owner 5 ([BitVec.ofNat 8 code, BitVec.ofNat 8 w] ++ leBytes 4 0 ++ leBytes 8 addr)

/-- The far address of an access. -/
def State.farAddr (s : State) (w : Nat) (a : WinAcc) : Nat :=
  (s.win w).base + farOff (s.win w).swap a.off a.req.size

/-- An access ends with a code other than OK. -/
def State.winFail (s : State) (w : Nat) (a : WinAcc) (code : Nat) : State :=
  (s.winFailed w code a.init (s.farAddr w a)).send (.winDone a.port a.init code [])

/-- An access at the head of its window is checked and sent; refused accesses end at once. -/
def State.winPump (s : State) (w : Nat) : Nat → State
  | 0 => s
  | n + 1 =>
    match s.winAccs w with
    | [] => s
    | a :: rest =>
      if a.sent || s.brg.winCommit == some w then s
      else
        let x := s.win w
        let stop := if s.pg 0x069 != 3 && s.pg 0x069 != 4 then some 4
          else match x.refuses a.off a.req.size with
            | some c => some c
            | none => if s.canReach x.dev then none else some 1
        match stop with
        | some c => ((s.setWinAccs w rest).winFail w a c).winPump w n
        | none =>
          let tag := s.brg.winTag
          let req := { a.req with win := w, space := x.space, addr := s.farAddr w a, data := swapBytes x.swap a.req.data }
          let s := s.setBrg { s.brg with winTag := (tag + 1) % 65536 }
          let s := s.setWinAccs w ({ a with tag := tag, sent := true } :: rest)
          s.fabricSend x.dev 4 a.init tag (.wreq req)

/-- An access joins its window; while the page is not RUNNING it fails at once (R346). -/
def State.winJoin (s : State) (w : Nat) (a : WinAcc) : State :=
  if !s.running 0x069 then s.winFail w a 4
  else
  let l := s.winAccs w ++ [{ a with seq := s.brg.nextSeq }]
  ((s.setBrg { s.brg with nextSeq := s.brg.nextSeq + 1 }).setWinAccs w l).winPump w l.length

/-- An access that no enabled window covers reads 0 and is counted (R332). -/
def State.winMissed (s : State) (port init n : Nat) : State :=
  (s.count Reg.WB_ERRCNT 31 16).send (.winDone port init 0 (List.replicate n 0))

def State.winRead (s : State) (port : Nat) (a : WinAddr) (n : Nat) : State :=
  match s.winOf a with
  | none => s.winMissed port (winInit a) n
  | some (w, off) => s.winJoin w { port := port, init := winInit a, off := off, req := { win := w, size := n } }

/-- The parts of a PCIe write of `n` bytes at `off`, split at the 64-byte boundaries (R333). -/
def splits (off n : Nat) : List (Nat × Nat) :=
  (List.range (n / 64 + 2)).filterMap fun i =>
    let lo := if i = 0 then off else (off / 64 + i) * 64
    let hi := min (off + n) ((off / 64 + i + 1) * 64)
    if lo < hi then some (lo, hi - lo) else none

def State.winWrite (s : State) (port : Nat) (a : WinAddr) (data : List Byte) : State :=
  match s.winOf a with
  | none => s.winMissed port (winInit a) 0
  | some (w, off) =>
    let pcie := match a with
      | .seat _ _ => true
      | .firmware _ _ => false
    let parts := if pcie && !(s.win w).isReg then splits off data.length else [(off, data.length)]
    s.each parts fun s p =>
      s.winJoin w
        { port := port, init := winInit a, off := p.1
          req := { win := w, write := true, size := p.2, data := (data.drop (p.1 - off)).take p.2 } }

/-- R335. -/
def execWindowRead (port : Nat) (a : WinAddr) (size : Nat) (s : State) : Answer :=
  answer (wfWin port a size) (s.winRead port a size)
/-- R335. -/
def execWindowWrite (port : Nat) (a : WinAddr) (data : List Byte) (s : State) : Answer :=
  answer (wfWin port a data.length) (s.winWrite port a data)

/-! ### Locked sequences (R340, R341) -/

/-- A LOCK or UNLOCK ends with a code. -/
def State.lockDone (s : State) (w code : Nat) (sqe : Option (Nat × Nat × Nat)) : State :=
  let s := (s.wrN Reg.WB_LOCKSTAT (code * 2 + (!s.brg.lockOps.isEmpty).toNat)).raise 0x069 11
  let s := if code = 0 then s else s.winFailed w code (match sqe with
    | some x => x.1
    | none => 0) (s.win w).base
  match sqe with
  | some (i, q, cid) => s.complete i q cid (if code = 0 then 0 else 5) code 0
  | none => s

/-- A LOCK or UNLOCK of a window: refused, answered at once, or sent to the far device. -/
def State.winLock (s : State) (w : Nat) (lock : Bool) (sqe : Option (Nat × Nat × Nat)) : State :=
  let x := s.win w
  let held := s.bit (Reg.WIN_STAT w) 2
  if !s.running 0x069 then s.lockDone w 4 sqe
  else if lock && !x.lockOk then s.lockDone w 3 sqe
  else if lock == held then s.lockDone w 0 sqe
  else if !s.canReach x.dev then s.lockDone w 1 sqe
  else
    let tag := s.brg.winTag
    let init := match sqe with
      | some y => y.1
      | none => 0
    let op : LockOp := { win := w, tag := tag, lock := lock, sqe := sqe }
    let s := s.setBrg { s.brg with winTag := (tag + 1) % 65536, lockOps := s.brg.lockOps ++ [op] }
    (s.setBit Reg.WB_LOCKSTAT 0 true).fabricSend x.dev 4 init tag
      (.wreq { win := w, kind := if lock then 1 else 2, space := x.space })

/-- R340. -/
def execWbLock (w : Nat) (s : State) : Answer := answer (decide (w < 64)) (s.winLock w true none)
def execWbUnlock (w : Nat) (s : State) : Answer := answer (decide (w < 64)) (s.winLock w false none)

/-- The result of a lock command. -/
def State.lockResult (s : State) (o : LockOp) (code : Nat) : State :=
  let s := s.setBrg { s.brg with lockOps := s.brg.lockOps.erase o }
  let s := if code = 0 then s.setBit (Reg.WIN_STAT o.win) 2 o.lock else s
  s.lockDone o.win code o.sqe

/-! ### Completions and time-outs (R336, R339) -/

/-- The access at the head of a window ends. -/
def State.winEnd (s : State) (w : Nat) (a : WinAcc) (code : Nat) (data : List Byte) : State :=
  let rest := (s.winAccs w).drop 1
  let s := s.setWinAccs w rest
  let s := if code = 0 then
      (s.count (Reg.WIN_CNT w) 31 0).send (.winDone a.port a.init 0 (swapBytes (s.win w).swap data))
    else s.winFail w a code
  s.winPump w rest.length

def State.wcplRx (s : State) (w tag code : Nat) (data : List Byte) : State :=
  match (s.winAccs w).head? with
  | some a =>
    if a.sent && a.tag == tag then s.winEnd w a code data
    else
      match s.brg.lockOps.find? fun o => o.win == w && o.tag == tag with
      | some o => s.lockResult o code
      | none => s
  | none =>
    match s.brg.lockOps.find? fun o => o.win == w && o.tag == tag with
    | some o => s.lockResult o code
    | none => s

/-- R339. -/
def execWindowCompletionRx (w tag code : Nat) (data : List Byte) (s : State) : Answer :=
  answer (decide (w < 64) && (decide (code < 7) || (decide (16 ≤ code) && decide (code ≤ 21)))) (s.wcplRx w tag code data)

/-- R336. -/
def execWindowTimeout (w : Nat) (busy : Bool) (s : State) : Answer :=
  answer (decide (w < 64))
    (let code := if busy then 20 else 16
     match (s.winAccs w).head? with
     | some a => s.winEnd w a code []
     | none =>
       match s.brg.lockOps.find? fun o => o.win == w with
       | some o => s.lockResult o code
       | none => s)

/-! ### Messages (R344) -/

/-- A message is held until the window writes of its initiator to its destination are done. -/
def State.holdMessage (s : State) (init dst id : Nat) (data : List Byte) : State :=
  s.setBrg { s.brg with sigs := s.brg.sigs ++ [(init, dst, id, data, s.brg.nextSeq)], nextSeq := s.brg.nextSeq + 1 }

def execSigTxWrite (v : Word) (s : State) : Answer := .next (s.holdMessage 0 (v.fld 24 16) (v.fld 15 0) [])

/-- A window write of an initiator to a device that arrived before place `seq` is under way or waits. -/
def State.writeOpen (s : State) (init dst seq : Nat) : Bool :=
  s.brg.winAccs.any fun e => (s.win e.1).dev == dst && e.2.any fun a => a.init == init && a.req.write && decide (a.seq < seq)

/-- The oldest message that may go is sent. -/
def State.messageRelease (s : State) : State :=
  match s.brg.sigs.find? fun m => !s.writeOpen m.1 m.2.1 m.2.2.2.2 with
  | none => s
  | some m =>
    (s.setBrg { s.brg with sigs := s.brg.sigs.erase m }).fabricSend m.2.1 5 m.1 0 (.message m.2.2.1 0 m.2.2.2.1)

def execMessageRelease (s : State) : Answer := .next s.messageRelease

/-! ### Commits (R345) -/

/-- A commit is requested, or discarded while one is under way. -/
def execWindowCommit (v : Word) (s : State) : Answer :=
  .next (if !v.getLsbD 8 then s
    else if s.bit Reg.WB_CSTAT 0 then s.raise 0x069 1
    else (s.setBrg { s.brg with winCommit := some (v.fld 5 0) }).setBit Reg.WB_CSTAT 0 true)

def execInboundCommit (v : Word) (s : State) : Answer :=
  .next (if !v.getLsbD 8 then s
    else if s.bit Reg.WB_CSTAT 0 then s.raise 0x069 1
    else (s.setBrg { s.brg with inCommit := some (v.fld 4 0) }).setBit Reg.WB_CSTAT 0 true)

/-- The fields of a window as written. -/
def State.winWritten (s : State) (w : Nat) : Win :=
  { cfg := s.rd (Reg.WIN_CFG w), tgt := s.rd (Reg.WIN_TGT w), base := s.rd64 (Reg.WIN_FBASE_LO w) (Reg.WIN_FBASE_HI w) }

/-- The end of a far space: 1 MiB of CTRL, the largest fitted DRAM. -/
def spaceEnd (space : Nat) : Nat := if space = 0 then 0x100000 else 2 ^ 34

/-- BAD_ARG of R345. -/
def Win.badArg (x : Win) : Bool :=
  let size := x.pages * 0x1000
  (x.isReg != (x.space == 0)) || (x.isReg && x.swap != 0) || x.base % size != 0 ||
    decide (spaceEnd x.space < x.base + size) || decide (8 < x.frame + x.pages) || x.frame % x.pages != 0

/-- FRAME_CONFLICT of R345. -/
def State.frameConflict (s : State) (w : Nat) (x : Win) : Bool :=
  (List.range 64).any fun v =>
    let y := s.win v
    v != w && y.en && y.owner == x.owner && decide (x.frame < y.frame + y.pages) && decide (y.frame < x.frame + x.pages)

/-- A commit completes. -/
def State.commitDone (s : State) (status : Nat) : State :=
  let s := s.setBrg { s.brg with winCommit := none, inCommit := none }
  (s.wrN Reg.WB_CSTAT (status * 2)).raise 0x069 10

/-- Enabled windows, in `WB.STAT`. -/
def State.winCount (s : State) : State :=
  s.put Reg.WB_STAT 6 0 ((List.range 64).filter fun w => (s.win w).en).length

def State.winApply (s : State) (w : Nat) : State :=
  let x := s.winWritten w
  if x.en && x.badArg then s.commitDone 1
  else if x.en && s.frameConflict w x then s.commitDone 2
  else
    let s := s.setBrg { s.brg with wins := Sparse.set {} s.brg.wins w x }
    ((s.setBit (Reg.WIN_STAT w) 0 true).winCount).commitDone 0

/-- R345: the commit applies once the window has no access outstanding and holds no lock, or ends TIMEOUT. -/
def State.winCommitStep (s : State) (timeout : Bool) : State :=
  match s.brg.winCommit with
  | none => s
  | some w =>
    let drained := !((s.winAccs w).any fun a => a.sent) && !s.bit (Reg.WIN_STAT w) 2
    let s := if drained then s.winApply w else if timeout then s.commitDone 3 else s
    s.winPump w (s.winAccs w).length

def execWindowCommitApply (timeout : Bool) (s : State) : Answer := .next (s.winCommitStep timeout)

/-- The fields of a filter entry as written. -/
def State.filterWritten (s : State) (e : Nat) : Word × Word × Nat :=
  (s.rd (Reg.WB_IN_SRC e), s.rd (Reg.WB_IN_SPC e), s.rd64 (Reg.WB_IN_BASE_LO e) (Reg.WB_IN_BASE_HI e))

/-- A request on the inbound path that an entry admitted. -/
def State.entryBusy (s : State) (e : Nat) : Bool :=
  match Sparse.find? s.brg.filters e with
  | none => false
  | some f => s.brg.inWait.any fun r => filterAdmits f r.src r.init r.req.space r.req.write r.req.addr r.req.size

/-- R345. -/
def State.inCommitStep (s : State) (timeout : Bool) : State :=
  match s.brg.inCommit with
  | none => s
  | some e =>
    if !s.entryBusy e then
      (s.setBrg { s.brg with filters := Sparse.insert s.brg.filters e (s.filterWritten e) }).commitDone 0
    else if timeout then s.commitDone 3
    else s

def execInboundCommitApply (timeout : Bool) (s : State) : Answer := .next (s.inCommitStep timeout)

/-- R347: the oldest entry leaves the error log and shows in `ELOG0` to `ELOG2`. -/
def execWerrLogRead (s : State) : Answer :=
  .next (match s.brg.elog with
    | [] => (s.wr Reg.WB_ELOG0 0).wr64 Reg.WB_ELOG1 Reg.WB_ELOG2 0
    | (code, w, init, addr) :: rest =>
      ((s.setBrg { s.brg with elog := rest }).wrN Reg.WB_ELOG0 (code + w * 256 + init * 65536 + 2 ^ 31)).wr64
        Reg.WB_ELOG1 Reg.WB_ELOG2 addr)

end Sys2Proof.Machine
end

