-- ==== Sys2Proof/Machine/Calib.lean ====
section
/-!
DEFINITION. The calibration bus and field calibration (R90 to R96, R108 to R110): the meanings of the `CAL[d].CMD` ops.
-/
namespace Sys2Proof.Machine

/-- The channel that `ARG.CHAN` names. -/
def State.calChan (s : State) (d : Nat) : Nat := 128 * d + s.get (Reg.CAL_ARG d) 6 0

/-- A command completes: `BUSY` clears, `STATUS` is written, CMD_DONE (R92). -/
def State.calDone (s : State) (d status : Nat) : State :=
  let s := s.modDie d fun x => { x with cal := .idle }
  ((s.setBit (Reg.CAL_STAT d) 0 false).put (Reg.CAL_STAT d) 11 8 status).raise (0x012 + d) 8

/-- A command that goes on after it was written. -/
def State.calBusy (s : State) (d : Nat) (c : CalOp) : State :=
  (s.modDie d fun x => { x with cal := c }).setBit (Reg.CAL_STAT d) 0 true

/-- A command is written: dropped while `BUSY` is set (R92). -/
def State.calCmd (s : State) (d : Nat) (f : State → State) : State :=
  if !s.has (0x012 + d) then s
  else if s.bit (Reg.CAL_STAT d) 0 then s.raise (0x012 + d) 9
  else f s

/-! ### The window KV to OI1 -/

def State.calWindow (s : State) (d : Nat) : Coeff :=
  { kv := (s.rd (Reg.CAL_KV d)).toNat, ov := s.rdI (Reg.CAL_OV d)
    gi0 := (s.rd (Reg.CAL_GI0 d)).toNat, oi0 := s.rdI (Reg.CAL_OI0 d)
    gi1 := (s.rd (Reg.CAL_GI1 d)).toNat, oi1 := s.rdI (Reg.CAL_OI1 d) }

def State.setCalWindow (s : State) (d : Nat) (c : Coeff) : State :=
  let s := ((s.wrN (Reg.CAL_KV d) c.kv).wrI (Reg.CAL_OV d) c.ov).wrN (Reg.CAL_GI0 d) c.gi0
  ((s.wrI (Reg.CAL_OI0 d) c.oi0).wrN (Reg.CAL_GI1 d) c.gi1).wrI (Reg.CAL_OI1 d) c.oi1

/-- The bounds of R93. -/
def Coeff.inBounds (c : Coeff) : Bool :=
  let off := fun (v : Int) => decide (-4194304 ≤ v) && decide (v ≤ 4194304)
  let gain := fun (g : Nat) => decide (1063004406 ≤ g) && decide (g ≤ 1084479242)
  decide (108900000 ≤ c.kv) && decide (c.kv ≤ 111100000) && off c.ov && gain c.gi0 && gain c.gi1 && off c.oi0 && off c.oi1

/-- The factory set of channel `k` (R110). -/
def factorySet (k : Nat) : Coeff :=
  { kv := (Config.factory k 0).toNat, ov := (Config.factory k 1).toInt
    gi0 := (Config.factory k 2).toNat, oi0 := (Config.factory k 3).toInt
    gi1 := (Config.factory k 4).toNat, oi1 := (Config.factory k 5).toInt }

/-! ### The bus (R90, R91) -/

/-- A source that the path can take (R90's table; 6 and 7 name none). -/
def srcOk (path src : Nat) : Bool :=
  match src with
  | 0 => true
  | 1 => true
  | 2 => path == 0
  | 3 => true
  | 4 => path == 1
  | 5 => path == 1
  | _ => false

/-- The connected path returns to its sense balls (R91 RELEASE). -/
def State.calRelease (s : State) (d : Nat) : State :=
  if s.bit (Reg.CAL_STAT d) 23 then
    let k := 128 * d + s.get (Reg.CAL_STAT d) 22 16
    (s.setBit (mstat k) 5 false).put (Reg.CAL_STAT d) 24 16 0
  else s

/-- The path that `ARG` names is the connected one. -/
def State.calSame (s : State) (d : Nat) : Bool :=
  s.get (Reg.CAL_STAT d) 22 16 == s.get (Reg.CAL_ARG d) 6 0 && s.get (Reg.CAL_STAT d) 24 24 == s.get (Reg.CAL_ARG d) 8 8

def State.connect (s : State) (d : Nat) : State :=
  let k := s.calChan d
  let path := s.get (Reg.CAL_ARG d) 8 8
  let st := s.chState k
  if !s.running (0x012 + d) then s.calDone d 7
  else if !s.hasCh k then s.calDone d 6
  else if !srcOk path (s.get (Reg.CAL_ARG d) 14 12) then s.calDone d 4
  else if s.bit (Reg.CAL_STAT d) 23 && !s.calSame d then s.calDone d 2
  else if st != 0 && st != 5 && st != 6 then s.calDone d 1
  else
    let s := s.setBit (mstat k) 5 true
    let s := s.put (Reg.CAL_STAT d) 24 16 (s.get (Reg.CAL_ARG d) 6 0 + 128 + 256 * path)
    let r := s.get (Reg.CAL_ARG d) 9 9
    (s.modDie d fun x => { x with calRange := r }).calBusy d .settling

def State.measure (s : State) (d : Nat) : State :=
  if !s.running (0x012 + d) then s.calDone d 7
  else if !s.bit (Reg.CAL_STAT d) 23 then s.calDone d 3
  else
    let oven := s.get (Reg.MEAS_OVEN_STAT d) 2 0 != 2
    s.calBusy d (.measuring s.strobeIdx (2 ^ min 16 (s.get (Reg.CAL_ARG d) 20 16)) 0 0 0 false oven)

/-- The last usable sample has arrived (R92, R96). -/
def State.measureDone (s : State) (d : Nat) : State :=
  match (s.die d).cal with
  | .measuring _ want n sum sumSq refChg oven =>
    if n < want then s
    else if refChg then s.calDone d 8
    else if oven then s.calDone d 9
    else
      let k := 128 * d + s.get (Reg.CAL_STAT d) 22 16
      let c := (s.chMeas k).coef
      let r := (s.die d).calRange
      let cal := if s.bit (Reg.CAL_STAT d) 24 then
          roundDiv ((sum - c.oi r * n) * (if r = 0 then (s.ch k).ki0 else (s.ch k).ki1)) (2 ^ 32 * n)
        else roundDiv ((sum - c.ov * n) * c.kv) (2 ^ 32 * n)
      let var := (n : Int) * sumSq - sum * sum
      let s := s.wrI (Reg.CAL_MEAN d) (roundDiv sum n)
      let s := s.wrN (Reg.CAL_SDEV d) (sqrtRound var.toNat (n * n))
      (s.wr (Reg.CAL_MEANCAL d) (word32 cal)).calDone d 0
  | _ => s

/-! ### Sets and the journal (R94, R95, R110) -/

/-- A set is to be journalled and made active. -/
def State.commitSet (s : State) (d : Nat) (set : Coeff) (factory : Bool) : State :=
  if s.pg (0x012 + d) = 5 || !s.calReadable then s.calDone d 5
  else s.calBusy d (.writing (s.calChan d) set factory)

def State.commit (s : State) (d : Nat) : State :=
  if !s.hasCh (s.calChan d) then s.calDone d 6
  else if !(s.calWindow d).inBounds then s.calDone d 4
  else s.commitSet d (s.calWindow d) false

def State.restoreFactory (s : State) (d : Nat) : State :=
  if !s.hasCh (s.calChan d) then s.calDone d 6 else s.commitSet d (factorySet (s.calChan d)) true

/-- Sequence number of the journal's latest record. -/
def State.calSeqNow (s : State) : Nat :=
  match s.calJournal with
  | r :: _ => r.seq
  | [] => 0

/-- The journal write has finished (R94): the set applies from the next base strobe. -/
def State.journalDone (s : State) (d : Nat) (ok : Bool) : State :=
  match (s.die d).cal with
  | .writing k set factory =>
    if s.compacting.contains 0 then s
    else
      let fail := !ok || s.injFires (0x012 + d) 0x10 0
      let s := s.injStep (0x012 + d) 0x10 0
      if fail then s.calDone d 5
      else
        let seq := s.calSeqNow + 1
        let time := if factory then 0 else s.tbSec % 2 ^ 32
        let s := { s with calJournal := { chan := k, seq := seq, time := time, set := set } :: s.calJournal }
        let s := s.modMeas k fun m => { m with coefNext := some set, calSeq := seq, calTime := time }
        let s := (s.wrN (Reg.CAL_SEQ d) seq).wrN (Reg.CAL_TIME d) time
        ((s.setBit (mstat k) 6 false).trendRestart k).calDone d 0
  | _ => s

def State.calRead (s : State) (d : Nat) : State :=
  let k := s.calChan d
  if !s.hasCh k then s.calDone d 6
  else
    let m := s.chMeas k
    let s := s.setCalWindow d (m.coefNext.getD m.coef)
    ((s.wrN (Reg.CAL_SEQ d) m.calSeq).wrN (Reg.CAL_TIME d) m.calTime).calDone d 0

def State.calReadFactory (s : State) (d : Nat) : State :=
  let k := s.calChan d
  if !s.hasCh k then s.calDone d 6
  else (((s.setCalWindow d (factorySet k)).wrN (Reg.CAL_SEQ d) 0).wrN (Reg.CAL_TIME d) 0).calDone d 0

/-- What a STOP of the calibration page does: CONNECT and MEASURE complete STOPPED, the path is released (R103). -/
def State.calStop (s : State) (d : Nat) : State :=
  let s := match (s.die d).cal with
    | .settling => s.calDone d 7
    | .measuring .. => s.calDone d 7
    | _ => s
  s.calRelease d

/-! ### Meanings -/

/-- R91, op 0. -/
def execCalNop (d : Nat) (s : State) : Answer := answer (wfDie d) (s.calCmd d fun s => s.calDone d 0)
/-- R91, op 1. -/
def execCalConnect (d : Nat) (s : State) : Answer := answer (wfDie d) (s.calCmd d fun s => s.connect d)
/-- R91: 32 base strobes after CONNECT. -/
def execCalConnectSettled (d : Nat) (s : State) : Answer :=
  answer (wfDie d) (if (s.die d).cal = .settling then s.calDone d 0 else s)
/-- R91, R96, op 2. -/
def execCalMeasure (d : Nat) (s : State) : Answer := answer (wfDie d) (s.calCmd d fun s => s.measure d)
/-- R96. -/
def execCalMeasureDone (d : Nat) (s : State) : Answer := answer (wfDie d) (s.measureDone d)
/-- R91, op 3. -/
def execCalRelease (d : Nat) (s : State) : Answer :=
  answer (wfDie d) (s.calCmd d fun s => (s.calRelease d).calDone d 0)
/-- R91, op 4. -/
def execCalRead (d : Nat) (s : State) : Answer := answer (wfDie d) (s.calCmd d fun s => s.calRead d)
/-- R93, R94, op 5. -/
def execCalCommit (d : Nat) (s : State) : Answer := answer (wfDie d) (s.calCmd d fun s => s.commit d)
/-- R110, op 6. -/
def execCalRestoreFactory (d : Nat) (s : State) : Answer := answer (wfDie d) (s.calCmd d fun s => s.restoreFactory d)
/-- R94: the journal write of a commit ends. -/
def execCalJournalDone (d : Nat) (ok : Bool) (s : State) : Answer := answer (wfDie d) (s.journalDone d ok)
/-- R91, op 7. -/
def execCalReadFactory (d : Nat) (s : State) : Answer := answer (wfDie d) (s.calCmd d fun s => s.calReadFactory d)
/-- R91: ops 8 to 15 complete OUT_OF_BOUNDS. -/
def execCalReservedOp (d op : Nat) (s : State) : Answer :=
  answer (wfDie d && decide (8 ≤ op) && decide (op < 16)) (s.calCmd d fun s => s.calDone d 4)

end Sys2Proof.Machine
end

