-- ==== Sys2Proof/Machine/Can.lean ====
section
/-!
DEFINITION. The CAN FD ports, selective wake and the awake timer, and the TIA-485 ports (14_can_serial_and_wake.md).
-/
namespace Sys2Proof.Machine

/-! ### CAN controllers (R440 to R446, R461) -/

def canPage (c : Nat) : Nat := 0x0B0 + c
def State.can (s : State) (c : Nat) : Can := Sparse.get {} s.cans c

/-- Frames that a port holds to be sent, the one on the bus among them (log 26). -/
def Can.held (x : Can) : Nat := x.queue.length + x.sending.toList.length

/-- A port's state, and `CAN.TXQ` with it. -/
def State.setCan (s : State) (c : Nat) (x : Can) : State :=
  let s : State := { s with cans := Sparse.insert s.cans c x }
  let s := s.put (Reg.CAN_TXQ c) 5 0 x.held
  s.put (Reg.CAN_TXQ c) 13 8 (max (s.get (Reg.CAN_TXQ c) 13 8) x.held)

def State.modCan (s : State) (c : Nat) (f : Can → Can) : State := s.setCan c (f (s.can c))

/-- FV24 is valid (R439, R473). -/
def State.fv24Valid (s : State) : Bool := s.field.alive && !s.field.uv.contains 0

def State.tec (s : State) (c : Nat) : Nat := s.get (Reg.CAN_ECNT c) 7 0
def State.rec' (s : State) (c : Nat) : Nat := s.get (Reg.CAN_ECNT c) 15 8

/-- `CAN.STAT.FSTATE` (R445, R446). -/
def State.canState (s : State) (c : Nat) : Nat :=
  if !s.running (canPage c) || !s.fv24Valid || s.feather || (s.can c).frozen then 3
  else if (s.can c).busOff then 2
  else if 128 ≤ s.tec c || 128 ≤ s.rec' c then 1
  else 0

/-- The port takes part in the traffic of its bus. -/
def State.canLive (s : State) (c : Nat) : Bool := decide (s.canState c < 2)

/-- `n` frames are discarded under R444 to R446. -/
def State.canLose (s : State) (c n : Nat) : State :=
  if n = 0 then s else (s.count (Reg.CAN_LOST c) 15 0 n).raise (canPage c) 10

/-- The transmit queue is discarded and counted. -/
def State.canDrop (s : State) (c : Nat) : State :=
  let n := (s.can c).held
  (s.modCan c fun (x : Can) => { x with queue := [], sending := none }).canLose c n

/-- A frame of the message bridge for the port (R444), its queue not full. -/
def State.canQueue (s : State) (c : Nat) (f : CanFrame) : State :=
  if (f.fdf && !s.bit (Reg.CAN_CFG c) 0) || (f.brs && !s.bit (Reg.CAN_CFG c) 1) then s.canLose c 1
  else s.modCan c fun (x : Can) => { x with queue := x.queue ++ [f] }

/-- Configuration that STARTING refuses (R441): ranges, the nominal rate, and the data rate in time quanta of 20 ns. -/
def State.canInvalid (s : State) (c : Nat) : Bool :=
  let g := fun (a hi lo : Nat) => s.get a hi lo + 1
  let n := Reg.CAN_NBT c
  let d := Reg.CAN_DBT c
  let nq := g n 7 0 * (1 + g n 15 8 + g n 22 16)
  let dq := g d 4 0 * (1 + g d 12 8 + g d 19 16)
  decide (g n 15 8 < 2) || decide (g n 22 16 < g n 30 24) || decide (g d 19 16 < g d 27 24) ||
    decide (nq < 50) || decide (nq < dq) || decide (dq < 10)

/-- RUN of the page starts the recovery of a port in BUS_OFF (R445). -/
def State.canStart (s : State) (c : Nat) : State :=
  if (s.can c).busOff then s.modCan c fun (x : Can) => { x with recovering := true } else s

/-- STOPPING discards and counts the transmit queue (R461). -/
def State.canStop (s : State) (c : Nat) : State := s.canDrop c

/-- R443: a correct frame. A receive error counter above 127 falls to a free value from 119 to 127 (log 26). -/
def State.canRx (s : State) (c : Nat) (f : CanFrame) (sof : Nat) : State :=
  let s := s.count (Reg.CAN_CNT c) 15 0
  let r := s.rec' c
  let s := if 127 < r then
      (s.put (Reg.CAN_ECNT c) 15 8 (119 + s.freeWord.toNat % 9)).useFree
    else s.put (Reg.CAN_ECNT c) 15 8 (r - 1)
  if s.bit (Reg.CAN_CFG c) 2 || f.rtr then s else s.mbPush (.can c f.ide) f.id f.data sof

def execCanFrameRx (c : Nat) (f : CanFrame) (sof : Nat) (s : State) : Answer :=
  answer (wfCan c && wfCanFrame f) (if s.canLive c then s.canRx c f sof else s)

/-- Arbitration compares identifiers from their most significant bit; a base identifier stands before its extension. -/
def arbKey (f : CanFrame) : Nat := if f.ide then f.id * 2 + 1 else f.id * 2 ^ 19

/-- The frame that goes next, and the others (R444). -/
def canPick : List CanFrame → Option (CanFrame × List CanFrame)
  | [] => none
  | f :: t =>
    match canPick t with
    | none => some (f, [])
    | some (g, r) => if arbKey g < arbKey f then some (g, f :: r) else some (f, t)

/-- R444. -/
def State.canTx (s : State) (c : Nat) : State :=
  let x := s.can c
  if !s.canLive c || x.sending.isSome || s.bit (Reg.CAN_CFG c) 2 then s
  else
    let pick := if s.bit (Reg.CAN_CFG c) 4 then canPick x.queue
      else match x.queue with
        | [] => none
        | f :: t => some (f, t)
    match pick with
    | none => s
    | some (f, rest) =>
      let stuck := s.injFires (canPage c) 0x10 0
      let s := (s.injStep (canPage c) 0x10 0).setCan c { x with queue := rest, sending := some f }
      if stuck then s.pageFault (canPage c) 0x0100 else s

def execCanTxStart (c : Nat) (s : State) : Answer := answer (wfCan c) (if s.halted then s else s.canTx c)

/-- The frame on the bus has been sent; the measured loop delay of an FD frame is a free value (R442). -/
def State.canSent (s : State) (c : Nat) (f : CanFrame) : State :=
  let s := (s.modCan c fun (x : Can) => { x with sending := none }).count (Reg.CAN_CNT c) 31 16
  let s := s.put (Reg.CAN_ECNT c) 7 0 (s.tec c - 1)
  if f.fdf && s.bit (Reg.CAN_CFG c) 7 then (s.put (Reg.CAN_STAT c) 15 8 s.freeWord.toNat).useFree else s

/-- The frame on the bus is sent again, unless `ONESHOT` is set. -/
def State.canAgain (s : State) (c : Nat) (f : CanFrame) : State :=
  if s.bit (Reg.CAN_CFG c) 3 then (s.modCan c fun (x : Can) => { x with sending := none }).canLose c 1
  else s.modCan c fun (x : Can) => { x with sending := none, queue := f :: x.queue }

def State.canDone (s : State) (c how : Nat) : State :=
  match (s.can c).sending with
  | none => s
  | some f =>
    if how = 0 then s.canSent c f
    else (s.when (how == 1) fun s => s.count (Reg.CAN_LOST c) 31 16).canAgain c f

/-- The frame under way ends after its port has left the traffic of its bus: at a stop or at Feather entry it is finished, and
discarded where it would be sent again (R446, R461); one that a lost FV24 cuts off waits to be sent again. -/
def State.canEnd (s : State) (c how : Nat) : State :=
  match (s.can c).sending with
  | none => s
  | some f =>
    if how = 0 && s.fv24Valid then s.canSent c f
    else if s.running (canPage c) && !(s.can c).frozen then
      s.modCan c fun (x : Can) => { x with sending := none, queue := f :: x.queue }
    else (s.modCan c fun (x : Can) => { x with sending := none }).canLose c 1

def execCanTxDone (c how : Nat) (s : State) : Answer :=
  answer (wfCan c && decide (how < 3)) (if s.canLive c then s.canDone c how else s.canEnd c how)

/-- TEC above 255 (R445). -/
def State.canBusOff (s : State) (c : Nat) : State :=
  let s := (s.put (Reg.CAN_ECNT c) 7 0 255).canDrop c
  (s.modCan c fun (x : Can) => { x with busOff := true, recovering := s.bit (Reg.CAN_CFG c) 5 }).raise (canPage c) 8

/-- A bus error raises TEC by 8, or REC by 1 or 8; an error-passive transmitter that misses the acknowledgement keeps
its TEC (ISO 11898-1:2015). -/
def State.canError (s : State) (c kind : Nat) (tx heavy : Bool) : State :=
  let was := s.canState c
  let s := s.count (Reg.CAN_ERR c) (8 * kind + 7) (8 * kind)
  let t := s.tec c + (if tx && !(kind == 3 && was == 1) then 8 else 0)
  if 255 < t then s.canBusOff c
  else
    let s := s.put (Reg.CAN_ECNT c) 7 0 t
    let s := if tx then s else s.put (Reg.CAN_ECNT c) 15 8 (min 255 (s.rec' c + (if heavy then 8 else 1)))
    s.when (was == 0 && s.canState c == 1) fun s => s.raise (canPage c) 9

def execCanBusError (c kind : Nat) (tx heavy : Bool) (s : State) : Answer :=
  answer (wfCan c && decide (kind < 4)) (if s.canLive c then s.canError c kind tx heavy else s)

/-- R445. -/
def execCanBusoffRecovered (c : Nat) (s : State) : Answer :=
  answer (wfCan c)
    (if s.canState c == 2 && (s.can c).recovering then
      (s.modCan c fun (x : Can) => { x with busOff := false, recovering := false }).put (Reg.CAN_ECNT c) 15 0 0
    else s)

/-- R461: page fault 0x0100; the transceiver forces the bus recessive. -/
def execTxdDominant (c : Nat) (s : State) : Answer :=
  answer (wfCan c) (if s.canState c == 3 then s else s.pageFault (canPage c) 0x0100)

/-- R446. -/
def execCanResume (c : Nat) (s : State) : Answer :=
  answer (wfCan c) (if s.feather then s else s.modCan c fun (x : Can) => { x with frozen := false })

/-! ### Selective wake (R447 to R451) -/

/-- The wake configuration of a port, as Feather entry copies it; a filter whose data mask is 0 is refused (R448). -/
def State.wakeFilter (s : State) (c w : Nat) : List Word :=
  let id := s.rd (Reg.CAN_WID c w)
  let refused := s.bit (Reg.CAN_WDLC c w) 4 && s.rd (Reg.CAN_WDATA_LO c w) == 0 && s.rd (Reg.CAN_WDATA_HI c w) == 0
  [if refused then 0 else id, s.rd (Reg.CAN_WMSK c w), s.rd (Reg.CAN_WDLC c w), s.rd (Reg.CAN_WDATA_LO c w),
    s.rd (Reg.CAN_WDATA_HI c w)]

/-- A decoder is armed at Feather entry: `WMODE` 1 or 2, `WRATE` not reserved. -/
def State.canArm (s : State) (c : Nat) : State :=
  let cfg := s.rd (Reg.CAN_WCFG c)
  let mode := cfg.fld 1 0
  if mode = 0 || mode = 3 then s
  else if 4 ≤ cfg.fld 26 24 then s.raise (canPage c) 13
  else
    let fs := [0, 1].map fun w => s.wakeFilter c w
    let bad := [0, 1].any fun w => s.bit (Reg.CAN_WDLC c w) 4 && s.rd (Reg.CAN_WDATA_LO c w) == 0 &&
      s.rd (Reg.CAN_WDATA_HI c w) == 0 && s.bit (Reg.CAN_WID c w) 31
    let s := s.when bad fun s => s.raise (canPage c) 13
    s.modCan c fun (x : Can) =>
      { x with armed := some (cfg, fs.flatten), fec := 0, fecHigh := false, matched := 0, window := none }

/-- Feather entry (R446, R464): controllers freeze, their queues are discarded while the frame on the bus is finished, and
decoders are armed while page 0x0B8 is RUNNING. -/
def State.canSleep (s : State) : State :=
  s.each (List.range 4) fun s c =>
    let s := if s.running (canPage c) then
        let n := (s.can c).queue.length
        (s.modCan c fun (x : Can) => { x with queue := [], frozen := true }).canLose c n
      else s
    s.when (s.running 0x0B8) fun s => s.canArm c

/-- Feather exit (R452): decoders disarmed, the vote withdrawn, the awake timer started after a CAN wake. -/
def State.canWakeUp (s : State) : State :=
  let s := s.each (List.range 4) fun s c => s.modCan c fun (x : Can) => { x with armed := none, window := none }
  let s := s.voteWrite false
  let n := s.get Reg.NS_CFG 15 0
  let due := s.awakeDue && s.running 0x0B8 && n != 0
  { s with awakeDue := false, awake := if due then some (s.now + n * 1000000000) else s.awake }

/-- The wake configuration in force for port `c`, none while its decoder cannot wake the device (R451, R453, R464). -/
def State.wakeCfg (s : State) (c : Nat) : Option (Word × List Word) :=
  if s.feather && s.running 0x0B8 && s.fv24Valid then (s.can c).armed else none

/-- A wake by port `c` is recorded and requested (R451): `rec_` holds the flags of `WREC0`. Of two ports that wake at one
instant the lower is recorded (R453). -/
def State.canWake (s : State) (c rec_ : Nat) (id lo hi : Word) (sof : Nat) : State :=
  let s := if (List.range c).any fun k => (s.can k).wokeAt == some s.now then s
    else
      let s := (s.wrN Reg.NS_WREC0 (c + rec_ + 2 ^ 31)).wr Reg.NS_WREC1 id
      ((s.wr Reg.NS_WDATA_LO lo).wr Reg.NS_WDATA_HI hi).wr64 Reg.NS_WTIME_LO Reg.NS_WTIME_HI sof
  let s := s.modCan c fun (x : Can) => { x with wokeAt := some s.now }
  let s := (s.count Reg.NS_CNT 15 0).put (Reg.CAN_ECNT c) 23 16 (s.can c).fec
  let s := (s.raise 0x0B8 8).raise (canPage c) 11
  ({ s with awakeDue := true }).wakeRequest 5

/-- A wake without a frame to record: identifier, data and, for the pattern, the time are free values (log 27). -/
def State.canWakeFree (s : State) (c rec_ : Nat) (sof : Option Nat) : State :=
  let f := fun n => Config.freeWord (s.free + n)
  let time := match sof with
    | some t => t
    | none => (f 3).toNat + 2 ^ 32 * (f 4).toNat
  ({ s with free := s.free + 5 }).canWake c rec_ (f 0 &&& 0x3FFFFFFF) (f 1) (f 2) time

/-- R447: WMODE 1. -/
def execCanWupDetected (c : Nat) (s : State) : Answer :=
  answer (wfCan c)
    (match s.wakeCfg c with
      | some (cfg, _) => if cfg.fld 1 0 = 1 then s.canWakeFree c 16 none else s
      | none => s)

/-- R448: a frame matches the filter of five words. -/
def filterMatches (w : List Word) (f : CanFrame) : Bool :=
  let id := w.getD 0 0
  let msk := (w.getD 1 0).fld 28 0
  let dlc := w.getD 2 0
  let mask := (w.getD 3 0).toNat + 2 ^ 32 * (w.getD 4 0).toNat
  id.getLsbD 31 && !f.rtr && f.ide == id.getLsbD 29 && (f.id &&& msk) == (id.fld 28 0 &&& msk) &&
    (!dlc.getLsbD 4 || (f.data.length == dlc.fld 3 0 && (ofLeBytes f.data &&& mask) != 0))

/-- Matches that were not confirmed in time are dropped and counted (R450). -/
def State.unconfirmed (s : State) (c : Nat) : State :=
  let n := (s.can c).matched
  (s.modCan c fun (x : Can) => { x with matched := 0, window := none }).count (Reg.CAN_WUNC c) 31 0 n

/-- One match of filter `w` (R450). -/
def State.canMatch (s : State) (c : Nat) (cfg : Word) (w : Nat) (f : CanFrame) (sof : Nat) : State :=
  let late := match (s.can c).window with
    | some e => decide (e < s.now)
    | none => false
  let s := if late then s.unconfirmed c else s
  let x := s.can c
  if max 1 (cfg.fld 11 8) ≤ x.matched + 1 then
    let s := s.setCan c { x with matched := 0, window := none }
    s.canWake c (4 * w) (BitVec.ofNat 32 (f.id + 2 ^ 29 * f.ide.toNat)) (BitVec.ofNat 32 (ofLeBytes (f.data.take 4)))
      (BitVec.ofNat 32 (ofLeBytes ((f.data.drop 4).take 4))) sof
  else
    let cwin := cfg.fld 23 16
    let win := if x.matched = 0 && cwin != 0 then some (s.now + cwin * 10000000) else x.window
    s.setCan c { x with matched := x.matched + 1, window := win }

/-- R448, R449: a correct classic frame; one with FDF recessive is ignored. -/
def State.canDecode (s : State) (c : Nat) (f : CanFrame) (sof : Nat) : State :=
  match s.wakeCfg c with
  | none => s
  | some (cfg, ws) =>
    if cfg.fld 1 0 ≠ 2 || f.fdf then s
    else
      let s := s.modCan c fun (x : Can) => { x with fec := x.fec - 1 }
      if filterMatches (ws.take 5) f then s.canMatch c cfg 0 f sof
      else if filterMatches (ws.drop 5) f then s.canMatch c cfg 1 f sof
      else s

def execCanWakeFrameMatch (c : Nat) (f : CanFrame) (sof : Nat) (s : State) : Answer :=
  answer (wfCan c && wfCanFrame f) (s.canDecode c f sof)

/-- R449: at 32 the device is woken, or FEC_HIGH is raised once. -/
def State.canDecodeBad (s : State) (c sof : Nat) : State :=
  match s.wakeCfg c with
  | none => s
  | some (cfg, _) =>
    let x := s.can c
    if cfg.fld 1 0 ≠ 2 || 32 ≤ x.fec then s
    else
      let s := s.setCan c { x with fec := x.fec + 1 }
      if x.fec + 1 < 32 then s
      else if cfg.getLsbD 2 then s.canWakeFree c 8 (some sof)
      else if x.fecHigh then s
      else (s.modCan c fun (x : Can) => { x with fecHigh := true }).raise (canPage c) 12

def execCanWakeFrameError (c sof : Nat) (s : State) : Answer := answer (wfCan c) (s.canDecodeBad c sof)

/-- R450. -/
def execCanConfirmWindowExpiry (c : Nat) (s : State) : Answer :=
  answer (wfCan c) (if (s.wakeCfg c).isSome && (s.can c).window.isSome then s.unconfirmed c else s)

/-! ### The awake timer (R452) -/

def execAwakeTimerExpiry (s : State) : Answer :=
  .next
    (if s.awake.isSome && s.running 0x0B8 then
      let s := (({ s with awake := none }).raise 0x0B8 9).count Reg.NS_CNT 31 16
      if s.bit Reg.NS_CFG 16 then s.voteWrite true else s
    else s)

def execNsConfirm (s : State) : Answer := .next { s with awake := none }

/-- While page 0x0B8 is STOPPED the awake timer is stopped (R464). -/
def State.nsStop (s : State) : State := { s with awake := none, awakeDue := false }

/-! ### TIA-485 ports (R454 to R458) -/

def serPage (u : Nat) : Nat := 0x0B4 + u
def State.ser (s : State) (u : Nat) : Ser := Sparse.get {} s.sers u
def State.setSer (s : State) (u : Nat) (x : Ser) : State := { s with sers := Sparse.insert s.sers u x }

/-- The port sends and receives (R439, R458). -/
def State.serLive (s : State) (u : Nat) : Bool := s.running (serPage u) && s.fv24Valid && !s.feather

/-- Transmit characters held: those of a frame until it has been sent (log 28). -/
def Ser.txHeld (x : Ser) : Nat := (x.closed.map List.length).sum + x.opened.length + (x.sending.getD []).length

/-- A character as the line carries it. -/
def State.serChar (s : State) (u ch : Nat) : Nat := ch % 2 ^ (7 + s.get (Reg.SER_CFG u) 1 0)

/-- Configuration that STARTING refuses (R462). -/
def State.serInvalid (s : State) (u : Nat) : Bool :=
  s.get (Reg.SER_CFG u) 1 0 == 3 || decide (4 < s.get (Reg.SER_CFG u) 4 2) || decide (s.get (Reg.SER_BAUD u) 23 0 < 80)

/-- R455. -/
def State.serWrite (s : State) (u : Nat) (v : Word) : State :=
  let x := s.ser u
  if !s.running (serPage u) then s
  else if 4096 ≤ x.txHeld then s.raise (serPage u) 12
  else
    let chars := x.opened ++ [v.fld 8 0]
    if v.getLsbD 16 then s.setSer u { x with opened := [], closed := x.closed ++ [chars] }
    else s.setSer u { x with opened := chars }

def execSerTxdWrite (u : Nat) (v : Word) (s : State) : Answer := answer (wfSer u) (s.serWrite u v)

def execSerFrameTxStart (u : Nat) (s : State) : Answer :=
  answer (wfSer u)
    (let x := s.ser u
     match x.closed with
     | f :: t =>
       if s.serLive u && !s.halted && x.sending.isNone then s.setSer u { x with closed := t, sending := some f, echoed := 0 } else s
     | [] => s)

def execSerFrameTxDone (u : Nat) (s : State) : Answer :=
  answer (wfSer u)
    (let x := s.ser u
     if x.sending.isSome then
       ((s.setSer u { x with sending := none }).count (Reg.SER_CNT u) 31 16).raise (serPage u) 9
     else s)

/-- The received frame ends with its descriptor; without a free descriptor it is discarded (log 28). -/
def State.serFrameEnd (s : State) (u : Nat) : State :=
  let x := s.ser u
  match x.cur with
  | none => s
  | some (n, ovf, err, ns) =>
    if 64 ≤ x.descs.length then
      ((s.setSer u { x with cur := none, rx := x.rx.take (x.rx.length - n) }).count (Reg.SER_ERR u) 23 16).raise
        (serPage u) 10
    else
      let mark := match x.rx.getLast? with
        | some (ch, p, f, l) => x.rx.dropLast ++ [(ch, p, f, l || n != 0)]
        | none => []
      let s := s.setSer u { x with cur := none, rx := mark, descs := x.descs ++ [(n, ovf, err, ns)] }
      (s.count (Reg.SER_CNT u) 15 0).raise (serPage u) 8

/-- A collision (R457): the rest of the frame is discarded. -/
def State.serCollide (s : State) (u : Nat) : State :=
  let x := s.ser u
  ((s.setSer u { x with sending := none }).count (Reg.SER_ERR u) 31 24).raise (serPage u) 11

/-- A character that the port sent, read back (R457). -/
def State.serEcho (s : State) (u : Nat) (sent : List Nat) (ch : Nat) : State :=
  let x := s.ser u
  if !s.bit (Reg.SER_CFG u) 8 then s
  else match sent[x.echoed]? with
    | none => s
    | some want =>
      if s.serChar u want = s.serChar u ch then s.setSer u { x with echoed := x.echoed + 1 } else s.serCollide u

/-- A received character (R456). -/
def State.serRx (s : State) (u ch : Nat) (perr ferr : Bool) (ns : Nat) : State :=
  let x := s.ser u
  let (n, ovf, err, t) := x.cur.getD (0, false, false, ns)
  if 4096 ≤ x.rx.length then
    let s := s.setSer u { x with cur := some (n, true, err, t) }
    if ovf then s else (s.count (Reg.SER_ERR u) 23 16).raise (serPage u) 10
  else
    let s := s.when perr fun s => s.count (Reg.SER_ERR u) 7 0
    let s := s.when ferr fun s => s.count (Reg.SER_ERR u) 15 8
    let s := s.setSer u
      { x with rx := x.rx ++ [(s.serChar u ch, perr, ferr, false)], cur := some (n + 1, ovf, err || perr || ferr, t) }
    if x.rx.length + 1 < 4096 then s else s.serFrameEnd u

def execSerCharRx (u ch : Nat) (perr ferr : Bool) (ns : Nat) (s : State) : Answer :=
  answer (wfSer u && decide (ch < 512))
    (if !s.serLive u then s
    else match (s.ser u).sending with
      | some f => s.serEcho u f ch
      | none => s.serRx u ch perr ferr ns)

def execSerIdleGap (u : Nat) (s : State) : Answer := answer (wfSer u) (if s.serLive u then s.serFrameEnd u else s)

/-- R462: the oldest character, shown and removed. -/
def State.serRead (s : State) (u : Nat) : State :=
  let x := s.ser u
  match x.rx with
  | [] => s.wr (Reg.SER_RXD u) 0
  | (ch, p, f, l) :: t =>
    (s.setSer u { x with rx := t }).wrN (Reg.SER_RXD u)
      (ch + 2 ^ 12 * p.toNat + 2 ^ 13 * f.toNat + 2 ^ 15 + 2 ^ 16 * l.toNat)

def execSerRxdRead (u : Nat) (s : State) : Answer := answer (wfSer u) (s.serRead u)

/-- R462: the oldest descriptor, shown and removed, its time in `RXTS`. -/
def State.serReadFrame (s : State) (u : Nat) : State :=
  let x := s.ser u
  match x.descs with
  | [] => s.wr (Reg.SER_RXFR u) 0
  | (n, ovf, err, ns) :: t =>
    ((s.setSer u { x with descs := t }).wrN (Reg.SER_RXFR u) (n + 2 ^ 16 * ovf.toNat + 2 ^ 17 * err.toNat + 2 ^ 31)).wr64
      (Reg.SER_RXTS_LO u) (Reg.SER_RXTS_HI u) ns

def execSerRxfrRead (u : Nat) (s : State) : Answer := answer (wfSer u) (s.serReadFrame u)

/-- STOPPING discards both buffers (R463). -/
def State.serStop (s : State) (u : Nat) : State := s.setSer u {}

/-- Feather entry (R458): unsent frames and the partly received one are discarded and counted. -/
def State.serSleep (s : State) : State :=
  s.each (List.range 4) fun s u =>
    let x := s.ser u
    let lost := x.closed.length + (if x.opened.isEmpty then 0 else 1) + x.sending.toList.length + x.cur.toList.length
    let part := match x.cur with
      | some c => c.1
      | none => 0
    let s := s.setSer u
      { x with closed := [], opened := [], sending := none, cur := none, rx := x.rx.take (x.rx.length - part) }
    s.count (Reg.SER_ERR u) 23 16 lost

end Sys2Proof.Machine
end

