-- ==== Sys2Proof/Machine/Program.lean ====
section
/-!
DEFINITION. Program slots and their operations (R157 to R167): what SEAL checks, what each operation does at its
completion, and the meanings of the program commands.
-/
namespace Sys2Proof.Machine

def State.slot (s : State) (i : Nat) : Slot := Sparse.get {} s.slots i
def State.setSlot (s : State) (i : Nat) (d : Slot) : State := { s with slots := Sparse.set {} s.slots i d }

/-! ### What SEAL checks (R162, R166 to R168) -/

/-- Kinds allowed as a limit (R168). -/
def kindLimits (kind : Nat) : Bool := [1, 2, 3, 4, 6, 7, 8, 10, 11, 12].contains kind

/-- Kinds allowed in a mode (R168). -/
def kindInMode (kind mode : Nat) : Bool :=
  match kind with
  | 5 => mode == 2 || mode == 3
  | 6 => decide (1 ≤ mode) && decide (mode ≤ 8)
  | 7 => decide (1 ≤ mode) && decide (mode ≤ 8)
  | 8 => decide (1 ≤ mode) && decide (mode ≤ 8)
  | 9 => decide (mode ≤ 5) || mode == 9
  | 10 => decide (mode ≤ 5) || mode == 9
  | 16 => mode == 3
  | 17 => mode == 8
  | 18 => mode == 6
  | 19 => mode == 7
  | _ => true

/-- A program as SEAL reads it: word `w` of entry `i`. -/
abbrev Words := Nat → Nat → Word

/-- The used terminations of an entry, each with its branch field. -/
def usedTerms (e : Words) (i : Nat) : List (Word × Nat) :=
  ((List.range 4).map fun n =>
    (e i (8 + n), (e i (5 + n / 2)).fld (16 * (n % 2) + 15) (16 * (n % 2)))).filter fun t => kindOf t.1 != 0

/-- The used limits of an entry. -/
def usedLimits (e : Words) (i : Nat) : List Word :=
  ((List.range 4).map fun n => e i (12 + n)).filter fun w => kindOf w != 0

def brAction (br : Nat) : Nat := br / 4096 % 8
def brTarget (br : Nat) : Nat := br % 4096

/-- Targets of the LOOP branches of entry `i`. -/
def loopTargets (e : Words) (i : Nat) : List Nat :=
  ((usedTerms e i).filter fun t => brAction t.2 == 2).map fun t => brTarget t.2

/-- The loops of entry `i` overlap one of an entry before it, or each other (R162). -/
def loopNest (e : Words) (i : Nat) : Bool :=
  let ts := loopTargets e i
  let c := (e i 0).fld 9 8
  (ts.any fun t => ts.any fun t' => t != t') ||
    (List.range i).any fun j =>
      (e j 0).fld 9 8 == c && !(loopTargets e j).isEmpty && ts.any fun t => decide (t ≤ j)

/-- A setpoint breaks R166. -/
def badSet (e : Words) (i : Nat) : Bool :=
  let a := e i 1
  let b := e i 2
  let c := e i 3
  match (e i 0).fld 3 0 with
  | 0 => a != 0 || b != 0 || c != 0
  | 1 => b != 0
  | 2 => b != 0 || c == 0
  | 3 => a == 0 || (c != 0 && (decide (0 < c.toInt) != decide (0 < a.toInt)))
  | 4 => a == 0 || b != 0
  | 5 => a == 0 || b != 0
  | 6 => c.fld 15 0 == 0
  | 7 => b.fld 15 0 == 0
  | 9 => a != 0 || b != 0 || c != 0
  | _ => false

/-- The PROFILE table of entry `i` lies outside the table blocks (R162, R167). -/
def badTable (e : Words) (i nstep len : Nat) : Bool :=
  let first := (e i 1).fld 11 0
  (e i 0).fld 3 0 == 7 &&
    (decide (first < nstep) || decide (len < first + ((e i 2).fld 15 0 + 6) / 7))

/-- A reserved bit or action code of a step is not 0. -/
def stepReserved (e : Words) (i : Nat) : Bool :=
  let mode := (e i 0).fld 3 0
  (e i 0).fld 15 10 != 0 || (e i 7).fld 31 16 != 0 ||
    ((usedTerms e i).any fun t => decide (5 ≤ brAction t.2) || decide (32768 ≤ t.2)) ||
    (mode == 7 && ((e i 1).fld 31 12 != 0 || (e i 2).fld 31 17 != 0)) || (mode == 8 && (e i 2).fld 31 4 != 0)

/-- A reserved word or field of a table block is not 0 (R167). -/
def blockReserved (e : Words) (i : Nat) : Bool :=
  e i 1 != 0 || (List.range 7).any fun p => (e i (3 + 2 * p)).fld 31 16 != 0

/-- The lowest WHY that entry `i` breaks; 0 where it breaks none (R162). -/
def entryWhy (e : Words) (nstep len i : Nat) : Nat :=
  if nstep ≤ i then
    if e i 0 != 0x0000000F then 2 else if blockReserved e i then 9 else 0
  else
    let mode := (e i 0).fld 3 0
    let ts := usedTerms e i
    let ls := usedLimits e i
    if 10 ≤ mode then 2
    else if ts.any fun t =>
        ((brAction t.2 == 1 || brAction t.2 == 2 || brAction t.2 == 4) && decide (nstep ≤ brTarget t.2)) ||
        (brAction t.2 == 2 && decide (i < brTarget t.2)) then 3
    else if (ts.any fun t => decide (19 < kindOf t.1)) || (ls.any fun w => !kindLimits (kindOf w)) then 4
    else if (ts.any fun t => !kindInMode (kindOf t.1) mode) || (ls.any fun w => !kindInMode (kindOf w) mode) then 5
    else if loopNest e i then 6
    else if badSet e i then 7
    else if badTable e i nstep len then 8
    else if stepReserved e i then 9
    else 0

/-- The first offending entry with its reason (R162). -/
def sealWhy (e : Words) (nstep len : Nat) : Option (Nat × Nat) :=
  if nstep = 0 || decide (len < nstep) then some (0, 1)
  else
    ((List.range len).map fun i => (i, entryWhy e nstep len i)).find? fun x => x.2 != 0

/-- The entries of a region. -/
def State.regionWords (s : State) (base : Nat) : Words := fun i w => Sparse.get 0 s.store ((base + i) * 16 + w)

/-- The CRC-32C of a region (R161). -/
def State.regionCrc (s : State) (base len : Nat) : Word :=
  crc32c ((List.range (len * 16)).flatMap fun i => leBytes 4 (Sparse.get 0 s.store (base * 16 + i)).toNat)

/-! ### Operations at their completion (R161, R163) -/

/-- Words of entries `base` to `base + len − 1` set to 0. -/
def State.clearRegion (s : State) (base len : Nat) : State :=
  { s with store := s.store.filter fun e => !(decide (base * 16 ≤ e.1) && decide (e.1 < (base + len) * 16)) }

/-- `STEP.FREE` (R185). -/
def State.countFree (s : State) : State := s.wrN Reg.STEP_FREE (65536 - (s.slots.map fun e => e.2.len).sum)

/-- Regions overlap. -/
def overlaps (b l b' l' : Nat) : Bool := decide (b < b' + l') && decide (b' < b + l)

/-- The first refusal of an operation, in the order of R161; 0 where none applies. -/
def State.progRefusal (s : State) (o : ProgOp) : Nat :=
  let d := s.slot o.slot
  let st := d.state
  if 8 ≤ o.op then 5
  else if o.sq.isSome && (o.op == 1 || o.op == 2 || (o.op != 0 && d.owner != o.seat)) then 4
  else
    let accepted := match o.op with
      | 0 => true
      | 1 => st == 0
      | 2 => st != 0
      | 3 => st == 2 || st == 3
      | 4 => st == 1
      | 5 => st != 0
      | 6 => st == 1
      | _ => true
    if !accepted then 1
    else if o.op = 1 && (o.len == 0 || decide (4096 < o.len) || decide (65536 < o.base + o.len)) then 5
    else if (o.op = 4 || o.op = 5) && decide (d.len ≤ o.idx) then 5
    else if o.op = 1 && s.slots.any fun e => e.2.state != 0 && overlaps o.base o.len e.2.base e.2.len then 2
    else if (o.op = 2 || o.op = 3) && d.refs != 0 then 3
    else 0

/-- The words of an entry. -/
def State.entryWords (s : State) (slot idx : Nat) : List Word :=
  (List.range 16).map fun w => Sparse.get 0 s.store (((s.slot slot).base + idx) * 16 + w)

/-- An accepted operation takes its effect on the slot and its entries; the status, and ERRIDX and WHY of a refused
SEAL. -/
def State.progEffect (s : State) (o : ProgOp) : State × Nat × Nat × Nat :=
  let d := s.slot o.slot
  match o.op with
  | 1 =>
    let s := s.clearRegion o.base o.len
    let s := s.setSlot o.slot { state := 1, base := o.base, len := o.len, owner := o.owner }
    (s.countFree, 0, 0, 0)
  | 2 => (((s.clearRegion d.base d.len).setSlot o.slot {}).countFree, 0, 0, 0)
  | 3 => (s.setSlot o.slot { d with state := 1 }, 0, 0, 0)
  | 5 => (s.when (o.readBad && d.state == 2) fun s => s.progBad o.slot, 0, 0, 0)
  | 4 =>
    let at_ := (d.base + o.idx) * 16
    let s := s.each (List.range 16) fun s w => { s with store := Sparse.set 0 s.store (at_ + w) (o.words.getD w 0) }
    (s, 0, 0, 0)
  | 6 =>
    match sealWhy (s.regionWords d.base) o.nstep d.len with
    | some (i, why) => (s, 6, i, why)
    | none =>
      (s.setSlot o.slot { d with state := 2, nstep := o.nstep, crc := s.regionCrc d.base d.len }, 0, 0, 0)
  | _ => (s, 0, 0, 0)

/-- An operation at its completion. -/
def State.progApply (s : State) (o : ProgOp) : State × Nat × Nat × Nat :=
  let r := s.progRefusal o
  if r ≠ 0 then (s, r, 0, 0) else s.progEffect o

/-- `PINFO0` and `PINFO1` of a slot (R185). -/
def Slot.info0 (d : Slot) : Nat := d.base + 2 ^ 16 * d.len + 2 ^ 30 * d.state
def Slot.info1 (d : Slot) : Nat := d.owner + 2 ^ 16 * d.nstep

/-- The words that READ gives: those of the entry, and free values where the entry reads uncorrectable (log 2). -/
def State.readWords (s : State) (o : ProgOp) : List Word :=
  if o.readBad then (List.range 16).map fun w => Config.freeWord (s.free + w) else s.entryWords o.slot o.idx

/-- What READ and INFO load into the registers of the page. -/
def State.progLoad (s : State) (o : ProgOp) : State :=
  match o.op with
  | 5 =>
    let ws := s.readWords o
    s.each (List.range 16) fun s w => s.wr (Reg.STEP_WIN w) (ws.getD w 0)
  | 7 =>
    let d := s.slot o.slot
    (((s.wrN Reg.STEP_PINFO0 d.info0).wrN Reg.STEP_PINFO1 d.info1).wrN Reg.STEP_PINFO2 d.refs).wr Reg.STEP_PCRC d.crc
  | _ => s

/-- `PSTAT` of a completed operation, and PCMD_DONE. -/
def State.progDone (s : State) (st errIdx why : Nat) : State :=
  (s.wrN Reg.STEP_PSTAT (256 * st + 2 ^ 16 * errIdx + 2 ^ 28 * why)).raise 0x031 8

/-- An operation written to `STEP.PCMD` (R161). -/
def State.progWritten (s : State) (op slot : Nat) (readBad : Bool := false) : State :=
  if !s.has 0x031 then s
  else if s.bit Reg.STEP_PSTAT 0 then s.raise 0x031 9
  else
    let o : ProgOp :=
      { op := op, slot := slot, seat := 0, base := s.get Reg.STEP_PBASE 15 0, len := s.get Reg.STEP_PBASE 28 16
        owner := s.get Reg.STEP_POPT 5 0, nstep := s.get Reg.STEP_POPT 28 16, idx := s.get Reg.STEP_PIDX 11 0
        words := (List.range 16).map fun w => s.rd (Reg.STEP_WIN w), readBad := readBad }
    ({ s with progOp := some o }).setBit Reg.STEP_PSTAT 0 true

/-- The operation in progress ends with a status: `PSTAT`, and on the seat path its submission entry, READ writing the
entry to the buffer and INFO returning `PINFO0` and `PINFO1` (R365). -/
def State.progEnd (s : State) (o : ProgOp) (st errIdx why : Nat) : State :=
  let s := s.progDone st errIdx why
  match o.sq with
  | none => if st = 0 then s.progLoad o else s
  | some (q, cid) =>
    let d := s.slot o.slot
    let s := if st = 0 && o.op == 5 then
        s.queueWrite o.seat { kind := 4, idx := q, addr := o.bufAddr, data := (s.readWords o).flatMap fun w => leBytes 4 w.toNat }
      else s
    s.complete o.seat q cid (if st = 0 then 0 else 5) st
      (if st = 0 && o.op == 7 then d.info0 + 2 ^ 32 * d.info1 else 0)

/-- The operation in progress reaches its completion; it waits while the page is STARTING or STOPPING, and completes
STOPPED while the page is FAULTED (R186). -/
def State.progFinish (s : State) : State :=
  match s.progOp with
  | none => s
  | some o =>
    if s.pg 0x031 = 2 || s.pg 0x031 = 4 then s
    else
      let s : State := { s with progOp := none }
      let s :=
        if s.pg 0x031 = 5 then s.progEnd o 8 0 0
        else
          let r := s.progApply o
          r.1.progEnd o r.2.1 r.2.2.1 r.2.2.2
      { s with free := if o.readBad then s.free + 16 else s.free }

/-! ### Meanings -/

/-- R161, op 0. -/
def execProgNop (slot : Nat) (s : State) : Answer := answer (wfSlot slot) (s.progWritten 0 slot)
/-- R161, op 1. -/
def execProgDefine (slot : Nat) (s : State) : Answer := answer (wfSlot slot) (s.progWritten 1 slot)
/-- R161, op 2. -/
def execProgUndefine (slot : Nat) (s : State) : Answer := answer (wfSlot slot) (s.progWritten 2 slot)
/-- R160, R161, op 3. -/
def execProgOpen (slot : Nat) (s : State) : Answer := answer (wfSlot slot) (s.progWritten 3 slot)
/-- R161, op 4. -/
def execProgWrite (slot : Nat) (s : State) : Answer := answer (wfSlot slot) (s.progWritten 4 slot)
/-- R157, R161, op 5. -/
def execProgRead (slot : Nat) (readBad : Bool) (s : State) : Answer := answer (wfSlot slot) (s.progWritten 5 slot readBad)
/-- R161, R162, op 6. -/
def execProgSeal (slot : Nat) (s : State) : Answer := answer (wfSlot slot) (s.progWritten 6 slot)
/-- R161, op 7. -/
def execProgInfo (slot : Nat) (s : State) : Answer := answer (wfSlot slot) (s.progWritten 7 slot)
/-- R161: ops 8 to 15 complete BAD_ARG. -/
def execProgReservedOp (slot op : Nat) (s : State) : Answer :=
  answer (wfSlot slot && decide (8 ≤ op) && decide (op < 16)) (s.progWritten op slot)
/-- R161: the effect takes hold, BUSY clears, PCMD_DONE. -/
def execProgOpComplete (s : State) : Answer := .next s.progFinish

end Sys2Proof.Machine
end

