-- ==== Sys2Proof/Machine/Submit.lean ====
section
/-!
DEFINITION. Submission entries (R364 to R367): arbitration, fetching, and the entries that neither move data (DMA) nor reach
registers (REG_RD, REG_WR).
-/
namespace Sys2Proof.Machine

/-! ### Rounds (R378, R379) -/

/-- Entries that the tail covers and the head does not. -/
def State.sqWaiting (s : State) (i q : Nat) : Bool :=
  match s.sqUp i q with
  | some _ => s.sqTail i q != s.sqHead i q
  | none => false

/-- Ring `r` has records to deliver. -/
def State.ringWork (s : State) (i r : Nat) : Bool :=
  (s.ring i r).active && (s.nextStaged i r).isSome &&
    !((s.ring i r).full && (s.ring i r).policy == 0)

/-- The seat has work waiting. -/
def State.seatWork (s : State) (i : Nat) : Bool :=
  ((List.range 8).any fun q => s.sqWaiting i q) || ((List.range 4).any fun r => s.ringWork i r) ||
    s.dma.xfers.any fun e => e.2.seat == i && e.2.st == .ready

/-- A share written by SEAT_SHARE applies (R379). -/
def State.shareApply (s : State) (i : Nat) : State :=
  match (s.seat i).shareNext with
  | none => s
  | some new =>
    let old := s.seatShare i
    let s := s.modSeat i fun t => { t with shareNext := none }
    let s := (s.setShare i new).ringsFollow i
    if old ≠ 0 && new = 0 then s.seatEvent i 0 [BitVec.ofNat 8 old]
    else if old = 0 && new ≠ 0 then s.seatEvent i 1 [BitVec.ofNat 8 new]
    else s

/-- No round is under way: no seat with work has credit left. -/
def State.roundOver (s : State) : Bool := (List.range 64).all fun i => (s.seat i).credit == 0 || !s.seatWork i

/-- A round begins. -/
def State.roundStart (s : State) : State :=
  let seats := (List.range 64).filter fun i => s.seatState i != 0
  let s := s.each seats fun s i => s.shareApply i
  s.each seats fun s i =>
    let c := if s.seatWork i then s.seatShare i else 0
    s.modSeat i fun t => { t with credit := c }

/-- R378. -/
def execArbRoundStart (s : State) : Answer := .next (if s.roundOver && !s.halted then s.roundStart else s)

/-- One credit is spent. -/
def State.spend (s : State) (i : Nat) : State := s.modSeat i fun t => { t with credit := t.credit - 1 }

/-- The seat may start work in this round. -/
def State.inRound (s : State) (i : Nat) : Bool :=
  s.flows i && s.seatShare i != 0 && decide (0 < (s.seat i).credit) && (s.seat i).binding.isNone

/-! ### Fetching (R365, R369, R389, R404) -/

def opcOf (b : List Byte) : Nat := byteAt b 0

/-- Contexts that the DMA entries of a seat hold. -/
def State.ctxHeld (s : State) (i : Nat) : Nat := ((s.seat i).started.filter fun e => opcOf e.bytes == 7).length

/-- A context for another descriptor of the seat: one of its own eight, or one of the pool beyond what the others are
sure of (R389, log 14). -/
def State.ctxFree (s : State) (i : Nat) : Bool :=
  let used := ((List.range 64).map s.ctxHeld).sum
  let owed := ((List.range 64).map fun j =>
    if j = i || s.seatState j = 0 || s.seatShare j = 0 then 0 else 8 - s.ctxHeld j).sum
  decide (s.ctxHeld i < 8) || decide (used + owed < 1024)

/-- The entry at the head of the queue may be fetched. -/
def State.mayFetch (s : State) (i q : Nat) (d : SubQ) (b : List Byte) : Bool :=
  s.inRound i && s.sqWaiting i q && decide ((s.seat i).started.length < 64) && !s.cqHeld i d.cq &&
    !s.dma.fetchSusp.contains (8 * i + q) && s.running 0x098 &&
    (!(byteAt b 1).testBit 0 || !(s.seat i).started.any fun e => e.q == q) && (opcOf b != 7 || s.ctxFree i)

/-- The 64 bytes of an entry once its page is translated: device DRAM holds them where the page lies in it. -/
def State.entryBytes (s : State) (x : Xlat) (b : List Byte) : State × Option (List Byte) :=
  if x.dram then s.dramRead x.addr 64 else (s, some b)

/-- The entry is started. -/
def State.entryStart (s : State) (i q : Nat) (d : SubQ) (b : List Byte) : State :=
  let e : Started := { q := q, cid := le16At b 2, bytes := b }
  ((s.spend i).wrN (Reg.SA_SQ_HEAD i q) ((s.sqHead i q + 1) % d.depth)).modSeat i fun t => { t with started := t.started ++ [e] }

def State.sqFetch (s : State) (i q : Nat) (b : List Byte) (host : List (Nat × Nat)) : State :=
  match s.sqUp i q with
  | none => s
  | some d =>
    if !s.mayFetch i q d b then s
    else
      let addr := d.base + 64 * s.sqHead i q
      let r := s.translate host i addr false
      if r.2.code ≠ 0 then
        let s := r.1.setDma { r.1.dma with fetchSusp := (8 * i + q) :: r.1.dma.fetchSusp }
        (s.smuFault (flog0 i 2 0 r.2.code false) addr (BitVec.ofNat 32 q)).suspFollow i
      else
        let g := r.1.entryBytes r.2 b
        match g.2 with
        | some b => g.1.entryStart i q d b
        | none => g.1

/-- R365. -/
def execSqEntryFetch (i q : Nat) (e : List Byte) (host : List (Nat × Nat)) (s : State) : Answer :=
  answer (decide (i < 64) && decide (q < 8) && e.length == 64) (s.sqFetch i q e host)

/-! ### Execution -/

/-- The started entry that is executed next in its queue, when it has this `CID`. -/
def State.nextSqe (s : State) (i q cid : Nat) : Option Started :=
  ((s.seat i).started.find? fun e => e.q == q && !e.run).filter fun e => e.cid == cid

/-- An executed entry waits for what completes it. -/
def State.markRun (s : State) (i : Nat) (e : Started) : State :=
  s.modSeat i fun t => { t with started := t.started.map fun x => if x = e then { x with run := true } else x }

/-- A reserved bit of bytes 1 and 4 to 7 is set (R364, R368). -/
def badHead (b : List Byte) : Bool := byteAt b 1 / 4 != 0 || le32At b 4 != 0

/-- An entry of an opcode is executed; BAD_FIELD where a reserved bit of its head, or of its operands, is set. -/
def State.sqe (s : State) (i q cid opc : Nat) (bad : List Byte → Bool) (f : State → List Byte → State) : State :=
  match s.nextSqe i q cid with
  | none => s
  | some e =>
    if opcOf e.bytes ≠ opc then s
    else if badHead e.bytes || bad e.bytes then s.complete i q cid 2 0 0
    else f (s.markRun i e) e.bytes

/-- R365. -/
def execSqeNop (i q cid : Nat) (s : State) : Answer :=
  answer (wfSqe i q cid) (s.sqe i q cid 0 (fun _ => false) fun s _ => s.complete i q cid 0 0 0)

/-- R365: opcodes 10 to 255. -/
def execSqeBadOpc (i q cid : Nat) (s : State) : Answer :=
  answer (wfSqe i q cid)
    (match s.nextSqe i q cid with
      | none => s
      | some e => if 10 ≤ opcOf e.bytes then s.complete i q cid 1 0 0 else s)

/-- A channel command joins those that wait for the next service; where no loop engine runs it is executed at once
(R117, R138). -/
def State.issueCmd (s : State) (k : Nat) (c : Cmd) : State :=
  if s.running 0x030 then s.modCtl k fun t => { t with cmds := t.cmds ++ [c] } else s.runCmd k s.cmdBoundary c

/-- The masked channels of a group. -/
def maskCh (g mask : Nat) : List Nat := (bitsBelow 16 mask).map fun j => 16 * g + j

/-- NOT_OWNER or ABSENT where a channel of the mask is not the seat's, or not there (R366). -/
def State.maskRefused (s : State) (i : Nat) (ks : List Nat) : Nat :=
  if ks.any fun k => !s.hasCh k then 4 else if ks.any fun k => !s.mayCommand k i then 3 else 0

/-- R366, CHAN_CMD. -/
def State.sqeChan (s : State) (i q cid : Nat) (b : List Byte) : State :=
  let ks := maskCh (byteAt b 8) (le16At b 10)
  let r := s.maskRefused i ks
  if r ≠ 0 then s.complete i q cid r 0 0
  else if ks.isEmpty then s.complete i q cid 0 0 0
  else
    let s := s.modSeat i fun t => { t with waits := t.waits ++ [{ q := q, cid := cid, left := ks.length }] }
    s.each ks fun s k => s.issueCmd k { op := byteAt b 12 % 16, seat := i, sqe := some (q, cid) }

def execSqeChanCmd (i q cid : Nat) (s : State) : Answer :=
  answer (wfSqe i q cid) (s.sqe i q cid 1 (fun b => 16 ≤ byteAt b 12) fun s b => s.sqeChan i q cid b)

/-- The program operation that a PROG entry spells. -/
def progOf (i q cid : Nat) (b buf : List Byte) : ProgOp :=
  { op := byteAt b 10 % 16, slot := le16At b 8 % 1024, seat := i, sq := some (q, cid), nstep := le16At b 14
    idx := le16At b 12, words := (List.range 16).map fun w => BitVec.ofNat 32 (le32At buf (4 * w)), bufAddr := le64At b 16 }

/-- R366, PROG: the entry waits while another operation is in progress (R161). -/
def State.sqeProg (s : State) (i q cid : Nat) (buf : List Byte) : State :=
  if s.progOp.isSome then s
  else
    s.sqe i q cid 2 (fun b => 1024 ≤ le16At b 8 || 16 ≤ byteAt b 10) fun s b =>
      if !s.has 0x031 then s.complete i q cid 5 7 0
      else ({ s with progOp := some (progOf i q cid b buf) }).setBit Reg.STEP_PSTAT 0 true

def execSqeProg (i q cid : Nat) (buf : List Byte) (s : State) : Answer :=
  answer (wfSqe i q cid && buf.length == 64) (s.sqeProg i q cid buf)

/-- A step message reaches a channel: latched while a step is current, from S onward (R171). -/
def State.stepMessage (s : State) (k id : Nat) : State :=
  let p := s.prog k
  if p.live && decide (p.sNs ≤ s.now) && !p.msgs.contains id then s.modProg k fun p => { p with msgs := p.msgs ++ [id] } else s

/-- R366, STEP_MSG. -/
def State.sqeMsg (s : State) (i q cid : Nat) (b : List Byte) : State :=
  let ks := maskCh (byteAt b 8) (le16At b 10)
  let r := s.maskRefused i ks
  if r ≠ 0 then s.complete i q cid r 0 0
  else (s.each ks fun s k => s.stepMessage k (le16At b 12)).complete i q cid 0 0 0

def execSqeStepMsg (i q cid : Nat) (s : State) : Answer :=
  answer (wfSqe i q cid) (s.sqe i q cid 3 (fun _ => false) fun s b => s.sqeMsg i q cid b)

/-- R366, MSG_TX: to the message bridge here, or held for the fabric (R344). -/
def State.sqeTx (s : State) (i q cid : Nat) (b data : List Byte) : State :=
  let n := byteAt b 12
  let d := if n ≤ 40 then (b.drop 24).take n else data.take n
  let s := if (le16At b 8).testBit 15 then s.mbPush (.seat i) (le16At b 10) d
    else s.holdMessage i (le16At b 8 % 512) (le16At b 10) d
  s.complete i q cid 0 0 0

def execSqeMsgTx (i q cid : Nat) (data : List Byte) (s : State) : Answer :=
  answer (wfSqe i q cid && data.length == 64)
    (s.sqe i q cid 4 (fun b => 64 < byteAt b 12 || le16At b 8 / 512 % 64 ≠ 0) fun s b => s.sqeTx i q cid b data)

/-- R366, FENCE (R319). -/
def execSqeFence (i q cid : Nat) (s : State) : Answer :=
  answer (wfSqe i q cid) (s.sqe i q cid 5 (fun _ => false) fun s _ => s.fenceIssue i (.sqe i q cid))

/-- R366, WIN_LOCK (R340). -/
def State.sqeLock (s : State) (i q cid : Nat) (b : List Byte) : State :=
  let w := byteAt b 8
  if (s.win w).owner ≠ i then s.complete i q cid 3 0 0 else s.winLock w ((byteAt b 9).testBit 0) (some (i, q, cid))

def execSqeWinLock (i q cid : Nat) (s : State) : Answer :=
  answer (wfSqe i q cid)
    (s.sqe i q cid 6 (fun b => 64 ≤ byteAt b 8 || (byteAt b 9 ≠ 1 && byteAt b 9 ≠ 2)) fun s b => s.sqeLock i q cid b)

end Sys2Proof.Machine
end

