-- ==== Sys2Proof/Machine/DmaEng.lean ====
section
/-!
DEFINITION. The DMA engines and the commands of the seat map unit (12_dma_and_seat_map.md).
-/
namespace Sys2Proof.Machine

/-! ### Descriptors (R393 to R396) -/

/-- A reserved bit or value, or a combination, that R393 refuses. -/
def badDesc (b : List Byte) : Bool :=
  let dop := byteAt b 8
  let spc := byteAt b 10
  2 ≤ dop || 2 ≤ byteAt b 9 || 2 ≤ spc % 16 || 2 ≤ spc / 16 || byteAt b 11 != 0 || 2 ^ 30 < le32At b 12 ||
    dop != spc % 16 || 512 ≤ le16At b 32 || (b.drop 34).any fun x => x != 0

def descFabric (b : List Byte) : Bool := byteAt b 10 / 16 == 1

/-- The transfer of a descriptor. -/
def xferOf (i q cid : Nat) (b : List Byte) : Xfer :=
  { seat := i, kind := .desc q cid, fill := byteAt b 8 == 1, fence := byteAt b 9 == 1
    far := if descFabric b then some (le16At b 32 % 512) else none
    len := le32At b 12, src := le64At b 16, dst := le64At b 24 }

/-- A transfer takes a context. -/
def State.newXfer (s : State) (t : Xfer) : State :=
  let x := s.dma.nextXfer
  let s := s.setXfer x t
  s.setDma { s.dma with nextXfer := (x + 1) % 2 ^ 20 }

/-- R393, R394. -/
def State.sqeDma (s : State) (i q cid : Nat) (b : List Byte) : State :=
  let t := xferOf i q cid b
  if t.far = some s.devId then s.complete i q cid 2 0 0
  else if t.far.any fun d => !s.canReach d then s.complete i q cid 4 0 0
  else if t.len = 0 then
    if t.fence then
      let x := s.dma.nextXfer
      (s.newXfer { t with st := .fencing }).fenceIssue i (.dma x)
    else s.complete i q cid 0 0 0
  else s.newXfer t

def execSqeDma (i q cid : Nat) (s : State) : Answer :=
  answer (wfSqe i q cid) (s.sqe i q cid 7 badDesc fun s b => s.sqeDma i q cid b)

/-! ### Starting a chunk (R390, R391, R403) -/

/-- `DMA[e].STAT` of a chunk. -/
def dmaStat (i : Nat) (rec_ : Bool) : Nat := 1 + 256 * i + 65536 * rec_.toNat

/-- The engine holds a chunk. -/
def State.engineTake (s : State) (e : Nat) (c : Chunk) (t : Xfer) : State :=
  let s := s.setDma { s.dma with engines := Sparse.insert s.dma.engines e c }
  (s.setXfer c.x { t with st := .carried }).wrN (Reg.DMA_STAT e) (dmaStat t.seat (match t.kind with
    | .record _ => true
    | .desc _ _ => false))

/-- `FLOG3` and kind of a transfer (R409). -/
def xferTag : XferKind → Nat × Word
  | .desc q cid => (0, BitVec.ofNat 32 (cid + 65536 * q))
  | .record r => (1, BitVec.ofNat 32 (65536 * r))

/-- A translation fault of a chunk: it is abandoned and its transfer suspended (R403). -/
def State.chunkFault (s : State) (e x : Nat) (t : Xfer) (code addr : Nat) (write : Bool) : State :=
  let k := xferTag t.kind
  let s := (s.count (Reg.DMA_ERR e) 31 16).raise (dmaPage e) 9
  let s := s.setXfer x { t with st := .suspended, code := code }
  let s := (s.smuFault (flog0 t.seat k.1 e code write) addr k.2).suspFollow t.seat
  match t.kind with
  | .record r => s.setRing t.seat r 2
  | .desc _ _ => s

/-- A source read error completes the transfer READ_ERR (R396). -/
def State.readError (s : State) (e : Nat) : State :=
  match s.engine? e with
  | none => s
  | some c =>
    let s := ((s.count (Reg.DMA_ERR e) 15 0).raise (dmaPage e) 8).abandon e .ready
    match s.xfer? c.x with
    | none => s
    | some t =>
      match t.kind with
      | .desc q cid => (s.dropXfer c.x).complete t.seat q cid 5 2 t.pos
      | .record _ => s

/-- The parts of a source range in its pages: seat address and bytes. -/
def srcParts (addr n : Nat) : List (Nat × Nat) :=
  let first := min n (4096 - addr % 4096)
  if first = n then [(addr, n)] else [(addr, first), (addr + first, n - first)]

/-- Bytes of the chunk at the present position (R390). -/
def Xfer.chunkLen (t : Xfer) : Nat := min (256 - (t.dst + t.pos) % 256) (t.len - t.pos)

/-- The pattern bytes of a FILL chunk. -/
def fillBytes (pattern pos n : Nat) : List Byte :=
  (List.range n).map fun j => (leBytes 8 pattern).getD ((pos + j) % 8) 0

/-- The translated parts of a source, or the code and address of the fault. -/
def State.srcXlat (s : State) (host : List (Nat × Nat)) (i : Nat) :
    List (Nat × Nat) → State × Option (Nat × Nat) × List (Xlat × Nat)
  | [] => (s, none, [])
  | (a, n) :: rest =>
    let r := s.translate host i a false
    if r.2.code ≠ 0 then (r.1, some (r.2.code, a), [])
    else
      let q := r.1.srcXlat host i rest
      (q.1, q.2.1, (r.2, n) :: q.2.2)

/-- Where the source of a chunk is gathered: the state, bytes that device DRAM gives before and after what host memory
owes, how much that is, and whether a read of device DRAM failed. -/
structure Gather where
  s    : State
  pre  : List Byte := []
  post : List Byte := []
  want : Nat := 0
  bad  : Bool := false

/-- One part of a source is read. -/
def Gather.part (g : Gather) (port : Nat) (x : Xlat × Nat) : Gather :=
  if x.1.dram then
    let r := g.s.dramRead x.1.addr x.2
    match r.2 with
    | none => { g with s := r.1, bad := true }
    | some d => if g.want = 0 then { g with s := r.1, pre := g.pre ++ d } else { g with s := r.1, post := g.post ++ d }
  else { g with s := g.s.send (.hostRead port x.1.addr x.2), want := g.want + x.2 }

/-- The engine takes a chunk whose pages are translated. -/
def State.chunkRead (s : State) (e x : Nat) (t : Xfer) (dst : Option (Bool × Nat)) (parts : List (Xlat × Nat))
    (pages : List Nat) : State :=
  let port := s.seatPort t.seat
  let n := t.chunkLen
  if t.fill then
    s.engineTake e { x := x, seat := t.seat, len := n, port := port, data := some (fillBytes t.src t.pos n), dst := dst, pages := pages } t
  else
    let g := parts.foldl (fun (g : Gather) p => g.part port p) { s := s }
    let c : Chunk :=
      { x := x, seat := t.seat, len := n, port := port, data := if g.want = 0 then some g.pre else none, pre := g.pre
        post := g.post, want := g.want, dst := dst, pages := pages }
    let s := g.s.engineTake e c t
    if g.bad then s.readError e else s

/-- A chunk of a descriptor transfer starts: destination page first, then the source pages. -/
def State.descChunk (s : State) (e x : Nat) (t : Xfer) (host : List (Nat × Nat)) : State :=
  let d := t.dst + t.pos
  let r : State × Xlat := if t.far.isSome then (s, {}) else s.translate host t.seat d true
  if r.2.code ≠ 0 then r.1.chunkFault e x t r.2.code d true
  else
    let src := if t.fill then [] else srcParts (t.src + t.pos) t.chunkLen
    let q := r.1.srcXlat host t.seat src
    match q.2.1 with
    | some (code, a) => q.1.chunkFault e x t code a false
    | none =>
      q.1.chunkRead e x t (if t.far.isSome then none else some (r.2.dram, r.2.addr)) q.2.2
        ((if t.far.isSome then [] else [d / 4096 * 4096]) ++ src.map fun p => p.1 / 4096 * 4096)

/-- Records that the next chunk of a ring carries. -/
def State.ringTake (s : State) (i r : Nat) : List Staged :=
  let q := s.ring i r
  let addr := q.base + 32 * (q.prod % q.depth)
  let room := q.depth - (q.prod + 2 ^ 32 - q.cons) % 2 ^ 32
  let n := min (min room (q.depth - q.prod % q.depth)) ((256 - addr % 256 + 31) / 32)
  (s.staging.filter fun x => x.seat == i && x.ring == r && !x.written).take n

/-- Under DROP_SAMPLE, samples that find their ring full are discarded (R242). -/
def State.dropSamples (s : State) (i r : Nat) : Nat → State
  | 0 => s
  | n + 1 =>
    match s.nextStaged i r with
    | some x =>
      if (s.ring i r).full && (s.ring i r).policy == 1 && x.record.typ == 1 then
        ((({ s with staging := s.staging.erase x }).loseRecord x).stageCount).dropSamples i r n
      else s
    | none => s

/-- A chunk of a record transfer starts. -/
def State.recChunk (s : State) (e x : Nat) (t : Xfer) (r : Nat) (host : List (Nat × Nat)) : State :=
  let i := t.seat
  let s := s.dropSamples i r s.staging.length
  let l := s.ringTake i r
  if l.isEmpty then s
  else
    let q := s.ring i r
    let addr := q.base + 32 * (q.prod % q.depth)
    let g := s.translate host i addr true
    if g.2.code ≠ 0 then (g.1.spend i).chunkFault e x t g.2.code addr true
    else
      let s := g.1.spend i
      let s := { s with staging := s.staging.map fun (y : Staged) => if l.contains y then { y with written := true } else y }
      let data := l.flatMap fun y => y.record.bytes
      s.engineTake e
        { x := x, seat := i, len := data.length, port := s.seatPort i, data := some data, dst := some (g.2.dram, g.2.addr)
          pages := [addr / 4096 * 4096], recs := l.length } t

/-- The engine may carry the transfer now (R378, R392, R408, R409). -/
def State.mayCarry (s : State) (e : Nat) (t : Xfer) : Bool :=
  s.running (dmaPage e) && (s.engine? e).isNone && s.running 0x098 && s.inRound t.seat && t.st == .ready &&
    (match t.kind with
      | .desc _ _ => s.bit (Reg.DMA_CFG e) 0
      | .record r => s.bit (Reg.DMA_CFG e) 1 && (s.ring t.seat r).active && s.running 0x038)

/-- The context store gives a transfer up (R409): CTX_LOST for a descriptor; a ring starts again from its first uncovered
record. -/
def State.ctxLost (s : State) (x : Nat) (t : Xfer) : State :=
  let s := s.pageFault 0x098 0x0100
  match t.kind with
  | .desc q cid => (s.dropXfer x).complete t.seat q cid 5 5 t.pos
  | .record _ => s

def State.chunkStart (s : State) (e x : Nat) (host : List (Nat × Nat)) : State :=
  match s.xfer? x with
  | none => s
  | some t =>
    if !s.mayCarry e t then s
    else
      let ecc := s.injFires 0x098 0x11 0
      let s := s.injStep 0x098 0x11 0
      if ecc then s.ctxLost x t
      else
        match t.kind with
        | .desc _ _ => (s.spend t.seat).descChunk e x t host
        | .record r => s.recChunk e x t r host

/-- R391. -/
def execDmaChunkStart (e x : Nat) (host : List (Nat × Nat)) (s : State) : Answer :=
  answer (decide (e < 8)) (if s.halted then s else s.chunkStart e x host)

/-- R391: what host memory owed has arrived, or an error. -/
def State.readDone (s : State) (e : Nat) (data : Option (List Byte)) : State :=
  match s.engine? e with
  | none => s
  | some c =>
    if c.data.isSome then s
    else
      match data with
      | none => s.readError e
      | some d =>
        if d.length ≠ c.want then s
        else s.setDma { s.dma with engines := Sparse.insert s.dma.engines e { c with data := some (c.pre ++ d ++ c.post) } }

def execDmaReadCompletion (e : Nat) (data : Option (List Byte)) (s : State) : Answer :=
  answer (decide (e < 8) && (data.all fun d => decide (d.length ≤ 256))) (s.readDone e data)

/-- R357: the timeout is counted; an engine ends its chunk with a read error. -/
def execPcieCompletionTimeout (p : Nat) (e : Option Nat) (s : State) : Answer :=
  answer (decide (p < 2) && e.all fun e => decide (e < 8))
    (let s := (s.count (Reg.PCIE_ERR p) 15 0).raise (pciePage p) 10
     match e with
     | some e => s.readDone e none
     | none => s)

/-! ### Completing a chunk (R392, R395, R397) -/

/-- The bytes of a chunk go to their destination. -/
def State.chunkWrite (s : State) (c : Chunk) (t : Xfer) (d : List Byte) : State :=
  match c.dst with
  | some (true, a) => s.dramWrite a d
  | some (false, a) => s.send (.busWrite c.port a d)
  | none =>
    match t.far, t.kind with
    | some dev, .desc _ cid => s.fabricSend dev 5 t.seat cid (.write (t.dst + t.pos) d)
    | _, _ => s

/-- Counters of a completed chunk. -/
def State.chunkCount (s : State) (e i n : Nat) : State :=
  let s := (s.count (Reg.DMA_CHUNKS e) 31 0).count (Reg.ST_CHUNKS i) 31 0
  s.wr64 (Reg.DMA_BYTES_LO e) (Reg.DMA_BYTES_HI e) (s.rd64 (Reg.DMA_BYTES_LO e) (Reg.DMA_BYTES_HI e) + n)

/-- The engine gives its transfer up for another seat that has credit (R392). -/
def State.preempts (s : State) (i : Nat) : Bool :=
  (s.seat i).credit == 0 && (List.range 64).any fun j => j != i && decide (0 < (s.seat j).credit) && s.seatWork j

/-- The records of a completed chunk are covered by the producer index (R241). -/
def State.recordsDone (s : State) (i r n : Nat) : State :=
  let l := (s.staging.filter fun x => x.seat == i && x.ring == r && x.written).take n
  let s := { s with staging := s.staging.filter fun x => !l.contains x }
  let s := s.modRing i r fun q => { q with prod := (q.prod + n) % 2 ^ 32 }
  (s.queueWrite i { kind := 3, idx := r, addr := (s.ring i r).prodAddr, data := leBytes 4 (s.ring i r).prod }).stageCount

/-- All chunks of a descriptor transfer are done. -/
def State.descDone (s : State) (x : Nat) (t : Xfer) : State :=
  match t.kind with
  | .desc q cid =>
    if t.fence then (s.setXfer x { t with st := .fencing }).fenceIssue t.seat (.dma x)
    else (s.dropXfer x).complete t.seat q cid 0 0 t.pos
  | .record _ => s

/-- The transfer of a completed chunk goes on; one of a seat in reset is dropped (R380). -/
def State.xferNext (s : State) (e : Nat) (c : Chunk) (t : Xfer) : State :=
  if s.seatState t.seat = 3 then
    { (s.dropXfer c.x) with staging := s.staging.map fun (y : Staged) => if y.seat = t.seat then { y with written := false } else y }
  else
    match t.kind with
    | .record r => (s.dropXfer c.x).recordsDone t.seat r c.recs
    | .desc _ _ =>
      let t := { t with pos := t.pos + c.len, st := .ready }
      if t.len ≤ t.pos then s.descDone c.x t
      else (s.setXfer c.x t).when (s.preempts t.seat) fun s => s.count (Reg.DMA_PREEMPT e) 31 0

def State.chunkDone (s : State) (e : Nat) : State :=
  match s.engine? e with
  | none => s
  | some c =>
    match c.data, s.xfer? c.x with
    | some d, some t =>
      let ecc := s.injFires (dmaPage e) 0x10 0
      let s := s.injStep (dmaPage e) 0x10 0
      if ecc then (s.abandon e .ready).pageFault (dmaPage e) 0x0100
      else (((s.chunkWrite c t d).engineIdle e).chunkCount e t.seat c.len).xferNext e c t
    | _, _ => s

/-- R392. -/
def execDmaChunkComplete (e : Nat) (s : State) : Answer := answer (decide (e < 8)) (s.chunkDone e)

/-! ### Translation commands (R399, R400) -/

/-- Chunks that use an old translation are marked. -/
def State.markOld (s : State) (i : Nat) (f : Chunk → Bool) : State :=
  s.setDma { s.dma with
    engines := s.dma.engines.map fun e => if e.2.seat == i && f e.2 then (e.1, { e.2 with old := true }) else e }

def xlateSetBody : MbxBody := fun s i =>
  let w := s.arg 1
  let root := s.argAddr 2
  if s.liveSeat i ≠ 0 then refuse s (s.liveSeat i)
  else if w.fld 31 2 ≠ 0 || root % 4096 ≠ 0 || (w.getLsbD 1 && i ≠ 0) then refuse s 2
  else
    let s := s.markOld i fun _ => true
    let s := s.setDma { s.dma with
      roots := Sparse.insert s.dma.roots i { base := root, dram := w.getLsbD 0, bypass := w.getLsbD 1 } }
    (s.tlbDrop i, none)

/-- R399. -/
def execXlateSet (s : State) : Answer := .next (s.mbxRun 14 false xlateSetBody)

/-- The entry leaves the TLB in an invalidation of `n` pages from `lo` on, none: of the whole seat. -/
def TlbEnt.invalidated (t : TlbEnt) (i : Nat) (range : Option (Nat × Nat)) : Bool :=
  t.seat == i && match range with
    | none => true
    | some (lo, n) => t.overlaps lo (4096 * n)

def State.xlateInv (s : State) (i : Nat) (range : Option (Nat × Nat)) : State :=
  let gone := s.dma.tlb.filter fun t => t.invalidated i range
  let s := s.markOld i fun c => range.isNone || c.pages.any fun p => gone.any fun t => t.covers i p
  s.setTlb (s.dma.tlb.filter fun t => !t.invalidated i range)

def xlateInvBody : MbxBody := fun s i =>
  let w := s.arg 1
  let lo := s.argAddr 2
  let n := (s.arg 4).toNat
  if 64 ≤ i || w.fld 31 1 ≠ 0 then refuse s 2
  else if s.seatState i = 0 then refuse s 3
  else if w.getLsbD 0 && (lo % 4096 ≠ 0 || n = 0 || 134217728 < n) then refuse s 2
  else (s.xlateInv i (if w.getLsbD 0 then some (lo, n) else none), none)

/-- R400. -/
def execXlateInv (s : State) : Answer := .next (s.mbxRun 15 false xlateInvBody)

/-- The command completes once no chunk uses what it replaced; while the page is not RUNNING it waits (R409). -/
def State.xlateEnd (s : State) (op : Nat) : State :=
  match s.mbx with
  | none => s
  | some m =>
    if m.op ≠ op || m.result.isSome || !s.running 0x098 || (s.enginesOf m.seat).any fun e => e.2.old then s
    else
      let s := s.mbxResult [op] m.seat 0 []
      s.when (op == 15) fun s => s.raise 0x098 9

def execXlateSetDone (s : State) : Answer := .next (s.xlateEnd 14)
def execXlateInvDone (s : State) : Answer := .next (s.xlateEnd 15)

/-! ### RETRY and ABORT (R403, R404) -/

def State.smuRetry (s : State) (i : Nat) : State :=
  let s := s.setDma { s.dma with
    xfers := s.dma.xfers.map fun e => if e.2.seat == i && e.2.st == .suspended then (e.1, { e.2 with st := .ready, code := 0 }) else e
    fetchSusp := s.dma.fetchSusp.filter fun k => k / 8 != i }
  let n : Snic := Sparse.get {} s.sw.snics i
  let s := { s with sw := { s.sw with snics := Sparse.insert s.sw.snics i { n with stopTx := false, stopRx := false } } }
  let s := s.modSeat i fun t => { t with qout := t.qout.map fun w => { w with stuck := false } }
  (s.suspFollow i).ringsFollow i

def execSmuResumeRetry (i : Nat) (s : State) : Answer := answer (decide (i < 64)) (s.smuRetry i)

def State.smuAbort (s : State) (i : Nat) : State :=
  (s.each (s.xfersOf i fun t => t.st == .suspended) fun s x => s.abortXfer x).suspFollow i

def execSmuResumeAbort (i : Nat) (s : State) : Answer := answer (decide (i < 64)) (s.smuAbort i)

end Sys2Proof.Machine
end

