-- ==== Sys2Proof/Machine/Governor.lean ====
section
/-!
DEFINITION. The supply-voltage governor (R35 to R40) and accesses of a size or alignment that the CTRL window does not accept
(R48).
-/
namespace Sys2Proof.Machine

/-- `VID_MIN` as the governor takes it: at least 10 in Run and Doze (R38). -/
def State.vidMin (s : State) : Nat :=
  let m := s.get Reg.PWR_GOV_CTRL 14 8
  if s.feather then m else max 10 m

/-- The greatest code: `VID_MAX`, and never a code above 70 (R35). -/
def State.vidMax (s : State) : Nat := min 70 (s.get Reg.PWR_GOV_CTRL 22 16)

/-- A code is driven, and its peak kept; where the bounds cross, the upper one holds. -/
def State.setVid (s : State) (v : Nat) : State :=
  let c := min s.vidMax (max s.vidMin v)
  (s.put Reg.PWR_GOV_STAT 6 0 c).put Reg.PWR_GOV_STAT 14 8 (max c (s.get Reg.PWR_GOV_STAT 14 8))

/-- The enabled governor evaluates a window (R37). -/
def State.govern (s : State) : State :=
  let now := s.get Reg.PWR_GOV_STAT 6 0
  let low := decide (s.winSlack < s.get Reg.PWR_GOV_THR 15 0)
  let run := if s.get Reg.PWR_GOV_THR 31 16 < s.winSlack then s.lowRun + 1 else 0
  let s := s.when low fun s => s.raise 0x001 8
  if low || s.winMiss then
    let s : State := { s with lowRun := run }
    if s.vidMax ≤ now then ((s.setVid now).setBit Reg.PWR_GOV_STAT 16 true).raise 0x001 9 else s.setVid (now + 1)
  else if 64 ≤ run then ({ s with lowRun := 0 }).setVid (now - 1)
  else ({ s with lowRun := run }).setVid now

/-- R37: the window ends, and the next one begins. -/
def State.windowEnd (s : State) : State :=
  let t := if s.bit Reg.PWR_GOV_CTRL 0 then s.govern else { s with lowRun := 0 }
  { t with winSlack := 65535, winMiss := false }

def execGovernorWindow (s : State) : Answer := .next (if s.halted then s else s.windowEnd)

/-- R39, R40: trackers restart, and the peak is cleared to the present code. -/
def State.slackClear (s : State) (v : Word) : State :=
  let s := s.each ((List.range 4).filter fun i => v.getLsbD i) fun s i => s.wr (Reg.PWR_SLACK i) 0x0000FFFF
  s.when (v.getLsbD 8) fun s => s.put Reg.PWR_GOV_STAT 14 8 (s.get Reg.PWR_GOV_STAT 6 0)

def execSlackClr (v : Word) (s : State) : Answer := .next (s.slackClear v)

/-- R48. -/
def execBadAccess (s : State) : Answer := .next (s.raise 0x000 8)

end Sys2Proof.Machine
end

