-- ==== Sys2Proof/Machine/SwitchCore.lean ====
section
/-!
DEFINITION. The Ethernet switch core (13_switch_core.md): its tables, buffer and queues, meters, mirroring, classification
and admission.
-/
namespace Sys2Proof.Machine

/-! ### Ports (R410, R422, R430) -/

/-- `PORT[p].VCFG`. -/
def State.portVcfg (s : State) (p : Nat) : Word := if p < 12 then s.rd (Reg.PORT_VCFG p) else 1

/-- State of an Ethernet port: 0 DOWN, 1 FLUSHING, 2 UP. -/
def State.ethState (s : State) (p : Nat) : Nat := s.get (Reg.PORT_STAT p) 1 0

/-- The port accepts and transmits frames. -/
def State.portUsable (s : State) (p : Nat) : Bool :=
  if p < 12 then s.ethState p == 2
  else if p < 20 then s.tunState (p - 12) == 2
  else if p = 20 then s.part.hasSwitch
  else s.running 0x0A8

/-- An octet counter of an Ethernet port. -/
def State.portOctets (s : State) (p a n : Nat) : State :=
  if p < 12 then s.wr64 a (a + 4) (s.rd64 a (a + 4) + n) else s

def State.dropIn (s : State) (p : Nat) : State := s.portCount p (Reg.PORT_DROP p) 15 0
def State.dropOut (s : State) (p : Nat) : State := s.portCount p (Reg.PORT_DROP p) 31 16

/-! ### Bytes of frames -/

def be16At (b : List Byte) (o : Nat) : Nat := 256 * byteAt b o + byteAt b (o + 1)

/-- The number that big-endian bytes spell. -/
def ofBeBytes (b : List Byte) : Nat := b.foldl (fun v x => 256 * v + x.toNat) 0

/-- The big-endian bytes of a number. -/
def beBytes (n v : Nat) : List Byte := (leBytes n v).reverse

def frameDst (b : List Byte) : Nat := ofBeBytes (b.take 6)
def frameSrc (b : List Byte) : Nat := ofBeBytes ((b.drop 6).take 6)

/-- A group address: bit 0 of its first byte. -/
def groupMac (m : Nat) : Bool := m.testBit 40

def broadcastMac : Nat := 2 ^ 48 - 1

/-- The frame is tagged with TPID 0x8100. -/
def tagged (b : List Byte) : Bool := be16At b 12 == 0x8100

/-- EtherType, behind a tag. -/
def etherType (b : List Byte) : Nat := if tagged b then be16At b 16 else be16At b 12

/-- The frame without its tag. -/
def untagBytes (b : List Byte) : List Byte := if tagged b then b.take 12 ++ b.drop 16 else b

/-! ### Spilling (R417) -/

/-- On-die use above `SPILL_ON` makes a queue spill. -/
def State.spillCheck (s : State) (q : Nat) : State :=
  if s.get Reg.SW_SPILL_CFG 8 0 ≠ 0 && s.get Reg.SW_SPILL_CFG 23 16 * 24576 < 100 * s.onDie && !s.sw.swSpill.contains q then
    (s.setSw { s.sw with swSpill := q :: s.sw.swSpill }).raise 0x0A1 8
  else s

/-! ### Captures of frames received and transmitted (R424) -/

def State.mirRx (s : State) (f : SwFrame) : State :=
  s.mirror f f.ts 0xFF 0 fun s m => s.bit (Reg.MIR_SRC_RX m) f.inPort
def State.mirTx (s : State) (f : SwFrame) (p ts : Nat) : State := s.mirror f ts p 1 fun s m => s.bit (Reg.MIR_SRC_TX m) p
/-! ### MAC and VLAN tables (R412, R413) -/

def State.macFind (s : State) (mac vid : Nat) : Option MacEnt := s.sw.macs.find? fun e => e.mac == mac && e.vid == vid

/-- The entry of a key, replaced. -/
def State.macPut (s : State) (e : MacEnt) : State :=
  s.setMacs (s.sw.macs.map fun x => if x.mac = e.mac ∧ x.vid = e.vid then e else x)

/-- A source address is learned on a port: refreshed, moved, or entered while there is room. -/
def State.learn (s : State) (mac vid p : Nat) : State :=
  let e : MacEnt := { mac := mac, vid := vid, mask := 2 ^ p, seen := s.tbSec }
  match s.macFind mac vid with
  | some x => if x.static then s else (s.macPut e).when (x.mask != 2 ^ p) fun s => s.raise 0x0A2 9
  | none =>
    if s.sw.macs.length < 16384 then s.setMacs (s.sw.macs ++ [e])
    else if s.sw.macFull then s
    else (s.setSw { s.sw with macFull := true }).raise 0x0A2 8

def State.vlan (s : State) (vid : Nat) : VlanEnt := Sparse.get {} s.sw.vlans vid
def VlanEnt.valid (v : VlanEnt) : Bool := v.flags.testBit 0
def VlanEnt.learns (v : VlanEnt) : Bool := v.flags.testBit 1

/-! ### Meters (R418, R419) -/

def State.meter (s : State) (m : Nat) : Meter := Sparse.get {} s.sw.meters m
def State.setMeter (s : State) (m : Nat) (x : Meter) : State :=
  let s := s.setSw { s.sw with meters := Sparse.set {} s.sw.meters m x }
  s.wrN Reg.MTR_USED (s.sw.meters.filter fun e => e.2.used).length

/-- The buckets filled up to an instant: CIR and PIR in kb/s are 1/8,000,000 byte a nanosecond. -/
def Meter.filled (x : Meter) (now : Nat) : Meter :=
  let dt := now - x.at_
  { x with
    tc := min (x.cbs * 8000000) (x.tc + x.cir * dt)
    tp := min (x.pbs * 8000000) (x.tp + x.pir * dt)
    at_ := now }

/-- The colour that RFC 2698 gives a frame of `n` bytes that enters green, or yellow (log 17). -/
def Meter.colour (x : Meter) (n : Nat) (yellow : Bool) : Meter × Nat :=
  let b := n * 8000000
  if x.tp < b then ({ x with cnt := (x.cnt.1, x.cnt.2.1, min (x.cnt.2.2 + 1) (2 ^ 32 - 1)) }, 2)
  else if yellow || x.tc < b then
    ({ x with tp := x.tp - b, cnt := (x.cnt.1, min (x.cnt.2.1 + 1) (2 ^ 32 - 1), x.cnt.2.2) }, 1)
  else ({ x with tp := x.tp - b, tc := x.tc - b, cnt := (min (x.cnt.1 + 1) (2 ^ 32 - 1), x.cnt.2.1, x.cnt.2.2) }, 0)

/-- The meter that a frame meets (R418). -/
def State.meterOf (s : State) (p cls : Nat) (e : Option MacEnt) : Option Nat :=
  if !s.running 0x0A4 then none
  else
    let pm := s.rd (Reg.MTR_PMAP (8 * p + cls))
    let byPort := if pm.getLsbD 15 then some (pm.fld 11 0) else none
    match e with
    | some x => if x.static && x.mtr.getLsbD 15 then some (x.mtr.fld 11 0) else byPort
    | none => byPort

/-- A frame is metered: its colour, and whether it is dropped. -/
def State.metered (s : State) (f : SwFrame) (dei : Bool) (e : Option MacEnt) : State × SwFrame × Bool :=
  match s.meterOf f.inPort f.cls e with
  | none => (s, f, false)
  | some m =>
    let x := (s.meter m).filled s.now
    let r := x.colour (frameLen f.bytes) (x.mode.getLsbD 0 && tagged f.bytes && dei)
    let red := r.2 == 2
    let mark := (r.2 == 1 && x.mode.getLsbD 2) || (red && x.mode.getLsbD 1)
    (s.setMeter m r.1, { f with colour := r.2, dei := f.dei || mark }, red && !x.mode.getLsbD 1)

/-! ### Admission to a queue (R416, R417, R420) -/

/-- MIN, MAX and P of a WRED profile for a colour. -/
def State.wred (s : State) (w colour : Nat) : Nat × Nat × Nat :=
  let a := match colour with
    | 0 => s.rd (Reg.WRED_G w)
    | 1 => s.rd (Reg.WRED_Y w)
    | _ => s.rd (Reg.WRED_R w)
  (a.fld 15 0, a.fld 31 16, (s.rd (Reg.WRED_P w)).fld (8 * colour + 7) (8 * colour))

/-- The average occupancy of a queue after one more admission, in 2^−16 cell (log 11). -/
def wredAvg (avg q w : Nat) : Nat := ((avg : Int) + Int.fdiv ((q : Int) * 65536 - avg) (2 ^ w)).toNat

/-- Whether WRED drops a copy; where a probability decides it is a free value. -/
def State.wredDrops (s : State) (p cls colour : Nat) : State × Bool :=
  if !s.running 0x0A5 then (s, false)
  else
    let q := 8 * p + cls
    let w := s.get (Reg.PQ_PROF p) (4 * cls + 3) (4 * cls)
    let x := s.wred w colour
    let avg := wredAvg (Sparse.get 0 s.sw.swAvg q) (s.queueCells q) ((s.rd (Reg.WRED_P w)).fld 27 24)
    let s := s.setSw { s.sw with swAvg := Sparse.set 0 s.sw.swAvg q avg }
    if avg < x.1 * 65536 then (s, false)
    else if x.2.1 * 65536 ≤ avg then (s, true)
    else if x.2.2 = 0 || avg = x.1 * 65536 then (s, false)
    else
      let s := s.useFree
      (s, Config.freeBool s.free)

/-- A copy is tail-dropped at its egress port. -/
def State.tailDrop (s : State) (f : SwFrame) (p : Nat) : State := (s.dropOut p).mirDrop f p 5

/-- A copy meets its queue: WRED, then the tail, then on die or in the spill region. -/
def State.admitCopy (s : State) (n : Nat) (f : SwFrame) (cut : Bool) (c : Nat × Nat) : State :=
  let p := c.1
  let q := 8 * p + f.cls
  if !s.portUsable p then s.dropOut p
  else
    let r := s.wredDrops p f.cls f.colour
    let s := r.1
    if r.2 then (s.dropOut p).mirDrop f p 4
    else if s.get (Reg.PQ_QLIM p) 14 0 ≤ s.queueCells q then s.tailDrop f p
    else
      let s := s.spillCheck q
      let cells := frameCells f.bytes
      let spill := s.sw.swSpill.contains q && !cut
      if spill && s.get Reg.SW_SPILL_CFG 8 0 * 2 ^ 20 < s.spillBytes + 256 * cells then
        ((s.count Reg.SW_DROPS 31 16).raise 0x0A1 9).tailDrop f p
      else
        let mine := (s.swCopies.any fun x => x.frame == n && !x.spilled)
        if !spill && !mine && decide (24576 < s.onDie + cells) then (s.count Reg.SW_DROPS 15 0).tailDrop f p
        else (s.setSwQueue q (s.swQueue q ++ [{ frame := n, seat := c.2, spilled := spill }])).swFollow

/-- The seats of the interfaces that a frame on SNIC goes to (R426). -/
def State.snicSeats (s : State) (f : SwFrame) : List Nat :=
  let on := (List.range 64).filter fun i => s.bit (Reg.SNIC_STAT i) 0
  let hit := on.filter fun i => (Sparse.get {} s.sw.snics i : Snic).mac == frameDst f.bytes
  if groupMac (frameDst f.bytes) || hit.isEmpty then on.filter fun i => s.get (Reg.SNIC_STAT i) 27 16 == f.vid else hit

/-- The egress copies of a frame: port, and seat on SNIC. -/
def State.copiesOf (s : State) (f : SwFrame) (mask : Nat) : List (Nat × Nat) :=
  (((List.range 21).filter fun p => mask.testBit p && p != f.inPort).map fun p => (p, 0)) ++
    (if mask.testBit 21 && f.inPort != 21 then (s.snicSeats f).map fun i => (21, i) else [])

/-- Nominal rate of a port in Mb/s (R410). -/
def portRate (p : Nat) : Nat := if p < 4 then 10000 else if p < 12 then 1000 else if p < 20 then 20000 else if p = 20 then 10000 else 40000

/-- The frame is forwarded cut-through (R415). -/
def State.cutThrough (s : State) (f : SwFrame) (copies : List (Nat × Nat)) : Bool :=
  match copies with
  | [(p, _)] =>
    s.bit Reg.SW_CFG 16 && (s.portCfg f.inPort).getLsbD (8 + f.cls) && (p < 12 || p == 20) && (f.inPort < 12 || f.inPort == 20) &&
      (s.swQueue (8 * p + f.cls)).isEmpty && portRate p ≤ portRate f.inPort
  | _ => false

/-- The frame enters the buffer with its copies. -/
def State.enqueue (s : State) (f : SwFrame) (copies : List (Nat × Nat)) (cut : Bool) : State :=
  let n := s.sw.swNext
  let s := s.setSw { s.sw with swNext := n + 1, swFrames := Sparse.insert s.sw.swFrames n f }
  (s.each copies fun s c => s.admitCopy n f cut c).swFollow

/-! ### Ingress (R412) -/

/-- What classification makes of a frame: VID, PCP, class, DEI, and whether `ACCEPT` refuses its tagging. -/
def State.classify (s : State) (p : Nat) (b : List Byte) (pvid : Nat) : SwFrame × Bool :=
  let tci := be16At b 14
  let vcfg := s.portVcfg p
  let prio := tagged b && tci % 4096 == 0
  let vid := if tagged b && !prio then tci % 4096 else pvid
  let pcp := if tagged b then tci / 8192 else vcfg.fld 14 12
  let accept := (s.portCfg p).fld 5 4
  let cls := s.get Reg.SW_PCP2TC (3 * pcp + 2) (3 * pcp)
  ({ bytes := b, inPort := p, ts := 0, vid := vid, pcp := pcp, cls := cls, dei := tagged b && tci.testBit 12 },
    (accept == 1 && (!tagged b || prio)) || (accept == 2 && tagged b && !prio))

/-- The table detectors of pages 0x0A2 and 0x0A3 (R429, R537). -/
def State.tableEcc (s : State) (p : Nat) : State :=
  let ecc := s.injFires p 0x10 0
  let s := s.injStep p 0x10 0
  s.when ecc fun s => s.pageFault p 0x0100

/-- The entry that a lookup finds: none for a broadcast, and for a multicast without a static entry. -/
def State.lookupDst (s : State) (f : SwFrame) : Option MacEnt :=
  let d := frameDst f.bytes
  if !s.running 0x0A2 || d == broadcastMac then none
  else (s.macFind d f.vid).filter fun e => e.static || !groupMac d

/-- A classified frame is looked up, learned, metered and queued. -/
def State.forwardFrame (s : State) (f : SwFrame) : State :=
  let p := f.inPort
  let s := s.tableEcc 0x0A3
  let v := s.vlan f.vid
  if !s.running 0x0A3 || !v.valid || ((s.portCfg p).getLsbD 3 && !v.memb.testBit p) then
    (s.dropIn p).mirDrop f 0xFF 3
  else
    let s := s.tableEcc 0x0A2
    let f := { f with untag := v.untag }
    let e := s.lookupDst f
    let s := s.when (s.running 0x0A2 && (s.portCfg p).getLsbD 1 && v.learns && !f.bad && !groupMac (frameSrc f.bytes)) fun s =>
      s.learn (frameSrc f.bytes) f.vid p
    if e.any fun x => x.discard then s.dropIn p
    else
      let m := s.metered f f.dei e
      let s := m.1
      let f := m.2.1
      if m.2.2 then (s.dropIn p).mirDrop f 0xFF 2
      else
        let copies := s.copiesOf f (match e with
          | some x => x.mask
          | none => v.memb)
        let cut := s.cutThrough f copies
        if f.bad && !cut then s else s.enqueue f copies cut

/-- A frame is classified at its port: dropped there, or forwarded. -/
def State.ingress (s : State) (p : Nat) (b : List Byte) (ts pvid : Nat) (bad : Bool) : State :=
  if be16At b 12 = 0x8808 || !s.running 0x0A1 then s.dropIn p
  else
    let r := s.classify p b pvid
    let f := { r.1 with ts := ts, bad := bad }
    let s := s.when (!bad) fun s => s.mirRx f
    if r.2 then (s.dropIn p).mirDrop f 0xFF 3 else s.forwardFrame f

end Sys2Proof.Machine
end

