-- ==== Sys2Proof/Machine/SwitchPort.lean ====
section
/-!
DEFINITION. The switch core's ports and commands (13_switch_core.md): links and flushes, tunnels, scheduling and
transmission, the transparent clock (R287, R423), the seat NIC, and the commands of the table pages.
-/
namespace Sys2Proof.Machine

/-! ### Links (R422) -/

/-- An Ethernet port enters FLUSHING. -/
def State.ethDown (s : State) (p : Nat) : State :=
  if s.ethState p ≠ 2 then s
  else
    let s := (s.put (Reg.PORT_STAT p) 1 0 1).count (Reg.PORT_STAT p) 31 16
    ((s.setBit Reg.ETH_LINK p false).raise 0x0A0 9).portFlush p

/-- An Ethernet port enters UP. -/
def State.ethUp (s : State) (p : Nat) : State :=
  ((s.put (Reg.PORT_STAT p) 1 0 2).setBit Reg.ETH_LINK p true).raise 0x0A0 8

/-- Its page and its `EN` let the port be up. -/
def State.ethEnabled (s : State) (p : Nat) : Bool := s.running 0x0A0 && s.bit (Reg.PORT_CFG p) 0 && !s.feather

def State.hasEth (s : State) (p : Nat) : Bool := s.hasPort p && decide (p < 12)

def execEthLinkDown (p : Nat) (s : State) : Answer := answer (wfEth p) (if s.hasEth p then s.ethDown p else s)

def execEthFlushDone (p : Nat) (ready : Bool) (s : State) : Answer :=
  answer (wfEth p)
    (if s.hasEth p && s.ethState p == 1 then
      (if ready && s.ethEnabled p then s.ethUp p else s.put (Reg.PORT_STAT p) 1 0 0)
    else s)

def execEthLinkUp (p : Nat) (s : State) : Answer :=
  answer (wfEth p) (if s.hasEth p && s.ethState p == 0 && s.ethEnabled p then s.ethUp p else s)

/-! ### Frames through a tunnel (R425) -/

/-- The segments of a frame: number, last, bytes. -/
def segments (b : List Byte) : List (Nat × Bool × List Byte) :=
  let n := (b.length + 255) / 256
  (List.range n).map fun i => (i, i + 1 == n, (b.drop (256 * i)).take 256)

/-- A frame leaves by a tunnel as ETH packets. -/
def State.tunSend (s : State) (t : Nat) (b : List Byte) : State :=
  let n := Sparse.get 0 s.sw.tunNext t
  let s := (s.setSw { s.sw with tunNext := Sparse.set 0 s.sw.tunNext t ((n + 1) % 65536) }).count (Reg.TUN_FRAMES t) 31 16
  let dev := s.get (Reg.TUN_CFG t) 8 0
  s.each (segments b) fun s g => s.fabricSend dev 6 64 (s.get (Reg.TUN_CFG t) 14 12) (.eth n g.1 g.2.1 g.2.2)

/-- The frame that has arrived whole. -/
def TunAsm.whole (x : TunAsm) : Option (List Byte) :=
  match x.last with
  | none => none
  | some n =>
    if (List.range (n + 1)).all fun i => (Sparse.find? x.segs i).isSome then
      some ((List.range (n + 1)).flatMap fun i => Sparse.get [] x.segs i)
    else none

/-- A frame of good length enters the switch on a port that has no `PORT` registers. -/
def State.ingressPlain (s : State) (p : Nat) (b : List Byte) (ts pvid : Nat) : State :=
  if frameLen b < 64 || (s.portCfg p).fld 29 16 < frameLen b then s else s.ingress p b ts pvid false

def State.segmentRx (s : State) (t frame seg : Nat) (last : Bool) (data : List Byte) (ts : Nat) : State :=
  if s.tunState t ≠ 2 then s
  else
    let x : TunAsm := (s.sw.tunAsm.find? fun x => x.tun == t && x.frame == frame).getD { tun := t, frame := frame }
    let x : TunAsm := { x with segs := Sparse.insert x.segs seg data, last := if last then some seg else x.last }
    let others := s.sw.tunAsm.filter fun y => !(y.tun == t && y.frame == frame)
    match x.whole with
    | none => s.setSw { s.sw with tunAsm := others ++ [x] }
    | some b => ((s.setSw { s.sw with tunAsm := others }).count (Reg.TUN_FRAMES t) 15 0).ingressPlain (12 + t) b ts 1

def execTunnelSegmentRx (t frame seg : Nat) (last : Bool) (data : List Byte) (ts : Nat) (s : State) : Answer :=
  answer (decide (t < 8) && decide (data.length ≤ 256)) (if s.part.hasSwitch then s.segmentRx t frame seg last data ts else s)

def execTunnelReassemblyTimeout (t frame : Nat) (s : State) : Answer :=
  answer (decide (t < 8))
    (if s.sw.tunAsm.any fun x => x.tun == t && x.frame == frame then
      (s.setSw { s.sw with tunAsm := s.sw.tunAsm.filter fun x => !(x.tun == t && x.frame == frame) }).count (Reg.TUN_LOST t) 31 0
    else s)

/-! ### Reception (R410, R430) -/

/-- `TSCTL` latches the timestamp of a frame of its EtherType. -/
def State.tsLatch (s : State) (p : Nat) (b : List Byte) (ts : Nat) : State :=
  if p < 12 && s.bit (Reg.PORT_TSCTL p) 0 && s.get (Reg.PORT_TSCTL p) 31 16 == etherType b then
    (s.setBit (Reg.PORT_TSCTL p) 0 false).wr64 (Reg.PORT_TS p 0) (Reg.PORT_TS p 1) ts
  else s

/-- The ordinary PTP messages (R286): where the PTP header lies in a frame, and where its UDP checksum does. -/
def ptpAt (b : List Byte) : Option (Nat × Option Nat) :=
  let o := if tagged b then 18 else 14
  let udp := fun (u : Nat) => if be16At b (u + 2) = 319 ∨ be16At b (u + 2) = 320 then some (u + 8, some (u + 6)) else none
  match etherType b with
  | 0x88F7 => some (o, none)
  | 0x0800 => if byteAt b (o + 9) = 17 then udp (o + 4 * (byteAt b o % 16)) else none
  | 0x86DD => if byteAt b (o + 6) = 17 then udp (o + 40) else none
  | _ => none

/-- Message type of a PTP frame. -/
def ptpType (b : List Byte) : Option Nat := (ptpAt b).map fun h => byteAt b h.1 % 16

/-- Event messages of `PTP.CNT`: Sync, Delay_Req and the peer-delay ones. -/
def ptpEvent (b : List Byte) : Bool := (ptpType b).any fun t => decide (t < 4)

/-- Event messages are timestamped on Ethernet ports with `TS_EN` (R286, R297). -/
def State.ptpCount (s : State) (p : Nat) (b : List Byte) : State :=
  if p < 12 && s.bit (Reg.PTP_PCFG p) 0 && ptpEvent b then s.count (Reg.PTP_CNT p) 15 0 else s

/-- A frame arrives on an Ethernet port or MGMT. -/
def State.ethRx (s : State) (p : Nat) (b : List Byte) (fcsOk : Bool) (ts : Nat) : State :=
  if !s.hasPort p || !s.portUsable p then s
  else
    let inj := decide (p < 12) && s.injFires 0x0A0 0x10 p
    let s := s.when (decide (p < 12)) fun s => s.injStep 0x0A0 0x10 p
    let n := frameLen b
    let cfg := s.portCfg p
    let size := n < 64 || cfg.fld 29 16 < n
    let bad := !fcsOk || inj
    if n < 64 then s.portCount p (Reg.PORT_ERR p) 31 16
    else if bad || size then
      let s := if size then s.portCount p (Reg.PORT_ERR p) 31 16 else s.portCount p (Reg.PORT_ERR p) 15 0
      if s.part.hasSwitch then s.ingress p b ts ((s.portVcfg p).fld 11 0) true else s
    else
      let s := (s.portCount p (Reg.PORT_RXF p) 31 0).portOctets p (Reg.PORT_RXO p 0) n
      let s := (s.tsLatch p b ts).ptpCount p b
      if s.part.hasSwitch then s.ingress p b ts ((s.portVcfg p).fld 11 0) false else s

/-- A timestamp taken at the PCS boundary, corrected by the board's latency and the delay asymmetry of an Ethernet port
(R288; the signs are the model's, log 38). -/
def State.tsCorrect (s : State) (p ts : Nat) (tx : Bool) : Nat :=
  if p < 12 then
    let lat : Int := if tx then (s.get (Reg.PTP_LAT p) 31 16 : Int) else -(s.get (Reg.PTP_LAT p) 15 0 : Int)
    ((ts : Int) + lat - roundDiv (s.rdI (Reg.PTP_ASYM p)) 4).toNat
  else ts

def execEthFrameRx (p : Nat) (bytes : List Byte) (fcsOk : Bool) (ts : Nat) (s : State) : Answer :=
  answer ((decide (p < 12) || p == 20) && decide (14 ≤ bytes.length)) (s.ethRx p bytes fcsOk (s.tsCorrect p ts false))

/-! ### The transparent clock (R287, R423) -/

/-- Residence in 2^−16 ns, scaled by the servo's rate with `SYNT` (log 15). -/
def State.residence (s : State) (tin tout : Nat) : Int :=
  let r := ((tout : Int) - (tin : Int)) * 65536
  if s.bit Reg.PTP_TC 1 then r - roundDiv (r * s.rdI Reg.TB_ADJ) (256 * 1000000000) else r

/-- The one's complement sum of the 16-bit words of some bytes. -/
def onesSum (b : List Byte) : Nat := ((List.range ((b.length + 1) / 2)).map fun i => be16At b (2 * i)).sum

/-- Carries folded into 16 bits. -/
def onesFold (v : Nat) : Nat :=
  let a := v % 65536 + v / 65536
  a % 65536 + a / 65536

/-- Bytes put in place of those at an offset. -/
def patch (b : List Byte) (o : Nat) (d : List Byte) : List Byte := b.take o ++ d ++ b.drop (o + d.length)

/-- The frame with `r` added to its correctionField, its UDP checksum following; a checksum of 0 says that there is none. -/
def correct (b : List Byte) (h : Nat) (sum : Option Nat) (r : Int) : List Byte :=
  let old := (b.drop (h + 8)).take 8
  let new := beBytes 8 (Word.unsigned 64 (Word.signed 64 (ofBeBytes old) + r))
  let b := patch b (h + 8) new
  match sum with
  | none => b
  | some c =>
    let v := be16At b c
    if v = 0 then b
    else
      let t := onesFold (65535 - v + onesSum new + (onesSum (old.map fun x => ~~~x)))
      patch b c (beBytes 2 (if t = 65535 then 65535 else 65535 - t))

/-- What a Sync and its Follow_Up share: source identity, sequence number, domain. -/
def syncKey (b : List Byte) (h : Nat) : List Byte := (b.drop (h + 20)).take 12 ++ [b.getD (h + 4) 0]

/-- Ports between which residence is measured: Ethernet ports with `TS_EN`, MGMT, and a tunnel at its first segment. -/
def State.tcPort (s : State) (p : Nat) (out : Bool) : Bool :=
  if p < 12 then s.bit (Reg.PTP_PCFG p) 0 else p == 20 || (out && decide (p < 20))

/-- A frame as it leaves a port: one-step Sync and Delay_Req take their residence, Follow_Up that of its Sync. -/
def State.tcApply (s : State) (f : SwFrame) (p ts : Nat) (b : List Byte) : State × List Byte :=
  if !(s.running 0x051 && s.bit Reg.PTP_TC 0 && s.tcPort f.inPort false && s.tcPort p true) then (s, b)
  else
    match ptpAt b with
    | none => (s, b)
    | some (h, sum) =>
      let r := s.residence f.ts ts
      let twoStep := (byteAt b (h + 6)).testBit 1
      match byteAt b h % 16 with
      | 0 =>
        if twoStep then (s.setSw { s.sw with tcSync := ((p, syncKey b h, r) :: s.sw.tcSync).take 64 }, b)
        else if etherType b = 0x86DD then (s, b)
        else (s, correct b h sum r)
      | 1 => (s, correct b h sum r)
      | 8 =>
        match s.sw.tcSync.find? fun e => e.1 == p && e.2.1 == syncKey b h with
        | none => (s, b)
        | some e => (s.setSw { s.sw with tcSync := s.sw.tcSync.erase e }, correct b h sum e.2.2)
      | _ => (s, b)

/-! ### Scheduling (R435) -/

def State.qHeadLen (s : State) (q : Nat) : Nat :=
  match s.swQueue q with
  | [] => 0
  | c :: _ => frameLen (s.swFrame c.frame).bytes

def State.strictClass (s : State) (p : Nat) : Option Nat :=
  [7, 6, 5, 4, 3, 2, 1, 0].find? fun c => s.bit (Reg.PQ_SCHED p) c && !(s.swQueue (8 * p + c)).isEmpty

/-- Quantum of a class: 256 bytes × its weight, a weight of 0 acting as 1. -/
def State.quantum (s : State) (p c : Nat) : Nat :=
  256 * max 1 ((s.rd (Reg.PQ_WGT p (c / 4))).fld (8 * (c % 4) + 7) (8 * (c % 4)))

def State.setTurn (s : State) (p c : Nat) : State := s.setSw { s.sw with swTurn := Sparse.set 0 s.sw.swTurn p c }
def State.setDeficit (s : State) (q n : Nat) : State := s.setSw { s.sw with swDeficit := Sparse.set 0 s.sw.swDeficit q n }

/-- Deficit round-robin from the class whose turn it is, at most `fuel` turns. -/
def State.drrPick (s : State) (p : Nat) : Nat → State × Option Nat
  | 0 => (s, none)
  | fuel + 1 =>
    let c := Sparse.get 0 s.sw.swTurn p
    let q := 8 * p + c
    let next := (c + 1) % 8
    let step := fun (s : State) => (s.setTurn p next).setDeficit (8 * p + next)
      (Sparse.get 0 s.sw.swDeficit (8 * p + next) + s.quantum p next)
    if s.bit (Reg.PQ_SCHED p) c || (s.swQueue q).isEmpty then (step (s.setDeficit q 0)).drrPick p fuel
    else if s.qHeadLen q ≤ Sparse.get 0 s.sw.swDeficit q then
      (s.setDeficit q (Sparse.get 0 s.sw.swDeficit q - s.qHeadLen q), some c)
    else (step s).drrPick p fuel

/-- The class that a port serves next. -/
def State.pickClass (s : State) (p : Nat) : State × Option Nat :=
  match s.strictClass p with
  | some c => (s, some c)
  | none => if (List.range 8).all fun c => (s.swQueue (8 * p + c)).isEmpty then (s, none) else s.drrPick p 400

/-! ### Transmission (R414, R421) -/

/-- The frame as it leaves a port, tagged unless its VID is untagged there. -/
def SwFrame.outBytes (f : SwFrame) (p : Nat) : List Byte :=
  let b := untagBytes f.bytes
  if f.untag.testBit p then b
  else b.take 12 ++ beBytes 2 0x8100 ++ beBytes 2 (f.pcp * 8192 + f.dei.toNat * 4096 + f.vid) ++ b.drop 12

/-- SNIC hands a frame to an interface, whose next receive poll takes it; discarded while the seat is frozen, RESETTING, or
has a suspended receive (R427). -/
def State.snicDeliver (s : State) (i : Nat) (b : List Byte) (ts : Nat) : State :=
  let n : Snic := Sparse.get {} s.sw.snics i
  if !s.bit (Reg.SNIC_STAT i) 0 || s.seatShare i = 0 || s.seatState i = 3 || n.stopRx then s.count (Reg.SNIC_CNT i) 31 16
  else s.setSw { s.sw with snics := Sparse.insert s.sw.snics i { n with inbox := n.inbox ++ [(b, ts)] } }

/-- A copy leaves its port. -/
def State.transmit (s : State) (p ts : Nat) (c : SwCopy) : State :=
  let f := s.swFrame c.frame
  let s := s.mirTx f p ts
  let r := s.tcApply f p ts (f.outBytes p)
  let s := r.1.swFollow
  let b := r.2
  if p < 12 then
    (((s.portCount p (Reg.PORT_TXF p) 31 0).portOctets p (Reg.PORT_TXO p 0) (frameLen b)).ptpCount p b).send (.ethFrame p b (!f.bad))
  else if p < 20 then s.tunSend (p - 12) b
  else if p = 20 then s.send (.ethFrame p b (!f.bad))
  else s.snicDeliver c.seat b f.ts

/-- The detector of an on-die cell: the frame's copies are discarded (R428). -/
def State.cellEcc (s : State) (frame : Nat) : State :=
  let s := s.setSw { s.sw with
    swQueues := (s.sw.swQueues.map fun e => (e.1, e.2.filter fun c => c.frame != frame)).filter fun e => !e.2.isEmpty }
  ((s.count Reg.SW_DROPS 15 0).raise 0x0A1 10).swFollow

/-- A spilled frame is read from device DRAM; where in the spill region it lies is a free value. The second part says that its
error cannot be corrected. -/
def State.spillRead (s : State) : State × Bool :=
  let s := s.useFree
  let r := s.dramRead (s.spillArea.1 + (s.freeWord.toNat % max 1 (s.spillArea.2 / 256)) * 256) 256
  (r.1, r.2.isNone)

/-- A spilled frame with an uncorrectable error is discarded (R417). -/
def State.spillEcc (s : State) (frame : Nat) : State :=
  let s := s.setSw { s.sw with
    swQueues := (s.sw.swQueues.map fun e => (e.1, e.2.filter fun c => c.frame != frame || !c.spilled)).filter fun e => !e.2.isEmpty }
  (s.count Reg.SW_DROPS 31 16).swFollow

def State.egress (s : State) (p ts : Nat) : State :=
  if !s.hasPort p || !s.part.hasSwitch || !s.portUsable p then s
  else
    let r := s.pickClass p
    let s := r.1
    match r.2 with
    | none => s
    | some cls =>
      match s.swQueue (8 * p + cls) with
      | [] => s
      | c :: rest =>
        if c.spilled then
          let r := s.spillRead
          if r.2 then r.1.spillEcc c.frame else (r.1.setSwQueue (8 * p + cls) rest).transmit p ts c
        else
          let ecc := s.injFires 0x0A1 0x10 0
          let s := s.injStep 0x0A1 0x10 0
          if ecc then s.cellEcc c.frame else (s.setSwQueue (8 * p + cls) rest).transmit p ts c

/-- R418, R421. -/
def execEgressTransmit (p ts : Nat) (s : State) : Answer := answer (decide (p < 22)) (if s.halted then s else s.egress p (s.tsCorrect p ts true))

/-! ### Table commands (R429, R432 to R434) -/

/-- An op of pages 0x0A2 to 0x0A4: accepted in STOPPED and RUNNING. -/
def State.tableOp (s : State) (p : Nat) (f : State → State) : State :=
  if !s.has p then s else if s.settled p then f s else s.raise p 1

def State.macDone (s : State) (st : Nat) : State := s.wrN Reg.MAC_STAT (256 * st)
def State.keyMac (s : State) : Nat := (s.rd Reg.MAC_KEY_LO).toNat + 2 ^ 32 * s.get Reg.MAC_KEY_HI 15 0
def State.keyVid (s : State) : Nat := s.get Reg.MAC_KEY_HI 27 16
def goodVid (v : Nat) : Bool := v != 0 && v != 4095

/-- A table entry shown in `MAC.DATA` and `MAC.MTR`; its age is a free value, the manual gives it no unit. -/
def State.macShow (s : State) (e : MacEnt) : State :=
  let s := s.useFree
  let v := e.mask + 2 ^ 22 * e.static.toNat + 2 ^ 23 * e.discard.toNat + 2 ^ 24
  (s.wr Reg.MAC_DATA (Word.setFld (BitVec.ofNat 32 v) 31 28 (s.freeWord.fld 3 0))).wr Reg.MAC_MTR e.mtr

def State.macAdd (s : State) : State :=
  let e : MacEnt :=
    { mac := s.keyMac, vid := s.keyVid, mask := s.get Reg.MAC_DATA 21 0, static := true, discard := s.bit Reg.MAC_DATA 23
      mtr := s.rd Reg.MAC_MTR &&& 0x8FFF, seen := s.tbSec }
  if !goodVid e.vid then s.macDone 3
  else
    match s.macFind e.mac e.vid with
    | some _ => (s.macPut e).macDone 0
    | none => if s.sw.macs.length < 16384 then (s.setMacs (s.sw.macs ++ [e])).macDone 0 else s.macDone 1

def execMacAdd (s : State) : Answer := .next (s.tableOp 0x0A2 fun s => s.macAdd)

def execMacDel (s : State) : Answer :=
  .next (s.tableOp 0x0A2 fun s =>
    match s.macFind s.keyMac s.keyVid with
    | some e => (s.setMacs (s.sw.macs.erase e)).macDone 0
    | none => s.macDone 2)

def execMacLookup (s : State) : Answer :=
  .next (s.tableOp 0x0A2 fun s =>
    match s.macFind s.keyMac s.keyVid with
    | some e => (s.macShow e).macDone 0
    | none => s.macDone 2)

def execMacFlushPort (s : State) : Answer := .next (s.tableOp 0x0A2 fun s => (s.macFlush (s.get Reg.MAC_DATA 21 0)).macDone 0)
def execMacFlushAll (s : State) : Answer := .next (s.tableOp 0x0A2 fun s => (s.setMacs (s.sw.macs.filter fun e => e.static)).macDone 0)

/-- The entry that `IDX` names, none where the table has none there (log 19). -/
def State.macAtIdx (s : State) : Option MacEnt :=
  s.sw.macs[Config.macPlace (s.sw.macs.map fun e => (e.mac, e.vid)) (s.get Reg.MAC_IDX 13 0)]?

/-- READ; an entry that is not there is not `VALID`. -/
def execMacRead (s : State) : Answer :=
  .next (s.tableOp 0x0A2 fun s =>
    match s.macAtIdx with
    | some e =>
      let s := (s.wrN Reg.MAC_KEY_LO e.mac).wrN Reg.MAC_KEY_HI (e.mac / 2 ^ 32 % 65536 + 65536 * e.vid)
      (s.macShow e).macDone 0
    | none => (s.wr Reg.MAC_DATA 0).macDone 0)

/-- R413. -/
def execMacAgeOut (mac vid : Nat) (s : State) : Answer :=
  .next (match s.macFind mac vid with
    | none => s
    | some e =>
      let age := s.get Reg.SW_CFG 15 0
      if !e.static && age ≠ 0 && e.seen + age ≤ s.tbSec then s.setMacs (s.sw.macs.erase e) else s)

def execVlanApply (s : State) : Answer :=
  .next (s.tableOp 0x0A3 fun s =>
    let v := s.get Reg.VLAN_VSEL 11 0
    let e : VlanEnt := { memb := s.get Reg.VLAN_VMEMB 21 0, untag := s.get Reg.VLAN_VUNTAG 21 0, flags := s.get Reg.VLAN_VFLAGS 1 0 }
    if goodVid v then s.setSw { s.sw with vlans := Sparse.set {} s.sw.vlans v e } else s)

def execVlanRead (s : State) : Answer :=
  .next (s.tableOp 0x0A3 fun s =>
    let e := s.vlan (s.get Reg.VLAN_VSEL 11 0)
    ((s.wrN Reg.VLAN_VMEMB e.memb).wrN Reg.VLAN_VUNTAG e.untag).wrN Reg.VLAN_VFLAGS e.flags)

/-- `MTR.STAT` after an op; ALLOC shows its meter. -/
def State.mtrDone (s : State) (st : Nat) : State := s.put Reg.MTR_STAT 10 8 st

def execMtrAlloc (s : State) : Answer :=
  .next (s.tableOp 0x0A4 fun s =>
    match (List.range 4096).find? fun m => !(s.meter m).used with
    | none => s.mtrDone 1
    | some m => ((s.setMeter m { used := true }).put Reg.MTR_STAT 27 16 m).mtrDone 0)

/-- A static MAC entry or a `PMAP` entry names the meter. -/
def State.meterNamed (s : State) (m : Nat) : Bool :=
  let names := fun (w : Word) => w.getLsbD 15 && w.fld 11 0 == m
  (s.sw.macs.any fun e => e.static && names e.mtr) || (List.range 176).any fun q => names (s.rd (Reg.MTR_PMAP q))

def execMtrFree (m : Nat) (s : State) : Answer :=
  answer (decide (m < 4096))
    (s.tableOp 0x0A4 fun s =>
      if !(s.meter m).used then s.mtrDone 4
      else if s.meterNamed m then s.mtrDone 2
      else (s.setMeter m {}).mtrDone 0)

/-- The bounds of R419 on a burst. -/
def badBurst (n : Nat) : Bool := n < 1522 || 16777215 < n

def execMtrWrite (m : Nat) (s : State) : Answer :=
  answer (decide (m < 4096))
    (s.tableOp 0x0A4 fun s =>
      let x := s.meter m
      let cir := (s.rd Reg.MTR_CIR).toNat
      let pir := (s.rd Reg.MTR_PIR).toNat
      let cbs := s.get Reg.MTR_CBS 23 0
      let pbs := s.get Reg.MTR_PBS 23 0
      if !x.used then s.mtrDone 4
      else if pir < cir || badBurst cbs || badBurst pbs then s.mtrDone 3
      else
        (s.setMeter m
          { x with cir := cir, pir := pir, cbs := cbs, pbs := pbs, mode := s.rd Reg.MTR_MODE, tc := cbs * 8000000
                   tp := pbs * 8000000, at_ := s.now }).mtrDone 0)

def execMtrRead (m : Nat) (s : State) : Answer :=
  answer (decide (m < 4096))
    (s.tableOp 0x0A4 fun s =>
      let x := s.meter m
      if !x.used then s.mtrDone 4
      else
        (((s.wrN (Reg.MTR_CNT 0) x.cnt.1).wrN (Reg.MTR_CNT 1) x.cnt.2.1).wrN (Reg.MTR_CNT 2) x.cnt.2.2).mtrDone 0)

/-- R430. -/
def execPortTsArm (p : Nat) (v : Word) (s : State) : Answer :=
  answer (wfEth p) (if s.hasEth p && s.has 0x0A0 then s.wr (Reg.PORT_TSCTL p) (v &&& 0xFFFF0001) else s)

/-! ### The seat NIC (R426, R427) -/

def State.snic (s : State) (i : Nat) : Snic := Sparse.get {} s.sw.snics i
def State.setSnic (s : State) (i : Nat) (n : Snic) : State := s.setSw { s.sw with snics := Sparse.insert s.sw.snics i n }

/-- A fault suspends a ring of the interface. -/
def State.snicFault (s : State) (i : Nat) (rx : Bool) (code addr : Nat) (write : Bool) : State :=
  let n := s.snic i
  let s := s.setSnic i (if rx then { n with stopRx := true } else { n with stopTx := true })
  (s.smuFault (flog0 i 0 0 code write) addr (BitVec.ofNat 32 (65535 + 65536 * rx.toNat))).suspFollow i

/-- The descriptor completes: length written, `OWN` cleared, MSI-X, and the index moves on. -/
def State.descEnd (s : State) (i : Nat) (rx : Bool) (at_ : Xlat) (desc : List Byte) (len : Nat) (ns : List Byte) : State :=
  let n := s.snic i
  let depth := 2 ^ s.get (Reg.SNIC_RCFG i) (if rx then 12 else 4) (if rx then 8 else 0)
  let d := desc.take 8 ++ leBytes 2 len ++ [0, 0] ++ ns
  let s := (s.xlatWrite i at_ d).msixSend i (s.get (Reg.SNIC_RCFG i) 18 16)
  s.setSnic i (if rx then { n with rx := (n.rx + 1) % depth } else { n with tx := (n.tx + 1) % depth })

/-- A transmit descriptor that the seat has given: its frame enters the switch. -/
def State.snicTx (s : State) (i : Nat) (ring : Xlat) (desc buf : List Byte) (host : List (Nat × Nat)) : State :=
  let len := le16At desc 8
  let r := s.translate host i (le64At desc 0) false
  if r.2.code ≠ 0 then r.1.snicFault i false r.2.code (le64At desc 0) false
  else
    let s := r.1
    let g : State × Option (List Byte) := if r.2.dram then s.dramRead r.2.addr len else (s, some (buf.take len))
    let s := (g.1.spend i).descEnd i false ring desc len (desc.drop 12)
    match g.2 with
    | none => s.count (Reg.SNIC_CNT i) 31 16
    | some b =>
      if b.length < 14 || tagged b || frameSrc b != (s.snic i).mac then s.count (Reg.SNIC_CNT i) 31 16
      else s.ingressPlain 21 b s.now (s.get (Reg.SNIC_STAT i) 27 16)

/-- A frame that waits for the interface meets its receive descriptor. -/
def State.snicRx (s : State) (i : Nat) (ring : Xlat) (desc : List Byte) (host : List (Nat × Nat)) : State :=
  let n := s.snic i
  match n.inbox with
  | [] => s
  | (b, ts) :: rest =>
    let s := s.setSnic i { n with inbox := rest }
    if !(byteAt desc 10).testBit 0 || le16At desc 8 < b.length then s.count (Reg.SNIC_CNT i) 31 16
    else
      let r := s.translate host i (le64At desc 0) true
      if r.2.code ≠ 0 then (r.1.setSnic i n).snicFault i true r.2.code (le64At desc 0) true
      else
        (((r.1.spend i).xlatWrite i r.2 b).descEnd i true ring desc b.length (leBytes 4 ts)).count (Reg.SNIC_CNT i) 15 0

/-- The interface polls a ring (R427): idle while it is disabled, its ring not set up, its seat out of credit, or its
transfers suspended. -/
def State.snicPoll (s : State) (i : Nat) (rx : Bool) (desc buf : List Byte) (host : List (Nat × Nat)) : State :=
  let n := s.snic i
  let depth := s.get (Reg.SNIC_RCFG i) (if rx then 12 else 4) (if rx then 8 else 0)
  if !s.part.hasSwitch || !s.running 0x0A8 || !s.running 0x098 || !s.bit (Reg.SNIC_STAT i) 0 || depth = 0 || !s.inRound i ||
    (if rx then n.stopRx else n.stopTx) || (rx && n.inbox.isEmpty) then s
  else
    let base := if rx then s.rd64 (Reg.SNIC_RXR i) (Reg.SNIC_RXR i + 4) else s.rd64 (Reg.SNIC_TXR i) (Reg.SNIC_TXR i + 4)
    let at_ := base + 16 * (if rx then n.rx else n.tx)
    let r := s.translate host i at_ true
    if r.2.code ≠ 0 then r.1.snicFault i rx r.2.code at_ true
    else
      let g : State × Option (List Byte) := if r.2.dram then r.1.dramRead r.2.addr 16 else (r.1, some desc)
      match g.2 with
      | none => g.1
      | some d =>
        if rx then g.1.snicRx i r.2 d host
        else if (byteAt d 10).testBit 0 then g.1.snicTx i r.2 d buf host
        else g.1

def execSnicPoll (i : Nat) (rx : Bool) (desc buf : List Byte) (host : List (Nat × Nat)) (s : State) : Answer :=
  answer (decide (i < 64) && desc.length == 16) (s.snicPoll i rx desc buf host)

end Sys2Proof.Machine
end

