-- ==== Sys2Proof/Machine/Power.lean ====
section
/-!
DEFINITION. What clears domain D and releases it (R546 to R555), the supplies (R553, R554, R633), and the power states Doze,
Feather and Backup (R556 to R564).
-/
namespace Sys2Proof.Machine

/-! ### The clearing of domain D (R548, R552) -/

/-- Header registers that pages 0x0C0 to 0x0C5 keep in domain F (R50). -/
def fieldHeader (a : Nat) : Bool :=
  decide (0x0C0 ≤ a / 0x1000) && decide (a / 0x1000 ≤ 0x0C5) &&
    [0x00C, 0x010, 0x014, 0x018, 0x02C, 0x030].contains (a % 0x1000)

/-- The register at an address outlives the clearing of domains D, S and K. -/
def outlives (a : Nat) : Bool :=
  match domOf a with
  | some .n => true
  | some .a => true
  | some .f => true
  | _ => fieldHeader a

/-- The calibration set in force, which the life store holds (R94, R552). -/
def Chan.kept (c : Chan) : Chan :=
  { meas := { coef := c.meas.coefNext.getD c.meas.coef, calSeq := c.meas.calSeq, calTime := c.meas.calTime } }

/-- The state with domains D, S and K cleared; `dram` says whether device DRAM keeps its content. The holders of locks
here learn of their loss at their next access (R346). -/
def State.clearDSK (s : State) (dram : Bool) : State :=
  { part := s.part, straps := s.straps
    regs := s.regs.filter fun (e : Nat × Word) => outlives e.1
    free := s.free, out := s.out, pending := s.pending
    chans := s.chans.map fun (e : Nat × Chan) => (e.1, e.2.kept)
    dies := s.dies.map fun (e : Nat × Die) => (e.1, { powered := e.2.powered })
    calJournal := s.calJournal, calReadable := s.calReadable
    dma := { dram := if dram then s.dma.dram else [] }
    brg := { lockLost := s.brg.lockLost ++ s.brg.locks.map fun (l : Nat × (Nat × Nat)) => (l.2.1, l.2.2, l.1) }
    field := s.field, key := s.keyClearD.key, power := s.power, flash := s.flash, flashPages := s.flashPages
    lifeCh := s.lifeCh, lifeLs := s.lifeLs, lifeLink := s.lifeLink, leaps := s.leaps
    crumbs := s.crumbs, crumbSeq := s.crumbSeq, crumbSeen := s.crumbSeen }

/-- The life store takes what it can before a reset (R581); then domain D is cleared, and counted (R576). -/
def State.clearD (s : State) (dram : Bool) : State :=
  let s := s.lifeLastSec.each (List.range 39) State.lifeFlushLink
  (s.clearDSK dram).count Reg.RST_CNT 15 0

/-- Domain A takes its reset values, and shows that it was lost (R552, R564). -/
def State.loseA (s : State) : State :=
  let s : State := { s with regs := s.regs.filter fun (e : Nat × Word) => domOf e.1 != some .a }
  (s.setBit Reg.RST_CAUSE 8 true).setPower { s.power with bkFrac := 0 }

/-- Everything but domains N and F is lost (R554): the device is off. -/
def State.powerOff (s : State) : State :=
  let s := (s.clearDSK false).loseA
  s.setPower { s.power with cause := none, held := true, backup := false, wake := none, recDue := false, restart := none }

/-- The bits of the supplies that a release requires (R553). -/
def State.supplied (s : State) : Bool := (List.range 5).all fun i => s.power.supply.testBit i

def clearBit (v i : Nat) : Nat := if v.testBit i then v - 2 ^ i else v

/-- R546: power-on. In Backup it only makes the supplies valid again (R563). -/
def State.powerOn (s : State) : State :=
  let s := s.setPower { s.power with supply := 0x9F }
  if s.power.backup then s
  else
    let s := (s.clearDSK false).count Reg.RST_CNT 15 0
    s.setPower
      { s.power with
        cause := some 1, held := true, wake := none, restart := none, recDue := false
        records := ((1, s.tbSec, s.fails) :: s.power.records).take 64 }

/-- The level of the ball `SUPPLY_REQ`: low in Backup, from the clearing of domain D until a wake (R562, R563). -/
def State.supplyReq (s : State) : Bool := !(s.power.backup && s.power.held && s.power.cause.isNone)

def execPowerOn (s : State) : Answer := .next s.powerOn

/-- Entry to Backup (R562): R548 with cause recording deferred. -/
def State.backupEnter (s : State) : State :=
  let p := s.power
  if p.backup then s
  else if p.held then s.setPower { p with backup := true, cause := none, wake := none }
  else
    let s := s.opFlush
    let p := s.power
    s.setPower
      { p with backup := true, cause := some 7, wake := none, records := ((7, s.tbSec, s.fails) :: p.records).take 64 }

/-- R554. -/
def execSupplyLoss (bit : Nat) (s : State) : Answer :=
  answer (decide (bit < 5))
    (let s := s.setPower { s.power with supply := clearBit s.power.supply bit }
     if s.power.held && s.power.cause.isNone then s
     else if s.power.supply.testBit 7 then s.backupEnter
     else s.powerOff)

/-- R564, R552: in Backup only `VBKP` was left. -/
def execVbkpLoss (s : State) : Answer :=
  .next
    (let s := s.loseA
     let s := s.setPower { s.power with supply := clearBit s.power.supply 7 }
     if s.power.backup && s.power.held then s.powerOff else s)

/-- R548, R562: 1 ms after the trigger. In Backup a latched wake is the cause at once (R564). -/
def execDomainDClear (s : State) : Answer :=
  .next
    (if s.power.cause.isNone || s.power.held then s
    else
      let s := s.clearD (!s.power.backup)
      let p := s.power
      s.setPower
        { p with
          held := true, restart := none, recDue := false, blocked := 0, wake := none, opSec := 0
          cause := if p.backup then p.wake.map (fun _ => 7) else p.cause })

/-- R294, R642, R589, R568: what the release does before the ROM picks a bank. -/
def State.release (s : State) (straps fitted life cause : Nat) : State :=
  let s : State := { s with regs := Sparse.erase s.regs Reg.RT_ID, straps := straps }
  let frac := (roundDiv (s.get Reg.TB_BK_SUB 14 0 * 1000000000 : Nat) 32768).toNat
  let s := s.setCounter (s.rd64 Reg.TB_BK_SEC_LO Reg.TB_BK_SEC_HI) frac 0
  let s := (s.put Reg.RST_CAUSE 7 4 (s.get Reg.RST_CAUSE 3 0)).put Reg.RST_CAUSE 3 0 cause
  let s := s.wrN Reg.DRAM_CFG (fitted * 65536 + fitted * 1024 * 31 / 32)
  let s := s.wrN Reg.DRAM_STAT 1
  let s := s.setPower { s.power with cause := none, held := false, backup := false }
  let s := (s.setBit Reg.LIFE_STAT 0 true).put Reg.LIFE_STAT 15 8 Config.lifeFormat.toNat
  let s := s.crumbFind
  let s := s.when (life == 2) fun s => (s.put (Reg.PG_FAULT 0x004) 15 0 0x0100).raise 0x004 4
  let s := s.when (!s.calReadable) fun s => s.each ((List.range 2).filter s.hasDie) fun s d => s.pageFault (0x012 + d) 0x0100
  s.when (!s.rootOk) fun s => s.pageFault 0x0D0 0x0100

/-- R554: domain D is released once every required supply is valid, and the ROM starts (R565). -/
def execDomainDRelease (straps fitted life : Nat) (readBad : List Nat) (s : State) : Answer :=
  answer (decide (straps < 512) && decide (2 ≤ fitted) && decide (fitted ≤ 16) && decide (life < 3) && readBad.all fun b => decide (b < 2))
    (match s.power.cause with
    | some c => if s.power.held && s.supplied then (s.release straps fitted life c).rom life readBad else s
    | none => s)

/-! ### Backup (R561 to R564) -/

/-- The device leaves Backup for a source, or latches it during the entry. -/
def State.backupWake (s : State) (code : Nat) : State :=
  let p := s.power
  if !p.backup || (p.held && p.cause.isSome) then s
  else
    let s := s.wrN Reg.PWR_BKWAKE (code + 2 ^ 31)
    if p.held then s.setPower { p with cause := some 7 } else s.setPower { p with wake := some code }

def execBackupWakeN (s : State) : Answer := .next (if s.bit Reg.PWR_BKCFG 0 then s.backupWake 1 else s)
def execBackupTioWake (s : State) : Answer := .next (if s.bit Reg.PWR_BKCFG 1 then s.backupWake 2 else s)

/-- R294: `BK_SEC` equals a non-zero `BK_ALARM`. -/
def execBkAlarm (s : State) : Answer :=
  let a := s.rd64 Reg.TB_BK_ALARM_LO Reg.TB_BK_ALARM_HI
  .next (if a != 0 && s.rd64 Reg.TB_BK_SEC_LO Reg.TB_BK_SEC_HI == a then s.backupWake 3 else s)

/-- R561. -/
def State.backupOk (s : State) (v : Word) : Bool :=
  v.fld 31 16 == 0xBAC0 && decide (s.get Reg.PWR_STATE 1 0 < 2) &&
    s.channels.all fun k => s.chState k == 0 || s.chState k == 5 || s.chState k == 6

/-- R561, R564: a pending agreement aborts, and the links depart. -/
def State.backupRequest (s : State) (v : Word) : State :=
  if s.halted || !v.getLsbD 0 then s
  else if !s.backupOk v then s.raise 0x001 12
  else
    let s := s.when (s.slp == 2) fun s =>
      s.sleepAbort.each (List.range 8) fun s n => s.when (s.linkUp n) fun s => s.blStop n
    s.backupEnter

def execBackupRequest (v : Word) (s : State) : Answer := .next (s.backupRequest v)

/-! ### Doze (R557) -/

def State.pwrState (s : State) (v : Nat) : State := (s.wrN Reg.PWR_STATE v).raise 0x001 10

def execDozeEntry (s : State) : Answer :=
  .next
    (if !s.halted && s.get Reg.PWR_STATE 1 0 == 0 && s.bit Reg.PWR_CTRL 0 && !s.bit Reg.COX_STAT 0 then s.pwrState 1
    else s)

def execDozeExit (s : State) : Answer :=
  .next (if !s.halted && s.get Reg.PWR_STATE 1 0 == 1 then s.pwrState 0 else s)

/-! ### Feather (R558 to R560) -/

/-- A channel that lets the device sleep. -/
def State.restful (s : State) (k : Nat) : Bool :=
  !s.chRuns k || s.chMode k == 0 || s.chMode k == 9

/-- A staged record waits for an ACTIVE ring. -/
def State.stagedActive (s : State) : Bool := s.staging.any fun (x : Staged) => (s.ring x.seat x.ring).active

/-- A transition, reduction or grading is pending. -/
def State.crewPending (s : State) : Bool :=
  (s.crews.any fun (e : Nat × Crew) => !e.2.trans.isEmpty) || s.reds.any fun (e : Nat × Red) => e.2.state == 1 || e.2.state == 2

/-- `PWR.BLOCK` (R558): a bit for each condition that fails. -/
def State.pwrBlock (s : State) : Nat :=
  let b := fun (i : Nat) (fails : Bool) => if fails then 2 ^ i else 0
  b 0 (!s.bit Reg.PWR_CTRL 1) + b 1 (!s.channels.all s.restful) +
    b 2 ((s.seats.any fun (e : Nat × Seat) => !e.2.started.isEmpty) || !s.dma.xfers.isEmpty || !s.dma.engines.isEmpty) +
    b 3 s.stagedActive + b 4 s.crewPending + b 5 (s.bit Reg.COX_STAT 0)

/-- The device sleeps by an agreement, or has no ACTIVE link and its vote is set (R558). -/
def State.mayFeather (s : State) : Bool :=
  s.bit Reg.RT_SLP_CTRL 0 && (s.slp == 4 || (List.range 8).all fun n => !s.linkUp n)

/-- Entry (R559). -/
def State.featherEnter (s : State) : State :=
  let s := ((s.pwrState 2).count Reg.PWR_FTIME 15 0).setPower { s.power with blocked := 0, featherFrom := s.now }
  let s := s.canSleep.serSleep
  let s := s.each ((List.range 2).filter s.hasDie) State.convertersDown
  let s := s.each ((List.range 12).filter s.hasPort) State.ethDown
  s.setBit Reg.DRAM_STAT 1 true

def execFeatherEntry (s : State) : Answer :=
  .next
    (if s.halted || s.feather || !s.mayFeather then s
    else if s.pwrBlock = 0 then s.featherEnter
    else if s.power.blocked = s.pwrBlock then s
    else (s.setPower { s.power with blocked := s.pwrBlock }).raise 0x001 11)

/-- One hour in ns. -/
def hourNs : Nat := 3600000000000

/-- Return to Run (R560): converters, DRAM and CAN come back, and held records are delivered. -/
def State.featherLeave (s : State) : State :=
  let total := s.power.featherNs + (s.now - s.power.featherFrom)
  let s := s.setPower { s.power with featherNs := total }
  let s := (s.pwrState 0).put Reg.PWR_FTIME 31 16 (min 65535 (total / hourNs))
  let s := s.setBit Reg.DRAM_STAT 1 false
  let s := s.each (List.range 2) fun s d => s.when (s.hasDie d) fun s => s.modDie d fun x => { x with converters := true, checkEnd := none }
  let s := s.canWakeUp
  let held := s.heldTrend 0 ++ s.heldTrend 1
  ({ s with trendPend := [] }).each held State.genRecord

def execFeatherExit (s : State) : Answer :=
  .next (if !s.halted && s.feather && s.bit Reg.PWR_STATE 2 then s.featherLeave else s)

/-! ### Supplies of the measure dies (R79, R633), EXTEST (R520), core pairs (R43), the DRAM scrub (R642) -/

def State.measureInvalid (s : State) (d : Nat) : State :=
  if !s.hasDie d then s
  else ((s.modDie d fun x => { x with powered := false }).ovenStop d).raise 0x001 13

def execMeasureSupplyInvalid (d : Nat) (s : State) : Answer := answer (decide (d < 2)) (s.measureInvalid d)

def execMeasureSupplyValid (d : Nat) (s : State) : Answer :=
  answer (decide (d < 2)) (if s.hasDie d then (s.modDie d fun x => { x with powered := true }).ovenStart d else s)

/-- R520: every stage link, Bruil link, Ethernet port and PCIe port goes down. -/
def State.extest (s : State) : State :=
  let s := s.each ((List.range 16).filter fun n => s.hasLink n && s.linkRuns n) fun s n => s.stageLoss n s.now
  let s := s.each (List.range 8) fun s n => if s.lst n = 6 then s.setLst n 4 else s.blFail n true
  let s := s.each ((List.range 12).filter s.hasPort) State.ethDown
  s.each (List.range 2) State.portFall

def execJtagExtest (s : State) : Answer := .next (if s.get Reg.KEY_DEBUG 1 0 = 0 then s else s.extest)

/-- R43, R537: the active pair hands over to the standby pair; a standby pair is marked failed, with PAIR_FAIL. -/
def State.pairFail (s : State) (p : Nat) : State :=
  let q := s.power
  let failed := if q.failed.contains p then q.failed else p :: q.failed
  if q.pair = p then
    s.setPower { q with pair := if q.failed.contains (1 - p) then p else 1 - p, failed := failed }
  else (s.setPower { q with failed := failed }).raise 0x000 (9 + Config.pairFailBit % 23)

def execMgmtPairFail (p : Nat) (s : State) : Answer :=
  answer (decide (p < 2)) (((s.injStep 0x000 0x10 p).injStep 0x000 0x11 p).pairFail p)

/-- R642: single errors are corrected and counted, uncorrectable words counted with the latest address. -/
def State.scrub (s : State) (corr : Nat) (uncorr : List Nat) : State :=
  if s.halted || s.feather || s.get Reg.DRAM_SCRUB 7 0 = 0 then s
  else
    let s := s.when (corr != 0) fun s => (s.count Reg.DRAM_ECC 15 0 corr).raise 0x0F0 8
    s.each uncorr fun s a => ((s.count Reg.DRAM_ECC 31 16).wr64 Reg.DRAM_EADDR_LO Reg.DRAM_EADDR_HI a).raise 0x0F0 9

def execDramScrub (corr : Nat) (uncorr : List Nat) (s : State) : Answer := .next (s.scrub corr uncorr)

end Sys2Proof.Machine
end

