-- ==== Sys2Proof/Machine/Page.lean ====
section
/-!
DEFINITION. The page life cycle (R50 to R61): its commands, what the start of each page checks and does, what its stop and its
faults do, SRST, the stall detectors (R536), and the header registers `PG_EVSET` and `PG_LOCK`.
-/
namespace Sys2Proof.Machine

/-! ### Starts -/

/-- A binary32 that is finite; one that is finite and positive. -/
def finite32 (w : Word) : Bool := w.fld 30 23 != 255
def positive32 (w : Word) : Bool := finite32 w && !w.getLsbD 31 && w != 0

/-- The thermistor profile of channel `k` is refused (R103). -/
def State.profileBad (s : State) (k : Nat) : Bool :=
  let (t, c1, c2, c3) := s.tsProfile k
  s.bit (mcfg k) 18 && t != 0 && (decide (3 < t) || !positive32 c1 || !positive32 c2 || (t != 2 && !finite32 c3))

/-- The configuration that STARTING of page `p` accepts (R59), by the chapter of its block. -/
def State.startOk (s : State) (p : Nat) : Bool :=
  if p = 0x010 || p = 0x011 then (s.die (p - 0x010)).powered && !((s.dieChannels (p - 0x010)).any s.profileBad)
  else if p = 0x030 then decide (1 ≤ s.nStroke) && decide (s.nStroke ≤ 32)
  else if p = 0x037 then (List.range 4).all fun t => (s.critsOf t).all fun c => sourceOk c.source.1
  else if p = 0x038 then decide (16 ≤ s.get Reg.REC_STAGE_SIZE 10 0) && decide (s.get Reg.REC_STAGE_SIZE 10 0 ≤ 1024)
  else if 0x040 ≤ p && p < 0x050 then s.get (Reg.SL_CFG (p - 0x040)) 3 0 != 0
  else if p = 0x050 then s.tbMode != 3
  else if p = 0x051 then s.get Reg.PTP_CLK 1 0 != 3 && decide (s.get Reg.PTP_CLK 15 8 ≤ 127)
  else if 0x060 ≤ p && p < 0x068 then !s.blInvalid (p - 0x060)
  else if p = 0x068 then !s.routingInvalid
  else if p = 0x069 then
    decide (1 ≤ s.get Reg.WB_CFG 7 0) && decide (s.get Reg.WB_CFG 7 0 ≤ 80) && s.get Reg.WB_CFG 23 16 != 0
  else if p = 0x06A then s.get Reg.MB_CFG 11 8 != 0
  else if 0x090 ≤ p && p < 0x098 then s.get (Reg.DMA_CFG (p - 0x090)) 1 0 != 0
  else if p = 0x098 then
    s.tenantArea.1 % 2 ^ 21 == 0 && s.tenantArea.2 % 2 ^ 21 == 0 &&
      (s.tenantArea.2 == 0 || decide (s.tenantArea.1 + s.tenantArea.2 ≤ s.dramSize))
  else if p = 0x0A1 then
    s.spillArea.2 == 0 || (!overlap s.spillArea s.tenantArea && !overlap s.spillArea s.stageArea &&
      decide (s.spillArea.1 + s.spillArea.2 ≤ s.dramSize))
  else if 0x0B0 ≤ p && p < 0x0B4 then !s.canInvalid (p - 0x0B0)
  else if 0x0B4 ≤ p && p < 0x0B8 then !s.serInvalid (p - 0x0B4)
  else if p = 0x0C0 then
    decide (50 ≤ s.get Reg.FL_CFG 16 0) && decide (s.get Reg.FL_CFG 16 0 ≤ 100000) && s.get Reg.FL_CFG 23 20 != 0
  else if 0x0E0 ≤ p && p < 0x0E8 then !s.cvuBad (p - 0x0E0)
  else true

/-- STARTING of page 0x031 verifies READY regions (R186). -/
def State.verifySlots (s : State) : State :=
  s.each s.slots fun s (e : Nat × Slot) =>
    if e.2.state = 2 && s.regionCrc e.2.base e.2.len != e.2.crc then
      (s.setSlot e.1 { e.2 with state := 3 }).raise 0x031 10
    else s

/-- What the block does as its page enters RUNNING. -/
def State.pageStart (s : State) (p : Nat) : State :=
  if p = 0x010 || p = 0x011 then s.modDie (p - 0x010) fun x => { x with waiting := false, lost := 0, stopReq := false }
  else if p = 0x030 then { s with loopFrom := s.now, strokes := 0 }
  else if p = 0x031 then s.verifySlots
  else if p = 0x036 then s.crewStart
  else if p = 0x038 then s.stageStartRec
  else if 0x040 ≤ p && p < 0x050 then s.stageStart (p - 0x040)
  else if p = 0x050 then s.put Reg.RT_STAT 23 20 (if s.get Reg.TB_CFG 5 4 = 2 then 15 else 0)
  else if p = 0x052 then s.slotsPassed
  else if 0x060 ≤ p && p < 0x068 then s.blStart (p - 0x060)
  else if p = 0x068 then s.routingStart
  else if p = 0x0A7 then s.tunFollow
  else if 0x0B0 ≤ p && p < 0x0B4 then s.canStart (p - 0x0B0)
  else if 0x0E0 ≤ p && p < 0x0E8 then s.setCvu (p - 0x0E0) { s.cvu (p - 0x0E0) with prev := none }
  else s

/-! ### Stops and faults -/

/-- A completion of the window bridge goes back to a requester (R339). -/
def State.wcplSend (s : State) (r : InReq) (code : Nat) (data : List Byte) : State :=
  s.fabricSend r.src 2 64 r.tag (.wcpl r.req.win code data)

/-- Requests that wait on the inbound path complete STOPPED (R349). -/
def State.inboundStop (s : State) : State :=
  let l := s.brg.lockWait ++ s.brg.inWait
  (s.setBrg { s.brg with lockWait := [], inWait := [] }).each l fun s r => s.wcplSend r 4 []

/-- The block leaves RUNNING: at a STOP, or by a fault. -/
def State.pageLeave (s : State) (p : Nat) : State :=
  if p = 0x010 || p = 0x011 then s.modDie (p - 0x010) fun x => { x with stopReq := true }
  else if p = 0x012 || p = 0x013 then s.calStop (p - 0x012)
  else if p = 0x035 then s.stopTrends
  else if 0x040 ≤ p && p < 0x050 then s.stageStop (p - 0x040)
  else if p = 0x050 then s.servoFree
  else if 0x060 ≤ p && p < 0x068 then s.blStop (p - 0x060)
  else if p = 0x068 then s.routingStop
  else if p = 0x069 then s.inboundStop
  else if p = 0x06A then
    (({ s with mbIn := [] }).count Reg.MB_CNT 31 16 s.mbIn.length)
  else if p = 0x0A0 then s.each ((List.range 12).filter s.hasPort) State.ethDown
  else if p = 0x0A7 then s.tunFollow
  else if p = 0x0A8 then s.portFlush 21
  else if p = 0x0B8 then s.nsStop
  else if 0x0E0 ≤ p && p < 0x0E8 then s.cvuDiscard (p - 0x0E0)
  else if p = 0x0F8 || p = 0x0F9 then s.portFall (p - 0x0F8)
  else s

/-- Pending transitions are cancelled, and their schedule slots free (R246). -/
def State.cancelTrans (s : State) : State :=
  s.each (s.crews.map fun (e : Nat × Crew) => e.1) fun s e =>
    let ts := (s.crew e).trans
    (s.modCrew e fun c => { c with trans := [], skip := [] }).each ts fun s t => (s.clearNext t.2.2).slotState t.2.2 0

/-- Running reductions complete PARTIAL (R247). -/
def State.redStop (s : State) : State :=
  s.each (List.range 8) fun s c =>
    if (s.red c).state = 1 || (s.red c).state = 2 then s.redFinish c true ((s.red c).todo.length + 1) else s

/-- Every lock held here is released; its holder learns of it later (R343). -/
def State.locksLost (s : State) : State :=
  let lost := s.brg.locks.map fun (l : Nat × (Nat × Nat)) => (l.2.1, l.2.2, l.1)
  (s.setBrg { s.brg with locks := [], lockLost := s.brg.lockLost ++ lost }).put Reg.WB_STAT 9 8 0

/-- The locks that this device's windows hold are returned, and those held here are gone (R346). -/
def State.locksGone (s : State) : State :=
  (s.unlockWins (List.range 64)).locksLost

/-- A key command in progress completes STOPPED (R59, R522). -/
def State.keyStop (s : State) : State :=
  match s.key.keyOp with
  | some c => s.keyFinish c 15
  | none => s

/-- The block has parked its work: at the end of STOPPING, or by a fault. -/
def State.pageStopped (s : State) (p : Nat) : State :=
  if p = 0x010 || p = 0x011 then
    let d := p - 0x010
    let s := s.safeAll (s.dieChannels d) 39
    (s.each (s.dieChannels d) fun s k => s.modMeas k fun m => { m with avg := m.avg.clear }).modDie d fun x =>
      { x with stopReq := false, waiting := false, lost := 0 }
  else if p = 0x030 then (s.stopMoves p).loopCut
  else if (0x020 ≤ p && p < 0x030) || p = 0x031 then s.stopMoves p
  else if p = 0x034 then s.truncSweeps
  else if p = 0x036 then s.cancelTrans
  else if p = 0x037 then s.redStop
  else if 0x040 ≤ p && p < 0x050 then s.stageStopped (p - 0x040)
  else if p = 0x069 then s.locksGone
  else if p = 0x0A1 then s.each ((List.range 22).filter s.hasPort) State.flushPort
  else if 0x0B0 ≤ p && p < 0x0B4 then s.canStop (p - 0x0B0)
  else if 0x0B4 ≤ p && p < 0x0B8 then s.serStop (p - 0x0B4)
  else if p = 0x0D0 then s.keyStop
  else s

/-- STOPPING of page `p` still waits for work that its chapter lets finish (R59). -/
def State.stopHeld (s : State) (p : Nat) : Bool :=
  if p = 0x069 then (s.brg.winAccs.any fun e => !e.2.isEmpty) || !s.brg.lockOps.isEmpty
  else if 0x090 ≤ p && p < 0x098 then (s.engine? (p - 0x090)).isSome
  else if 0x0B0 ≤ p && p < 0x0B4 then (s.can (p - 0x0B0)).sending.isSome
  else if p = 0x0D1 then s.key.cryJob.isSome
  else if p = 0x0D2 then s.key.attBusy
  else false

/-- The block's page enters FAULTED for a cause that no chapter treats apart. -/
def State.pageFall (s : State) (p code : Nat) : State :=
  if p = 0x010 || p = 0x011 then s.measFault (p - 0x010) code
  else if 0x060 ≤ p && p < 0x068 then (s.blFail (p - 0x060) true).pageFault p code
  else ((s.pageFault p code).pageLeave p).pageStopped p

/-! ### The commands of `PG_CTRL` (R51, R58) -/

/-- Pages 0x0C1 to 0x0C5, whose life cycle the field die holds (R494). -/
def fieldPage (p : Nat) : Bool := decide (0x0C1 ≤ p) && decide (p ≤ 0x0C5)

/-- Easy mode holds the page STOPPED (R570). -/
def State.easyHeld (s : State) (p : Nat) : Bool := s.easy && !easyPages.contains p

/-- What a command to page `p` does where the core holds the life cycle; an absent page ignores it (R8). -/
def State.pgCommand (s : State) (p : Nat) (v : Word) (f : State → State) : State :=
  if s.power.held || !s.has p then s
  else if !pageLife p then s.raise p 1
  else if fieldPage p then s.fieldQueue (Reg.PG_CTRL p) v
  else f s

def State.pgRun (s : State) (p : Nat) : State :=
  if s.easyHeld p && s.has p then s.raise p 1
  else s.pgCommand p 1 fun s => if s.pg p = 1 then s.setPg p 2 else s.raise p 1

def State.pgStop (s : State) (p : Nat) : State :=
  s.pgCommand p 2 fun s =>
    if s.pg p = 3 then (s.setPg p 4).pageLeave p
    else if s.pg p = 5 then s.setPg p 4
    else if s.pg p = 2 && !s.stopAsked.contains p then { s with stopAsked := p :: s.stopAsked }
    else s.raise p 1

/-- The tables of page `p` that belong to its domain K beside its registers. -/
def State.clearTables (s : State) (p : Nat) : State :=
  if p = 0x031 then ({ s with slots := [], store := [] }).countFree
  else if p = 0x034 then { s with sweeps := [] }
  else if p = 0x037 then { s with crits := [], ranksrc := [] }
  else if p = 0x068 then { s with fab := { s.fab with alts := [], onAlt := [] } }
  else if p = 0x06A then s.setBrg { s.brg with mbTable := [] }
  else if p = 0x0A2 then s.setMacs []
  else if p = 0x0A3 then s.setSw { s.sw with vlans := [(1, { memb := 2 ^ 22 - 1, untag := 2 ^ 22 - 1, flags := 3 })] }
  else if p = 0x0D0 then s.keySrst
  else if 0x0E0 ≤ p && p < 0x0E8 then s.cvuReset (p - 0x0E0)
  else s

/-- SRST in STOPPED or FAULTED (R58); of page 0x0C0 it clears the fields of domain F, at the core at once and at the field die
with the frames that follow (R494). -/
def State.pgClear (s : State) (p : Nat) : State :=
  let s := (s.clearDom p .k).clearTables p
  let s := if p = 0x0C0 then (s.clearDom p .f).fieldQueue (Reg.PG_CTRL 0x0C0) 4 else s
  (s.setPg p 1).raise p 2

/-- Commands to the outputs and load switches of a field page go with its SRST. -/
def State.fieldClearCmd (s : State) (p : Nat) : State :=
  if s.pg p ≠ 1 && s.pg p ≠ 5 then s
  else if p = 0x0C2 then s.setDoCmd 0
  else if p = 0x0C3 || p = 0x0C4 then s.each (List.range 8) fun s i => s.lsCmdSet ((p - 0x0C3) * 8 + i) false
  else s

def State.pgSrst (s : State) (p : Nat) : State :=
  let s := s.pgCommand p 4 fun s => if s.pg p = 1 || s.pg p = 5 then s.pgClear p else s.raise p 1
  s.when (fieldPage p && !s.power.held) fun s => s.fieldClearCmd p

def execPgRun (p : Nat) (s : State) : Answer := answer (wfPage p) (s.pgRun p)
def execPgStop (p : Nat) (s : State) : Answer := answer (wfPage p) (s.pgStop p)
def execPgSrst (p : Nat) (s : State) : Answer := answer (wfPage p) (s.pgSrst p)

/-! ### Ends and time-outs of STARTING and STOPPING (R59, R60) -/

/-- A start fails: STOPPED, CONFIG_INVALID where `PG_FAULT` reads 0, START_FAIL (R55, R59). -/
def State.startFail (s : State) (p : Nat) : State :=
  let s := s.when (s.get (Reg.PG_FAULT p) 15 0 == 0) fun s => s.put (Reg.PG_FAULT p) 15 0 3
  (s.setPg p 1).raise p 3

/-- The pages whose start checks what lies outside the registers, with a fault of their own: the calibration journal (R103)
and the routing table of messages (R355). -/
def checksStore (p : Nat) : Bool := p == 0x012 || p == 0x013 || p == 0x06A

def State.startDone (s : State) (p : Nat) (envOk : Bool) : State :=
  let stop := s.stopAsked.contains p
  let s : State := { s with stopAsked := s.stopAsked.filter fun q => q != p }
  let stored := envOk && (p == 0x06A || s.calReadable)
  if checksStore p && !stored then s.pageFault p 0x0100
  else if !s.startOk p then s.startFail p
  else if stop then s.setPg p 4
  else ((s.setPg p 3).raise p 2).pageStart p

def State.stopDone (s : State) (p : Nat) : State :=
  if s.stopHeld p then s else ((s.pageStopped p).setPg p 1).raise p 2

/-- An end of STARTING or STOPPING, at the core or at the field die. -/
def State.pgEnd (s : State) (p st : Nat) (core die : State → State) : State :=
  if !s.has p || !pageLife p || s.power.held then s
  else if fieldPage p then s.onField fun s => if s.fpg p = st then die s else s
  else if s.pg p = st then (core s).regWrFollow
  else s

def execPgStartDone (p : Nat) (envOk : Bool) (s : State) : Answer :=
  answer (wfPage p) (s.pgEnd p 2 (fun s => s.startDone p envOk) fun s => s.fieldStart p true false)

def execPgStopDone (p : Nat) (s : State) : Answer :=
  answer (wfPage p) (s.pgEnd p 4 (fun s => s.stopDone p) fun s => ((s.fsetPg p 1).fEvent p 2).fieldSettle)

def execStartTimeout (p : Nat) (s : State) : Answer :=
  answer (wfPage p)
    (s.pgEnd p 2 (fun s => ({ s with stopAsked := s.stopAsked.filter fun q => q != p }).pageFault p 2) fun s => s.fieldFault p 2)

def execStopTimeout (p : Nat) (s : State) : Answer :=
  answer (wfPage p) (s.pgEnd p 4 (fun s => s.pageFall p 1) fun s => s.fieldFault p 1)

/-! ### Stall detectors (R536, R537) -/

/-- A lane pair of page 0x030 stalls and is retired (R120). -/
def State.pairStall (s : State) (i : Nat) : State :=
  if s.pair i = 2 then s
  else
    let active := s.pair i == 0
    let s := s.retirePair i
    let s := s.when active fun s => s.replacePairs [i]
    s.when s.activePairs.isEmpty State.lanesOut

def State.stalled (s : State) (p sub : Nat) : State :=
  if s.power.held then s
  else if p = 0x000 then (s.injStep 0x000 0x11 sub).pairFail (sub % 2)
  else if !s.has p || !pageLife p then s
  else
    let s := s.injStep p 0x01 sub
    if p = 0x030 then s.when (decide (sub < 3)) fun s => s.pairStall sub
    else if fieldPage p then s.onField fun s => if 2 ≤ s.fpg p && s.fpg p ≤ 4 then s.fieldFault p 4 else s
    else if 2 ≤ s.pg p && s.pg p ≤ 4 then s.pageFall p 4
    else s

def execStallDetected (p sub : Nat) (s : State) : Answer := answer (wfPage p && decide (sub < 256)) (s.stalled p sub)

/-! ### `PG_EVSET` and `PG_LOCK` (R50, R53, R54) -/

/-- The highest event bit that the chapter of a page kind defines, by the first page of its row (R635). -/
def eventTop (first : Nat) : Nat :=
  match first with
  | 0x001 => 13 | 0x002 => 8 | 0x003 => 9 | 0x004 => 12 | 0x005 => 10
  | 0x010 => 17 | 0x012 => 9 | 0x020 => 10 | 0x030 => 11 | 0x031 => 11 | 0x034 => 11 | 0x035 => 10 | 0x036 => 13 | 0x037 => 9
  | 0x038 => 10 | 0x040 => 15 | 0x050 => 17 | 0x051 => 10 | 0x052 => 10 | 0x053 => 9 | 0x060 => 12 | 0x068 => 15 | 0x069 => 11
  | 0x06A => 10 | 0x080 => 13 | 0x090 => 9 | 0x098 => 9 | 0x0A0 => 9 | 0x0A1 => 10 | 0x0A2 => 9 | 0x0B0 => 13 | 0x0B4 => 12
  | 0x0B8 => 9 | 0x0C0 => 15 | 0x0C1 => 9 | 0x0C2 => 8 | 0x0C3 => 12 | 0x0C5 => 10 | 0x0D0 => 13 | 0x0D1 => 8 | 0x0D2 => 8
  | 0x0E0 => 10 | 0x0F0 => 9 | 0x0F8 => 11
  | _ => 7

/-- The event bits that page `p` has: the common ones, and those of its block. -/
def eventMask (p : Nat) : Word :=
  if p = 0x000 then BitVec.ofNat 32 (0x13F ||| 2 ^ (9 + Config.pairFailBit % 23))
  else
    match pageRow p with
    | some r => BitVec.ofNat 32 (2 ^ (eventTop r.first + 1) - 256 + 0x3F)
    | none => 0

/-- Bits are set in `PG_EVRAW`; pages 0x0C0 to 0x0C5 pass the write on to the field die as well (R468). -/
def State.evset (s : State) (p : Nat) (v : Word) : State :=
  if !s.has p || s.power.held then s
  else
    let s := s.raiseBits p (v &&& eventMask p)
    s.when (p == 0x0C0 || fieldPage p) fun s => s.fieldQueue (Reg.PG_EVSET p) (v &&& eventMask p)

def execPgEvsetWrite (p : Nat) (v : Word) (s : State) : Answer := answer (wfPage p) (s.evset p v)

def State.pgLock (s : State) (p : Nat) : State := if s.has p && !s.power.held then s.setBit (Reg.PG_LOCK p) 0 true else s

def execPgLockSet (p : Nat) (s : State) : Answer := answer (wfPage p) (s.pgLock p)

end Sys2Proof.Machine
end

