-- ==== Sys2Proof/Machine/MsgBridge.lean ====
section
/-!
DEFINITION. The message bridge (R350 to R356): matching, deliveries, and the routing table.
-/
namespace Sys2Proof.Machine

/-- Word `i` of a routing entry. -/
def mbWord (e : List Word) (i : Nat) : Word := e.getD i 0

def State.mbEntry (s : State) (i : Nat) : List Word := Sparse.get (List.replicate 8 0) s.brg.mbTable i

/-! ### Matching (R351) -/

/-- The source identifier of `width` bits lies within the entry's identifier and mask. -/
def mbIdMatch (e : List Word) (width id : Nat) : Bool :=
  let m := (mbWord e 2).fld 28 0 % 2 ^ width
  ((mbWord e 1).fld 28 0 ^^^ id) &&& m == 0

/-- The entry's source fields match the message. -/
def mbMatches (e : List Word) (src : MsgSrc) (id : Nat) : Bool :=
  let w := mbWord e 0
  match src with
  | .can c ide =>
    w.fld 1 0 == 1 && w.fld 3 2 == c && (w.getLsbD 5 || w.getLsbD 4 == ide) && mbIdMatch e (if ide then 29 else 11) id
  | .fabric _ _ => w.fld 1 0 == 2 && mbIdMatch e 16 id
  | .seat i => w.fld 1 0 == 3 && (w.getLsbD 22 || w.fld 21 16 == i) && mbIdMatch e 16 id

/-- The entries that deliver: each with `MORE` lets the next matching one follow, eight at most. -/
def mbChain : Nat → List (List Word) → List (List Word)
  | 0, _ => []
  | _ + 1, [] => []
  | n + 1, e :: t => e :: (if (mbWord e 0).getLsbD 31 then mbChain n t else [])

/-! ### Deliveries (R352, R353) -/

/-- A message at the bridge. -/
structure MbMsg where
  src  : MsgSrc
  id   : Nat
  data : List Byte
  time : Nat

/-- What the event entry names as the source: its kind and its number (R370). -/
def MbMsg.source (m : MbMsg) : Nat × Nat :=
  match m.src with
  | .can c _ => (1, c)
  | .fabric d _ => (2, d)
  | .seat i => (3, i)

def MbMsg.hop (m : MbMsg) : Nat :=
  match m.src with
  | .fabric _ h => h
  | _ => 0

/-- A delivery is discarded: 0 SEAT, 1 CAN, 2 hop limit, 3 absent or not set up. -/
def State.mbDrop (s : State) (kind : Nat) : State := (s.count Reg.MB_DROP (8 * kind + 7) (8 * kind)).raise 0x06A 9

/-- The further entries of a message: 28 data bytes each. -/
def mbParts : Nat → List Byte → List (List Byte)
  | 0, _ => []
  | n + 1, d => if d.isEmpty then [] else (d.take 28 ++ List.replicate 28 0).take 28 :: mbParts n (d.drop 28)

/-- SEAT: one unbroken run of entries, then the message of the vector (none: that of the queue). -/
def State.mbSeat (s : State) (m : MbMsg) (i id : Nat) (vec : Option Nat) : State :=
  let s := s.eqOverflow i
  let parts := mbParts 3 (m.data.drop 16)
  match (s.seat i).eq with
  | none => s.mbDrop (if s.seatState i = 3 then 0 else 3)
  | some q =>
    if s.seatState i = 0 then s.mbDrop 3
    else if s.seatState i = 3 || s.seatShare i = 0 || q.depth ≤ q.live.length + 1 + parts.length then s.mbDrop 0
    else
      let head := leBytes 8 m.time ++ leBytes 2 id ++ leBytes 2 (m.source.2 + 512 * m.data.length) ++
        (m.data ++ List.replicate 16 0).take 16
      let s := s.eqPush i 3 m.source.1 head
      (s.each parts fun s p => s.eqPush i 4 0 p).eqMsix i (vec.getD q.vec)

/-- The data bytes of a CAN FD frame: the next valid length, the padding free (log 40). -/
def canFdLen (n : Nat) : Nat := ([0, 1, 2, 3, 4, 5, 6, 7, 8, 12, 16, 20, 24, 32, 48, 64].find? fun x => n ≤ x).getD 64

/-- CAN. -/
def State.mbCan (s : State) (m : MbMsg) (w : Word) (id : Nat) : State :=
  let c := w.fld 1 0
  let fdf := w.getLsbD 5
  if !s.running (canPage c) then s.mbDrop 3
  else if 32 ≤ (s.can c).held then s.mbDrop 1
  else
    let pad := canFdLen m.data.length - m.data.length
    let data := if fdf then m.data ++ s.freeBytes pad else m.data.take 8
    let s := if fdf then { s with free := s.free + pad } else s
    s.canQueue c { ide := w.getLsbD 4, fdf := fdf, brs := w.getLsbD 6, id := id, data := data }

/-- FABRIC. -/
def State.mbFabric (s : State) (m : MbMsg) (dst id : Nat) : State :=
  if s.get Reg.MB_CFG 11 8 < m.hop + 1 then s.mbDrop 2
  else if !s.fabricOn then s.logRerr 0 64 1 dst 0
  else s.fabricSend dst 5 64 0 (.message id (m.hop + 1) m.data)

/-- STEP. -/
def State.mbStep (s : State) (w : Word) (id : Nat) : State :=
  let ks := maskCh (w.fld 3 0) (w.fld 31 16)
  if ks.any fun k => !s.hasCh k then s.mbDrop 3 else s.each ks fun s k => s.stepMessage k id

/-- One delivery. -/
def State.mbDeliver (s : State) (m : MbMsg) (e : List Word) : State :=
  let w := mbWord e 4
  let id := fun (width : Nat) => (if (mbWord e 5).getLsbD 31 then m.id else (mbWord e 5).fld 28 0) % 2 ^ width
  match (mbWord e 3).fld 2 0 with
  | 1 => s.mbSeat m (w.fld 5 0) (id 16) (some (w.fld 10 8))
  | 2 => s.mbFabric m (w.fld 8 0) (id 16)
  | 3 => s.mbCan m w (id (if w.getLsbD 4 then 29 else 11))
  | 4 => s.mbStep w (id 16)
  | _ => s

/-- The oldest message is matched against the table as it stands. -/
def State.mbMatch (s : State) (m : MbMsg) (lat : Nat) : State :=
  let es := mbChain 8 ((s.brg.mbTable.map fun e => e.2).filter fun e => mbMatches e m.src m.id)
  if es.isEmpty then
    let s := (s.count Reg.MB_CNT 31 16).raise 0x06A 10
    s.when (s.bit Reg.MB_CFG 0) fun s => s.mbSeat m 0 (m.id % 65536) none
  else
    let s := (s.count Reg.MB_CNT 15 0).put Reg.MB_LAT 15 0 (max (s.get Reg.MB_LAT 15 0) (satNat 16 lat))
    s.each es fun s e => s.mbDeliver m e

def State.messageMatch (s : State) (lat : Nat) : State :=
  match s.mbIn with
  | [] => s
  | (src, id, data, time) :: rest =>
    let ecc := s.injFires 0x06A 0x10 0
    let s := s.injStep 0x06A 0x10 0
    if ecc then s.pageFall 0x06A 0x0100
    else ({ s with mbIn := rest }).mbMatch { src := src, id := id, data := data, time := time } lat

def execMessageMatch (lat : Nat) (s : State) : Answer := .next (s.messageMatch lat)

/-! ### The routing table (R354) -/

/-- A reserved value or bit of an entry. -/
def mbReserved (e : List Word) : Bool :=
  let w := mbWord e
  let k := (w 3).fld 2 0
  (w 0).fld 15 6 != 0 || (w 0).fld 30 23 != 0 || (w 1).fld 31 29 != 0 || (w 2).fld 31 29 != 0 || (w 3).fld 31 3 != 0 ||
    decide (4 < k) || (w 5).fld 30 29 != 0 || w 6 != 0 || w 7 != 0 ||
    (k == 1 && ((w 4).fld 7 6 != 0 || (w 4).fld 31 11 != 0)) || (k == 2 && (w 4).fld 31 9 != 0) ||
    (k == 3 && ((w 4).fld 3 2 != 0 || (w 4).fld 31 7 != 0)) || (k == 4 && (w 4).fld 15 4 != 0)

/-- An entry that names a CAN port or a channel that is absent. -/
def State.mbAbsent (s : State) (e : List Word) : Bool :=
  let w := mbWord e
  ((w 0).fld 1 0 == 1 && !s.has (canPage ((w 0).fld 3 2))) ||
    ((w 3).fld 2 0 == 3 && !s.has (canPage ((w 4).fld 1 0))) ||
    ((w 3).fld 2 0 == 4 && (maskCh ((w 4).fld 3 0) ((w 4).fld 31 16)).any fun k => !s.hasCh k)

def State.mbDone (s : State) (st : Nat) : State := (s.wrN Reg.MB_TSTAT (st * 256)).raise 0x06A 8

/-- A table op, accepted in STOPPED and RUNNING. -/
def State.mbOp (s : State) (f : State → State) : State :=
  if !s.has 0x06A then s else if !s.settled 0x06A || s.bit Reg.MB_TSTAT 0 then s.raise 0x06A 1 else f s

def State.mbWrite (s : State) : State :=
  let e := (List.range 8).map fun w => s.rd (Reg.MB_TW w)
  if mbReserved e then s.mbDone 1
  else if s.mbAbsent e then s.mbDone 2
  else (s.setBrg { s.brg with mbTable := Sparse.set (List.replicate 8 0) s.brg.mbTable (s.get Reg.MB_TIDX 10 0) e }).mbDone 0

def State.mbRead (s : State) : State :=
  let e := s.mbEntry (s.get Reg.MB_TIDX 10 0)
  (s.each (List.range 8) fun s w => s.wr (Reg.MB_TW w) (mbWord e w)).mbDone 0

def execMbTableNop (s : State) : Answer := .next (s.mbOp fun s => s.mbDone 0)
def execMbTableWrite (s : State) : Answer := .next (s.mbOp State.mbWrite)
def execMbTableRead (s : State) : Answer := .next (s.mbOp State.mbRead)
/-- Op 3. -/
def execMbTableReservedOp (s : State) : Answer := .next (s.mbOp fun s => s.mbDone 1)

end Sys2Proof.Machine
end

