-- ==== Sys2Proof/Machine/Views.lean ====
section
/-!
DEFINITION. What a read of a register returns (R20, R21): the stored word, or, for registers that show what the state holds
elsewhere, the word made of it. A WO field reads 0.
-/
namespace Sys2Proof.Machine

def word (n : Nat) : Word := BitVec.ofNat 32 n

/-- The word `w` of a number laid over several words, least significant first (R17). -/
def wordOf (n w : Nat) : Word := BitVec.ofNat 32 (n / 2 ^ (32 * w))

/-- Loop counters of the channel that `STEP.LCTR_SEL` names (R176). -/
def State.loopCtr (s : State) (i : Nat) : Nat := ((s.prog (s.get Reg.STEP_LCTR_SEL 7 0)).ctr.getD i 0) % 65536

/-- Page 0x034 (R201, R207). -/
def State.viewEis (s : State) (a : Nat) : Option Word :=
  let k := s.get Reg.EIS_RSEL 7 0
  let r := s.eisResult k (s.get Reg.EIS_RSEL 21 16)
  let e := s.eis k
  if a = Reg.EIS_ACT then some (word ((s.channels.filter fun k => (s.eis k).active).length))
  else if a = Reg.EIS_RZRE then some (BitVec.ofInt 32 r.zre)
  else if a = Reg.EIS_RZIM then some (BitVec.ofInt 32 r.zim)
  else if a = Reg.EIS_RUNC then some (word r.unc)
  else if a = Reg.EIS_RIAMP then some (word r.iamp)
  else if a = Reg.EIS_RFLAG then some r.flags
  else if a = Reg.EIS_RTIME_LO then some (wordOf r.time 0)
  else if a = Reg.EIS_RTIME_HI then some (wordOf r.time 1)
  else if a = Reg.EIS_RPROG then some (word (e.win.point % 64 + 2 ^ 8 * e.active.toNat + 2 ^ 16 * (e.table % 16)))
  else
    ((List.range 16).find? fun t => a = Reg.EIS_TINFO t).map fun t =>
      let w : Sweep := Sparse.get {} s.sweeps t
      word (w.state + 2 ^ 8 * w.npts + 2 ^ 16 * w.refs)

/-- Page 0x035 (R217). -/
def State.viewTrend (s : State) (a : Nat) : Option Word :=
  let t := s.trend (s.get Reg.RT_SEL 7 0)
  let flags := [t.active, t.noFit, t.full, t.gap, t.skipped, t.rflag]
  let held := fun (d : Nat) => min 4095 ((Sparse.get ([] : List Record) s.trendPend d).length)
  if a = Reg.RT_N then some (word (satNat 16 t.n + 2 ^ 16 * satNat 16 t.m))
  else if a = Reg.RT_SLOPE then some (BitVec.ofInt 32 t.slope)
  else if a = Reg.RT_SSIG then some (word t.ssig)
  else if a = Reg.RT_LASTV then some (BitVec.ofInt 32 t.lastV)
  else if a = Reg.RT_LASTT then some (word (Word.unsigned 16 t.lastT))
  else if a = Reg.RT_V0_LO then some (wordOf (Word.unsigned 64 t.v0) 0)
  else if a = Reg.RT_V0_HI then some (wordOf (Word.unsigned 64 t.v0) 1)
  else if a = Reg.RT_FLAGS then some (word ((flags.zipIdx.map fun e => e.1.toNat * 2 ^ e.2).sum))
  else if a = Reg.RT_S_LO then some (wordOf t.s 0)
  else if a = Reg.RT_S_HI then some (wordOf t.s 1)
  else if a = Reg.RT_PEND then some (word (held 0 + 2 ^ 16 * held 1))
  else if a = Reg.RT_SX then some (word t.sx)
  else if a = Reg.RT_SXX 0 then some (wordOf t.sxx 0)
  else if a = Reg.RT_SXX 1 then some (wordOf t.sxx 1)
  else if a = Reg.RT_SY 0 then some (wordOf (Word.unsigned 64 t.sy) 0)
  else if a = Reg.RT_SY 1 then some (wordOf (Word.unsigned 64 t.sy) 1)
  else if a = Reg.RT_SXY 0 then some (wordOf (Word.unsigned 64 t.sxy) 0)
  else if a = Reg.RT_SXY 1 then some (wordOf (Word.unsigned 64 t.sxy) 1)
  else if a = Reg.RT_SYY 0 then some (wordOf t.syy 0)
  else if a = Reg.RT_SYY 1 then some (wordOf t.syy 1)
  else none

/-- MEAN and SIGMA of R232. -/
def redMean (r : RedResult) : Int := if r.count = 0 then 0 else roundDiv r.sum r.count
def redSigma (r : RedResult) : Nat :=
  if r.count = 0 then 0 else sqrtRound (r.count * r.sumSq - r.sum.natAbs ^ 2) (r.count ^ 2)

/-- Criterion and grade table that `GRD.GSEL` selects (R234). -/
def State.critSel (s : State) : Nat := s.get Reg.GRD_GSEL 1 0 * 64 + s.get Reg.GRD_GSEL 7 4 * 4 + s.get Reg.GRD_GSEL 9 8

/-- Page 0x037 (R248). -/
def State.viewRed (s : State) (a : Nat) : Option Word :=
  let x := s.red (s.get Reg.RED_SEL 2 0)
  let r := x.result
  let c : Crit := Sparse.get {} s.crits s.critSel
  if a = Reg.RED_CINFO then
    some (word (x.state + 4 * x.empty.toNat + 8 * r.isPartial.toNat + 2 ^ 8 * (x.entry % 64) + 2 ^ 16 * (x.src % 256) +
      2 ^ 24 * (x.param % 256)))
  else if a = Reg.RED_COUNT then some (word r.count)
  else if a = Reg.RED_SUM 0 then some (wordOf (Word.unsigned 64 r.sum) 0)
  else if a = Reg.RED_SUM 1 then some (wordOf (Word.unsigned 64 r.sum) 1)
  else if a = Reg.RED_SUMSQ 0 then some (wordOf r.sumSq 0)
  else if a = Reg.RED_SUMSQ 1 then some (wordOf r.sumSq 1)
  else if a = Reg.RED_SUMSQ 2 then some (wordOf r.sumSq 2)
  else if a = Reg.RED_MIN then some (if r.count = 0 then 0 else BitVec.ofInt 32 r.min)
  else if a = Reg.RED_MINLOC then some (word (r.minChan + 2 ^ 16 * r.minDev))
  else if a = Reg.RED_MAX then some (if r.count = 0 then 0 else BitVec.ofInt 32 r.max)
  else if a = Reg.RED_MAXLOC then some (word (r.maxChan + 2 ^ 16 * r.maxDev))
  else if a = Reg.RED_MEAN then some (BitVec.ofInt 32 (redMean r))
  else if a = Reg.RED_SIGMA then some (word (redSigma r))
  else if a = Reg.RED_MARK 0 then some (wordOf x.mark 0)
  else if a = Reg.RED_MARK 1 then some (wordOf x.mark 1 &&& 0xFFFF)
  else if a = Reg.GRD_W0 then some c.w0
  else if a = Reg.GRD_W1 then some c.lo
  else if a = Reg.GRD_W2 then some c.hi
  else if a = Reg.GRD_THDR then some (Sparse.get 0 s.ranksrc (s.get Reg.GRD_GSEL 1 0))
  else none

/-- Page 0x038 (R249). -/
def State.viewRec (s : State) (a : Nat) : Option Word :=
  let i := s.get Reg.REC_RSEL 5 0
  let r := s.get Reg.REC_RSEL 9 8
  let x := s.ring i r
  if a = Reg.REC_RSTAT then some (word (x.state + 16 * x.policy))
  else if a = Reg.REC_RPROD then some (word x.prod)
  else if a = Reg.REC_RCONS then some (word x.cons)
  else if a = Reg.REC_RHELD then some (word ((s.staging.filter fun e => e.seat == i && e.ring == r).length))
  else if a = Reg.REC_RLOSS then some (word (satNat 16 x.lossS + 2 ^ 16 * satNat 16 x.lossO))
  else none

/-- Page 0x050: the values that the latest read of `TB.SEC_LO` latched (R278). -/
def State.viewTb (s : State) (a : Nat) : Option Word :=
  if a = Reg.TB_SEC_HI then some (wordOf s.tbLatch.1 1)
  else if a = Reg.TB_NS then some (word s.tbLatch.2.1)
  else if a = Reg.TB_FRAC then some s.tbLatch.2.2
  else none

/-- Page 0x068 (R331). -/
def State.viewRt (s : State) (a : Nat) : Option Word :=
  let d := s.get Reg.RT_ALT_SEL 8 0
  if a = Reg.RT_ALT then
    let w := Sparse.get 0 s.fab.alts d
    some (word (w.fld 3 0 + 2 ^ 8 * (s.fab.onAlt.any fun e => e.1 == d).toNat + 2 ^ 12 * (s.primaryLink d).getD 0))
  else if a = Reg.RT_SLP_STAT then
    let lead := s.sleepLeader
    let w := if s.slp = 2 && decide (s.sleepC ≤ s.now) then (s.rd a).setFld 2 0 3 else s.rd a
    some ((w.setFld 3 3 lead.toNat).setFld 17 8 (if lead then s.fab.votes.length else 0))
  else none

/-- Page 0x098: the root of the seat that `SMU.RSEL` names (R399, R409). -/
def State.viewSmu (s : State) (a : Nat) : Option Word :=
  let v := match Sparse.find? s.dma.roots (s.get Reg.SMU_RSEL 5 0) with
    | some r => r.base + r.dram.toNat + 2 * r.bypass.toNat + 4
    | none => 0
  if a = Reg.SMU_ROOT_LO then some (wordOf v 0) else if a = Reg.SMU_ROOT_HI then some (wordOf v 1) else none

/-- Page 0x0D0: the slot that `KEY.SEL` names (R524). -/
def State.viewKey (s : State) (a : Nat) : Option Word :=
  let n := s.get Reg.KEY_SEL 5 0
  let x := s.keySlot n
  let h : KeyHalf := if n < 8 then (s.keyUse n).2 else x.cur.getD { typ := 0, usage := 0 }
  let live := if n < 8 then (s.keyUse n).1 == 0 else x.cur.isSome
  if a = Reg.KEY_SINFO then
    some (word (live.toNat + 2 * x.pend.isSome.toNat + 4 * x.orph.toNat + 2 ^ 4 * (h.typ % 16) + 2 ^ 8 * (h.usage % 256) +
      2 ^ 16 * (h.parent % 64) + 2 ^ 24 * (h.depth % 4)))
  else if a = Reg.KEY_SGEN then some (word (s.keyGen n))
  else if a = Reg.KEY_SPGEN then some (word h.pgen)
  else if a = Reg.KEY_SKID then some (word h.kid)
  else none

/-- Page 0x004: the totals that `LIFE.SEL` names, each total in its words (R591). -/
def State.lifeWords (s : State) : List Word :=
  let put := fun (l : List Nat) (ns : List Nat) =>
    (ns.zipIdx.flatMap fun e => (List.range e.1).map fun w => wordOf (l.getD e.2 0) w)
  match s.lifeSet with
  | 0 => put (Sparse.get {} s.lifeCh s.lifeIdx : LifeTot).tot [3, 3, 4, 4]
  | 1 => put (Sparse.get {} s.lifeLs s.lifeIdx : LifeTot).tot [2, 2]
  | 2 => put (Sparse.get {} s.lifeLink s.lifeIdx : LifeTot).tot [2, 2, 2]
  | _ => []

/-- Pages 0x001 to 0x005. -/
def State.viewCore (s : State) (a : Nat) : Option Word :=
  if a = Reg.PWR_BLOCK then some (word s.pwrBlock)
  else if a = Reg.PWR_SUPPLY then
    let die := fun (d : Nat) => (s.hasDie d && (s.die d).powered).toNat
    some (word (s.power.supply % 256 / 128 * 128 + 32 * die 0 + 64 * die 1 + s.power.supply % 32))
  else if a = Reg.INJ_STAT then
    some (if !s.bit a 0 then 0
      else (s.rd a).setFld 31 16 (match s.injEnd with
        | some t => min 65534 (t - s.tbSec)
        | none => 65535))
  else ((List.range 15).find? fun w => a = Reg.LIFE_TOT w).map fun w => s.lifeWords.getD w 0

/-- The registers of pages 0x010 to 0x013 that are made up. -/
def State.viewMeas (s : State) (a : Nat) : Option Word :=
  (List.range 2).findSome? fun d =>
    let k := 128 * d + s.get (Reg.CAL_ARG d) 6 0
    if a = Reg.CAL_KI0_EFF d then some (word (s.kiOfCh k 0))
    else if a = Reg.CAL_KI1_EFF d then some (word (s.kiOfCh k 1))
    else none

/-- Pages 0x081 to 0x084 and the apertures (R361, R387). -/
def State.viewSeat (s : State) (a : Nat) : Option Word :=
  (List.range 64).findSome? fun i =>
    if a = Reg.SA_STAT i then some (s.rd (Reg.ST_STAT i))
    else if a = Reg.ST_DETT i then
      some (if s.seatState i = 2 then word (min (2 ^ 32 - 1) ((s.now - (s.seat i).detFrom) / 1000000)) else 0)
    else none

/-- Pages 0x0B0 to 0x0B8. -/
def State.viewBus (s : State) (a : Nat) : Option Word :=
  if a = Reg.NS_STAT then
    some (match s.awake with
      | some t => word (1 + 2 ^ 16 * min 65535 ((t - s.now) / 1000000000))
      | none => 0)
  else
    (List.range 4).findSome? fun u =>
      let x := s.ser u
      if a = Reg.CAN_STAT u then some ((s.rd a).setFld 1 0 (s.canState u))
      else if a = Reg.SER_STAT u then
        some (word (satNat 13 x.txHeld + 3 * 2 ^ 13 * x.sending.isSome.toNat + 2 ^ 16 * satNat 13 x.rx.length))
      else none

/-- Page 0x0A0 in its management-port form (R10, R430): of the ports' configuration only `EN`, of E0 and E1, is there. -/
def State.viewEth (s : State) (a : Nat) : Option Word :=
  if s.part != .yk2560 then none
  else if a = Reg.PORT_CFG 0 || a = Reg.PORT_CFG 1 then some (s.rd a &&& 1)
  else if a = Reg.PORT_VCFG 0 || a = Reg.PORT_VCFG 1 || a = Reg.ETH_MODE || Reg.PORT_CFG 2 ≤ a then some 0
  else none

/-- The word of a register that shows what the state holds elsewhere; none where it is the stored one. -/
def State.view (s : State) (a : Nat) : Option Word :=
  let p := a / 0x1000
  if 0x100000 ≤ a || (0x081 ≤ p && p ≤ 0x084) then s.viewSeat a
  else if a % 0x1000 = 0x01C then some (s.evout p)
  else if a % 0x1000 < 0x40 then none
  else if p ≤ 0x005 then s.viewCore a
  else if p = 0x012 || p = 0x013 then s.viewMeas a
  else if a = Reg.STEP_LCTR01 then some (word (s.loopCtr 0 + 2 ^ 16 * s.loopCtr 1))
  else if a = Reg.STEP_LCTR23 then some (word (s.loopCtr 2 + 2 ^ 16 * s.loopCtr 3))
  else if p = 0x034 then s.viewEis a
  else if p = 0x035 then s.viewTrend a
  else if p = 0x037 then s.viewRed a
  else if p = 0x038 then s.viewRec a
  else if p = 0x050 then s.viewTb a
  else if p = 0x068 then s.viewRt a
  else if p = 0x098 then s.viewSmu a
  else if p = 0x0A0 then s.viewEth a
  else if 0x0B0 ≤ p && p ≤ 0x0B8 then s.viewBus a
  else if p = 0x0D0 then s.viewKey a
  else if a = Reg.DO_SET || a = Reg.DO_CLR then some (s.rd Reg.DO_CMD)
  else none

/-- A register of a unit that the part lacks, in a present page (R11), and the route of a page that it lacks (R638): it reads 0
and ignores writes. -/
def State.absentUnit (s : State) (a : Nat) : Bool :=
  let o := a % 0x1000
  let p := a / 0x1000
  let perCh := (p == 0x035 && decide (0x400 ≤ o) && decide (o < 0xC00)) || (p == 0x037 && decide (0x400 ≤ o) && decide (o < 0x800)) ||
    (p == 0x038 && decide (0x400 ≤ o) && decide (o < 0x800))
  (perCh && !s.hasCh (o % 0x400 / 4)) || (a == Reg.PTP_TC && !s.part.hasSwitch) ||
    (p == 0x006 && decide (0x400 ≤ o) && decide (o < 0x800) && !s.has ((o - 0x400) / 4))

/-- Bits of a register that refer to absent units (R11): stage links in the zone trip matrix. -/
def State.absentBits (s : State) (a : Nat) : Word :=
  if (List.range 16).any fun r => a = Reg.ZT_OTHER r || a = Reg.ZT_ACT_SL r then
    word ((List.range 16).map fun n => if s.hasLink n then 0 else 2 ^ n).sum
  else 0

/-- The address is that of a register of a present page. -/
def State.isReg (s : State) (a : Nat) : Bool :=
  a % 4 == 0 && (regRow a).isSome && (decide (0x100000 ≤ a) || s.has (a / 0x1000)) && !s.absentUnit a

/-- What the registers show that an agent outside the model decides (log 39): temperatures, heater power, the PTP state that
the firmware keeps, a management restart still under way. -/
def State.freeRead (s : State) (a : Nat) : Option Word :=
  if a = Reg.PWR_TEMP then some 0xFFFF
  else if a = Reg.MEAS_OVEN_STAT 0 || a = Reg.MEAS_OVEN_STAT 1 then some 0xFFFF0000
  else if a = Reg.MEAS_OVEN_PWR 0 || a = Reg.MEAS_OVEN_PWR 1 then some 0xFFFF
  else if a = Reg.PTP_STAT then some 0x1F
  else if a = Reg.PTP_GM_LO || a = Reg.PTP_GM_HI || a = Reg.PTP_MPD then some 0xFFFFFFFF
  else if a = Reg.RST_WDT then
    match s.power.restart with
    | some t => if s.tbSec ≤ t + 10 then some 0x20000 else none
    | none => none
  else none

/-- What a read of a register returns: 0 where there is none (R8, R11, R21). -/
def State.readReg (s : State) (a : Nat) : Word :=
  if !s.isReg a then 0
  else
    let v := (s.view a).getD (s.rd a)
    match s.freeRead a with
    | some m => (v &&& ~~~m) ||| (s.freeWord &&& m)
    | none => v

end Sys2Proof.Machine
end

