-- ==== Sys2Proof/Machine/RegWrite.lean ====
section
/-!
DEFINITION. What a write of a register does (R20 to R22, R47): the fields it stores, and the act of the registers whose write is
a command. A write to a register that has a row of its own does what that row does.
-/
namespace Sys2Proof.Machine

/-- The state that a row of its own answers with. -/
def State.did (s : State) : Answer → State
  | .next t => t
  | _ => s

/-- The fields of a write are stored, each by its own access type; a write that meets RWQ fields of a page that is not
STOPPED raises one WRQ_REJECT (R20, R22). -/
def State.regStore (s : State) (r : RegRow) (a : Nat) (v : Word) : State :=
  let p := a / 0x1000
  let stopped := s.pg p == 1
  let s := s.when (rowHas r .rwq && !stopped) fun s => s.raise p 0
  s.wr a (storeFields r (s.rd a) v stopped (!s.bit (Reg.PG_LOCK p) 0))

/-- An RWQ window of a page, kept outside the registers. -/
def State.keepRwq (s : State) (p : Nat) (f : State → State) : State := if s.pg p = 1 then f s else s.raise p 0

/-! ### The header (R50, R51, R54, R468, R545) -/

def State.headWrite (s : State) (r : RegRow) (p o : Nat) (v : Word) : State :=
  let away := p == 0x0C0 || fieldPage p
  if o = 0x00C then (if v.getLsbD 2 then s.pgSrst p else if v.getLsbD 1 then s.pgStop p else if v.getLsbD 0 then s.pgRun p else s)
  else if o = 0x014 then
    (s.setEvents p (s.rd (Reg.PG_EVRAW p) &&& ~~~v) (s.rd (Reg.PG_EVMASK p))).when away fun s => s.fieldQueue (Reg.PG_EVRAW p) v
  else if o = 0x018 then
    let m := v &&& eventMask p
    (s.setEvents p (s.rd (Reg.PG_EVRAW p)) m).when away fun s => s.fieldQueue (Reg.PG_EVMASK p) m
  else if o = 0x020 then s.evset p v
  else if o = 0x024 then (s.regStore r (p * 0x1000 + o) v).setInjPassed p 0
  else if o = 0x028 then s.injWrite p v
  else if o = 0x038 then (if v.getLsbD 0 then s.pgLock p else s)
  else s.regStore r (p * 0x1000 + o) v

/-! ### Seat apertures (R361) -/

def State.seatWrite (s : State) (r : RegRow) (i a : Nat) (v : Word) : State :=
  let o := a % 0x10000
  if o < 0x40 then (if o % 8 = 0 then s.sqDoorbell i (o / 8) v.toNat else s.cqDoorbell i (o / 8) v.toNat)
  else if o = 0x40 then s.eqDoorbell i v.toNat
  else if 0x50 ≤ o && o < 0x60 then s.ringConsumed i ((o - 0x50) / 4) v.toNat
  else s.regStore r a v

/-! ### The field die (R468, R494, R497, R498) -/

/-- A write for the field die: it travels in the queue, and changes the copy at once while page 0x0C0 is STOPPED. RWQ fields
are refused here as the copy shows the page; a fail-safe state of 3 is stored as OFF (R471). -/
def State.fieldStore (s : State) (r : RegRow) (a : Nat) (v : Word) : State :=
  let p := a / 0x1000
  let v := if v.fld 1 0 = 3 && (List.range 16).any (fun n => a = Reg.LS_FS n) then v &&& 0xFFFFFFFC else v
  if rowHas r .rwq && s.pg p ≠ 1 then s.raise p 0
  else if rowHas r .rwl && s.bit (Reg.PG_LOCK p) 0 then s
  else if rowHas r .rw || rowHas r .rwq || rowHas r .rwl then
    (s.fieldQueue a v).when (s.pg 0x0C0 == 1) fun s => s.wr a (storeFields r (s.rd a) v true true)
  else s

def State.lsWrite (s : State) (r : RegRow) (seat a : Nat) (v : Word) : State :=
  let n := (a / 0x1000 - 0x0C3) * 8 + (a % 0x1000 - 0x100) / 0x40
  if a = Reg.LS_CMD n then s.did (execLsCmdWrite n seat (v.getLsbD 0) s)
  else if a = Reg.LS_CTRL n then (if v.getLsbD 0 then s.did (execLsClr n seat s) else s)
  else s.fieldStore r a v

def State.fieldRegWrite (s : State) (r : RegRow) (seat a : Nat) (v : Word) : State :=
  if a = Reg.FL_CTRL then
    let s := s.when (v.getLsbD 0) fun s => s.did (execFlResume s)
    let s := s.when (v.getLsbD 1) fun s => s.did (execFlForce s)
    s.when (v.getLsbD 8) fun s => s.did (execFlFrst s)
  else if a = Reg.DO_SET then s.did (execDoSetWrite seat v s)
  else if a = Reg.DO_CLR then s.did (execDoClrWrite seat v s)
  else if a = Reg.DO_FLT then s.did (execDoFltClear seat v s)
  else if a = Reg.ZT_RELEASE then s.did (execZtRelease v s)
  else if a = Reg.ZT_TEST then s.did (execZtTest v s)
  else if 0xC3100 ≤ a && a < 0xC5000 then s.lsWrite r seat a v
  else s.fieldStore r a (v &&& ~~~s.absentBits a)

/-! ### Mailbox (R373, R374) -/

/-- A free bit. -/
def State.freeBit (s : State) : Bool := s.freeWord.getLsbD 0

/-- AUTH_CMD (R518): the token that seat 0's memory holds is free. -/
def State.authGo (s : State) : State :=
  let tok := if s.freeBit then some (s.freeBytes 1088) else none
  let op := (tok.map fun t => tokNat t 2 2).getD 0
  let t : State := { s with free := s.free + 1089 }
  match (s.arg 1).toNat with
  | 1 => s.did (execAuthChallenge s)
  | 2 =>
    match op with
    | 1 => t.did (execAuthInjArm tok t)
    | 2 => t.did (execAuthInjDisarm tok t)
    | 3 => t.did (execAuthDebugUnlock tok t)
    | 4 => t.did (execAuthDebugLock tok t)
    | 5 => t.did (execAuthSvnCommit tok s.freeBit t)
    | 6 => t.did (execAuthOwnerSet tok t)
    | _ => t.mbxRun 24 true (executeBody 65536 tok fun s _ => s.authFail 5)
  | _ => s.mbxRun 24 true fun s _ => refuse s 2

/-- `COX.GO`: the op of word 0. What host memory and the flash give is free. -/
def State.mbxGo (s : State) : State :=
  let ok := s.freeBit
  let t := s.useFree
  match (s.arg 0).fld 7 0 with
  | 0 => s.did (execMbxNop s)
  | 1 => s.did (execSeatOpen s)
  | 2 => s.did (execSeatClose s)
  | 3 => s.did (execSeatReset s)
  | 4 => s.did (execSeatShare s)
  | 5 => s.did (execSeatBind s)
  | 6 => s.did (execSeatLost s)
  | 8 => s.did (execQueueSet s)
  | 9 => s.did (execQueueDel s)
  | 10 => s.did (execRingSet s)
  | 11 => s.did (execRingDel s)
  | 12 => s.did (execGrant s)
  | 13 => s.did (execRevoke s)
  | 14 => s.did (execXlateSet s)
  | 15 => s.did (execXlateInv s)
  | 16 => s.did (execSeatInfo s)
  | 24 => s.authGo
  | 32 => s.did (execRecInfo s)
  | 33 => s.did (execRecErase s)
  | 34 =>
    let n := min 65536 (s.arg 5).toNat
    let t : State := { s with free := s.free + n }
    t.did (execRecWrite (s.freeBytes n) t)
  | 35 => t.did (execRecVerify ok t)
  | 36 => t.did (execRecSelect ok t)
  | 37 => t.did (execRecRestart ok t)
  | _ => s.did (execMbxBadOp s)

/-! ### Command registers -/

/-- Calibration (R91). -/
def State.calGo (s : State) (d op : Nat) : State :=
  match op with
  | 0 => s.did (execCalNop d s)
  | 1 => s.did (execCalConnect d s)
  | 2 => s.did (execCalMeasure d s)
  | 3 => s.did (execCalRelease d s)
  | 4 => s.did (execCalRead d s)
  | 5 => s.did (execCalCommit d s)
  | 6 => s.did (execCalRestoreFactory d s)
  | 7 => s.did (execCalReadFactory d s)
  | _ => s.did (execCalReservedOp d op s)

/-- Crews (R221). -/
def State.crewGo (s : State) (op e : Nat) : State :=
  match op with
  | 0 => s.did (execCrewNop e s)
  | 1 => s.did (execCrewJoin e s)
  | 2 => s.did (execCrewSetmask e s)
  | 3 => s.did (execCrewSeal e s)
  | 4 => s.did (execCrewOpen e s)
  | 5 => s.did (execCrewLeave e s)
  | 6 => s.did (execCrewTrans e s)
  | 7 => s.did (execCrewReduce e s)
  | 8 => s.did (execCrewGrade e s)
  | 9 => s.did (execCrewInfo e s)
  | _ => s.did (execCrewReservedOp e op s)

/-- The MAC table (R432); other ops complete BAD_ARG (log 42). -/
def State.macGo (s : State) (op : Nat) : State :=
  match op with
  | 1 => s.did (execMacAdd s)
  | 2 => s.did (execMacDel s)
  | 3 => s.did (execMacLookup s)
  | 4 => s.did (execMacFlushPort s)
  | 5 => s.did (execMacFlushAll s)
  | 6 => s.did (execMacRead s)
  | _ => s.tableOp 0x0A2 fun s => s.macDone 3

/-- Meters (R434). -/
def State.mtrGo (s : State) (op m : Nat) : State :=
  match op with
  | 1 => s.did (execMtrAlloc s)
  | 2 => s.did (execMtrFree m s)
  | 3 => s.did (execMtrWrite m s)
  | 4 => s.did (execMtrRead m s)
  | _ => s.tableOp 0x0A4 fun s => s.mtrDone 3

/-- The key store (R509). -/
def State.keyGo (s : State) (v : Word) : State :=
  let n := v.fld 13 8
  let any := v.getLsbD 14
  let pend := v.getLsbD 15
  match v.fld 3 0 with
  | 0 => s.did (execKeyNop n any pend s)
  | 1 => s.did (execKeyGenerate n any pend s)
  | 2 => s.did (execKeyDerive n any pend s)
  | 3 => s.did (execKeyLoad n any pend s)
  | 4 => s.did (execKeyExport n any pend s)
  | 5 => s.did (execKeyCommit n any pend s)
  | 6 => s.did (execKeyDiscard n any pend s)
  | 7 => s.did (execKeyInvalidate n any pend s)
  | 8 => s.did (execKeyRestore n any pend s)
  | 9 => s.did (execKeyLoadPub n any pend s)
  | op => s.did (execKeyReservedOp n op s)

/-- Crypto jobs (R516). -/
def State.cryJobGo (s : State) : State :=
  match s.get Reg.CRY_JOB 3 0 with
  | 1 => s.did (execCrySha512 s)
  | 2 => s.did (execCryHmac512 s)
  | 3 => s.did (execCryGcmEnc s)
  | 4 => s.did (execCryGcmDec s)
  | 5 => s.did (execCryKw s)
  | 6 => s.did (execCryKwu s)
  | 7 => s.did (execCryPssSign s)
  | 8 => s.did (execCryPssVerify s)
  | _ => s.did (execCryBadOp s)

/-- Attestation (R514). -/
def State.attGo (s : State) (op : Nat) : State :=
  match op with
  | 0 => s.did (execAttNop s)
  | 1 => s.did (execAttReport s)
  | 2 => s.did (execAttCert s)
  | _ => s.did (execAttExtend s)

/-- Pages 0x001 to 0x005. -/
def State.coreWrite (s : State) (r : RegRow) (a : Nat) (v : Word) : State :=
  if a = Reg.PWR_SLACK_CLR then s.slackClear v
  else if a = Reg.PWR_BACKUP then s.backupRequest v
  else if a = Reg.RST_CTRL then
    (if v.getLsbD 1 && !v.getLsbD 0 then s.did (execRstMgmtrst v s) else s.did (execRstDevrst v s))
  else if a = Reg.LIFE_LEAP_CMD then
    let s := s.when (v.getLsbD 0) fun s => s.did (execLeapWrite s)
    let s := s.when (v.getLsbD 1) fun s => s.did (execLeapRead s)
    s.when (v.getLsbD 2) fun s => s.did (execLeapClear s)
  else if a = Reg.LIFE_CRUMB_BASE_LO || a = Reg.LIFE_CRUMB_BASE_HI || a = Reg.LIFE_CRUMB_SIZE then
    s.did (execCrumbAreaWrite a v s)
  else s.regStore r a v

/-- Pages 0x010 to 0x013. -/
def State.measWrite (s : State) (r : RegRow) (a : Nat) (v : Word) : State :=
  let d := a / 0x1000 % 2
  let o := a % 0x1000
  if a = Reg.CAL_CMD d then s.calGo d (v.fld 3 0)
  else
    let s := s.regStore r a v
    if a = Reg.MEAS_OVEN_CTRL d then (if v.getLsbD 0 then s.ovenStart d else s.ovenStop d)
    else if a / 0x1000 < 0x012 && 0x200 ≤ o && o % 0x10 = 0 then
      s.did (execOdrWrite (128 * d + (o - 0x200) / 0x10) (v.fld 15 0) s)
    else s

/-- Pages 0x020 to 0x02F. -/
def State.chanWrite (s : State) (r : RegRow) (seat : Nat) (sqe : Option (Nat × Nat)) (a : Nat) (v : Word) : State :=
  let g := a / 0x1000 - 0x020
  let o := a % 0x1000
  if o = 0x048 then
    s.each ((maskCh g (v.fld 15 0)).filter s.hasCh) fun s k => s.issueCmd k { op := v.fld 19 16, seat := seat }
  else if 0x100 ≤ o && o % 0x40 = 0 then s.issueCmd (16 * g + (o - 0x100) / 0x40) { op := v.fld 3 0, seat := seat, sqe := sqe }
  else s.regStore r a v

/-- Pages 0x030 to 0x038. -/
def State.engineWrite (s : State) (r : RegRow) (a : Nat) (v : Word) : State :=
  if a = Reg.LOOP_GAIN_COMMIT then s.did (execGainCommit v s)
  else if a = Reg.LOOP_ACC_SEL then
    (if v.getLsbD 31 then s.did (execAccSelGo (v.fld 7 0) s) else s.put a 7 0 (v.fld 7 0))
  else if a = Reg.STEP_PCMD then s.progWritten (v.fld 3 0) (v.fld 25 16)
  else if a = Reg.EIS_TCMD then s.eisBegin (v.fld 3 0) (v.fld 19 16)
  else if a = Reg.CREW_CMD then s.crewGo (v.fld 3 0) (v.fld 21 16)
  else
    let i := s.critSel
    let c : Crit := Sparse.get {} s.crits i
    let crit := fun (c : Crit) => s.keepRwq 0x037 fun s => { s with crits := Sparse.set {} s.crits i c }
    if a = Reg.GRD_W0 then crit { c with w0 := v &&& 0x3FFFF }
    else if a = Reg.GRD_W1 then crit { c with lo := v }
    else if a = Reg.GRD_W2 then crit { c with hi := v }
    else if a = Reg.GRD_THDR then
      s.keepRwq 0x037 fun s => { s with ranksrc := Sparse.set 0 s.ranksrc (s.get Reg.GRD_GSEL 1 0) (v &&& 0xFFFF) }
    else s.regStore r a v

/-- Pages 0x050 to 0x053. -/
def State.timeWrite (s : State) (r : RegRow) (seat a : Nat) (v : Word) : State :=
  if a = Reg.TB_INC_LO then s.did (execTbIncLoWrite v s)
  else if a = Reg.TB_INC_HI then s.did (execTbIncHiWrite v s)
  else if a = Reg.TB_STEP_GO then s.did (execTbStepGo v s)
  else if a = Reg.TB_OFS_IN then s.did (execTbOfsInWrite v s)
  else if a = Reg.SCH_CMD then s.schOp (v.fld 3 0) (v.fld 20 16) seat
  else if a = Reg.CAT_CMD then
    (if 4 < v.fld 3 0 then s.catDone (v.fld 19 16) 3 else s.catOp (v.fld 3 0) (v.fld 19 16) seat)
  else if 0x52100 ≤ a && a < 0x53000 then
    match s.schState ((a - 0x52100) / 0x40) with
    | 2 => s.raise 0x052 10
    | 0 => s
    | _ => s.regStore r a v
  else s.regStore r a v

/-- Pages 0x068 to 0x06A. -/
def State.bridgeWrite (s : State) (r : RegRow) (a : Nat) (v : Word) : State :=
  if a = Reg.RT_ALT then
    s.keepRwq 0x068 fun s =>
      { s with fab := { s.fab with alts := Sparse.set 0 s.fab.alts (s.get Reg.RT_ALT_SEL 8 0) (v &&& 0xF) } }
  else if a = Reg.RT_FENCE then s.did (execRtFence v s)
  else if a = Reg.RT_SLP_CTRL then (s.voteWrite (v.getLsbD 0)).when (v.getLsbD 1) fun s => s.wakeRequest 1
  else if a = Reg.WB_WCOMMIT then s.did (execWindowCommit v s)
  else if a = Reg.WB_INCOMMIT then s.did (execInboundCommit v s)
  else if a = Reg.WB_LOCKCMD then
    (if v.getLsbD 8 then s.winLock (v.fld 5 0) true none else if v.getLsbD 9 then s.winLock (v.fld 5 0) false none else s)
  else if a = Reg.WB_SIG_TX then s.did (execSigTxWrite v s)
  else if a = Reg.MB_TCMD then
    match v.fld 1 0 with
    | 0 => s.did (execMbTableNop s)
    | 1 => s.did (execMbTableWrite s)
    | 2 => s.did (execMbTableRead s)
    | _ => s.did (execMbTableReservedOp s)
  else s.regStore r a v

/-- Pages 0x0A0 to 0x0A8. `CFG`, the ring and the sources of a mirror session ignore writes while its `EN` is 1 (R436). -/
def State.switchWrite (s : State) (r : RegRow) (a : Nat) (v : Word) : State :=
  let p := (a % 0x1000 - 0x100) / 0x40
  let m := (a % 0x1000 - 0x100) / 0x20
  if a / 0x1000 = 0x0A6 && decide (a % 0x20 < 0x14) && s.bit (Reg.MIR_CFG m) 0 then s
  else if a = Reg.MAC_CMD then s.macGo (v.fld 3 0)
  else if a = Reg.VLAN_VCOMMIT then
    let s := s.when (v.getLsbD 0) fun s => s.did (execVlanApply s)
    s.when (v.getLsbD 1) fun s => s.did (execVlanRead s)
  else if a = Reg.MTR_CMD then s.mtrGo (v.fld 3 0) (v.fld 27 16)
  else if a / 0x1000 = 0x0A0 && !s.part.hasSwitch && a % 0x1000 ≠ 0x40 && (a = Reg.ETH_MODE || 2 ≤ p || a = Reg.PORT_VCFG p) then s
  else
    let t := s.regStore r a (if a / 0x1000 = 0x0A0 && !s.part.hasSwitch && a = Reg.PORT_CFG p then s.rd a &&& 0xFFFFFFFE ||| v &&& 1 else v)
    if a / 0x1000 = 0x0A0 && a = Reg.PORT_CFG p && s.bit a 0 && !t.bit a 0 && decide (p < 12) then t.ethDown p else t

/-- Pages 0x0B0 to 0x0B8. -/
def State.busWrite (s : State) (r : RegRow) (a : Nat) (v : Word) : State :=
  let u := a / 0x1000 - 0x0B4
  if a = Reg.NS_CTRL then (if v.getLsbD 0 then s.did (execNsConfirm s) else s)
  else if 0x0B4 ≤ a / 0x1000 && a = Reg.SER_TXD u then s.did (execSerTxdWrite u v s)
  else s.regStore r a v

/-- Pages 0x0D0 to 0x0D2. -/
def State.secWrite (s : State) (r : RegRow) (a : Nat) (v : Word) : State :=
  if a = Reg.KEY_CMD then s.keyGo v
  else if a = Reg.CRY_GO then (if v.getLsbD 0 then s.cryJobGo else s)
  else if a = Reg.ATT_CMD then s.attGo (v.fld 1 0)
  else s.regStore r a v

/-- Pages 0x0E0 to 0x0E7: the bits of `CTRL` act in their order (log 42). -/
def State.cvuWrite (s : State) (r : RegRow) (a : Nat) (v : Word) : State :=
  let u := a / 0x1000 - 0x0E0
  if a = Reg.CVU_CTRL u then
    let s := s.when (v.getLsbD 0) fun s => s.did (execCvuStart u s)
    let s := s.when (v.getLsbD 1) fun s => s.did (execCvuEnd u s)
    s.when (v.getLsbD 2) fun s => s.did (execCvuRelease u s)
  else if a = Reg.CVU_DIN1 u then s.did (execCvuDin1 u v s)
  else if a = Reg.CVU_DIN2 u then s.did (execCvuDin2 u v s)
  else if a = Reg.CVU_DIN4 u then s.did (execCvuDin4 u v s)
  else s.regStore r a v

/-- A block register, by its page; `sqe` is the REG_WR entry that a channel command completes. -/
def State.blockWrite (s : State) (r : RegRow) (seat : Nat) (sqe : Option (Nat × Nat)) (a : Nat) (v : Word) : State :=
  let p := a / 0x1000
  if p ≤ 0x005 then s.coreWrite r a v
  else if 0x010 ≤ p && p ≤ 0x013 then s.measWrite r a v
  else if 0x020 ≤ p && p < 0x030 then s.chanWrite r seat sqe a v
  else if 0x030 ≤ p && p < 0x040 then s.engineWrite r a v
  else if 0x040 ≤ p && p < 0x050 then
    (if a = Reg.SL_MREQ (p - 0x040) then s.did (execMreqWrite (p - 0x040) v s) else s.regStore r a v)
  else if 0x050 ≤ p && p ≤ 0x053 then s.timeWrite r seat a v
  else if 0x068 ≤ p && p ≤ 0x06A then s.bridgeWrite r a v
  else if a = Reg.COX_GO then (if v.getLsbD 0 then s.mbxGo else s)
  else if a = Reg.SMU_RESUME then
    (if v.getLsbD 8 then s.did (execSmuResumeRetry (v.fld 5 0) s)
     else if v.getLsbD 9 then s.did (execSmuResumeAbort (v.fld 5 0) s) else s)
  else if 0x0A0 ≤ p && p ≤ 0x0A8 then s.switchWrite r a v
  else if 0x0B0 ≤ p && p ≤ 0x0B8 then s.busWrite r a v
  else if 0x0C0 ≤ p && p ≤ 0x0C5 then s.fieldRegWrite r seat a v
  else if 0x0D0 ≤ p && p ≤ 0x0D2 then s.secWrite r a v
  else if 0x0E0 ≤ p && p < 0x0E8 then s.cvuWrite r a v
  else s.regStore r a v

/-- A write of `v` at `a` for `seat` (0: coxswain software, the firmware, a far device). An address without a register ignores
it (R8, R11, R21); so does every register while domain D is held cleared. -/
def State.regWriteAs (s : State) (seat : Nat) (sqe : Option (Nat × Nat)) (a : Nat) (v : Word) : State :=
  if !s.isReg a || s.power.held then s
  else
    match regRow a with
    | none => s
    | some r =>
      if 0x100000 ≤ a then s.seatWrite r ((a - 0x100000) / 0x10000) a v
      else if a % 0x1000 < 0x40 then s.headWrite r (a / 0x1000) (a % 0x1000) v
      else s.blockWrite r seat sqe a v

def State.regWrite (s : State) (a : Nat) (v : Word) : State := s.regWriteAs 0 none a v

/-- An access of another alignment changes nothing: BAD_ACCESS, counted for a seat aperture (R48, R361). -/
def State.misaligned (s : State) (a : Nat) : State :=
  let s := s.raise 0x000 8
  s.when (decide (0x100000 ≤ a) && decide (a < 0x500000)) fun s => s.count (Reg.SA_ERR ((a - 0x100000) / 0x10000)) 31 16

/-- R20. -/
def execRegisterWrite (addr : Nat) (v : Word) (s : State) : Answer :=
  answer (decide (addr < 0x500000)) (if addr % 4 ≠ 0 then s.misaligned addr else s.regWrite addr v)

/-! ### What a read does beside returning a value -/

/-- Registers whose read takes an entry from a log or a FIFO, latches, or advances. -/
def State.readActs (s : State) (a : Nat) : State :=
  let p := a / 0x1000
  if a = Reg.TB_SEC_LO then s.did (execTbSecLoRead s)
  else if a = Reg.RT_RERR0 then s.did (execRerrLogRead s)
  else if a = Reg.WB_ELOG0 then s.did (execWerrLogRead s)
  else if a = Reg.SMU_FLOG0 then s.did (execFaultLogRead s)
  else if a = Reg.INJ_LOG0 then s.did (execInjLogRead s)
  else if a = Reg.LIFE_WIN_DATA then s.did (execLifeWinRead s)
  else if Reg.LIFE_TOT 0 ≤ a && a ≤ Reg.LIFE_TOT 14 then s.lifeReadEcc 0 0
  else if 0x0B4 ≤ p && p < 0x0B8 && a = Reg.SER_RXD (p - 0x0B4) then s.did (execSerRxdRead (p - 0x0B4) s)
  else if 0x0B4 ≤ p && p < 0x0B8 && a = Reg.SER_RXFR (p - 0x0B4) then s.did (execSerRxfrRead (p - 0x0B4) s)
  else
    match (List.range 16).find? fun u => a = Reg.CAT_E_SEC_LO u with
    | some u => s.did (execCatFifoRead u s)
    | none => s

/-- What a read leaves behind, once its value is returned: the peak of a load switch starts again (R498), a praline that has
been read out is gone from `KEY.BUF` (R522), and a free value is used. -/
def State.readAfter (s : State) (a : Nat) : State :=
  let s := s.when (s.freeRead a).isSome State.useFree
  let s := s.when (decide (Reg.KEY_BUF 0 ≤ a) && decide (a < Reg.KEY_BUF 0 + 2048)) fun s => s.keyBufRead ((a - Reg.KEY_BUF 0) / 4)
  match (List.range 16).find? fun n => a = Reg.LS_I n with
  | some _ =>
    let s := s.put a 31 16 (s.get a 15 0)
    s.fput a 31 16 (s.fget a 15 0)
  | none => s

/-- A read: the state after it, and the value. -/
def State.regRead (s : State) (a : Nat) : State × Word :=
  if !s.isReg a || s.power.held then (s, 0)
  else
    let s := s.readActs a
    (s.readAfter a, s.readReg a)

/-! ### REG_RD and REG_WR (R365, R367) -/

/-- The channel that indexes a register. -/
def regChannel (a : Nat) : Option Nat :=
  let p := a / 0x1000
  let o := a % 0x1000
  if 0x010 ≤ p && p ≤ 0x011 && 0x200 ≤ o && o < 0xA00 then some (128 * (p - 0x010) + (o - 0x200) / 0x10)
  else if 0x020 ≤ p && p < 0x030 && 0x100 ≤ o && o < 0x500 then some (16 * (p - 0x020) + (o - 0x100) / 0x40)
  else if p = 0x035 && 0x400 ≤ o && o < 0xC00 then some (o % 0x400 / 4)
  else if p = 0x038 && 0x400 ≤ o && o < 0x800 then some (o % 0x400 / 4)
  else none

/-- Seat `i` commands what page `p` belongs to. -/
def State.ownsPage (s : State) (i p : Nat) : Bool :=
  s.get (Reg.PG_OWNER p) 5 0 == i && !(s.ownerEntry 6 p).2 &&
    (if 0x0E0 ≤ p && p < 0x0E8 then !(s.ownerEntry 5 (p - 0x0E0)).2 else true)

/-- Registers of granted units, as their chapters mark them. -/
def State.ownsUnit (s : State) (i a : Nat) : Bool :=
  let p := a / 0x1000
  let o := a % 0x1000
  if o < 0x40 then false
  else if p = 0x052 && 0x100 ≤ o then s.schState ((o - 0x100) / 0x40) != 0 && s.schOwner ((o - 0x100) / 0x40) == i && !s.schCrew ((o - 0x100) / 0x40)
  else if p = 0x053 && 0x100 ≤ o then s.catState ((o - 0x100) / 0x20) != 0 && s.catOwner ((o - 0x100) / 0x20) == i
  else if p = 0x052 || p = 0x053 then o = 0x40 || o = 0x44
  else if 0x0B0 ≤ p && p < 0x0B8 then s.commands i 4 (p - 0x0B0)
  else if p = 0x0C2 then decide (o ≤ 0x050) && (List.range 16).any fun n => s.commands i 3 n
  else if p = 0x0C3 || p = 0x0C4 then
    decide (0x100 ≤ o) && decide (o < 0x300) && decide (0x0C ≤ o % 0x40) && s.commands i 2 ((p - 0x0C3) * 8 + (o - 0x100) / 0x40)
  else if 0x0E0 ≤ p && p < 0x0E8 then s.commands i 5 (p - 0x0E0)
  else false

/-- The status that keeps seat `i` from a register: 0 none, 3 NOT_OWNER, 4 ABSENT. -/
def State.reach (s : State) (i a : Nat) : Nat :=
  let o := a % 0x1000
  match regChannel a with
  | some k => if !s.hasCh k then 4 else if s.mayCommand k i then 0 else 3
  | none =>
    if s.isReg a &&
        (s.ownsUnit i a || ((o = 0x00C || o = 0x010 || o = 0x014 || o = 0x018 || o = 0x01C) && s.ownsPage i (a / 0x1000))) then 0
    else 3

/-- The address that an entry names. -/
def sqeReg (b : List Byte) : Option Nat :=
  let (p, o) := regNamed b
  if p < 0x100 && o < 0x1000 && o % 4 = 0 then some (p * 0x1000 + o) else none

/-- The entry waits: the copy of the field die is not loaded yet (R468). -/
def State.copyHeld (s : State) (a : Nat) : Bool := decide (0xC0000 ≤ a) && decide (a < 0xC6000) && !s.fc.loaded

def State.sqeRead (s : State) (i q cid : Nat) (b : List Byte) : State :=
  match sqeReg b with
  | none => s.complete i q cid 3 0 0
  | some a =>
    let r := s.reach i a
    if r ≠ 0 then s.complete i q cid r 0 0
    else
      let x := s.regRead a
      x.1.complete i q cid 0 0 x.2.toNat

/-- The status word of a command register (R365). -/
def statusWord (a : Nat) : Option Nat :=
  if a = Reg.SCH_CMD then some Reg.SCH_STAT
  else if a = Reg.CAT_CMD then some Reg.CAT_STAT
  else if 0x0E0 ≤ a / 0x1000 && a / 0x1000 < 0x0E8 && 0x60 ≤ a % 0x1000 && a % 0x1000 ≤ 0x6C then some (Reg.CVU_STAT (a / 0x1000 - 0x0E0))
  else if (a / 0x1000 = 0x0C3 || a / 0x1000 = 0x0C4) && a % 0x40 = 0x10 then some (a + 4)
  else none

def State.sqeWrite (s : State) (i q cid : Nat) (b : List Byte) : State :=
  match sqeReg b with
  | none => s.complete i q cid 3 0 0
  | some a =>
    let r := s.reach i a
    let v : Word := BitVec.ofNat 32 (le32At b 12)
    if r ≠ 0 then s.complete i q cid r 0 0
    else
      let s := s.regWriteAs i (some (q, cid)) a v
      if a % 0x1000 = 0x00C then s.regWrFollow
      else if 0x020 ≤ a / 0x1000 && a / 0x1000 < 0x030 && a % 0x40 = 0 then s
      else s.complete i q cid 0 0 (((statusWord a).map fun w => (s.rd w).toNat).getD 0)

/-- R365, op 8. -/
def execSqeRegRd (i q cid : Nat) (s : State) : Answer :=
  answer (wfSqe i q cid)
    (match (s.nextSqe i q cid).bind fun e => sqeReg e.bytes with
      | some a => if s.copyHeld a then s else s.sqe i q cid 8 (fun _ => false) fun s b => s.sqeRead i q cid b
      | none => s.sqe i q cid 8 (fun _ => false) fun s b => s.sqeRead i q cid b)

/-- R365, op 9; an entry that waits for a page command completes once it is done. -/
def execSqeRegWr (i q cid : Nat) (s : State) : Answer :=
  answer (wfSqe i q cid) ((s.sqe i q cid 9 (fun _ => false) fun s b => s.sqeWrite i q cid b).regWrFollow)

end Sys2Proof.Machine
end

