-- ==== Sys2Proof/Machine/Inbound.lean ====
section
/-!
DEFINITION. The far side of the window bridge (10_bridges.md): requests of other devices' windows, and the locks they take here.
-/
namespace Sys2Proof.Machine

/-- Pages that refuse every inbound access (R338). -/
def closedPage (p : Nat) : Bool := p == 0x005 || p == 0x080 || p == 0x0D0 || p == 0x0D1 || p == 0x0D2

/-- A page access of 4 or 8 bytes acts as 32-bit accesses, the lower first; another one changes nothing and reads 0 (R48). -/
def State.ctrlAccess (s : State) (r : WReq) : State × List Byte :=
  if (r.size ≠ 4 && r.size ≠ 8) || r.addr % r.size ≠ 0 then (s.raise 0x000 8, List.replicate r.size 0)
  else
    let words := (List.range (r.size / 4)).map fun i => r.addr + 4 * i
    if r.write then (s.each words fun s a => s.regWrite a (BitVec.ofNat 32 (le32At r.data (a - r.addr))), [])
    else
      words.foldl (fun (x : State × List Byte) a => let y := x.1.regRead a; (y.1, x.2 ++ leBytes 4 y.2.toNat)) (s, [])

/-- An admitted request is served and answered (R338, R339). -/
def State.inboundServe (s : State) (r : InReq) : State :=
  let q := r.req
  if q.space = 1 then
    if !s.dramHas q.addr q.size then s.wcplSend r 2 []
    else if q.write then (s.dramWrite q.addr q.data).wcplSend r 0 []
    else
      let x := s.dramRead q.addr q.size
      match x.2 with
      | some d => x.1.wcplSend r 0 d
      | none => x.1.wcplSend r 5 []
  else if 0x100000 < q.addr + q.size then s.wcplSend r 2 []
  else
    let x := s.ctrlAccess q
    x.1.wcplSend r 0 x.2

/-- The space is locked by another window (R340). -/
def State.lockedOut (s : State) (r : InReq) : Bool :=
  match Sparse.find? s.brg.locks r.req.space with
  | some h => h ≠ (r.src, r.req.win)
  | none => false

/-- Device, window and space of a request. -/
def InReq.key (r : InReq) : Nat × Nat × Nat := (r.src, r.req.win, r.req.space)

/-- A request's window lost its lock here: it fails LOCK_BROKEN once (R343). -/
def State.lockBroken (s : State) (r : InReq) : State :=
  (s.setBrg { s.brg with lockLost := s.brg.lockLost.erase r.key }).wcplSend r 21 []

/-- Waiting accesses that no lock keeps out any more are served, in order of arrival. -/
def State.inboundPump (s : State) : State :=
  s.each s.brg.inWait fun s r =>
    if s.lockedOut r then s else (s.setBrg { s.brg with inWait := s.brg.inWait.erase r }).inboundServe r

/-- `WB.STAT` shows the locks held. -/
def State.lockShow (s : State) : State :=
  (s.setBit Reg.WB_STAT 8 (Sparse.find? s.brg.locks 0).isSome).setBit Reg.WB_STAT 9 (Sparse.find? s.brg.locks 1).isSome

/-- A lock is granted. -/
def State.lockGrant (s : State) (r : InReq) : State :=
  let s := s.setBrg
    { s.brg with locks := Sparse.insert s.brg.locks r.req.space (r.src, r.req.win), lockLost := s.brg.lockLost.filter (· ≠ r.key) }
  (s.lockShow.put Reg.WB_STAT 24 16 r.src).wcplSend r 0 []

/-- A released space goes to the oldest waiting lock request, or its waiting accesses are served. -/
def State.lockFree (s : State) (space : Nat) : State :=
  let s := (s.setBrg { s.brg with locks := Sparse.erase s.brg.locks space }).lockShow
  match s.brg.lockWait.find? fun r => r.req.space == space with
  | some r => ((s.setBrg { s.brg with lockWait := s.brg.lockWait.erase r }).lockGrant r).inboundPump
  | none => s.inboundPump

/-- Accesses held in the queues fail ECC (R349). -/
def State.queuesFail (s : State) : State :=
  let l := s.brg.lockWait ++ s.brg.inWait
  let s := (s.setBrg { s.brg with lockWait := [], inWait := [] }).each l fun s r => s.wcplSend r 5 []
  let s := s.each (List.range 64) fun s w => (s.setWinAccs w []).each (s.winAccs w) fun s a => s.winFail w a 5
  s.each s.brg.lockOps fun s o => s.lockResult o 5

/-- A request arrives: the queues' detector may be made to fault the page (R349), and a page that is not RUNNING answers
STOPPED. -/
def State.inboundArrive (s : State) (r : InReq) (f : State → State) : State :=
  if !s.running 0x069 then s.wcplSend r 4 []
  else
    let bad := s.injFires 0x069 0x10 0
    let s := s.injStep 0x069 0x10 0
    if bad then ((s.wcplSend r 5 []).queuesFail).pageFall 0x069 0x0100 else f s

def State.inbound (s : State) (r : InReq) : State :=
  s.inboundArrive r fun s =>
    let closed := r.req.space == 0 && closedPage (r.req.addr / 0x1000)
    if closed || !s.admits r.src r.init r.req.space r.req.write r.req.addr r.req.size then (s.wcplSend r 3 []).raise 0x069 9
    else if s.brg.lockLost.contains r.key then s.lockBroken r
    else if s.lockedOut r then s.setBrg { s.brg with inWait := s.brg.inWait ++ [r] }
    else s.inboundServe r

/-- R338. -/
def execInboundRequest (src init tag : Nat) (r : WReq) (s : State) : Answer :=
  answer (wfInbound src init tag r && r.kind == 0 && decide (1 ≤ r.size) && (!r.write || r.data.length == r.size))
    (s.inbound { src := src, init := init, tag := tag, req := r })

/-- This device asks for a lock at `src` or holds one there (R342). -/
def State.locksAt (s : State) (src : Nat) : Bool :=
  (s.brg.lockOps.any fun o => o.lock && (s.win o.win).dev == src) ||
    (List.range 64).any fun w => s.bit (Reg.WIN_STAT w) 2 && (s.win w).dev == src

def State.lockRequest (s : State) (r : InReq) : State :=
  s.inboundArrive r fun s =>
    let held := Sparse.find? s.brg.locks r.req.space
    if r.req.kind = 2 then
      if held = some (r.src, r.req.win) then (s.wcplSend r 0 []).lockFree r.req.space else s.lockBroken r
    else if s.locksAt r.src && decide (s.devId < r.src) then s.wcplSend r 19 []
    else if held.isNone || !s.lockedOut r then s.lockGrant r
    else s.setBrg { s.brg with lockWait := s.brg.lockWait ++ [r] }

/-- R340 to R342. -/
def execLockRequestRx (src init tag : Nat) (r : WReq) (s : State) : Answer :=
  answer (wfInbound src init tag r && (r.kind == 1 || r.kind == 2))
    (s.lockRequest { src := src, init := init, tag := tag, req := r })

/-- R343. -/
def State.lockExpire (s : State) (space : Nat) : State :=
  match Sparse.find? s.brg.locks space with
  | some h => (s.setBrg { s.brg with lockLost := s.brg.lockLost ++ [(h.1, h.2, space)] }).lockFree space
  | none => s

def execLockHoldTimeout (space : Nat) (s : State) : Answer := answer (decide (space < 2)) (s.lockExpire space)

end Sys2Proof.Machine
end

