-- ==== Sys2Proof/Machine/Dispatch.lean ====
section
/-!
DEFINITION. One arm for each command: its meaning, which changes everything but the queue of waiting commands.
-/
namespace Sys2Proof.Machine

def exec (i : Instr) (s : State) : Host.Outcome State Fault Refusal :=
  match i with
  | .pgRun p => Sys2Proof.Machine.execPgRun p s
  | .pgStop p => Sys2Proof.Machine.execPgStop p s
  | .pgSrst p => Sys2Proof.Machine.execPgSrst p s
  | .pgStartDone p envOk => Sys2Proof.Machine.execPgStartDone p envOk s
  | .pgStopDone p => Sys2Proof.Machine.execPgStopDone p s
  | .startTimeout p => Sys2Proof.Machine.execStartTimeout p s
  | .stopTimeout p => Sys2Proof.Machine.execStopTimeout p s
  | .pgEvsetWrite p v => Sys2Proof.Machine.execPgEvsetWrite p v s
  | .pgLockSet p => Sys2Proof.Machine.execPgLockSet p s
  | .registerWrite addr v => Sys2Proof.Machine.execRegisterWrite addr v s
  | .badAccess => Sys2Proof.Machine.execBadAccess s
  | .governorWindow => Sys2Proof.Machine.execGovernorWindow s
  | .slackClr v => Sys2Proof.Machine.execSlackClr v s
  | .baseStrobe => Sys2Proof.Machine.execBaseStrobe s
  | .measureFrameRx d good samples => Sys2Proof.Machine.execMeasureFrameRx d good samples s
  | .measureFrameDeadline d => Sys2Proof.Machine.execMeasureFrameDeadline d s
  | .tsConversionDone k rho => Sys2Proof.Machine.execTsConversionDone k rho s
  | .odrWrite k odr => Sys2Proof.Machine.execOdrWrite k odr s
  | .ovenRegulated d => Sys2Proof.Machine.execOvenRegulated d s
  | .ovenDegraded d => Sys2Proof.Machine.execOvenDegraded d s
  | .ovenFault d => Sys2Proof.Machine.execOvenFault d s
  | .refCrossCheck d ok1 ok2 diff ratio => Sys2Proof.Machine.execRefCrossCheck d ok1 ok2 diff ratio s
  | .senseOpenCheckStart k => Sys2Proof.Machine.execSenseOpenCheckStart k s
  | .senseOpenCheckDone k => Sys2Proof.Machine.execSenseOpenCheckDone k s
  | .calNop d => Sys2Proof.Machine.execCalNop d s
  | .calConnect d => Sys2Proof.Machine.execCalConnect d s
  | .calConnectSettled d => Sys2Proof.Machine.execCalConnectSettled d s
  | .calMeasure d => Sys2Proof.Machine.execCalMeasure d s
  | .calMeasureDone d => Sys2Proof.Machine.execCalMeasureDone d s
  | .calRelease d => Sys2Proof.Machine.execCalRelease d s
  | .calRead d => Sys2Proof.Machine.execCalRead d s
  | .calCommit d => Sys2Proof.Machine.execCalCommit d s
  | .calRestoreFactory d => Sys2Proof.Machine.execCalRestoreFactory d s
  | .calJournalDone d ok => Sys2Proof.Machine.execCalJournalDone d ok s
  | .calReadFactory d => Sys2Proof.Machine.execCalReadFactory d s
  | .calReservedOp d op => Sys2Proof.Machine.execCalReservedOp d op s
  | .strokeBoundary env => Sys2Proof.Machine.execStrokeBoundary env s
  | .strokeDeadline => Sys2Proof.Machine.execStrokeDeadline s
  | .gainCommit v => Sys2Proof.Machine.execGainCommit v s
  | .accSelGo k => Sys2Proof.Machine.execAccSelGo k s
  | .accLatch => Sys2Proof.Machine.execAccLatch s
  | .chNop k seat => Sys2Proof.Machine.execChNop k seat s
  | .chArm k seat => Sys2Proof.Machine.execChArm k seat s
  | .chStart k seat => Sys2Proof.Machine.execChStart k seat s
  | .chPause k seat => Sys2Proof.Machine.execChPause k seat s
  | .chResume k seat => Sys2Proof.Machine.execChResume k seat s
  | .chStop k seat => Sys2Proof.Machine.execChStop k seat s
  | .chSafe k seat => Sys2Proof.Machine.execChSafe k seat s
  | .chClear k seat => Sys2Proof.Machine.execChClear k seat s
  | .chHold k seat => Sys2Proof.Machine.execChHold k seat s
  | .chReservedOp k seat op => Sys2Proof.Machine.execChReservedOp k seat op s
  | .rampToIdle k => Sys2Proof.Machine.execRampToIdle k s
  | .progNop slot => Sys2Proof.Machine.execProgNop slot s
  | .progDefine slot => Sys2Proof.Machine.execProgDefine slot s
  | .progUndefine slot => Sys2Proof.Machine.execProgUndefine slot s
  | .progOpen slot => Sys2Proof.Machine.execProgOpen slot s
  | .progWrite slot => Sys2Proof.Machine.execProgWrite slot s
  | .progRead slot readBad => Sys2Proof.Machine.execProgRead slot readBad s
  | .progSeal slot => Sys2Proof.Machine.execProgSeal slot s
  | .progInfo slot => Sys2Proof.Machine.execProgInfo slot s
  | .progReservedOp slot op => Sys2Proof.Machine.execProgReservedOp slot op s
  | .progOpComplete => Sys2Proof.Machine.execProgOpComplete s
  | .eisTableNop t => Sys2Proof.Machine.execEisTableNop t s
  | .eisTableOpen t => Sys2Proof.Machine.execEisTableOpen t s
  | .eisTableWrite t => Sys2Proof.Machine.execEisTableWrite t s
  | .eisTableRead t => Sys2Proof.Machine.execEisTableRead t s
  | .eisTableSeal t => Sys2Proof.Machine.execEisTableSeal t s
  | .eisTableClear t => Sys2Proof.Machine.execEisTableClear t s
  | .eisTableReservedOp t op => Sys2Proof.Machine.execEisTableReservedOp t op s
  | .eisTableOpComplete => Sys2Proof.Machine.execEisTableOpComplete s
  | .eisPointResult k => Sys2Proof.Machine.execEisPointResult k s
  | .restTrendWake k => Sys2Proof.Machine.execRestTrendWake k s
  | .trendConverterPowerUp d => Sys2Proof.Machine.execTrendConverterPowerUp d s
  | .crewNop e => Sys2Proof.Machine.execCrewNop e s
  | .crewJoin e => Sys2Proof.Machine.execCrewJoin e s
  | .crewSetmask e => Sys2Proof.Machine.execCrewSetmask e s
  | .crewSeal e => Sys2Proof.Machine.execCrewSeal e s
  | .crewSealAck e gen => Sys2Proof.Machine.execCrewSealAck e gen s
  | .crewSealTimeout e => Sys2Proof.Machine.execCrewSealTimeout e s
  | .crewOpen e => Sys2Proof.Machine.execCrewOpen e s
  | .crewLeave e => Sys2Proof.Machine.execCrewLeave e s
  | .crewTrans e => Sys2Proof.Machine.execCrewTrans e s
  | .crewReduce e => Sys2Proof.Machine.execCrewReduce e s
  | .crewGrade e => Sys2Proof.Machine.execCrewGrade e s
  | .crewInfo e => Sys2Proof.Machine.execCrewInfo e s
  | .crewReservedOp e op => Sys2Proof.Machine.execCrewReservedOp e op s
  | .crewHeartbeatRx crew => Sys2Proof.Machine.execCrewHeartbeatRx crew s
  | .coordHeartbeatTimeout e => Sys2Proof.Machine.execCoordHeartbeatTimeout e s
  | .crewArrivalRx crew dev gen arrived withdrawn => Sys2Proof.Machine.execCrewArrivalRx crew dev gen arrived withdrawn s
  | .crewReleaseRx crew gen mark => Sys2Proof.Machine.execCrewReleaseRx crew gen mark s
  | .crewTransRx crew op mark => Sys2Proof.Machine.execCrewTransRx crew op mark s
  | .reductionMark c => Sys2Proof.Machine.execReductionMark c s
  | .reductionContribRx c dev vals => Sys2Proof.Machine.execReductionContribRx c dev vals s
  | .reductionDeadline c => Sys2Proof.Machine.execReductionDeadline c s
  | .reductionResultRx c r => Sys2Proof.Machine.execReductionResultRx c r s
  | .reductionRankRx c ranks => Sys2Proof.Machine.execReductionRankRx c ranks s
  | .ringConsumerWrite seat r v => Sys2Proof.Machine.execRingConsumerWrite seat r v s
  | .crewMark => Sys2Proof.Machine.execCrewMark s
  | .crewRegistrationRx crew dev count => Sys2Proof.Machine.execCrewRegistrationRx crew dev count s
  | .coordHeartbeatSend => Sys2Proof.Machine.execCoordHeartbeatSend s
  | .stageFrameLaunch n ready slack => Sys2Proof.Machine.execStageFrameLaunch n ready slack s
  | .telemetryRx n clean bytes rtt => Sys2Proof.Machine.execTelemetryRx n clean bytes rtt s
  | .telemetryDeadline n => Sys2Proof.Machine.execTelemetryDeadline n s
  | .stageRxSignalLoss n => Sys2Proof.Machine.execStageRxSignalLoss n s
  | .stageLostTimeout n => Sys2Proof.Machine.execStageLostTimeout n s
  | .descReread n => Sys2Proof.Machine.execDescReread n s
  | .mopRetry n => Sys2Proof.Machine.execMopRetry n s
  | .mreqWrite n v => Sys2Proof.Machine.execMreqWrite n v s
  | .serdesUnlock p => Sys2Proof.Machine.execSerdesUnlock p s
  | .tbIncLoWrite v => Sys2Proof.Machine.execTbIncLoWrite v s
  | .tbIncHiWrite v => Sys2Proof.Machine.execTbIncHiWrite v s
  | .tbSecLoRead => Sys2Proof.Machine.execTbSecLoRead s
  | .tbStepGo v => Sys2Proof.Machine.execTbStepGo v s
  | .stepTick => Sys2Proof.Machine.execStepTick s
  | .tbOfsInWrite v => Sys2Proof.Machine.execTbOfsInWrite v s
  | .tioInEdge rise => Sys2Proof.Machine.execTioInEdge rise s
  | .servoHoldoverTimeout => Sys2Proof.Machine.execServoHoldoverTimeout s
  | .refEdgeLoss r => Sys2Proof.Machine.execRefEdgeLoss r s
  | .refFreqCheck diff worse => Sys2Proof.Machine.execRefFreqCheck diff worse s
  | .refReturn r => Sys2Proof.Machine.execRefReturn r s
  | .pllUnlock => Sys2Proof.Machine.execPllUnlock s
  | .schNop slot seat => Sys2Proof.Machine.execSchNop slot seat s
  | .schAlloc slot seat => Sys2Proof.Machine.execSchAlloc slot seat s
  | .schArm slot seat => Sys2Proof.Machine.execSchArm slot seat s
  | .schDisarm slot seat => Sys2Proof.Machine.execSchDisarm slot seat s
  | .schFree slot seat => Sys2Proof.Machine.execSchFree slot seat s
  | .schReservedOp slot seat op => Sys2Proof.Machine.execSchReservedOp slot seat op s
  | .slotFire slot ready slack offs => Sys2Proof.Machine.execSlotFire slot ready slack offs s
  | .tioPulseEnd slot => Sys2Proof.Machine.execTioPulseEnd slot s
  | .catNop u seat => Sys2Proof.Machine.execCatNop u seat s
  | .catAlloc u seat => Sys2Proof.Machine.execCatAlloc u seat s
  | .catArm u seat => Sys2Proof.Machine.execCatArm u seat s
  | .catDisarm u seat => Sys2Proof.Machine.execCatDisarm u seat s
  | .catFree u seat => Sys2Proof.Machine.execCatFree u seat s
  | .catFifoRead u => Sys2Proof.Machine.execCatFifoRead u s
  | .bkAlarm => Sys2Proof.Machine.execBkAlarm s
  | .wholeSecond => Sys2Proof.Machine.execWholeSecond s
  | .bruilFlitRx n bytes => Sys2Proof.Machine.execBruilFlitRx n bytes s
  | .bruilAckTimeout n => Sys2Proof.Machine.execBruilAckTimeout n s
  | .bruilSignalLoss n => Sys2Proof.Machine.execBruilSignalLoss n s
  | .departRx n => Sys2Proof.Machine.execDepartRx n s
  | .bruilIdentRx n p => Sys2Proof.Machine.execBruilIdentRx n p s
  | .bruilFailedRetrain n => Sys2Proof.Machine.execBruilFailedRetrain n s
  | .bruilExclRecheck n => Sys2Proof.Machine.execBruilExclRecheck n s
  | .linkStateAnnounceRx dev serial nbrs => Sys2Proof.Machine.execLinkStateAnnounceRx dev serial nbrs s
  | .bruilPacketRx n p => Sys2Proof.Machine.execBruilPacketRx n p s
  | .seqGapTimeout src cls => Sys2Proof.Machine.execSeqGapTimeout src cls s
  | .perrAckSend => Sys2Proof.Machine.execPerrAckSend s
  | .perrRx dev init upTo err => Sys2Proof.Machine.execPerrRx dev init upTo err s
  | .routeReturn dst => Sys2Proof.Machine.execRouteReturn dst s
  | .rtFence v => Sys2Proof.Machine.execRtFence v s
  | .fenceComplete init => Sys2Proof.Machine.execFenceComplete init s
  | .fenceTimeout init => Sys2Proof.Machine.execFenceTimeout init s
  | .timeFlitRx n good aL lP aP depth => Sys2Proof.Machine.execTimeFlitRx n good aL lP aP depth s
  | .sleepVoteWrite on => Sys2Proof.Machine.execSleepVoteWrite on s
  | .sleepVoteRx dev on => Sys2Proof.Machine.execSleepVoteRx dev on s
  | .sleepAgreeRx mark => Sys2Proof.Machine.execSleepAgreeRx mark s
  | .sleepAbortRx dev => Sys2Proof.Machine.execSleepAbortRx dev s
  | .sleepInstant => Sys2Proof.Machine.execSleepInstant s
  | .wakeRequest src => Sys2Proof.Machine.execWakeRequest src s
  | .slpWakeWrite => Sys2Proof.Machine.execSlpWakeWrite s
  | .wakeBeaconRx n dev => Sys2Proof.Machine.execWakeBeaconRx n dev s
  | .rerrLogRead => Sys2Proof.Machine.execRerrLogRead s
  | .windowRead port a size => Sys2Proof.Machine.execWindowRead port a size s
  | .windowWrite port a data => Sys2Proof.Machine.execWindowWrite port a data s
  | .windowCompletionRx w tag code data => Sys2Proof.Machine.execWindowCompletionRx w tag code data s
  | .windowTimeout w busy => Sys2Proof.Machine.execWindowTimeout w busy s
  | .inboundRequest src init tag r => Sys2Proof.Machine.execInboundRequest src init tag r s
  | .wbLock w => Sys2Proof.Machine.execWbLock w s
  | .wbUnlock w => Sys2Proof.Machine.execWbUnlock w s
  | .lockRequestRx src init tag r => Sys2Proof.Machine.execLockRequestRx src init tag r s
  | .lockHoldTimeout space => Sys2Proof.Machine.execLockHoldTimeout space s
  | .sigTxWrite v => Sys2Proof.Machine.execSigTxWrite v s
  | .messageRelease => Sys2Proof.Machine.execMessageRelease s
  | .windowCommit v => Sys2Proof.Machine.execWindowCommit v s
  | .windowCommitApply timeout => Sys2Proof.Machine.execWindowCommitApply timeout s
  | .inboundCommit v => Sys2Proof.Machine.execInboundCommit v s
  | .inboundCommitApply timeout => Sys2Proof.Machine.execInboundCommitApply timeout s
  | .messageMatch lat => Sys2Proof.Machine.execMessageMatch lat s
  | .mbTableNop => Sys2Proof.Machine.execMbTableNop s
  | .mbTableWrite => Sys2Proof.Machine.execMbTableWrite s
  | .mbTableRead => Sys2Proof.Machine.execMbTableRead s
  | .mbTableReservedOp => Sys2Proof.Machine.execMbTableReservedOp s
  | .werrLogRead => Sys2Proof.Machine.execWerrLogRead s
  | .sqDoorbell seat q v => Sys2Proof.Machine.execSqDoorbell seat q v s
  | .cqDoorbell seat q v => Sys2Proof.Machine.execCqDoorbell seat q v s
  | .eqDoorbell seat v => Sys2Proof.Machine.execEqDoorbell seat v s
  | .arbRoundStart => Sys2Proof.Machine.execArbRoundStart s
  | .sqEntryFetch seat q e host => Sys2Proof.Machine.execSqEntryFetch seat q e host s
  | .sqeNop seat q cid => Sys2Proof.Machine.execSqeNop seat q cid s
  | .sqeChanCmd seat q cid => Sys2Proof.Machine.execSqeChanCmd seat q cid s
  | .sqeProg seat q cid buf => Sys2Proof.Machine.execSqeProg seat q cid buf s
  | .sqeStepMsg seat q cid => Sys2Proof.Machine.execSqeStepMsg seat q cid s
  | .sqeMsgTx seat q cid data => Sys2Proof.Machine.execSqeMsgTx seat q cid data s
  | .sqeFence seat q cid => Sys2Proof.Machine.execSqeFence seat q cid s
  | .sqeWinLock seat q cid => Sys2Proof.Machine.execSqeWinLock seat q cid s
  | .sqeRegRd seat q cid => Sys2Proof.Machine.execSqeRegRd seat q cid s
  | .sqeRegWr seat q cid => Sys2Proof.Machine.execSqeRegWr seat q cid s
  | .sqeBadOpc seat q cid => Sys2Proof.Machine.execSqeBadOpc seat q cid s
  | .portDown p d3 => Sys2Proof.Machine.execPortDown p d3 s
  | .pcieFlr p => Sys2Proof.Machine.execPcieFlr p s
  | .pcieLinkUp p rate width => Sys2Proof.Machine.execPcieLinkUp p rate width s
  | .seatLostTimeout seat => Sys2Proof.Machine.execSeatLostTimeout seat s
  | .mbxNop => Sys2Proof.Machine.execMbxNop s
  | .seatOpen => Sys2Proof.Machine.execSeatOpen s
  | .seatClose => Sys2Proof.Machine.execSeatClose s
  | .seatReset => Sys2Proof.Machine.execSeatReset s
  | .seatResetDone seat => Sys2Proof.Machine.execSeatResetDone seat s
  | .seatShare => Sys2Proof.Machine.execSeatShare s
  | .seatBind => Sys2Proof.Machine.execSeatBind s
  | .seatBindDone seat => Sys2Proof.Machine.execSeatBindDone seat s
  | .seatLost => Sys2Proof.Machine.execSeatLost s
  | .queueSet => Sys2Proof.Machine.execQueueSet s
  | .queueDel => Sys2Proof.Machine.execQueueDel s
  | .ringSet => Sys2Proof.Machine.execRingSet s
  | .ringDel => Sys2Proof.Machine.execRingDel s
  | .grant => Sys2Proof.Machine.execGrant s
  | .revoke => Sys2Proof.Machine.execRevoke s
  | .seatInfo => Sys2Proof.Machine.execSeatInfo s
  | .mbxBadOp => Sys2Proof.Machine.execMbxBadOp s
  | .mbxCommandDone => Sys2Proof.Machine.execMbxCommandDone s
  | .pcieCompletionTimeout p e => Sys2Proof.Machine.execPcieCompletionTimeout p e s
  | .msixUnmask p v => Sys2Proof.Machine.execMsixUnmask p v s
  | .sqeDma seat q cid => Sys2Proof.Machine.execSqeDma seat q cid s
  | .dmaChunkStart e x host => Sys2Proof.Machine.execDmaChunkStart e x host s
  | .dmaReadCompletion e data => Sys2Proof.Machine.execDmaReadCompletion e data s
  | .dmaChunkComplete e => Sys2Proof.Machine.execDmaChunkComplete e s
  | .seatResetChunkDeadline seat => Sys2Proof.Machine.execSeatResetChunkDeadline seat s
  | .xlateSet => Sys2Proof.Machine.execXlateSet s
  | .xlateSetDone => Sys2Proof.Machine.execXlateSetDone s
  | .xlateInv => Sys2Proof.Machine.execXlateInv s
  | .xlateInvDone => Sys2Proof.Machine.execXlateInvDone s
  | .smuResumeRetry seat => Sys2Proof.Machine.execSmuResumeRetry seat s
  | .smuResumeAbort seat => Sys2Proof.Machine.execSmuResumeAbort seat s
  | .faultLogRead => Sys2Proof.Machine.execFaultLogRead s
  | .ethFrameRx p bytes fcsOk ts => Sys2Proof.Machine.execEthFrameRx p bytes fcsOk ts s
  | .egressTransmit p ts => Sys2Proof.Machine.execEgressTransmit p ts s
  | .tunnelSegmentRx t frame seg last data ts => Sys2Proof.Machine.execTunnelSegmentRx t frame seg last data ts s
  | .tunnelReassemblyTimeout t frame => Sys2Proof.Machine.execTunnelReassemblyTimeout t frame s
  | .ethLinkDown p => Sys2Proof.Machine.execEthLinkDown p s
  | .ethFlushDone p ready => Sys2Proof.Machine.execEthFlushDone p ready s
  | .ethLinkUp p => Sys2Proof.Machine.execEthLinkUp p s
  | .macAgeOut mac vid => Sys2Proof.Machine.execMacAgeOut mac vid s
  | .macAdd => Sys2Proof.Machine.execMacAdd s
  | .macDel => Sys2Proof.Machine.execMacDel s
  | .macLookup => Sys2Proof.Machine.execMacLookup s
  | .macFlushPort => Sys2Proof.Machine.execMacFlushPort s
  | .macFlushAll => Sys2Proof.Machine.execMacFlushAll s
  | .macRead => Sys2Proof.Machine.execMacRead s
  | .vlanApply => Sys2Proof.Machine.execVlanApply s
  | .vlanRead => Sys2Proof.Machine.execVlanRead s
  | .mtrAlloc => Sys2Proof.Machine.execMtrAlloc s
  | .mtrFree m => Sys2Proof.Machine.execMtrFree m s
  | .mtrWrite m => Sys2Proof.Machine.execMtrWrite m s
  | .mtrRead m => Sys2Proof.Machine.execMtrRead m s
  | .portTsArm p v => Sys2Proof.Machine.execPortTsArm p v s
  | .snicPoll seat rx desc buf host => Sys2Proof.Machine.execSnicPoll seat rx desc buf host s
  | .canFrameRx c f sof => Sys2Proof.Machine.execCanFrameRx c f sof s
  | .canTxStart c => Sys2Proof.Machine.execCanTxStart c s
  | .canTxDone c how => Sys2Proof.Machine.execCanTxDone c how s
  | .canBusError c kind tx heavy => Sys2Proof.Machine.execCanBusError c kind tx heavy s
  | .canBusoffRecovered c => Sys2Proof.Machine.execCanBusoffRecovered c s
  | .txdDominant c => Sys2Proof.Machine.execTxdDominant c s
  | .canResume c => Sys2Proof.Machine.execCanResume c s
  | .canWupDetected c => Sys2Proof.Machine.execCanWupDetected c s
  | .canWakeFrameMatch c f sof => Sys2Proof.Machine.execCanWakeFrameMatch c f sof s
  | .canWakeFrameError c sof => Sys2Proof.Machine.execCanWakeFrameError c sof s
  | .canConfirmWindowExpiry c => Sys2Proof.Machine.execCanConfirmWindowExpiry c s
  | .awakeTimerExpiry => Sys2Proof.Machine.execAwakeTimerExpiry s
  | .nsConfirm => Sys2Proof.Machine.execNsConfirm s
  | .serTxdWrite u v => Sys2Proof.Machine.execSerTxdWrite u v s
  | .serFrameTxStart u => Sys2Proof.Machine.execSerFrameTxStart u s
  | .serFrameTxDone u => Sys2Proof.Machine.execSerFrameTxDone u s
  | .serCharRx u ch perr ferr ns => Sys2Proof.Machine.execSerCharRx u ch perr ferr ns s
  | .serIdleGap u => Sys2Proof.Machine.execSerIdleGap u s
  | .serRxdRead u => Sys2Proof.Machine.execSerRxdRead u s
  | .serRxfrRead u => Sys2Proof.Machine.execSerRxfrRead u s
  | .fieldDownstreamLaunch ready slack => Sys2Proof.Machine.execFieldDownstreamLaunch ready slack s
  | .fieldDownstreamRx good => Sys2Proof.Machine.execFieldDownstreamRx good s
  | .fieldUpstreamLaunch m => Sys2Proof.Machine.execFieldUpstreamLaunch m s
  | .fieldUpstreamRx => Sys2Proof.Machine.execFieldUpstreamRx s
  | .fieldUpstreamMissing crcBad => Sys2Proof.Machine.execFieldUpstreamMissing crcBad s
  | .barrierFail => Sys2Proof.Machine.execBarrierFail s
  | .fieldWatchdogExpiry => Sys2Proof.Machine.execFieldWatchdogExpiry s
  | .flResume => Sys2Proof.Machine.execFlResume s
  | .flForce => Sys2Proof.Machine.execFlForce s
  | .flFrst => Sys2Proof.Machine.execFlFrst s
  | .railUndervoltage r => Sys2Proof.Machine.execRailUndervoltage r s
  | .railRecovered r => Sys2Proof.Machine.execRailRecovered r s
  | .outputStaggerSlot n => Sys2Proof.Machine.execOutputStaggerSlot n s
  | .fv24Loss => Sys2Proof.Machine.execFv24Loss s
  | .fv24Return => Sys2Proof.Machine.execFv24Return s
  | .diEdgeAccepted n raw ns => Sys2Proof.Machine.execDiEdgeAccepted n raw ns s
  | .doOvertemp n => Sys2Proof.Machine.execDoOvertemp n s
  | .doAutoRestart n => Sys2Proof.Machine.execDoAutoRestart n s
  | .doSetWrite seat v => Sys2Proof.Machine.execDoSetWrite seat v s
  | .doClrWrite seat v => Sys2Proof.Machine.execDoClrWrite seat v s
  | .doFltClear seat v => Sys2Proof.Machine.execDoFltClear seat v s
  | .lsCmdWrite n seat on => Sys2Proof.Machine.execLsCmdWrite n seat on s
  | .lsClr n seat => Sys2Proof.Machine.execLsClr n seat s
  | .lsLimiting n on => Sys2Proof.Machine.execLsLimiting n on s
  | .lsOvercurrent n => Sys2Proof.Machine.execLsOvercurrent n s
  | .lsShort n => Sys2Proof.Machine.execLsShort n s
  | .lsRetry n => Sys2Proof.Machine.execLsRetry n s
  | .lsInrushEnd n => Sys2Proof.Machine.execLsInrushEnd n s
  | .lsRleftReload n => Sys2Proof.Machine.execLsRleftReload n s
  | .lsThermal n mj => Sys2Proof.Machine.execLsThermal n mj s
  | .lsDiagCheck n openLoad toSupply backfeed => Sys2Proof.Machine.execLsDiagCheck n openLoad toSupply backfeed s
  | .lsumUpdate mean => Sys2Proof.Machine.execLsumUpdate mean s
  | .ztRelease v => Sys2Proof.Machine.execZtRelease v s
  | .ztTest v => Sys2Proof.Machine.execZtTest v s
  | .keyNop slot any pend => Sys2Proof.Machine.execKeyNop slot any pend s
  | .keyGenerate slot any pend => Sys2Proof.Machine.execKeyGenerate slot any pend s
  | .keyDerive slot any pend => Sys2Proof.Machine.execKeyDerive slot any pend s
  | .keyLoad slot any pend => Sys2Proof.Machine.execKeyLoad slot any pend s
  | .keyExport slot any pend => Sys2Proof.Machine.execKeyExport slot any pend s
  | .keyCommit slot any pend => Sys2Proof.Machine.execKeyCommit slot any pend s
  | .keyDiscard slot any pend => Sys2Proof.Machine.execKeyDiscard slot any pend s
  | .keyInvalidate slot any pend => Sys2Proof.Machine.execKeyInvalidate slot any pend s
  | .keyRestore slot any pend => Sys2Proof.Machine.execKeyRestore slot any pend s
  | .keyLoadPub slot any pend => Sys2Proof.Machine.execKeyLoadPub slot any pend s
  | .keyReservedOp slot op => Sys2Proof.Machine.execKeyReservedOp slot op s
  | .keyCmdComplete ok => Sys2Proof.Machine.execKeyCmdComplete ok s
  | .glazeCycle bad => Sys2Proof.Machine.execGlazeCycle bad s
  | .crySha512 => Sys2Proof.Machine.execCrySha512 s
  | .cryHmac512 => Sys2Proof.Machine.execCryHmac512 s
  | .cryGcmEnc => Sys2Proof.Machine.execCryGcmEnc s
  | .cryGcmDec => Sys2Proof.Machine.execCryGcmDec s
  | .cryKw => Sys2Proof.Machine.execCryKw s
  | .cryKwu => Sys2Proof.Machine.execCryKwu s
  | .cryPssSign => Sys2Proof.Machine.execCryPssSign s
  | .cryPssVerify => Sys2Proof.Machine.execCryPssVerify s
  | .cryBadOp => Sys2Proof.Machine.execCryBadOp s
  | .cryJobDone => Sys2Proof.Machine.execCryJobDone s
  | .attNop => Sys2Proof.Machine.execAttNop s
  | .attReport => Sys2Proof.Machine.execAttReport s
  | .attReportDone => Sys2Proof.Machine.execAttReportDone s
  | .attCert => Sys2Proof.Machine.execAttCert s
  | .attExtend => Sys2Proof.Machine.execAttExtend s
  | .authChallenge => Sys2Proof.Machine.execAuthChallenge s
  | .authInjArm tok => Sys2Proof.Machine.execAuthInjArm tok s
  | .authInjDisarm tok => Sys2Proof.Machine.execAuthInjDisarm tok s
  | .authDebugUnlock tok => Sys2Proof.Machine.execAuthDebugUnlock tok s
  | .authDebugLock tok => Sys2Proof.Machine.execAuthDebugLock tok s
  | .authSvnCommit tok ok => Sys2Proof.Machine.execAuthSvnCommit tok ok s
  | .authOwnerSet tok => Sys2Proof.Machine.execAuthOwnerSet tok s
  | .authNonceExpiry => Sys2Proof.Machine.execAuthNonceExpiry s
  | .authThrottleExpiry => Sys2Proof.Machine.execAuthThrottleExpiry s
  | .cvuStart u => Sys2Proof.Machine.execCvuStart u s
  | .cvuDin1 u v => Sys2Proof.Machine.execCvuDin1 u v s
  | .cvuDin2 u v => Sys2Proof.Machine.execCvuDin2 u v s
  | .cvuDin4 u v => Sys2Proof.Machine.execCvuDin4 u v s
  | .cvuEnd u => Sys2Proof.Machine.execCvuEnd u s
  | .cvuRelease u => Sys2Proof.Machine.execCvuRelease u s
  | .injArmWrite p v => Sys2Proof.Machine.execInjArmWrite p v s
  | .injArmExpiry => Sys2Proof.Machine.execInjArmExpiry s
  | .injLogRead => Sys2Proof.Machine.execInjLogRead s
  | .stallDetected p sub => Sys2Proof.Machine.execStallDetected p sub s
  | .powerOn => Sys2Proof.Machine.execPowerOn s
  | .supplyLoss bit => Sys2Proof.Machine.execSupplyLoss bit s
  | .vbkpLoss => Sys2Proof.Machine.execVbkpLoss s
  | .resetNLow => Sys2Proof.Machine.execResetNLow s
  | .rstDevrst v => Sys2Proof.Machine.execRstDevrst v s
  | .rstMgmtrst v => Sys2Proof.Machine.execRstMgmtrst v s
  | .domainDClear => Sys2Proof.Machine.execDomainDClear s
  | .domainDRelease straps fitted life readBad => Sys2Proof.Machine.execDomainDRelease straps fitted life readBad s
  | .bootComplete => Sys2Proof.Machine.execBootComplete s
  | .bootTimerExpiry => Sys2Proof.Machine.execBootTimerExpiry s
  | .bootHashFail => Sys2Proof.Machine.execBootHashFail s
  | .mgmtWatchdogExpiry => Sys2Proof.Machine.execMgmtWatchdogExpiry s
  | .watchdogReset => Sys2Proof.Machine.execWatchdogReset s
  | .firmwareReset => Sys2Proof.Machine.execFirmwareReset s
  | .backupRequest v => Sys2Proof.Machine.execBackupRequest v s
  | .backupWakeN => Sys2Proof.Machine.execBackupWakeN s
  | .backupTioWake => Sys2Proof.Machine.execBackupTioWake s
  | .dozeEntry => Sys2Proof.Machine.execDozeEntry s
  | .dozeExit => Sys2Proof.Machine.execDozeExit s
  | .featherEntry => Sys2Proof.Machine.execFeatherEntry s
  | .featherCheckWindow => Sys2Proof.Machine.execFeatherCheckWindow s
  | .featherExit => Sys2Proof.Machine.execFeatherExit s
  | .easyAnnounce => Sys2Proof.Machine.execEasyAnnounce s
  | .recInfo => Sys2Proof.Machine.execRecInfo s
  | .recErase => Sys2Proof.Machine.execRecErase s
  | .recWrite data => Sys2Proof.Machine.execRecWrite data s
  | .recVerify readOk => Sys2Proof.Machine.execRecVerify readOk s
  | .recSelect readOk => Sys2Proof.Machine.execRecSelect readOk s
  | .recRestart readOk => Sys2Proof.Machine.execRecRestart readOk s
  | .measureSupplyInvalid d => Sys2Proof.Machine.execMeasureSupplyInvalid d s
  | .measureSupplyValid d => Sys2Proof.Machine.execMeasureSupplyValid d s
  | .jtagExtest => Sys2Proof.Machine.execJtagExtest s
  | .mgmtPairFail p => Sys2Proof.Machine.execMgmtPairFail p s
  | .dramScrub corr uncorr => Sys2Proof.Machine.execDramScrub corr uncorr s
  | .fatalError code => Sys2Proof.Machine.execFatalError code s
  | .journalCompactionStart j => Sys2Proof.Machine.execJournalCompactionStart j s
  | .journalCompactionEnd j => Sys2Proof.Machine.execJournalCompactionEnd j s
  | .lifeTotalsFlush => Sys2Proof.Machine.execLifeTotalsFlush s
  | .lifeHourlyFlush => Sys2Proof.Machine.execLifeHourlyFlush s
  | .lifeScrub corr uncorr => Sys2Proof.Machine.execLifeScrub corr uncorr s
  | .leapWrite => Sys2Proof.Machine.execLeapWrite s
  | .leapRead => Sys2Proof.Machine.execLeapRead s
  | .leapClear => Sys2Proof.Machine.execLeapClear s
  | .crumbAreaWrite addr v => Sys2Proof.Machine.execCrumbAreaWrite addr v s
  | .lifeWinRead => Sys2Proof.Machine.execLifeWinRead s

end Sys2Proof.Machine
end

