-- ==== Sys2Proof/Machine/QueueEngine.lean ====
section
/-!
DEFINITION. The queue engine (R404): completion and event entries, producer indexes and their MSI-X messages leave for the memory
of their seats, each through its translation. It works as the clock runs (log 67).
-/
namespace Sys2Proof.Machine

/-- A message of vector `v` goes out; a masked vector sets its pending bit (R385). -/
def State.msixGo (s : State) (i v : Nat) : State :=
  let p := s.seatPort i
  let m := s.msixEntry p (8 * i + v)
  if m.masked then s.setMsix p (8 * i + v) { m with pending := true } else s.send (.msix p (8 * i + v))

/-- `FLOG3` of a write (R409). -/
def QWrite.tag (w : QWrite) : Word := BitVec.ofNat 32 (w.idx + 16 * (if w.kind = 4 then 0 else w.kind))

/-- An earlier write that waits keeps this one back: one of the same queue, or the buffer of an entry before a completion. -/
def QWrite.behind (w : QWrite) (kept : List QWrite) : Bool :=
  w.kind != 0 && kept.any fun k => (k.kind == w.kind && k.idx == w.idx) || (k.kind == 4 && w.kind == 1)

/-- One write of seat `i` goes out, or is kept with those before it. Words of its tables that lie in host memory are free
values. -/
def State.queueStep (s : State) (i : Nat) (kept : List QWrite) (w : QWrite) : State × List QWrite :=
  if w.behind kept || w.stuck then (s, kept ++ [w])
  else if w.data.isEmpty then (w.vec.elim s fun v => s.msixGo i v, kept)
  else if !s.running 0x098 then (s, kept ++ [w])
  else
    let r := s.translateBy (Config.hostWord s.free) i w.addr true
    let s := r.1.useFree
    if r.2.code ≠ 0 then
      ((s.smuFault (flog0 i 2 0 r.2.code true) w.addr w.tag).putSeatBit Reg.SMU_SUSP_LO Reg.SMU_SUSP_HI i true,
        kept ++ [{ w with stuck := true }])
    else
      let s := s.xlatWrite i r.2 w.data
      (w.vec.elim s fun v => s.msixGo i v, kept)

/-- The writes of a seat that is ACTIVE, in their order (R359). -/
def State.queueSeat (s : State) (i : Nat) : State :=
  if !s.flows i then s
  else
    let l := (s.seat i).qout
    let s := s.modSeat i fun t => { t with qout := [] }
    let r := l.foldl (fun (x : State × List QWrite) w => x.1.queueStep i x.2 w) (s, [])
    r.1.modSeat i fun t => { t with qout := r.2 ++ t.qout }

/-- The seats with writes that wait. -/
def State.queueSeats (s : State) : List Nat := (s.seats.filter fun e => !e.2.qout.isEmpty).map fun e => e.1

/-- One period of the timing clock with no command: the counter advances, and the queue engine works. -/
def State.idle (s : State) : State :=
  let s := s.tick
  if s.halted then s else s.each s.queueSeats fun s i => s.queueSeat i

end Sys2Proof.Machine
end

