-- ==== Sys2Proof/Machine/Step.lean ====
section
/-!
DEFINITION. One step: the command at the front of the queue is executed; with an empty queue one period of the 250 MHz timing
clock passes (R277, R404; log 43, log 67).
-/
namespace Sys2Proof.Machine

/-- The queue of waiting commands is `l`. -/
def State.withPending (s : State) (l : List Instr) : State := { s with pending := l }

def step (s : State) : Host.Outcome State Fault Refusal :=
  match s.pending with
  | c :: rest => exec c (s.withPending rest)
  | [] => .next s.idle

/-- The command that a word of the opcode table spells, put at the front of the queue; the table gives no command any bits. -/
def State.withFetchWord (s : State) (nbits w : Nat) : State :=
  match decodeTableWord nbits w with
  | some c => s.withPending (c :: s.pending)
  | none => s

end Sys2Proof.Machine
end

