-- ==== Sys2Proof/WellFormed.lean ====
section
/-!
DEFINITION. Which terms are commands of the manual: every operand within what the manual gives the device. The meaning of any
other term is the fault `illFormed`.
-/
namespace Sys2Proof

open Machine in
/-- The operands of a command lie within their ranges. -/
def Instr.wellFormed : Instr → Bool
  | .pgRun p => wfPage p
  | .pgStop p => wfPage p
  | .pgSrst p => wfPage p
  | .pgStartDone p _ => wfPage p
  | .pgStopDone p => wfPage p
  | .startTimeout p => wfPage p
  | .stopTimeout p => wfPage p
  | .pgEvsetWrite p _ => wfPage p
  | .pgLockSet p => wfPage p
  | .registerWrite addr _ => decide (addr < 0x500000)
  | .measureFrameRx d _ samples => decide (d < 2) && wfSamples samples
  | .measureFrameDeadline d => decide (d < 2)
  | .tsConversionDone k rho => decide (k < 256) && decide (rho < 2 ^ 22)
  | .odrWrite k odr => decide (k < 256) && decide (odr < 65536)
  | .ovenRegulated d => decide (d < 2)
  | .ovenDegraded d => decide (d < 2)
  | .ovenFault d => decide (d < 2)
  | .refCrossCheck d _ _ diff _ => decide (d < 2) && decide (-(2 ^ 31) ≤ diff) && decide (diff < 2 ^ 31)
  | .senseOpenCheckStart k => decide (k < 256)
  | .senseOpenCheckDone k => decide (k < 256)
  | .calNop d => wfDie d
  | .calConnect d => wfDie d
  | .calConnectSettled d => wfDie d
  | .calMeasure d => wfDie d
  | .calMeasureDone d => wfDie d
  | .calRelease d => wfDie d
  | .calRead d => wfDie d
  | .calCommit d => wfDie d
  | .calRestoreFactory d => wfDie d
  | .calJournalDone d _ => wfDie d
  | .calReadFactory d => wfDie d
  | .calReservedOp d op => wfDie d && decide (8 ≤ op) && decide (op < 16)
  | .accSelGo k => decide (k < 256)
  | .chNop k seat => wfChan k seat
  | .chArm k seat => wfChan k seat
  | .chStart k seat => wfChan k seat
  | .chPause k seat => wfChan k seat
  | .chResume k seat => wfChan k seat
  | .chStop k seat => wfChan k seat
  | .chSafe k seat => wfChan k seat
  | .chClear k seat => wfChan k seat
  | .chHold k seat => wfChan k seat
  | .chReservedOp k seat op => wfChan k seat && decide (9 ≤ op) && decide (op < 16)
  | .rampToIdle k => decide (k < 256)
  | .progNop slot => wfSlot slot
  | .progDefine slot => wfSlot slot
  | .progUndefine slot => wfSlot slot
  | .progOpen slot => wfSlot slot
  | .progWrite slot => wfSlot slot
  | .progRead slot _ => wfSlot slot
  | .progSeal slot => wfSlot slot
  | .progInfo slot => wfSlot slot
  | .progReservedOp slot op => wfSlot slot && decide (8 ≤ op) && decide (op < 16)
  | .eisTableNop t => decide (t < 16)
  | .eisTableOpen t => decide (t < 16)
  | .eisTableWrite t => decide (t < 16)
  | .eisTableRead t => decide (t < 16)
  | .eisTableSeal t => decide (t < 16)
  | .eisTableClear t => decide (t < 16)
  | .eisTableReservedOp t op => decide (t < 16) && decide (6 ≤ op) && decide (op < 16)
  | .eisPointResult k => decide (k < 256)
  | .restTrendWake k => decide (k < 256)
  | .trendConverterPowerUp d => decide (d < 2)
  | .crewNop e => wfEntry e
  | .crewJoin e => wfEntry e
  | .crewSetmask e => wfEntry e
  | .crewSeal e => wfEntry e
  | .crewSealAck e _ => wfEntry e
  | .crewSealTimeout e => wfEntry e
  | .crewOpen e => wfEntry e
  | .crewLeave e => wfEntry e
  | .crewTrans e => wfEntry e
  | .crewReduce e => wfEntry e
  | .crewGrade e => wfEntry e
  | .crewInfo e => wfEntry e
  | .crewReservedOp e op => wfEntry e && decide (10 ≤ op) && decide (op < 16)
  | .crewHeartbeatRx crew => decide (crew < 4096)
  | .coordHeartbeatTimeout e => wfEntry e
  | .crewArrivalRx crew dev _ _ _ => decide (crew < 4096) && decide (dev < 512)
  | .crewReleaseRx crew _ _ => decide (crew < 4096)
  | .crewTransRx crew op _ => decide (crew < 4096) && transOp op
  | .reductionMark c => decide (c < 8)
  | .reductionContribRx c dev _ => decide (c < 8) && decide (dev < 512)
  | .reductionDeadline c => decide (c < 8)
  | .reductionResultRx c _ => decide (c < 8)
  | .reductionRankRx c _ => decide (c < 8)
  | .ringConsumerWrite i r v => decide (i < 64) && decide (r < 4) && decide (v < 2 ^ 32)
  | .crewRegistrationRx crew dev _ => decide (crew < 4096) && decide (dev < 512)
  | .stageFrameLaunch n _ slack => wfLink n && decide (slack < 65536)
  | .telemetryRx n _ bytes _ => wfLink n && decide (bytes.length ≤ 84)
  | .telemetryDeadline n => wfLink n
  | .stageRxSignalLoss n => wfLink n
  | .stageLostTimeout n => wfLink n
  | .descReread n => wfLink n
  | .mopRetry n => wfLink n
  | .mreqWrite n _ => wfLink n
  | .serdesUnlock p => (decide (0x040 ≤ p) && decide (p < 0x050)) || (decide (0x060 ≤ p) && decide (p < 0x068))
  | .refEdgeLoss r => decide (r < 2)
  | .refFreqCheck _ worse => decide (worse < 2)
  | .refReturn r => decide (r < 2)
  | .schNop slot seat => wfSch slot seat
  | .schAlloc slot seat => wfSch slot seat
  | .schArm slot seat => wfSch slot seat
  | .schDisarm slot seat => wfSch slot seat
  | .schFree slot seat => wfSch slot seat
  | .schReservedOp slot seat op => wfSch slot seat && decide (5 ≤ op) && decide (op < 16)
  | .slotFire slot _ _ _ => decide (slot < 32)
  | .tioPulseEnd slot => decide (slot < 32)
  | .catNop u seat => wfCat u seat
  | .catAlloc u seat => wfCat u seat
  | .catArm u seat => wfCat u seat
  | .catDisarm u seat => wfCat u seat
  | .catFree u seat => wfCat u seat
  | .catFifoRead u => decide (u < 16)
  | .bruilFlitRx n bytes => wfBl n && bytes.length == 64
  | .bruilAckTimeout n => wfBl n
  | .bruilSignalLoss n => wfBl n
  | .departRx n => wfBl n
  | .bruilIdentRx n _ => wfBl n
  | .bruilFailedRetrain n => wfBl n
  | .bruilExclRecheck n => wfBl n
  | .linkStateAnnounceRx dev _ nbrs => decide (dev < 512) && nbrs.all fun d => decide (d < 512)
  | .bruilPacketRx n p => wfBl n && decide (p.src < 512) && decide (p.dst < 512) && decide (p.cls < 7) && decide (p.eseq < 65536)
  | .seqGapTimeout src cls => decide (src < 512) && decide (cls < 7)
  | .perrRx dev init _ _ => decide (dev < 512) && decide (init < 65)
  | .routeReturn dst => decide (dst < 512)
  | .fenceComplete init => decide (init < 65)
  | .fenceTimeout init => decide (init < 65)
  | .timeFlitRx n _ _ _ _ depth => wfBl n && decide (depth < 16)
  | .sleepVoteRx dev _ => decide (dev < 512)
  | .sleepAbortRx dev => decide (dev < 512)
  | .wakeRequest src => decide (1 ≤ src) && decide (src ≤ 8)
  | .wakeBeaconRx n dev => wfBl n && decide (dev < 512)
  | .windowRead port a size => wfWin port a size
  | .windowWrite port a data => wfWin port a data.length
  | .windowCompletionRx w _ code _ => decide (w < 64) && (decide (code < 7) || (decide (16 ≤ code) && decide (code ≤ 21)))
  | .windowTimeout w _ => decide (w < 64)
  | .inboundRequest src init tag r => wfInbound src init tag r && r.kind == 0 && decide (1 ≤ r.size) && (!r.write || r.data.length == r.size)
  | .wbLock w => decide (w < 64)
  | .wbUnlock w => decide (w < 64)
  | .lockRequestRx src init tag r => wfInbound src init tag r && (r.kind == 1 || r.kind == 2)
  | .lockHoldTimeout space => decide (space < 2)
  | .sqDoorbell i q v => wfDb i q v
  | .cqDoorbell i q v => wfDb i q v
  | .eqDoorbell i v => wfDb i 0 v
  | .sqEntryFetch i q e _ => decide (i < 64) && decide (q < 8) && e.length == 64
  | .sqeNop i q cid => wfSqe i q cid
  | .sqeChanCmd i q cid => wfSqe i q cid
  | .sqeProg i q cid buf => wfSqe i q cid && buf.length == 64
  | .sqeStepMsg i q cid => wfSqe i q cid
  | .sqeMsgTx i q cid data => wfSqe i q cid && data.length == 64
  | .sqeFence i q cid => wfSqe i q cid
  | .sqeWinLock i q cid => wfSqe i q cid
  | .sqeRegRd i q cid => wfSqe i q cid
  | .sqeRegWr i q cid => wfSqe i q cid
  | .sqeBadOpc i q cid => wfSqe i q cid
  | .portDown p _ => decide (p < 2)
  | .pcieFlr p => decide (p < 2)
  | .pcieLinkUp p rate width => decide (p < 2) && decide (1 ≤ rate) && decide (rate ≤ 4) && decide (1 ≤ width) && decide (width < 16)
  | .seatLostTimeout i => decide (i < 64)
  | .seatResetDone i => decide (i < 64)
  | .seatBindDone i => decide (i < 64)
  | .pcieCompletionTimeout p e => decide (p < 2) && e.all fun e => decide (e < 8)
  | .msixUnmask p v => decide (p < 2) && decide (v < 512)
  | .sqeDma i q cid => wfSqe i q cid
  | .dmaChunkStart e _ _ => decide (e < 8)
  | .dmaReadCompletion e data => decide (e < 8) && (data.all fun d => decide (d.length ≤ 256))
  | .dmaChunkComplete e => decide (e < 8)
  | .seatResetChunkDeadline i => decide (i < 64)
  | .smuResumeRetry i => decide (i < 64)
  | .smuResumeAbort i => decide (i < 64)
  | .ethFrameRx p bytes _ _ => (decide (p < 12) || p == 20) && decide (14 ≤ bytes.length)
  | .egressTransmit p _ => decide (p < 22)
  | .tunnelSegmentRx t _ _ _ data _ => decide (t < 8) && decide (data.length ≤ 256)
  | .tunnelReassemblyTimeout t _ => decide (t < 8)
  | .ethLinkDown p => wfEth p
  | .ethFlushDone p _ => wfEth p
  | .ethLinkUp p => wfEth p
  | .mtrFree m => decide (m < 4096)
  | .mtrWrite m => decide (m < 4096)
  | .mtrRead m => decide (m < 4096)
  | .portTsArm p _ => wfEth p
  | .snicPoll i _ desc _ _ => decide (i < 64) && desc.length == 16
  | .canFrameRx c f _ => wfCan c && wfCanFrame f
  | .canTxStart c => wfCan c
  | .canTxDone c how => wfCan c && decide (how < 3)
  | .canBusError c kind _ _ => wfCan c && decide (kind < 4)
  | .canBusoffRecovered c => wfCan c
  | .txdDominant c => wfCan c
  | .canResume c => wfCan c
  | .canWupDetected c => wfCan c
  | .canWakeFrameMatch c f _ => wfCan c && wfCanFrame f
  | .canWakeFrameError c _ => wfCan c
  | .canConfirmWindowExpiry c => wfCan c
  | .serTxdWrite u _ => wfSer u
  | .serFrameTxStart u => wfSer u
  | .serFrameTxDone u => wfSer u
  | .serCharRx u ch _ _ _ => wfSer u && decide (ch < 512)
  | .serIdleGap u => wfSer u
  | .serRxdRead u => wfSer u
  | .serRxfrRead u => wfSer u
  | .railUndervoltage r => decide (r < 3)
  | .railRecovered r => decide (r < 3)
  | .outputStaggerSlot n => wfLs n
  | .diEdgeAccepted n _ _ => decide (n < 32)
  | .doOvertemp n => wfLs n
  | .doAutoRestart n => wfLs n
  | .doSetWrite seat _ => decide (seat < 64)
  | .doClrWrite seat _ => decide (seat < 64)
  | .doFltClear seat _ => decide (seat < 64)
  | .lsCmdWrite n seat _ => wfLs n && decide (seat < 64)
  | .lsClr n seat => wfLs n && decide (seat < 64)
  | .lsLimiting n _ => wfLs n
  | .lsOvercurrent n => wfLs n
  | .lsShort n => wfLs n
  | .lsRetry n => wfLs n
  | .lsInrushEnd n => wfLs n
  | .lsRleftReload n => wfLs n
  | .lsThermal n _ => wfLs n
  | .lsDiagCheck n _ _ _ => wfLs n
  | .keyNop slot _ _ => wfKey slot
  | .keyGenerate slot _ _ => wfKey slot
  | .keyDerive slot _ _ => wfKey slot
  | .keyLoad slot _ _ => wfKey slot
  | .keyExport slot _ _ => wfKey slot
  | .keyCommit slot _ _ => wfKey slot
  | .keyDiscard slot _ _ => wfKey slot
  | .keyInvalidate slot _ _ => wfKey slot
  | .keyRestore slot _ _ => wfKey slot
  | .keyLoadPub slot _ _ => wfKey slot
  | .keyReservedOp slot op => wfKey slot && decide (10 ≤ op) && decide (op < 16)
  | .glazeCycle bad => bad.all wfKey
  | .cvuStart u => wfCvu u
  | .cvuDin1 u _ => wfCvu u
  | .cvuDin2 u _ => wfCvu u
  | .cvuDin4 u _ => wfCvu u
  | .cvuEnd u => wfCvu u
  | .cvuRelease u => wfCvu u
  | .injArmWrite p _ => decide (p < 256)
  | .stallDetected p sub => wfPage p && decide (sub < 256)
  | .supplyLoss bit => decide (bit < 5)
  | .domainDRelease straps fitted life readBad => decide (straps < 512) && decide (2 ≤ fitted) && decide (fitted ≤ 16) && decide (life < 3) && readBad.all fun b => decide (b < 2)
  | .measureSupplyInvalid d => decide (d < 2)
  | .measureSupplyValid d => decide (d < 2)
  | .mgmtPairFail p => decide (p < 2)
  | .journalCompactionStart j => decide (j < 2)
  | .journalCompactionEnd j => decide (j < 2)
  | .crumbAreaWrite addr _ => addr == Reg.LIFE_CRUMB_BASE_LO || addr == Reg.LIFE_CRUMB_BASE_HI || addr == Reg.LIFE_CRUMB_SIZE
  | .badAccess | .governorWindow | .slackClr _ | .baseStrobe | .strokeBoundary _ | .strokeDeadline | .gainCommit _
  | .accLatch | .progOpComplete | .eisTableOpComplete | .crewMark | .coordHeartbeatSend | .tbIncLoWrite _
  | .tbIncHiWrite _ | .tbSecLoRead | .tbStepGo _ | .stepTick | .tbOfsInWrite _ | .tioInEdge _ | .servoHoldoverTimeout
  | .pllUnlock | .bkAlarm | .wholeSecond | .perrAckSend | .rtFence _ | .sleepVoteWrite _ | .sleepAgreeRx _
  | .sleepInstant | .slpWakeWrite | .rerrLogRead | .sigTxWrite _ | .messageRelease | .windowCommit _
  | .windowCommitApply _ | .inboundCommit _ | .inboundCommitApply _ | .messageMatch _ | .mbTableNop | .mbTableWrite
  | .mbTableRead | .mbTableReservedOp | .werrLogRead | .arbRoundStart | .mbxNop | .seatOpen | .seatClose | .seatReset
  | .seatShare | .seatBind | .seatLost | .queueSet | .queueDel | .ringSet | .ringDel | .grant | .revoke | .seatInfo
  | .mbxBadOp | .mbxCommandDone | .xlateSet | .xlateSetDone | .xlateInv | .xlateInvDone | .faultLogRead
  | .macAgeOut _ _ | .macAdd | .macDel | .macLookup | .macFlushPort | .macFlushAll | .macRead | .vlanApply
  | .vlanRead | .mtrAlloc | .awakeTimerExpiry | .nsConfirm | .fieldDownstreamLaunch _ _ | .fieldDownstreamRx _
  | .fieldUpstreamLaunch _ | .fieldUpstreamRx | .fieldUpstreamMissing _ | .barrierFail | .fieldWatchdogExpiry
  | .flResume | .flForce | .flFrst | .fv24Loss | .fv24Return | .lsumUpdate _ | .ztRelease _ | .ztTest _
  | .keyCmdComplete _ | .crySha512 | .cryHmac512 | .cryGcmEnc | .cryGcmDec | .cryKw | .cryKwu | .cryPssSign
  | .cryPssVerify | .cryBadOp | .cryJobDone | .attNop | .attReport | .attReportDone | .attCert | .attExtend
  | .authChallenge | .authInjArm _ | .authInjDisarm _ | .authDebugUnlock _ | .authDebugLock _ | .authSvnCommit _ _
  | .authOwnerSet _ | .authNonceExpiry | .authThrottleExpiry | .injArmExpiry | .injLogRead | .powerOn | .vbkpLoss
  | .resetNLow | .rstDevrst _ | .rstMgmtrst _ | .domainDClear | .bootComplete | .bootTimerExpiry | .bootHashFail
  | .mgmtWatchdogExpiry | .watchdogReset | .firmwareReset | .backupRequest _ | .backupWakeN | .backupTioWake
  | .dozeEntry | .dozeExit | .featherEntry | .featherCheckWindow | .featherExit | .easyAnnounce | .recInfo
  | .recErase | .recWrite _ | .recVerify _ | .recSelect _ | .recRestart _ | .jtagExtest | .dramScrub _ _
  | .fatalError _ | .lifeTotalsFlush | .lifeHourlyFlush | .lifeScrub _ _ | .leapWrite | .leapRead | .leapClear
  | .lifeWinRead => true

end Sys2Proof
end

