-- ==== Sys2Proof/Safety.lean ====
section
/-!
DEFINITION. What the statements say of states: which states are ready to go on without a fault, which hold their tables in the
canonical form, and which registers two states share.
-/
namespace Sys2Proof.Machine

/-- Every command that waits is one of the manual's. -/
def State.ready (s : State) : Bool := s.pending.all Instr.wellFormed

/-- The register table and device DRAM are in their canonical form: keys strictly rising, no DRAM byte listed that an unlisted
address reads as. -/
def State.canonical (s : State) : Bool := Sparse.rising s.regs && Memory.wf s.dma.dram

/-- No register outside `l` differs. -/
def State.keepsRegs (s t : State) (l : List Nat) : Prop := ∀ a, a ∉ l → t.rd a = s.rd a

/-- No byte of device DRAM outside `n` bytes from `addr` on differs. -/
def State.keepsDram (s t : State) (addr n : Nat) : Prop :=
  ∀ a, (a < addr ∨ addr + n ≤ a) → Memory.byte t.dma.dram a = Memory.byte s.dma.dram a

/-- A command answers a next state, and `P` holds of it. -/
def Answers (o : Answer) (P : State → Prop) : Prop := ∃ t, o = .next t ∧ P t

end Sys2Proof.Machine
end

