-- ==== Sys2Proof/Certificates/Slice0/Obligations.lean ====
section
/-!
DEFINITION. The statements for the provers.
-/
open Sys2Proof Sys2Proof.Machine

/-! ### The queue, reset, and the page life cycle -/

/-- The command at the front of the queue is executed on the state with the rest of the queue. With an empty queue the block
takes one tick of the timing clock and its queue engine writes: the model's choice (logs 43, 67). -/
def Obligations.StepExecutesTheFrontCommand : Prop :=
  ∀ (s : State) (c : Instr) (rest : List Instr),
    (s.pending = c :: rest → step s = exec c (s.withPending rest)) ∧ (s.pending = [] → step s = .next s.idle)

/-- A page with a life cycle is STOPPED after reset, the other present pages read RUNNING, an absent page reads 0; nothing has
been sent, no command waits, and no event is raised, enabled or counted. That nothing has been sent and no command waits is the
model's own (logs 4, 43). -/
def Obligations.ResetLeavesPagesStopped : Prop :=
  State.reset.pending = [] ∧ State.reset.out = [] ∧
    ∀ p, p < 256 →
      State.reset.pg p = (if State.reset.has p then (if pageLife p then 1 else 3) else 0) ∧
      State.reset.rd (Reg.PG_EVRAW p) = 0 ∧ State.reset.rd (Reg.PG_EVMASK p) = 0 ∧ State.reset.rd (Reg.PG_FCNT p) = 0

/-- RUN, STOP and SRST by the state of a page whose life cycle the core die holds, SRST with every register of domain K at its reset value; a page without a life cycle raises
CMD_IGNORED for each, and an absent page ignores it. -/
def Obligations.PageCommandsFollowTheTable : Prop :=
  (
    ∀ (s : State) (p : Nat), p < 256 → s.has p = true → pageLife p = true → fieldPage p = false → s.power.held = false →
      s.easyHeld p = false →
      (s.pg p = 1 → Answers (exec (.pgRun p) s) fun t => t.pg p = 2 ∧ s.keepsRegs t [Reg.PG_STAT p]) ∧
      (s.pg p ≠ 1 → exec (.pgRun p) s = .next (s.raise p 1)) ∧
      (s.pg p = 3 → exec (.pgStop p) s = .next ((s.setPg p 4).pageLeave p)) ∧
      (s.pg p = 5 → Answers (exec (.pgStop p) s) fun t => t.pg p = 4 ∧ s.keepsRegs t [Reg.PG_STAT p]) ∧
      (s.pg p = 2 → p ∉ s.stopAsked → Answers (exec (.pgStop p) s) fun t => t.pg p = 2 ∧ p ∈ t.stopAsked ∧ t.regs = s.regs) ∧
      (s.pg p = 1 ∨ s.pg p = 4 → exec (.pgStop p) s = .next (s.raise p 1)) ∧
      (s.pg p = 1 ∨ s.pg p = 5 → Answers (exec (.pgSrst p) s) fun t => t.pg p = 1 ∧ t.rd (Reg.PG_EVRAW p) = 4 ∧
        ∀ a, a / 0x1000 = p → domOf a = some .k → a ≠ Reg.PG_EVRAW p → t.rd a = resetValue s.part s.straps a) ∧
      (s.pg p = 2 ∨ s.pg p = 3 ∨ s.pg p = 4 → exec (.pgSrst p) s = .next (s.raise p 1))) ∧
  (
    ∀ (s : State) (p : Nat), p < 256 → s.power.held = false → s.easyHeld p = false →
      (s.has p = true → pageLife p = false →
        (∀ c ∈ [Instr.pgRun p, Instr.pgStop p, Instr.pgSrst p], exec c s = .next (s.raise p 1)) ∧
        (s.raise p 1).bit (Reg.PG_EVRAW p) 1 = true ∧ (s.raise p 1).pg p = s.pg p) ∧
      (s.has p = false → fieldPage p = false → ∀ c ∈ [Instr.pgRun p, Instr.pgStop p, Instr.pgSrst p], exec c s = .next s))

/-- STARTING and STOPPING end: a failed start returns to STOPPED with START_FAIL, a good one that was told to stop goes to STOPPING, and a page that exceeds its bound enters
FAULTED. -/
def Obligations.PageStartsAndStopsEnd : Prop :=
  ∀ (s : State) (p sub : Nat) (env : Bool), p < 256 → sub < 256 → s.has p = true → pageLife p = true → fieldPage p = false →
    s.power.held = false →
    (s.pg p = 2 → exec (.pgStartDone p env) s = .next (s.startDone p env).regWrFollow) ∧
    (s.pg p = 2 → checksStore p = false → s.startOk p = false →
      (s.startDone p env).pg p = 1 ∧ (s.startDone p env).bit (Reg.PG_EVRAW p) 3 = true ∧
      (s.startDone p env).get (Reg.PG_FAULT p) 15 0 = (if s.get (Reg.PG_FAULT p) 15 0 = 0 then 3 else s.get (Reg.PG_FAULT p) 15 0) ∧
      (s.startDone p env).rd (Reg.PG_FCNT p) = s.rd (Reg.PG_FCNT p)) ∧
    (s.pg p = 2 → checksStore p = false → s.startOk p = true → p ∈ s.stopAsked → (s.startDone p env).pg p = 4) ∧
    (s.pg p = 4 → s.stopHeld p = false →
      exec (.pgStopDone p) s = .next ((((s.pageStopped p).setPg p 1).raise p 2).regWrFollow)) ∧
    (s.pg p = 2 → Answers (exec (.startTimeout p) s) fun t => ∃ u : State, t = u.regWrFollow ∧ u.pg p = 5 ∧
      u.bit (Reg.PG_EVRAW p) 4 = true ∧
      u.get (Reg.PG_FAULT p) 15 0 =
        (if s.get (Reg.PG_FAULT p) 15 0 = 0 ∨ s.get (Reg.PG_FAULT p) 15 0 = 3 then 2 else s.get (Reg.PG_FAULT p) 15 0) ∧
      (u.rd (Reg.PG_FCNT p)).toNat = min ((s.rd (Reg.PG_FCNT p)).toNat + 1) (2 ^ 32 - 1)) ∧
    (s.pg p = 4 → exec (.stopTimeout p) s = .next ((s.pageFall p 1).regWrFollow)) ∧
    (p ≠ 0x030 → p ≠ 0 → s.bit (Reg.PG_INJARM p) 0 = false → 2 ≤ s.pg p → s.pg p ≤ 4 →
      exec (.stallDetected p sub) s = .next (s.pageFall p 4))

/-- `PG_EVSET` raises the bits of the page's events, `PG_LOCK` sets the lock, an access of another size or alignment raises
BAD_ACCESS, and `PWR.SLACK_CLR` restarts the trackers it names and clears the peak to the present code. That PG_EVSET sets only
defined bits is the model's reading (log 22). -/
def Obligations.HeaderAndSlackWrites : Prop :=
  (
    ∀ (s : State) (p a : Nat) (v : Word), p < 256 → s.power.held = false →
      (s.has p = true → p ≠ 0x0C0 → fieldPage p = false → Answers (exec (.pgEvsetWrite p v) s) fun t =>
        t.rd (Reg.PG_EVRAW p) = (s.rd (Reg.PG_EVRAW p) ||| v &&& eventMask p) ∧ t.rd (Reg.PG_EVMASK p) = s.rd (Reg.PG_EVMASK p)) ∧
      (s.has p = true → Answers (exec (.pgLockSet p) s) fun t =>
        t.bit (Reg.PG_LOCK p) 0 = true ∧ s.keepsRegs t [Reg.PG_LOCK p]) ∧
      (s.has p = false → Answers (exec (.pgEvsetWrite p v) s) fun t => t = s) ∧
      (Answers (exec .badAccess s) fun t => t.bit (Reg.PG_EVRAW 0) 8 = true) ∧
      (a < 0x100000 → a % 4 ≠ 0 → exec (.registerWrite a v) s = .next (s.raise 0 8)) ∧
      (a < 0x500000 → a % 4 = 0 → s.isReg a = false → exec (.registerWrite a v) s = .next s)) ∧
  (
    ∀ (s : State) (v : Word), Answers (exec (.slackClr v) s) fun t =>
      (∀ i, i < 4 → t.rd (Reg.PWR_SLACK i) = if v.getLsbD i then 0x0000FFFF else s.rd (Reg.PWR_SLACK i)) ∧
      (v.getLsbD 8 = true → t.get Reg.PWR_GOV_STAT 14 8 = s.get Reg.PWR_GOV_STAT 6 0) ∧
      (v.getLsbD 8 = false → t.rd Reg.PWR_GOV_STAT = s.rd Reg.PWR_GOV_STAT) ∧
      s.keepsRegs t [Reg.PWR_SLACK 0, Reg.PWR_SLACK 1, Reg.PWR_SLACK 2, Reg.PWR_SLACK 3, Reg.PWR_GOV_STAT])

/-- Of RUN, STOP and SRST only the highest bit that a write of `PG_CTRL` sets acts; its other bits do nothing. -/
def Obligations.PageControlTakesTheHighestBit : Prop :=
  ∀ (s : State) (p : Nat) (v : Word), p < 256 → s.power.held = false → s.has p = true →
    (v.getLsbD 2 = true → exec (.registerWrite (Reg.PG_CTRL p) v) s = .next (s.pgSrst p)) ∧
    (v.getLsbD 2 = false → v.getLsbD 1 = true → exec (.registerWrite (Reg.PG_CTRL p) v) s = .next (s.pgStop p)) ∧
    (v.getLsbD 2 = false → v.getLsbD 1 = false → v.getLsbD 0 = true →
      exec (.registerWrite (Reg.PG_CTRL p) v) s = .next (s.pgRun p)) ∧
    (v.getLsbD 2 = false → v.getLsbD 1 = false → v.getLsbD 0 = false →
      exec (.registerWrite (Reg.PG_CTRL p) v) s = .next s)

/-! ### The governor -/

/-- The enabled governor raises the code by 1 when slack is short or a class missed, lowers it by 1 after 64 ample windows,
holds it otherwise, and never leaves its range. -/
def Obligations.GovernorEvaluatesTheWindow : Prop :=
  ∀ s : State, s.halted = false → s.bit Reg.PWR_GOV_CTRL 0 = true → s.vidMin ≤ s.vidMax →
    Answers (exec .governorWindow s) fun t =>
      let now := s.get Reg.PWR_GOV_STAT 6 0
      let code := t.get Reg.PWR_GOV_STAT 6 0
      let short := decide (s.winSlack < s.get Reg.PWR_GOV_THR 15 0) || s.winMiss
      let run := if s.get Reg.PWR_GOV_THR 31 16 < s.winSlack then s.lowRun + 1 else 0
      s.vidMin ≤ code ∧ code ≤ s.vidMax ∧
      (short = true → now < s.vidMax → s.vidMin ≤ now + 1 → code = now + 1) ∧
      (short = true → s.vidMax ≤ now → code = s.vidMax ∧ t.bit Reg.PWR_GOV_STAT 16 = true ∧
        t.bit (Reg.PG_EVRAW 0x001) 9 = true) ∧
      (short = false → 64 ≤ run → s.vidMin < now → now ≤ s.vidMax → code = now - 1 ∧ t.lowRun = 0) ∧
      (short = false → run < 64 → s.vidMin ≤ now → now ≤ s.vidMax → code = now ∧ t.lowRun = run) ∧
      t.winSlack = 65535 ∧ t.winMiss = false

/-! ### Measurement and calibration -/

/-- A base strobe latches the strobe index of each die and, where the die delivers, awaits its frame; a lost frame is
counted; the oven's states and events, and the checks of a channel. -/
def Obligations.MeasurementCommands : Prop :=
  (
    ∀ (s : State) (d k odr rho : Nat) (samples : List RawSample), d < 2 → k < 256 → odr < 65536 → rho < 2 ^ 22 →
      wfSamples samples = true →
      (s.halted = false → exec .baseStrobe s = .next s.baseStrobe) ∧
      ((s.die d).waiting = true → exec (.measureFrameRx d true samples) s = .next (s.frameRx d true samples)) ∧
      ((s.die d).waiting = true → s.bit (Reg.PG_INJARM (0x010 + d)) 0 = false → s.frameRx d false samples =
        (s.count (Reg.MEAS_MLINK_ERR d) 15 0).lostStrobe d) ∧
      ((s.die d).waiting = false → exec (.measureFrameRx d true samples) s = .next s) ∧
      ((s.die d).waiting = true → exec (.measureFrameDeadline d) s = .next (s.lostStrobe d)) ∧
      (s.hasCh k = true → s.delivers (k / 128) = true → s.bit (mcfg k) 18 = false → Answers (exec (.tsConversionDone k rho) s) fun t =>
        t.get (mtemp k) 15 0 = 0x8000) ∧
      (s.hasCh k = true → Answers (exec (.odrWrite k odr) s) fun t =>
        t.get (mcfg k) 15 0 = odr ∧ (t.chMeas k).avg.dPend = some (odr + 1) ∧ s.keepsRegs t [mcfg k])) ∧
  (
    ∀ (s : State) (d k : Nat) (diff : Int) (ratio : Word) (ok1 ok2 : Bool), d < 2 → k < 256 → -(2 ^ 31) ≤ diff → diff < 2 ^ 31 →
      (s.ovenRuns d = true → Answers (exec (.ovenRegulated d) s) fun t => t.get (Reg.MEAS_OVEN_STAT d) 2 0 = 2) ∧
      (s.ovenRuns d = true → s.get (Reg.MEAS_OVEN_STAT d) 2 0 = 2 → Answers (exec (.ovenDegraded d) s) fun t =>
        t.get (Reg.MEAS_OVEN_STAT d) 2 0 = 3) ∧
      (s.ovenRuns d = true → Answers (exec (.ovenFault d) s) fun t => t.get (Reg.MEAS_OVEN_STAT d) 2 0 = 4) ∧
      (s.hasDie d = true → (s.die d).powered = true →
        exec (.refCrossCheck d ok1 ok2 diff ratio) s = .next (s.crossCheck d ok1 ok2 diff ratio)) ∧
      (s.hasCh k = true → s.delivers (k / 128) = true → s.bit (mcfg k) 19 = true → s.socDue k = true → s.bit (mstat k) 5 = false →
        Answers (exec (.senseOpenCheckStart k) s) fun t => ((t.chMeas k).soc.map fun c => c.start) = some s.strobeIdx ∧
          t.regs = s.regs) ∧
      (∀ c, (s.chMeas k).soc = some c → c.start + 6 ≤ s.dieIdx (k / 128) → exec (.senseOpenCheckDone k) s = .next (s.socDone k)))

/-- Calibration commands: NOP and reserved ops complete with their status, READ_FACTORY loads the factory set with sequence 0,
CONNECT and MEASURE need the page RUNNING, a command written while BUSY is dropped. That an operation keeps its result until its
completion row is the model's reading (log 52). -/
def Obligations.CalibrationCommands : Prop :=
  ∀ (s : State) (d op : Nat) (ok : Bool), d < 2 → 8 ≤ op → op < 16 → s.has (0x012 + d) = true →
    (s.bit (Reg.CAL_STAT d) 0 = true →
      ∀ c ∈ [Instr.calNop d, .calConnect d, .calMeasure d, .calRelease d, .calRead d, .calCommit d, .calRestoreFactory d,
        .calReadFactory d, .calReservedOp d op], exec c s = .next (s.raise (0x012 + d) 9)) ∧
    (s.bit (Reg.CAL_STAT d) 0 = false →
      (Answers (exec (.calNop d) s) fun t => t.get (Reg.CAL_STAT d) 11 8 = 0 ∧ t.bit (Reg.PG_EVRAW (0x012 + d)) 8 = true) ∧
      (Answers (exec (.calReservedOp d op) s) fun t => t.get (Reg.CAL_STAT d) 11 8 = 4) ∧
      (s.running (0x012 + d) = false → Answers (exec (.calConnect d) s) fun t => t.get (Reg.CAL_STAT d) 11 8 = 7) ∧
      (s.running (0x012 + d) = false → Answers (exec (.calMeasure d) s) fun t => t.get (Reg.CAL_STAT d) 11 8 = 7) ∧
      (s.running (0x012 + d) = true → s.bit (Reg.CAL_STAT d) 23 = true →
        Answers (exec (.calMeasure d) s) fun t => t.bit (Reg.CAL_STAT d) 0 = true ∧
          (t.die d).cal = .measuring s.strobeIdx (2 ^ min 16 (s.get (Reg.CAL_ARG d) 20 16)) 0 0 0 false
            (s.get (Reg.MEAS_OVEN_STAT d) 2 0 != 2)) ∧
      exec (.calConnect d) s = .next (s.connect d) ∧
      (Answers (exec (.calRelease d) s) fun t => t.get (Reg.CAL_STAT d) 11 8 = 0 ∧ t.bit (Reg.CAL_STAT d) 23 = false) ∧
      (s.hasCh (s.calChan d) = true → Answers (exec (.calRead d) s) fun t =>
        t.rd (Reg.CAL_SEQ d) = BitVec.ofNat 32 (s.chMeas (s.calChan d)).calSeq ∧ t.get (Reg.CAL_STAT d) 11 8 = 0) ∧
      (s.hasCh (s.calChan d) = true → Answers (exec (.calReadFactory d) s) fun t =>
        t.rd (Reg.CAL_SEQ d) = 0 ∧ t.rd (Reg.CAL_TIME d) = 0 ∧ t.get (Reg.CAL_STAT d) 11 8 = 0) ∧
      exec (.calCommit d) s = .next (s.commit d) ∧
      exec (.calRestoreFactory d) s = .next (s.restoreFactory d)) ∧
    ((s.die d).cal = .settling → Answers (exec (.calConnectSettled d) s) fun t =>
      t.get (Reg.CAL_STAT d) 11 8 = 0 ∧ t.bit (Reg.CAL_STAT d) 0 = false ∧ (t.die d).cal = .idle) ∧
    exec (.calMeasureDone d) s = .next (s.measureDone d) ∧
    exec (.calJournalDone d ok) s = .next (s.journalDone d ok)

/-! ### The loop engine and channels -/

/-- Gain commits wait for the next stroke boundary, the accumulators latch once, a stroke that did not serve a channel is
counted, and a finished ramp leaves the channel IDLE. -/
def Obligations.LoopEngineCommands : Prop :=
  ∀ (s : State) (k : Nat) (v : Word) (env : StrokeEnv), k < 256 →
    (s.halted = false → exec (.strokeBoundary env) s = .next (s.stroke env)) ∧
    (s.atBoundary = false → s.stroke env = s) ∧
    (exec .strokeDeadline s = .next (s.each s.channels fun s k => s.overrun k)) ∧
    ((s.ctl k).unserved = false → s.overrun k = s) ∧
    (s.has 0x030 = true → Answers (exec (.gainCommit v) s) fun t => t.gainReq = (s.gainReq ||| v &&& 0x0000FFFF) ∧ t.regs = s.regs) ∧
    (s.has 0x030 = true → s.bit Reg.LOOP_ACC_SEL 31 = false → Answers (exec (.accSelGo k) s) fun t =>
      t.bit Reg.LOOP_ACC_SEL 31 = true ∧ t.get Reg.LOOP_ACC_SEL 7 0 = k ∧ s.keepsRegs t [Reg.LOOP_ACC_SEL]) ∧
    (s.bit Reg.LOOP_ACC_SEL 31 = true → s.has 0x030 = true → Answers (exec .accLatch s) fun t =>
      t.bit Reg.LOOP_ACC_SEL 31 = false ∧ t.rd64 Reg.LOOP_ACC_SIDX_LO Reg.LOOP_ACC_SIDX_HI = s.strobeIdx % 2 ^ 64 ∧
      t.bit (Reg.PG_EVRAW 0x030) 11 = true) ∧
    (s.hasCh k = true → s.chRuns k = true → s.rampDone k = true → Answers (exec (.rampToIdle k) s) fun t => t = s.enterIdle k)

/-- Channel operations: the ten rows act by one rule. A seat that may not command the channel gets NOT_OWNER and nothing else
changes; a reserved op gets BAD_OP; NOP changes only the last command; SAFE of a channel in FAULT is refused and one in SAFE is
accepted without effect. That these rows are the service of the latest boundary is the model's reading (log 51). -/
def Obligations.ChannelCommands : Prop :=
  ∀ (s : State) (k seat op : Nat), k < 256 → seat < 64 → 9 ≤ op → op < 16 →
    (∀ x ∈ [(Instr.chNop k seat, 0), (.chArm k seat, 1), (.chStart k seat, 2), (.chPause k seat, 3), (.chResume k seat, 4),
        (.chStop k seat, 5), (.chSafe k seat, 6), (.chClear k seat, 7), (.chHold k seat, 8), (.chReservedOp k seat op, op)],
      exec x.1 s = .next (s.chanRow k x.2 seat) ∧
      (s.hasCh k = false → exec x.1 s = .next s) ∧
      (s.hasCh k = true → s.mayCommand k seat = false → Answers (exec x.1 s) fun t =>
        t.get (Reg.CH_STAT k) 19 16 = x.2 ∧ t.get (Reg.CH_STAT k) 22 20 = 3 ∧ s.keepsRegs t [Reg.CH_STAT k])) ∧
    (s.hasCh k = true → s.mayCommand k seat = true →
      (Answers (exec (.chNop k seat) s) fun t => t.get (Reg.CH_STAT k) 22 20 = 0 ∧ t.chState k = s.chState k ∧
        s.keepsRegs t [Reg.CH_STAT k]) ∧
      (Answers (exec (.chReservedOp k seat op) s) fun t => t.get (Reg.CH_STAT k) 22 20 = 1 ∧ t.chState k = s.chState k) ∧
      (s.chState k = 0 → s.armCheck k = 0 → exec (.chArm k seat) s = .next ((s.armed k s.cmdBoundary).noteCmd k 1 0)) ∧
      (s.chState k = 0 → s.armCheck k ≠ 0 → Answers (exec (.chArm k seat) s) fun t =>
        t.get (Reg.CH_FCAUSE k) 15 12 = s.armCheck k % 16 ∧ t.get (Reg.CH_STAT k) 22 20 = 2 ∧ t.chState k = 0) ∧
      (s.chState k ≠ 0 → Answers (exec (.chArm k seat) s) fun t => t.get (Reg.CH_STAT k) 22 20 = 1 ∧ t.chState k = s.chState k) ∧
      (s.chState k = 1 → s.opGuard k (s.chLive k) = none → exec (.chStop k seat) s = .next ((s.enterIdle k).noteCmd k 5 0)) ∧
      (s.chState k = 5 → Answers (exec (.chSafe k seat) s) fun t => t.get (Reg.CH_STAT k) 22 20 = 0 ∧ t.chState k = 5) ∧
      (s.chState k = 6 → Answers (exec (.chSafe k seat) s) fun t => t.get (Reg.CH_STAT k) 22 20 = 1 ∧ t.chState k = 6))

/-- What a channel operation that is accepted does: START enters step 0 with its counters cleared, PAUSE freezes, SAFE trips
with cause HOST. -/
def Obligations.ChannelOperationsTakeEffect : Prop :=
  ∀ (s : State) (k b : Nat),
    (s.opGuard k (s.chState k == 1) = none →
      s.opBody k 2 b = ((s.modProg k fun p => { p with ctr := [0, 0, 0, 0] }).enterStep k 0 b false, 0)) ∧
    (s.opGuard k (s.chState k == 2 && !(s.ctl k).ending) = none → s.opBody k 3 b = (s.freeze k b 3, 0)) ∧
    (s.chState k ≠ 5 → s.chState k ≠ 6 → s.opBody k 6 b = (s.tripAt k 37 b, 0)) ∧
    (∀ op, 9 ≤ op → s.opBody k op b = (s, 1))

/-! ### Programs and sweep tables -/

/-- An operation written to `STEP.PCMD` sets BUSY and keeps its arguments; one written while BUSY is dropped with PCMD_DROPPED. It
completes once, in STOPPED and RUNNING with its own status, in FAULTED with STOPPED. That the operation completes in its own row
is the model's reading (log 52). -/
def Obligations.ProgramOperations : Prop :=
  ∀ (s : State) (slot op : Nat) (bad : Bool), slot < 1024 → 8 ≤ op → op < 16 → s.has 0x031 = true →
    (∀ x ∈ [(Instr.progNop slot, 0), (.progDefine slot, 1), (.progUndefine slot, 2), (.progOpen slot, 3), (.progWrite slot, 4),
        (.progRead slot bad, 5), (.progSeal slot, 6), (.progInfo slot, 7), (.progReservedOp slot op, op)],
      (s.bit Reg.STEP_PSTAT 0 = true → exec x.1 s = .next (s.raise 0x031 9)) ∧
      (s.bit Reg.STEP_PSTAT 0 = false → Answers (exec x.1 s) fun t =>
        t.bit Reg.STEP_PSTAT 0 = true ∧ s.keepsRegs t [Reg.STEP_PSTAT] ∧ t.slots = s.slots ∧ t.store = s.store ∧
        ∃ o, t.progOp = some o ∧ o.op = x.2 ∧ o.slot = slot ∧ o.seat = 0 ∧ o.base = s.get Reg.STEP_PBASE 15 0 ∧
          o.len = s.get Reg.STEP_PBASE 28 16 ∧ o.idx = s.get Reg.STEP_PIDX 11 0 ∧ o.nstep = s.get Reg.STEP_POPT 28 16)) ∧
    (s.progOp = none → exec .progOpComplete s = .next s) ∧
    (∀ o, s.progOp = some o → (s.pg 0x031 = 2 ∨ s.pg 0x031 = 4) → exec .progOpComplete s = .next s) ∧
    (∀ o, s.progOp = some o → o.sq = none → s.pg 0x031 = 5 → Answers (exec .progOpComplete s) fun t =>
      t.progOp = none ∧ t.bit Reg.STEP_PSTAT 0 = false ∧ t.get Reg.STEP_PSTAT 11 8 = 8 ∧ t.slots = s.slots ∧
      t.bit (Reg.PG_EVRAW 0x031) 8 = true) ∧
    (∀ o, s.progOp = some o → o.sq = none → (s.pg 0x031 = 1 ∨ s.pg 0x031 = 3) → 8 ≤ o.op → Answers (exec .progOpComplete s) fun t =>
      t.get Reg.STEP_PSTAT 11 8 = 5 ∧ t.slots = s.slots ∧ t.store = s.store)

/-- A sealed slot is not written: WRITE and SEAL need an OPEN slot, DEFINE an UNDEFINED one, and a referenced slot is neither
undefined nor opened. -/
def Obligations.ProgramSlotsRefuse : Prop :=
  ∀ (s : State) (o : ProgOp), o.sq = none →
    (o.op = 4 ∨ o.op = 6 → (s.slot o.slot).state ≠ 1 → s.progApply o = (s, 1, 0, 0)) ∧
    (o.op = 1 → (s.slot o.slot).state ≠ 0 → s.progApply o = (s, 1, 0, 0)) ∧
    (o.op = 2 ∨ o.op = 3 → 2 ≤ (s.slot o.slot).state → (s.slot o.slot).state ≤ 3 → (s.slot o.slot).refs ≠ 0 →
      s.progApply o = (s, 3, 0, 0)) ∧
    (o.op = 4 → (s.slot o.slot).state = 1 → (s.slot o.slot).len ≤ o.idx → s.progApply o = (s, 5, 0, 0))

/-- A sweep-table operation sets BUSY and completes once with the status of its table's state. That the operation completes in its
own row is the model's reading (log 52). -/
def Obligations.SweepTableOperations : Prop :=
  ∀ (s : State) (t op : Nat), t < 16 → 6 ≤ op → op < 16 → s.has 0x034 = true →
    (∀ x ∈ [(Instr.eisTableNop t, 0), (.eisTableOpen t, 1), (.eisTableWrite t, 2), (.eisTableRead t, 3), (.eisTableSeal t, 4),
        (.eisTableClear t, 5), (.eisTableReservedOp t op, op)],
      (s.bit Reg.EIS_TSTAT 0 = true → exec x.1 s = .next (s.raise 0x034 9)) ∧
      (s.bit Reg.EIS_TSTAT 0 = false → s.settled 0x034 = false → Answers (exec x.1 s) fun u => u.get Reg.EIS_TSTAT 11 8 = 1) ∧
      (s.bit Reg.EIS_TSTAT 0 = false → s.settled 0x034 = true → Answers (exec x.1 s) fun u =>
        u.bit Reg.EIS_TSTAT 0 = true ∧ u.eisOp = some (x.2, t) ∧ u.sweeps = s.sweeps ∧ s.keepsRegs u [Reg.EIS_TSTAT])) ∧
    (s.eisOp = none → exec .eisTableOpComplete s = .next s) ∧
    (s.eisOp = some (1, t) → (s.sweep t).state ≠ 1 → (s.sweep t).refs = 0 → Answers (exec .eisTableOpComplete s) fun u =>
      (u.sweep t).state = 1 ∧ u.get Reg.EIS_TSTAT 11 8 = 0 ∧ u.eisOp = none) ∧
    (s.eisOp = some (2, t) → (s.sweep t).state ≠ 1 → Answers (exec .eisTableOpComplete s) fun u =>
      u.sweeps = s.sweeps ∧ u.get Reg.EIS_TSTAT 11 8 = 1 ∧ u.bit (Reg.PG_EVRAW 0x034) 8 = true) ∧
    (s.eisOp = some (5, t) → (s.sweep t).state ≠ 0 → (s.sweep t).refs = 0 → Answers (exec .eisTableOpComplete s) fun u =>
      u.sweep t = {} ∧ u.get Reg.EIS_TSTAT 11 8 = 0)

/-- A finished point of a sweep is stored and recorded in its order; a rest-trend wake that is not due writes no record; in
Feather the converters of a die with channels in trend are powered before a wake. -/
def Obligations.ImpedanceAndRestTrends : Prop :=
  ∀ (s : State) (k d : Nat), k < 256 → d < 2 →
    ((s.eis k).done = [] → s.running 0x034 = true → exec (.eisPointResult k) s = .next s) ∧
    (∀ w rest, (s.eis k).done = w :: rest → s.running 0x034 = true → s.bit (Reg.PG_INJARM 0x034) 0 = false →
      Answers (exec (.eisPointResult k) s) fun t =>
        (∃ r, Sparse.find? t.eisRes (k * 64 + w.point) = some r ∧ r = w.result s.free (s.eis k).marks)) ∧
    (s.hasCh k = true → s.running 0x035 = true → (s.trend k).active = false → (s.trend k).turn s.now = s.trend k →
      Answers (exec (.restTrendWake k) s) fun t => t.trend k = s.trend k) ∧
    (s.feather = true → s.hasDie d = true → (s.trendChannels d).isEmpty = false →
      Answers (exec (.trendConverterPowerUp d) s) fun t => (t.die d).converters = true ∧ t.regs = s.regs)

/-! ### Crews and records -/

/-- Crew operations: each is dropped while BUSY, refused STOPPED where page 0x036 is not RUNNING, and accepted by the state of its
entry. That crew operations complete in their row is the model's reading (log 52). -/
def Obligations.CrewOperations : Prop :=
  ∀ (s : State) (e op : Nat), e < 64 → 10 ≤ op → op < 16 → s.has 0x036 = true →
    (∀ c ∈ [Instr.crewNop e, .crewJoin e, .crewSetmask e, .crewSeal e, .crewOpen e, .crewLeave e, .crewTrans e, .crewReduce e,
        .crewGrade e, .crewInfo e, .crewReservedOp e op],
      (s.bit Reg.CREW_STAT 0 = true → exec c s = .next (s.raise 0x036 9)) ∧
      (s.bit Reg.CREW_STAT 0 = false → s.running 0x036 = false → Answers (exec c s) fun t =>
        t.get Reg.CREW_STAT 11 8 = 10 ∧ t.crews = s.crews)) ∧
    (s.bit Reg.CREW_STAT 0 = false → s.running 0x036 = true →
      (Answers (exec (.crewNop e) s) fun t => t.get Reg.CREW_STAT 11 8 = 0 ∧ t.bit (Reg.PG_EVRAW 0x036) 8 = true ∧ t.crews = s.crews) ∧
      (Answers (exec (.crewReservedOp e op) s) fun t => t.get Reg.CREW_STAT 11 8 = 5 ∧ t.crews = s.crews) ∧
      exec (.crewJoin e) s = .next (s.crewJoinOp e) ∧
      ((s.crew e).state = 1 → s.maskRegs.all s.hasCh = true → Answers (exec (.crewSetmask e) s) fun t =>
        (t.crew e).mask = s.maskRegs ∧ (t.crew e).state = 1 ∧ t.get Reg.CREW_STAT 11 8 = 0) ∧
      ((s.crew e).state = 1 → (s.crew e).coord = s.devId → Answers (exec (.crewSeal e) s) fun t =>
        (t.crew e).state = 2 ∧ t.get Reg.CREW_STAT 11 8 = 0) ∧
      ((s.crew e).state = 1 → (s.crew e).coord ≠ s.devId → exec (.crewSeal e) s =
        .next (((s.modCrew e fun c => { c with sealing := true }).put Reg.CREW_STAT 0 0 1).sendCrew (s.crew e).coord
          (.register (s.crew e).id (s.crew e).mask.length))) ∧
      ((s.crew e).state = 2 → (s.crew e).arrived = [] → (s.crew e).trans = [] → s.redPending e = false →
        Answers (exec (.crewOpen e) s) fun t => (t.crew e).state = 1 ∧ t.get Reg.CREW_STAT 11 8 = 0) ∧
      ((s.crew e).state = 1 → Answers (exec (.crewLeave e) s) fun t => (t.crew e).state = 0 ∧ t.get Reg.CREW_STAT 11 8 = 0) ∧
      ((s.crew e).state ≠ 2 → ∀ c ∈ [Instr.crewOpen e, .crewTrans e, .crewReduce e, .crewGrade e],
        Answers (exec c s) fun t => t.get Reg.CREW_STAT 11 8 = 1 ∧ t.crews = s.crews) ∧
      exec (.crewTrans e) s = .next (s.crewTransOp e) ∧
      exec (.crewReduce e) s = .next (s.redStart e (s.get Reg.CREW_ARG0 7 0) (s.get Reg.CREW_ARG0 15 8) none) ∧
      exec (.crewGrade e) s = .next (s.redStart e 0 0 (some (s.get Reg.CREW_ARG0 1 0))) ∧
      exec (.crewInfo e) s = .next (s.crewInfoOp e)) ∧
    ((s.crew e).sealing = true →
      (∀ gen, Answers (exec (.crewSealAck e gen) s) fun t => (t.crew e).state = 2 ∧ (t.crew e).sealing = false ∧ (t.crew e).gen = gen ∧
        t.get Reg.CREW_STAT 11 8 = 0) ∧
      (Answers (exec (.crewSealTimeout e) s) fun t => (t.crew e).sealing = false ∧ (t.crew e).state = (s.crew e).state ∧
        t.get Reg.CREW_STAT 11 8 = 7))

/-- Messages between the devices of a crew: heartbeats clear and their absence sets the coordinator's loss, arrivals are counted
at the coordinator and a release frees the generation it names. -/
def Obligations.CrewMessages : Prop :=
  ∀ (s : State) (crew dev gen arrived withdrawn mark e op : Nat) (count : Option Nat), crew < 4096 → dev < 512 → e < 64 →
    transOp op = true →
    (exec (.crewHeartbeatRx crew) s = .next (s.each (s.readyOf crew) fun s e => s.modCrew e fun c => { c with lost := false })) ∧
    (s.has 0x036 = true → (s.crew e).state = 2 → (s.crew e).coord ≠ s.devId → (s.crew e).lost = false → s.running 0x036 = true → s.slp ≠ 4 → s.slp ≠ 5 →
      s.fab.quietTo ≤ s.now → Answers (exec (.coordHeartbeatTimeout e) s) fun t =>
        (t.crew e).lost = true ∧ t.bit (Reg.PG_EVRAW 0x036) 13 = true) ∧
    ((s.crew e).lost = true → exec (.coordHeartbeatTimeout e) s = .next s) ∧
    (exec (.crewArrivalRx crew dev gen arrived withdrawn) s = .next (s.countArrivals crew dev gen arrived withdrawn)) ∧
    (exec (.crewReleaseRx crew gen mark) s = .next (s.releaseRx crew gen (mark * markNs))) ∧
    (s.running 0x036 = true → (s.readyOf crew).all (fun e => (s.crew e).gen != gen) = true → s.readyOf crew ≠ [] →
      exec (.crewReleaseRx crew gen mark) s = .next s) ∧
    (exec (.crewTransRx crew op mark) s = .next (s.transRx crew op mark)) ∧
    ((s.readyOf crew).any (fun e => (s.crew e).coord == s.devId) = true → count.isSome = true →
      exec (.crewRegistrationRx crew dev count) s = .next ((s.registerDev crew dev count).sendCrew dev (.sealAck crew (s.coord crew).gen))) ∧
    (s.running 0x036 = true → s.halted = false → exec .coordHeartbeatSend s = .next (s.each (s.crews.filter fun x => x.2.state == 2 &&
      x.2.coord == s.devId) fun s x => s.each (s.otherDevs x.2.id) fun s d => s.sendCrew d (.heartbeat x.2.id))) ∧
    (s.running 0x036 = false → exec .coordHeartbeatSend s = .next s) ∧
    (s.strobeIdx % 64 = 0 → s.halted = false → exec .crewMark s = .next (s.each (List.range 8) fun s n => s.timeLaunch n)) ∧
    (s.strobeIdx % 64 ≠ 0 → exec .crewMark s = .next s)

/-- Reductions: a context collects at its mark and not before, takes contributions and results while it collects, and the
consumer index of a record ring moves only to what has been produced. -/
def Obligations.ReductionsAndRings : Prop :=
  ∀ (s : State) (c dev i r v : Nat) (vals : List (Nat × Int)) (res : RedResult) (ranks : List (Nat × Nat)), c < 8 → dev < 512 →
    i < 64 → r < 4 → v < 2 ^ 32 →
    ((s.red c).state = 1 → (s.red c).mark * markNs ≤ s.now → exec (.reductionMark c) s = .next (s.redCollect c)) ∧
    (s.now < (s.red c).mark * markNs → exec (.reductionMark c) s = .next s) ∧
    ((s.red c).state ≠ 2 → ∀ x ∈ [Instr.reductionContribRx c dev vals, .reductionResultRx c res, .reductionDeadline c],
      exec x s = .next s) ∧
    ((s.red c).state = 2 → (s.red c).todo ≠ [] → Answers (exec (.reductionResultRx c res) s) fun t =>
      (t.red c).result = res ∧ (t.red c).state = 2 ∧ t.regs = s.regs) ∧
    ((s.red c).state = 2 → (s.red c).todo = [] → (s.red c).grade = none → s.has 0x037 = true →
      Answers (exec (.reductionResultRx c res) s) fun t =>
        (t.red c).result = res ∧ (t.red c).state = 3 ∧ t.bit (Reg.PG_EVRAW 0x037) 8 = true) ∧
    ((s.red c).state ≠ 2 → (s.red c).state ≠ 3 → exec (.reductionRankRx c ranks) s = .next s) ∧
    ((s.red c).state = 2 → (s.crew (s.red c).entry).coord = s.devId → exec (.reductionDeadline c) s =
      .next (s.redFinish c (!s.redComplete c) ((s.red c).todo.length + 1))) ∧
    (((s.red c).state = 2 ∨ (s.red c).state = 3) → (s.red c).grade = none →
      exec (.reductionRankRx c ranks) s = .next (s.writeRanks c ranks)) ∧
    ((s.red c).state = 2 → (s.modRed c fun x => { x with contrib := x.contrib.filter (fun y => y.1 != dev) ++ [(dev, vals)] }).redComplete c = false →
      Answers (exec (.reductionContribRx c dev vals) s) fun t => (dev, vals) ∈ (t.red c).contrib) ∧
    (s.doorbells i = true → v = (s.ring i r).prod → Answers (exec (.ringConsumerWrite i r v) s) fun t =>
      (t.ring i r).cons = v ∧ t.rd (Reg.SA_RING_CONS i r) = BitVec.ofNat 32 v) ∧
    (s.doorbells i = true → v = (s.ring i r).prod + 1 → exec (.ringConsumerWrite i r v) s = .next (s.dbInvalid i 3 r v))

/-! ### Stage links -/

/-- Stage links: a launch of a STOPPED page sends nothing, lost telemetry is counted, a lost stage enters LOST from UP only,
and `MREQ` refuses reserved ops and links without a stage. -/
def Obligations.StageLinks : Prop :=
  ∀ (s : State) (n slack rtt : Nat) (bytes : List Byte) (v : Word) (ready clean : Bool), n < 16 → slack < 65536 → bytes.length ≤ 84 →
    (s.halted = false → s.hasLink n = true → s.pg (0x040 + n) ≠ 3 → s.pg (0x040 + n) ≠ 4 → exec (.stageFrameLaunch n ready slack) s = .next s) ∧
    (s.halted = false → s.hasLink n = true → s.pg (0x040 + n) = 3 → s.lstate n = 3 → s.bit (Reg.PG_INJARM 0x001) 0 = false →
      exec (.stageFrameLaunch n true slack) s = .next ((s.launch 1 slack).upFrame n false) ∧
      exec (.stageFrameLaunch n false slack) s = .next ((s.missLaunch 1).upFrame n true)) ∧
    (s.linkRuns n = true → (s.link n).waiting = true → 6000 < rtt → exec (.telemetryRx n clean bytes rtt) s =
      .next ((s.count (Reg.SL_ERR n) 31 16).telemetryLost n s.now)) ∧
    ((s.link n).waiting = false → exec (.telemetryRx n clean bytes rtt) s = .next s) ∧
    (s.linkRuns n = true → (s.link n).waiting = true → exec (.telemetryDeadline n) s =
      .next ((s.count (Reg.SL_ERR n) 31 16).telemetryLost n s.now)) ∧
    (s.linkRuns n = true → s.lstate n ≠ 3 → Answers (exec (.stageRxSignalLoss n) s) fun t =>
      (t.link n).good = 0 ∧ t.regs = s.regs) ∧
    (s.linkRuns n = true → s.lstate n = 3 → exec (.stageRxSignalLoss n) s =
      .next ((s.stageLoss n s.now).modLink n fun l => { l with good := 0 })) ∧
    (s.linkRuns n = true → s.lstate n = 5 → exec (.stageLostTimeout n) s = .next (s.enterAlign n)) ∧
    (s.running (0x040 + n) = true → s.lstate n = 4 → (s.link n).reread = false → Answers (exec (.descReread n) s) fun t =>
      (t.link n).reread = true ∧ (t.link n).halves = [] ∧ (t.link n).queue.length = (s.link n).queue.length + 64 ∧ t.regs = s.regs) ∧
    ((∀ m ∈ (s.link n).flight, m.wait < 4) → exec (.mopRetry n) s = .next s) ∧
    (∀ m, (s.link n).flight.find? (fun m => decide (4 ≤ m.wait)) = some m → m.tries < 3 → Answers (exec (.mopRetry n) s) fun t =>
      (t.link n).queue.head? = some { m with wait := 0 } ∧ t.regs = s.regs) ∧
    (s.hasLink n = true → s.bit (Reg.SL_MRSP n) 0 = true → exec (.mreqWrite n v) s = .next (s.raise (0x040 + n) 1)) ∧
    (s.hasLink n = true → s.bit (Reg.SL_MRSP n) 0 = false → v.fld 7 0 ≠ 2 → v.fld 7 0 ≠ 3 → Answers (exec (.mreqWrite n v) s) fun t =>
      t.bit (Reg.SL_MRSP n) 0 = false ∧ t.get (Reg.SL_MRSP n) 3 1 = 1 ∧ t.bit (Reg.PG_EVRAW (0x040 + n)) 15 = true) ∧
    (s.hasLink n = true → s.bit (Reg.SL_MRSP n) 0 = false → v.fld 7 0 = 2 → v.fld 15 8 ≤ 16 → s.running (0x040 + n) = true →
      s.lstate n = 2 → Answers (exec (.mreqWrite n v) s) fun t =>
        t.bit (Reg.SL_MRSP n) 0 = true ∧ (t.link n).mreq = some (2, v.fld 15 8)) ∧
    (exec (.serdesUnlock (0x040 + n)) s = .next (s.stageUnlock n)) ∧
    (n < 8 → s.running (0x060 + n) = false → exec (.serdesUnlock (0x060 + n)) s = .next s) ∧
    (n < 8 → s.running (0x060 + n) = true → s.bit (Reg.PG_INJARM (0x060 + n)) 0 = false → exec (.serdesUnlock (0x060 + n)) s =
      .next ((s.blFail n true).pageFault (0x060 + n) 0x0100))

/-! ### The timebase, schedule slots and catch units -/

/-- The staged increment, the read latch, steps and the servo: refused writes raise their event and leave the increment. -/
def Obligations.TimebaseWrites : Prop :=
  ∀ (s : State) (v : Word),
    (s.tbServes = true → exec (.tbIncLoWrite v) s = .next (s.raise 0x050 15)) ∧
    (s.tbServes = false → Answers (exec (.tbIncLoWrite v) s) fun t => t.incStage = v ∧ t.regs = s.regs) ∧
    (s.tbServes = false → incOk (v.fld 7 0 * 2 ^ 32 + s.incStage.toNat) = true → Answers (exec (.tbIncHiWrite v) s) fun t =>
      t.rd Reg.TB_INC_LO = s.incStage ∧ t.rd Reg.TB_INC_HI = BitVec.ofNat 32 (v.fld 7 0) ∧
      s.keepsRegs t [Reg.TB_INC_LO, Reg.TB_INC_HI]) ∧
    (s.tbServes = false → incOk (v.fld 7 0 * 2 ^ 32 + s.incStage.toNat) = false → Answers (exec (.tbIncHiWrite v) s) fun t =>
      t.rd Reg.TB_INC_LO = s.rd Reg.TB_INC_LO ∧ t.rd Reg.TB_INC_HI = s.rd Reg.TB_INC_HI ∧ t.bit (Reg.PG_EVRAW 0x050) 15 = true) ∧
    (Answers (exec .tbSecLoRead s) fun t => t.tbLatch = (s.tbSec, s.tbNs, s.rd Reg.TB_FRAC) ∧ t.regs = s.regs) ∧
    (v.getLsbD 0 = false → exec (.tbStepGo v) s = .next s) ∧
    (v.getLsbD 0 = true → stepOk (s.rdI Reg.TB_STEP_SEC) (s.rdI Reg.TB_STEP_NS) = false → exec (.tbStepGo v) s = .next (s.raise 0x050 14)) ∧
    (∀ d, d = s.rdI Reg.TB_STEP_SEC * 1000000000 + s.rdI Reg.TB_STEP_NS → v.getLsbD 0 = true →
      stepOk (s.rdI Reg.TB_STEP_SEC) (s.rdI Reg.TB_STEP_NS) = true → s.stepRefused d = false → Answers (exec (.tbStepGo v) s) fun t =>
        t.stepPend = some (d, s.now) ∧ t.bit Reg.TB_STAT 10 = true ∧ s.keepsRegs t [Reg.TB_STAT]) ∧
    (s.stepPend = none → exec .stepTick s = .next s) ∧
    (∀ d u, s.stepPend = some (d, u) → u + 4000 ≤ s.now → s.crossed 8000 = true → s.running 0x052 = false → exec .stepTick s = .next (s.stepAt d)) ∧
    (s.servoTakes 1 = true → exec (.tbOfsInWrite v) s = .next (s.servoOffset v.toInt)) ∧
    (s.servoTakes 1 = false → exec (.tbOfsInWrite v) s = .next s)

/-- References and alarms: the loss of the active reference changes over where AUTO and the other allow it, and enters holdover
otherwise; the return of a lost one is shown. -/
def Obligations.ReferencesAndAlarms : Prop :=
  ∀ (s : State) (r worse : Nat) (diff : Int) (rise : Bool), r < 2 → worse < 2 →
    (s.bit (Reg.PG_INJARM 0x050) 0 = false → s.get Reg.TB_STAT 4 4 ≠ r → Answers (exec (.refEdgeLoss r) s) fun t =>
      t.bit Reg.TB_STAT (5 + r) = false ∧ s.keepsRegs t [Reg.TB_STAT]) ∧
    (s.bit (Reg.PG_INJARM 0x050) 0 = false → s.get Reg.TB_STAT 4 4 = r → s.bit Reg.TB_REF 1 = false →
      Answers (exec (.refEdgeLoss r) s) fun t => t.bit Reg.TB_STAT (5 + r) = false ∧ t.bit Reg.TB_STAT 7 = true ∧
        t.bit (Reg.PG_EVRAW 0x050) 11 = true) ∧
    (s.bit (Reg.PG_INJARM 0x050) 0 = false → diff.natAbs ≤ 10000 → Answers (exec (.refFreqCheck diff worse) s) fun t =>
      t.get Reg.TB_REFMON 15 0 = Word.unsigned 16 diff ∧ s.keepsRegs t [Reg.TB_REFMON]) ∧
    (s.bit Reg.TB_STAT 7 = false → Answers (exec (.refReturn r) s) fun t => t.bit Reg.TB_STAT (5 + r) = true ∧ s.keepsRegs t [Reg.TB_STAT]) ∧
    (exec .pllUnlock s = .next (((s.injStep 0x050 0x11 0).pageFault 0x050 0x0100).servoFree)) ∧
    (s.running 0x053 = false → s.servoTakes 3 = false → exec (.tioInEdge rise) s = .next s) ∧
    (s.running 0x053 = true → s.servoTakes 3 = false → Answers (exec (.tioInEdge rise) s) fun t => t = s.capture 32 s.now rise) ∧
    (s.tbServes = false → exec .servoHoldoverTimeout s = .next s) ∧
    (s.running 0x050 = true → s.tbServes = true → s.get Reg.TB_STAT 2 0 = 2 → Answers (exec .servoHoldoverTimeout s) fun t =>
      t = ((s.servoState 3).raise 0x050 16).applyAdj (clampI (-s.adjMax) s.adjMax (s.servo.acc + s.trim))) ∧
    (s.rd64 Reg.TB_BK_ALARM_LO Reg.TB_BK_ALARM_HI = 0 → exec .bkAlarm s = .next s) ∧
    (s.rd64 Reg.TB_BK_ALARM_LO Reg.TB_BK_ALARM_HI ≠ 0 → s.rd64 Reg.TB_BK_SEC_LO Reg.TB_BK_SEC_HI = s.rd64 Reg.TB_BK_ALARM_LO Reg.TB_BK_ALARM_HI →
      exec .bkAlarm s = .next (s.backupWake 3)) ∧
    (s.power.held = false → exec .wholeSecond s = .next s.secondPassed)

/-- Schedule slots and catch units: every op completes with the status of its slot's state and owner, only ARM of a slot with a
valid schedule arms it, a slot fires only while ARMED, its page RUNNING and its instant reached, and the end of a pulse leaves the
other slots' pulses. That these operations complete in their row is the model's reading (log 52). -/
def Obligations.SlotsAndCatchUnits : Prop :=
  (
    ∀ (s : State) (i u seat op : Nat), i < 32 → u < 16 → seat < 64 → 5 ≤ op → op < 16 →
      (∀ x ∈ [(Instr.schNop i seat, 0), (.schAlloc i seat, 1), (.schArm i seat, 2), (.schDisarm i seat, 3), (.schFree i seat, 4),
        (.schReservedOp i seat op, op)], exec x.1 s = .next (s.schOp x.2 i seat)) ∧
      (s.schOp 0 i seat = s.schDone i 0) ∧ (s.schOp op i seat = s.schDone i 3) ∧
      (seat ≠ 0 → s.schState i ≠ 0 → s.schOwner i ≠ seat → s.schOp 2 i seat = s.schDone i 4 ∧ s.schOp 3 i seat = s.schDone i 4 ∧
        s.schOp 4 i seat = s.schDone i 4) ∧
      (s.schCrew i = false → s.schState i = 1 → s.running 0x052 = false → s.schOp 2 i 0 = s.schDone i 5) ∧
      (s.schCrew i = false → s.schState i = 1 → s.running 0x052 = true → s.schBad i = false → s.schOp 2 i 0 = s.schArm i) ∧
      (s.schCrew i = false → s.schState i = 2 → s.schOp 3 i 0 = ((s.slotState i 1).clearNext i).schDone i 0) ∧
      (s.schCrew i = false → s.schState i = 3 → s.schOp 4 i 0 = (s.slotState i 0).schDone i 0) ∧
      (∀ x ∈ [(Instr.catNop u seat, 0), (.catAlloc u seat, 1), (.catArm u seat, 2), (.catDisarm u seat, 3), (.catFree u seat, 4)],
        exec x.1 s = .next (s.catOp x.2 u seat)) ∧
      (s.catMay u seat = true → s.catState u = 1 → s.running 0x053 = true → s.get (Reg.CAT_CFG u) 5 0 ≤ 39 →
        s.catOp 2 u seat = (s.put (Reg.CAT_USTAT u) 1 0 2).catDone u 0) ∧
      (s.catMay u seat = false → s.catOp 2 u seat = s.catDone u 4) ∧
      (∀ e rest, s.catFifoOf u = e :: rest → Answers (exec (.catFifoRead u) s) fun t => t.catFifoOf u = rest ∧
        t.rd (Reg.CAT_E_NS u) = BitVec.ofNat 32 e.2.1 ∧ t.rd (Reg.CAT_E_INFO u) = BitVec.ofNat 32 (2 + e.2.2.toNat)) ∧
      (s.catFifoOf u = [] → Answers (exec (.catFifoRead u) s) fun t => t.rd (Reg.CAT_E_INFO u) = 0 ∧ t.catFifoOf u = [])) ∧
  (
    ∀ (s : State) (i slack : Nat) (ready : Bool) (offs : Int × Int × Int), i < 32 →
      (s.halted = false → (s.schState i ≠ 2 ∨ s.running 0x052 = false ∨ s.now < (s.schNext i).1) →
        exec (.slotFire i ready slack offs) s = .next s) ∧
      (s.halted = false → s.schState i = 2 → s.running 0x052 = true → (s.schNext i).1 ≤ s.now → s.now ≤ (s.schNext i).1 + 4 →
        s.bit (Reg.PG_INJARM 0x001) 0 = false →
        exec (.slotFire i true slack offs) s = .next (s.schFire i (s.schNext i).2 slack offs) ∧
        (s.schMnbl i = false → exec (.slotFire i false slack offs) s = .next ((s.missLaunch 2).setNext i ((s.schNext i).1, true)))) ∧
      (Answers (exec (.tioPulseEnd i) s) fun t => (∀ e ∈ t.tioOut, e.1 ≠ i) ∧ (∀ e ∈ s.tioOut, e.1 ≠ i → e ∈ t.tioOut) ∧
        t.regs = s.regs))

/-! ### Bruil links and the fabric -/

/-- Links to other devices: a page that does not run ignores its flits, a bad flit in ALIGN is counted and restarts the run of good
ones, sixty-four good ones lead to IDENT, and an identity is accepted, refused or kept for the recheck. -/
def Obligations.BruilLinks : Prop :=
  ∀ (s : State) (n why : Nat) (bytes : List Byte) (p : Peer), n < 8 → bytes.length = 64 →
    (s.running (0x060 + n) = false → exec (.bruilFlitRx n bytes) s = .next s ∧ exec (.bruilIdentRx n p) s = .next s ∧
      exec (.bruilFailedRetrain n) s = .next s ∧ exec (.bruilExclRecheck n) s = .next s) ∧
    (s.running (0x060 + n) = true → exec (.bruilFlitRx n bytes) s = .next (s.flitRx n bytes) ∧
      exec (.bruilIdentRx n p) s = .next (s.identRx n p)) ∧
    (s.running (0x060 + n) = true → s.lst n = 1 → crc32c (bytes.take 60) ≠ BitVec.ofNat 32 (le32At bytes 60) →
      Answers (exec (.bruilFlitRx n bytes) s) fun t => (t.bl n).good = 0 ∧ t.lst n = 1 ∧
        t.get (Reg.BL_ERR n) 15 0 = min (s.get (Reg.BL_ERR n) 15 0 + 1) 65535) ∧
    (s.running (0x060 + n) = true → s.lst n = 1 → crc32c (bytes.take 60) = BitVec.ofNat 32 (le32At bytes 60) →
      s.bit (Reg.PG_INJARM (0x060 + n)) 0 = false → Answers (exec (.bruilFlitRx n bytes) s) fun t =>
        (t.bl n).good = (s.bl n).good + 1 ∧ t.lst n = if (s.bl n).good + 1 < 64 then 1 else 2) ∧
    (s.running (0x060 + n) = true → s.lst n = 5 → Answers (exec (.bruilIdentRx n p) s) fun t => (t.bl n).peer = some p ∧ t.regs = s.regs) ∧
    (s.running (0x060 + n) = true → s.lst n = 2 → s.idValid = true → p.id.isSome = true →
      (s.refusal n p = some why → exec (.bruilIdentRx n p) s = .next (s.blExclude n why p)) ∧
      (s.refusal n p = none → exec (.bruilIdentRx n p) s = .next (s.blActive n p))) ∧
    (p.serial = Config.serial → s.refusal n p = some 4) ∧
    (s.running (0x060 + n) = true → s.lst n = 4 → Answers (exec (.bruilFailedRetrain n) s) fun t =>
      t.lst n = 1 ∧ (t.bl n).good = 0 ∧ s.keepsRegs t [Reg.BL_STAT n]) ∧
    (s.running (0x060 + n) = true → s.lst n = 5 → (s.bl n).peer = some p → s.idValid = true → p.id.isSome = true →
      (s.refusal n p = none → exec (.bruilExclRecheck n) s = .next (s.blActive n p)) ∧
      (s.refusal n p = some why → exec (.bruilExclRecheck n) s = .next s)) ∧
    ((s.bl n).unack = [] → exec (.bruilAckTimeout n) s = .next s) ∧
    ((s.bl n).unack ≠ [] → exec (.bruilAckTimeout n) s = .next (s.blFail n true)) ∧
    (exec (.bruilSignalLoss n) s = .next ((s.modBl n fun b => { b with good := 0 }).blFail n true)) ∧
    (exec (.departRx n) s = .next (s.blFail n false)) ∧
    (s.lst n = 3 → ∀ replay, s.blFail n replay = ((s.count (Reg.BL_ERR2 n) 15 0).raise (0x060 + n) 9).blDown n 4 replay) ∧
    (s.lst n ≠ 3 → ∀ replay, s.blFail n replay = s)

/-- Announcements and packets: what a device already holds changes nothing, a packet to this device is delivered and another is
forwarded or reinjected, and a gap that no held packet ends changes nothing. -/
def Obligations.FabricPackets : Prop :=
  ∀ (s t : State) (n dev serial src cls : Nat) (nbrs : List Nat) (p : Packet), n < 8 → dev < 512 → src < 512 → cls < 7 →
    (∀ d ∈ nbrs, d < 512) → p.src < 512 → p.dst < 512 → p.cls < 7 → p.eseq < 65536 →
    (s.running 0x068 = false → exec (.linkStateAnnounceRx dev serial nbrs) s = .next s ∧ exec (.bruilPacketRx n p) s = .next s ∧
      exec (.seqGapTimeout src cls) s = .next s ∧ exec .perrAckSend s = .next s) ∧
    (dev = s.devId ∨ Sparse.find? s.fab.topo dev = some (serial, nbrs) → exec (.linkStateAnnounceRx dev serial nbrs) s = .next s) ∧
    (s.running 0x068 = true → dev ≠ s.devId → Sparse.find? s.fab.topo dev ≠ some (serial, nbrs) →
      exec (.linkStateAnnounceRx dev serial nbrs) s = .next
        ((({ s with fab := { s.fab with topo := Sparse.insert s.fab.topo dev (serial, nbrs) } } : State).updateReach.tunFollow.sleepCheck
          s.fab.known).flood dev serial nbrs none)) ∧
    (s.lst n ≠ 3 → exec (.bruilPacketRx n p) s = .next s) ∧
    (s.running 0x068 = true → s.lst n = 3 → s.bit (Reg.PG_INJARM 0x068) 0 = false →
      (p.dst = s.devId → exec (.bruilPacketRx n p) s = .next (s.packetHere p)) ∧
      (p.dst ≠ s.devId → s.forward p (s.linkDir n) = some t → exec (.bruilPacketRx n p) s = .next t) ∧
      (p.dst ≠ s.devId → s.forward p (s.linkDir n) = none → exec (.bruilPacketRx n p) s = .next (s.reinject p))) ∧
    (s.running 0x068 = true → exec (.seqGapTimeout src cls) s = .next (s.gapLost src cls)) ∧
    (s.fab.gapHeld = [] → s.gapLost src cls = s) ∧
    (s.running 0x068 = true → s.halted = false → exec .perrAckSend s = .next
      (({ s with fab := { s.fab with ackOwed := [] } } : State).each s.fab.ackOwed fun s a =>
        s.fabricSend (a.1 / 128) 3 (a.1 % 128) 0 (.ack (a.1 % 128) a.2)))

/-- Error returns and their log, the return to the primary link, fences and the time exchange. -/
def Obligations.FencesAndReturns : Prop :=
  ∀ (s : State) (dev init upTo tag code addr n depth : Nat) (aL lP : Nat) (aP : Option Nat) (v : Word) (f : Fence), dev < 512 →
    init < 65 → n < 8 → depth < 16 →
    (s.running 0x068 = true → Answers (exec (.perrRx dev init (some upTo) none) s) fun t =>
      Sparse.find? t.fab.acked (dev * 128 + init) = some upTo ∧ t.regs = s.regs) ∧
    (s.running 0x068 = true → exec (.perrRx dev init none (some (tag, code, addr))) s = .next (s.logRerr tag init code dev addr)) ∧
    (s.running 0x068 = false → ∀ u e, exec (.perrRx dev init u e) s = .next s) ∧
    (∀ u, Sparse.find? s.fab.onAlt dev = some u → u + 20000 ≤ s.now → (upOnly s (s.primaryLink dev)).isSome = true →
      Answers (exec (.routeReturn dev) s) fun t => Sparse.find? t.fab.onAlt dev = none ∧
        t.bit Reg.RT_STAT 17 = !(Sparse.erase s.fab.onAlt dev).isEmpty ∧ s.keepsRegs t [Reg.RT_STAT]) ∧
    (Sparse.find? s.fab.onAlt dev = none → exec (.routeReturn dev) s = .next s) ∧
    (v.getLsbD 0 = false → exec (.rtFence v) s = .next s) ∧
    (v.getLsbD 0 = true → s.running 0x068 = true → Answers (exec (.rtFence v) s) fun t => t.bit Reg.RT_FSTAT 0 = true ∧
      t.fab.fences.length = s.fab.fences.length + 1 ∧ (∀ e ∈ t.fab.posted, e.1 % 128 ≠ 0) ∧ s.keepsRegs t [Reg.RT_FSTAT]) ∧
    (s.fenceOf init = none → exec (.fenceComplete init) s = .next s ∧ exec (.fenceTimeout init) s = .next s) ∧
    (s.fenceOf init = some f → f.need.any (fun x => !s.ackedPast init x) = true → exec (.fenceComplete init) s = .next s) ∧
    (s.fenceOf init = some f → f.need.all (s.ackedPast init) = true →
      exec (.fenceComplete init) s = .next (s.fenceEnd f (s.fab.failedInit.contains init).toNat)) ∧
    (s.fenceOf init = some f → exec (.fenceTimeout init) s = .next (s.fenceEnd f 2)) ∧
    (f.kind = .rt → ∀ status, status < 3 → (s.fenceEnd f status).get Reg.RT_FSTAT 2 1 = status ∧
      (s.fenceEnd f status).bit (Reg.PG_EVRAW 0x068) 11 = true ∧ f.init ∉ (s.fenceEnd f status).fab.failedInit) ∧
    (s.lst n ≠ 3 → ∀ good, exec (.timeFlitRx n good aL lP aP depth) s = .next s) ∧
    (s.lst n = 3 → Answers (exec (.timeFlitRx n false aL lP aP depth) s) fun t => (t.bl n).timeDue = false ∧
      t.get (Reg.BL_TCNT n) 31 16 = min (s.get (Reg.BL_TCNT n) 31 16 + 1) 65535 ∧ s.keepsRegs t [Reg.BL_TCNT n]) ∧
    (s.lst n = 3 → exec (.timeFlitRx n true aL lP aP depth) s = .next (s.timeGood n aL lP aP depth)) ∧
    (s.fab.rerrLog = [] → Answers (exec .rerrLogRead s) fun t => t.rd Reg.RT_RERR0 = 0 ∧ t.rd Reg.RT_RERR1 = 0 ∧
      t.rd64 Reg.RT_RERR2 Reg.RT_RERR3 = 0 ∧ s.keepsRegs t [Reg.RT_RERR0, Reg.RT_RERR1, Reg.RT_RERR2, Reg.RT_RERR3]) ∧
    (∀ rest, s.fab.rerrLog = (tag, init, code, dev, addr) :: rest → addr < 2 ^ 64 → Answers (exec .rerrLogRead s) fun t =>
      t.fab.rerrLog = rest ∧ t.rd Reg.RT_RERR0 = BitVec.ofNat 32 (tag % 65536 + init * 65536 + 2 ^ 23 + code * 2 ^ 24) ∧
      t.rd Reg.RT_RERR1 = BitVec.ofNat 32 dev ∧ t.rd64 Reg.RT_RERR2 Reg.RT_RERR3 = addr ∧
      s.keepsRegs t [Reg.RT_RERR0, Reg.RT_RERR1, Reg.RT_RERR2, Reg.RT_RERR3])

/-- Sleep and wake: votes, agreement before its instant, its abort, the instant itself, and the sources of a wake. -/
def Obligations.SleepAndWake : Prop :=
  ∀ (s : State) (dev mark src n : Nat) (on : Bool), dev < 512 → 1 ≤ src → src ≤ 8 → n < 8 →
    (exec (.sleepVoteWrite on) s = .next (s.voteWrite on)) ∧
    (s.running 0x068 = false → Answers (exec (.sleepVoteWrite on) s) fun t => t.bit Reg.RT_SLP_CTRL 0 = on ∧
      s.keepsRegs t [Reg.RT_SLP_CTRL]) ∧
    (s.running 0x068 = true → s.sleepLeader = true → exec (.sleepVoteRx dev on) s = .next (s.takeVote dev on)) ∧
    (s.sleepLeader = false → exec (.sleepVoteRx dev on) s = .next s) ∧
    (s.running 0x068 = true → s.slp = 1 → s.now < mark * markPeriod → mark < 2 ^ 64 → Answers (exec (.sleepAgreeRx mark) s) fun t =>
      t.slp = 2 ∧ t.rd64 Reg.RT_SLP_C_LO Reg.RT_SLP_C_HI = mark ∧ t.bit (Reg.PG_EVRAW 0x068) 12 = true) ∧
    (s.running 0x068 = true → s.slp = 1 → mark * markPeriod ≤ s.now → Answers (exec (.sleepAgreeRx mark) s) fun t =>
      t.slp = 1 ∧ t.fab.wakeHeld = true) ∧
    (s.running 0x068 = true → s.slp = 0 → exec (.sleepAgreeRx mark) s = .next s.sleepAbort) ∧
    (s.running 0x068 = true → s.sleepLeader = false → s.slp = 2 → Answers (exec (.sleepAbortRx dev) s) fun t =>
      t.slp = (if s.bit Reg.RT_SLP_CTRL 0 then 1 else 0) ∧ t.bit (Reg.PG_EVRAW 0x068) 13 = true) ∧
    (s.running 0x068 = true → s.sleepLeader = false → s.slp ≠ 2 → exec (.sleepAbortRx dev) s = .next s) ∧
    (s.now < s.sleepC + markPeriod → exec .sleepInstant s = .next s) ∧
    (s.sleepC + markPeriod ≤ s.now → exec .sleepInstant s = .next s.sleepNow) ∧
    (s.slp ≠ 1 → s.slp ≠ 2 → s.slp ≠ 4 → s.feather = false → Answers (exec (.wakeRequest src) s) fun t =>
      t.rd Reg.RT_WAKESRC = BitVec.ofNat 32 (src + s.devId * 65536 + 2 ^ 31) ∧ s.keepsRegs t [Reg.RT_WAKESRC]) ∧
    (exec (.wakeRequest src) s = .next (s.wakeRequest src)) ∧ (exec .slpWakeWrite s = .next (s.wakeRequest 1)) ∧
    (s.lst n ≠ 6 → exec (.wakeBeaconRx n dev) s = .next s) ∧
    (s.lst n = 6 → exec (.wakeBeaconRx n dev) s = .next
      (((s.raise (0x060 + n) 12).wrN Reg.RT_WAKESRC (9 + n * 16 + dev * 65536 + 2 ^ 31)).startWake dev (some n)))

/-! ### The window bridge and the message bridge -/

/-- Window accesses: one that no window covers reads 0 and is counted, one that a window covers joins it whole where it needs no
split, and its completion or timeout ends the access at the head. -/
def Obligations.WindowAccesses : Prop :=
  ∀ (s : State) (port w off tag code n : Nat) (a : WinAddr) (data : List Byte) (x : WinAcc) (rest : List WinAcc) (busy : Bool),
    wfWin port a n = true → data.length = n → w < 64 → (code < 7 ∨ 16 ≤ code ∧ code ≤ 21) →
    (s.winOf a = none → Answers (exec (.windowRead port a n) s) fun t =>
      t.out = .winDone port (winInit a) 0 (List.replicate n 0) :: s.out ∧
      t.get Reg.WB_ERRCNT 31 16 = min (s.get Reg.WB_ERRCNT 31 16 + 1) 65535 ∧ s.keepsRegs t [Reg.WB_ERRCNT]) ∧
    (s.winOf a = none → Answers (exec (.windowWrite port a data) s) fun t =>
      t.out = .winDone port (winInit a) 0 [] :: s.out ∧ s.keepsRegs t [Reg.WB_ERRCNT] ∧ t.dma = s.dma) ∧
    (s.winOf a = some (w, off) → exec (.windowRead port a n) s = .next (s.winJoin w
      { port := port, init := winInit a, off := off, req := { win := w, size := n } })) ∧
    (s.winOf a = some (w, off) → (s.win w).isReg = true ∨ off % 64 + n ≤ 64 →
      exec (.windowWrite port a data) s = .next (s.winJoin w
        { port := port, init := winInit a, off := off, req := { win := w, write := true, size := n, data := data } })) ∧
    (s.running 0x069 = false → s.winJoin w x = s.winFail w x 4) ∧
    (s.winAccs w = x :: rest → x.sent = true → x.tag = tag →
      exec (.windowCompletionRx w tag code data) s = .next (s.winEnd w x code data)) ∧
    (s.winAccs w = [x] → x.sent = true → x.tag = tag → Answers (exec (.windowCompletionRx w tag 0 data) s) fun t =>
      t.out = .winDone x.port x.init 0 (swapBytes (s.win w).swap data) :: s.out ∧ t.winAccs w = [] ∧
      t.bit (Reg.WIN_STAT w) 1 = false ∧ s.keepsRegs t [Reg.WIN_STAT w, Reg.WIN_CNT w]) ∧
    (s.winAccs w = [] → s.brg.lockOps = [] → exec (.windowCompletionRx w tag code data) s = .next s ∧
      exec (.windowTimeout w busy) s = .next s) ∧
    (s.winAccs w = x :: rest → exec (.windowTimeout w busy) s = .next (s.winEnd w x (if busy then 20 else 16) []))

/-- Requests from other devices: a stopped page answers STOPPED, a request that no entry admits draws DENIED and the event, a
request of a locked space waits, and any other is served. Corners of the locks are the model's readings (log 20). -/
def Obligations.InboundRequests : Prop :=
  ∀ (s : State) (src init tag : Nat) (r : WReq), wfInbound src init tag r = true → r.kind = 0 → 1 ≤ r.size →
    (r.write = true → r.data.length = r.size) → ∀ q : InReq, q = { src := src, init := init, tag := tag, req := r } →
    (s.running 0x069 = false → exec (.inboundRequest src init tag r) s = .next (s.wcplSend q 4 [])) ∧
    (s.running 0x069 = true → s.bit (Reg.PG_INJARM 0x069) 0 = false →
      (r.space = 0 → closedPage (r.addr / 0x1000) = true →
        exec (.inboundRequest src init tag r) s = .next ((s.wcplSend q 3 []).raise 0x069 9)) ∧
      (s.brg.filters = [] → exec (.inboundRequest src init tag r) s = .next ((s.wcplSend q 3 []).raise 0x069 9)) ∧
      (r.space = 1 ∨ closedPage (r.addr / 0x1000) = false → s.admits src init r.space r.write r.addr r.size = true →
        s.brg.lockLost = [] →
        (s.lockedOut q = true → Answers (exec (.inboundRequest src init tag r) s) fun t =>
          t.brg.inWait = s.brg.inWait ++ [q] ∧ t.regs = s.regs ∧ t.out = s.out ∧ t.dma = s.dma) ∧
        (s.lockedOut q = false → exec (.inboundRequest src init tag r) s = .next (s.inboundServe q)))) ∧
    (r.space = 1 → r.write = true → s.dramHas r.addr r.size = true →
      s.inboundServe q = (s.dramWrite r.addr r.data).wcplSend q 0 []) ∧
    (r.space = 0 → 0x100000 < r.addr + r.size → s.inboundServe q = s.wcplSend q 2 [])

/-- Locks at this device and at others, and commits of windows and of the inbound filter. Corners of the locks are the model's
readings (log 20). -/
def Obligations.LocksAndCommits : Prop :=
  (
    ∀ (s : State) (src init tag w space : Nat) (r : WReq), wfInbound src init tag r = true → w < 64 → space < 2 →
      ∀ q : InReq, q = { src := src, init := init, tag := tag, req := r } →
      (s.running 0x069 = true → s.bit (Reg.PG_INJARM 0x069) 0 = false →
        (r.kind = 1 → s.locksAt src = true → s.devId < src → exec (.lockRequestRx src init tag r) s = .next (s.wcplSend q 19 [])) ∧
        (r.kind = 1 → s.locksAt src = false ∨ src ≤ s.devId → Sparse.find? s.brg.locks r.space = none →
          exec (.lockRequestRx src init tag r) s = .next (s.lockGrant q)) ∧
        (r.kind = 1 → s.locksAt src = false ∨ src ≤ s.devId → s.lockedOut q = true →
          Answers (exec (.lockRequestRx src init tag r) s) fun t => t.brg.lockWait = s.brg.lockWait ++ [q] ∧ t.regs = s.regs ∧
            t.out = s.out) ∧
        (r.kind = 2 → Sparse.find? s.brg.locks r.space = some (src, r.win) →
          exec (.lockRequestRx src init tag r) s = .next ((s.wcplSend q 0 []).lockFree r.space)) ∧
        (r.kind = 2 → Sparse.find? s.brg.locks r.space ≠ some (src, r.win) →
          exec (.lockRequestRx src init tag r) s = .next (s.lockBroken q))) ∧
      (s.running 0x069 = false → r.kind = 1 ∨ r.kind = 2 → exec (.lockRequestRx src init tag r) s = .next (s.wcplSend q 4 [])) ∧
      (Sparse.find? s.brg.locks space = none → exec (.lockHoldTimeout space) s = .next s) ∧
      (∀ h, Sparse.find? s.brg.locks space = some h → exec (.lockHoldTimeout space) s =
        .next ((s.setBrg { s.brg with lockLost := s.brg.lockLost ++ [(h.1, h.2, space)] }).lockFree space)) ∧
      (s.running 0x069 = false → exec (.wbLock w) s = .next (s.lockDone w 4 none) ∧ exec (.wbUnlock w) s = .next (s.lockDone w 4 none)) ∧
      (s.running 0x069 = true → (s.win w).lockOk = false → exec (.wbLock w) s = .next (s.lockDone w 3 none)) ∧
      (s.running 0x069 = true → (s.win w).lockOk = true → s.bit (Reg.WIN_STAT w) 2 = true → Answers (exec (.wbLock w) s) fun t =>
        t.rd Reg.WB_LOCKSTAT = BitVec.ofNat 32 (!s.brg.lockOps.isEmpty).toNat ∧ t.bit (Reg.PG_EVRAW 0x069) 11 = true ∧ t.brg = s.brg) ∧
      (s.running 0x069 = true → s.bit (Reg.WIN_STAT w) 2 = false → Answers (exec (.wbUnlock w) s) fun t =>
        t.rd Reg.WB_LOCKSTAT = BitVec.ofNat 32 (!s.brg.lockOps.isEmpty).toNat ∧ t.bit (Reg.PG_EVRAW 0x069) 11 = true ∧ t.brg = s.brg) ∧
      (s.running 0x069 = true → (s.win w).lockOk = true → s.bit (Reg.WIN_STAT w) 2 = false → s.canReach (s.win w).dev = false →
        exec (.wbLock w) s = .next (s.lockDone w 1 none))) ∧
  (
    ∀ (s : State) (v : Word) (w e : Nat) (timeout : Bool), w < 64 → e < 32 →
      (v.getLsbD 8 = false → exec (.windowCommit v) s = .next s ∧ exec (.inboundCommit v) s = .next s) ∧
      (v.getLsbD 8 = true → s.bit Reg.WB_CSTAT 0 = true →
        exec (.windowCommit v) s = .next (s.raise 0x069 1) ∧ exec (.inboundCommit v) s = .next (s.raise 0x069 1)) ∧
      (v.getLsbD 8 = true → s.bit Reg.WB_CSTAT 0 = false →
        (Answers (exec (.windowCommit v) s) fun t => t.brg = { s.brg with winCommit := some (v.fld 5 0) } ∧
          t.bit Reg.WB_CSTAT 0 = true ∧ s.keepsRegs t [Reg.WB_CSTAT]) ∧
        (Answers (exec (.inboundCommit v) s) fun t => t.brg = { s.brg with inCommit := some (v.fld 4 0) } ∧
          t.bit Reg.WB_CSTAT 0 = true ∧ s.keepsRegs t [Reg.WB_CSTAT])) ∧
      (s.brg.winCommit = none → exec (.windowCommitApply timeout) s = .next s) ∧
      (s.brg.winCommit = some w → s.winAccs w = [] → s.bit (Reg.WIN_STAT w) 2 = false →
        ((s.winWritten w).en = false ∨ (s.winWritten w).badArg = false ∧ s.frameConflict w (s.winWritten w) = false →
          Answers (exec (.windowCommitApply timeout) s) fun t => t.win w = s.winWritten w ∧ t.bit (Reg.WIN_STAT w) 0 = true ∧
            t.rd Reg.WB_CSTAT = 0 ∧ t.brg.winCommit = none ∧ t.bit (Reg.PG_EVRAW 0x069) 10 = true) ∧
        ((s.winWritten w).en = true → (s.winWritten w).badArg = true → Answers (exec (.windowCommitApply timeout) s) fun t =>
          t.brg.wins = s.brg.wins ∧ t.get Reg.WB_CSTAT 3 1 = 1 ∧ t.brg.winCommit = none)) ∧
      (s.brg.winCommit = some w → s.bit (Reg.WIN_STAT w) 2 = true → exec (.windowCommitApply true) s =
        .next ((s.commitDone 3).winPump w (s.winAccs w).length)) ∧
      (s.brg.inCommit = none → exec (.inboundCommitApply timeout) s = .next s) ∧
      (s.brg.inCommit = some e → s.entryBusy e = false → Answers (exec (.inboundCommitApply timeout) s) fun t =>
        Sparse.find? t.brg.filters e = some (s.filterWritten e) ∧ t.rd Reg.WB_CSTAT = 0 ∧ t.brg.inCommit = none) ∧
      (s.brg.inCommit = some e → s.entryBusy e = true →
        exec (.inboundCommitApply false) s = .next s ∧ exec (.inboundCommitApply true) s = .next (s.commitDone 3)))

/-- Messages wait for the window writes of their initiator; the table decides where one that arrived goes; table ops complete with
their status; the error log is read oldest first. Corners of the message bridge are the model's readings (log 59). -/
def Obligations.MessagesAndTheTable : Prop :=
  ∀ (s : State) (v : Word) (lat : Nat),
    (Answers (exec (.sigTxWrite v) s) fun t => t.brg.sigs = s.brg.sigs ++ [(0, v.fld 24 16, v.fld 15 0, [], s.brg.nextSeq)] ∧ t.regs = s.regs ∧
      t.out = s.out) ∧
    ((s.brg.sigs.all fun m => s.writeOpen m.1 m.2.1 m.2.2.2.2) = true → exec .messageRelease s = .next s) ∧
    (∀ m, s.brg.sigs.find? (fun m => !s.writeOpen m.1 m.2.1 m.2.2.2.2) = some m → exec .messageRelease s = .next
      ((s.setBrg { s.brg with sigs := s.brg.sigs.erase m }).fabricSend m.2.1 5 m.1 0 (.message m.2.2.1 0 m.2.2.2.1))) ∧
    (s.mbIn = [] → exec (.messageMatch lat) s = .next s) ∧
    (∀ m rest, s.mbIn = m :: rest → s.bit (Reg.PG_INJARM 0x06A) 0 = false → exec (.messageMatch lat) s = .next
      (({ s with mbIn := rest } : State).mbMatch { src := m.1, id := m.2.1, data := m.2.2.1, time := m.2.2.2 } lat)) ∧
    (∀ m rest, s.mbIn = m :: rest → s.bit (Reg.PG_INJARM 0x06A) 0 = false → s.brg.mbTable = [] → s.bit Reg.MB_CFG 0 = false →
      Answers (exec (.messageMatch lat) s) fun t => t.mbIn = rest ∧ t.bit (Reg.PG_EVRAW 0x06A) 10 = true ∧
        t.get Reg.MB_CNT 31 16 = min (s.get Reg.MB_CNT 31 16 + 1) 65535) ∧
    (s.settled 0x06A = false ∨ s.bit Reg.MB_TSTAT 0 = true →
      ∀ c ∈ [Instr.mbTableNop, .mbTableWrite, .mbTableRead, .mbTableReservedOp], exec c s = .next (s.raise 0x06A 1)) ∧
    (s.settled 0x06A = true → s.bit Reg.MB_TSTAT 0 = false →
      (Answers (exec .mbTableNop s) fun t => t.rd Reg.MB_TSTAT = 0 ∧ t.bit (Reg.PG_EVRAW 0x06A) 8 = true ∧ t.brg = s.brg) ∧
      (Answers (exec .mbTableReservedOp s) fun t => t.rd Reg.MB_TSTAT = 256 ∧ t.bit (Reg.PG_EVRAW 0x06A) 8 = true ∧ t.brg = s.brg) ∧
      (∀ es, es = (List.range 8).map (fun w => s.rd (Reg.MB_TW w)) →
        (mbReserved es = true → Answers (exec .mbTableWrite s) fun t => t.rd Reg.MB_TSTAT = 256 ∧ t.brg = s.brg) ∧
        (mbReserved es = false → s.mbAbsent es = true → Answers (exec .mbTableWrite s) fun t => t.rd Reg.MB_TSTAT = 512 ∧
          t.brg = s.brg) ∧
        (mbReserved es = false → s.mbAbsent es = false → Answers (exec .mbTableWrite s) fun t => t.rd Reg.MB_TSTAT = 0 ∧
          t.mbEntry (s.get Reg.MB_TIDX 10 0) = es ∧
          ∀ j, j ≠ s.get Reg.MB_TIDX 10 0 → t.mbEntry j = s.mbEntry j)) ∧
      (Answers (exec .mbTableRead s) fun t => t.rd Reg.MB_TSTAT = 0 ∧ t.brg = s.brg ∧
        ∀ w, w < 8 → t.rd (Reg.MB_TW w) = mbWord (s.mbEntry (s.get Reg.MB_TIDX 10 0)) w)) ∧
    (s.brg.elog = [] → Answers (exec .werrLogRead s) fun t => t.rd Reg.WB_ELOG0 = 0 ∧ t.rd Reg.WB_ELOG1 = 0 ∧ t.rd Reg.WB_ELOG2 = 0 ∧
      s.keepsRegs t [Reg.WB_ELOG0, Reg.WB_ELOG1, Reg.WB_ELOG2]) ∧
    (∀ code w init addr rest, s.brg.elog = (code, w, init, addr) :: rest → addr < 2 ^ 64 → Answers (exec .werrLogRead s) fun t =>
      t.brg.elog = rest ∧ t.rd Reg.WB_ELOG0 = BitVec.ofNat 32 (code + w * 256 + init * 65536 + 2 ^ 31) ∧
      t.rd64 Reg.WB_ELOG1 Reg.WB_ELOG2 = addr ∧ s.keepsRegs t [Reg.WB_ELOG0, Reg.WB_ELOG1, Reg.WB_ELOG2])

/-! ### Seats: doorbells, submission entries, ports -/

/-- Doorbells: a seat that accepts none ignores them; one of a queue that is not set up, beyond its depth, or past its head is
invalid and counted; a good tail is stored. Rounds begin only when the one before is over. That ring doorbells count their errors
as queues do is the model's reading (log 25). -/
def Obligations.DoorbellsAndRounds : Prop :=
  ∀ (s : State) (i q v : Nat), i < 64 → q < 8 → v < 2 ^ 32 →
    (s.doorbells i = false → ∀ c ∈ [Instr.sqDoorbell i q v, .cqDoorbell i q v, .eqDoorbell i v], exec c s = .next s) ∧
    (s.doorbells i = true →
      (s.sqUp i q = none → exec (.sqDoorbell i q v) s = .next (s.dbInvalid i 0 q v)) ∧
      (s.cqOf i q = none → exec (.cqDoorbell i q v) s = .next (s.dbInvalid i 1 q v)) ∧
      ((s.seat i).eq = none → exec (.eqDoorbell i v) s = .next (s.dbInvalid i 2 0 v)) ∧
      (∀ d, s.sqUp i q = some d → d.depth ≤ v % 65536 → exec (.sqDoorbell i q v) s = .next (s.dbInvalid i 0 q v)) ∧
      (∀ d, s.sqUp i q = some d → v % 65536 < d.depth →
        around d.depth (s.sqTail i q) (v % 65536) ≤ around d.depth (s.sqTail i q) (s.sqHead i q + d.depth - 1) →
        Answers (exec (.sqDoorbell i q v) s) fun t => t.sqTail i q = v % 65536 ∧ s.keepsRegs t [Reg.SA_SQ_TAIL i q] ∧ t.seats = s.seats) ∧
      (∀ d, s.sqUp i q = some d → around d.depth (s.sqTail i q) (s.sqHead i q + d.depth - 1) < around d.depth (s.sqTail i q) (v % 65536) →
        exec (.sqDoorbell i q v) s = .next (s.dbInvalid i 0 q v)) ∧
      (∀ o, s.cqOf i q = some o → o.depth ≤ v % 65536 → exec (.cqDoorbell i q v) s = .next (s.dbInvalid i 1 q v)) ∧
      (∀ o, s.cqOf i q = some o → v % 65536 < o.depth → ∀ t : State, t = (s.modSeat i fun x =>
          { x with cqs := Sparse.insert x.cqs q (o.consume (v % 65536)) }).wrN (Reg.SA_CQ_HEAD i q) (v % 65536) →
        exec (.cqDoorbell i q v) s = .next (t.cqDrain i q (t.seat i).heldC.length)) ∧
      (∀ o, (s.seat i).eq = some o → o.depth ≤ v % 65536 → exec (.eqDoorbell i v) s = .next (s.dbInvalid i 2 0 v)) ∧
      (∀ o, (s.seat i).eq = some o → v % 65536 < o.depth → exec (.eqDoorbell i v) s = .next
        (((s.modSeat i fun x => { x with eq := some (o.consume (v % 65536)) }).wrN (Reg.SA_EQ_HEAD i) (v % 65536)).eqOverflow i))) ∧
    ((s.dbInvalid i 0 q v).get (Reg.SA_ERR i) 15 0 = min (s.get (Reg.SA_ERR i) 15 0 + 1) 65535) ∧
    (s.roundOver = false ∨ s.halted = true → exec .arbRoundStart s = .next s) ∧
    (s.roundOver = true → s.halted = false → exec .arbRoundStart s = .next s.roundStart)

/-- Fetching and executing entries: an entry is fetched only where its queue may start one, a row acts on the entry that is next
in its queue, a reserved bit draws BAD_FIELD and an unknown opcode BAD_OPC; a started entry leaves the list when it completes and
is counted, and a SILENT one that is OK posts nothing. That reserved bits of any entry draw BAD_FIELD is the model's reading (log
25). -/
def Obligations.SubmissionEntries : Prop :=
  (
    ∀ (s : State) (i q cid : Nat) (b data : List Byte) (host : List (Nat × Nat)) (e : Started), i < 64 → q < 8 → cid < 65536 →
      b.length = 64 → data.length = 64 →
      (s.sqUp i q = none → exec (.sqEntryFetch i q b host) s = .next s) ∧
      (∀ d, s.sqUp i q = some d → s.mayFetch i q d b = false → exec (.sqEntryFetch i q b host) s = .next s) ∧
      (∀ d (t u : State) r c, s.sqUp i q = some d → s.mayFetch i q d b = true →
        s.translate host i (d.base + 64 * s.sqHead i q) false = (t, r) → r.code = 0 → t.entryBytes r b = (u, some c) →
        exec (.sqEntryFetch i q b host) s = .next (u.entryStart i q d c)) ∧
      (s.nextSqe i q cid = none → ∀ c ∈ [Instr.sqeNop i q cid, .sqeChanCmd i q cid, .sqeProg i q cid data, .sqeStepMsg i q cid,
        .sqeMsgTx i q cid data, .sqeFence i q cid, .sqeWinLock i q cid, .sqeRegRd i q cid, .sqeBadOpc i q cid, .sqeDma i q cid],
        exec c s = .next s) ∧
      (s.nextSqe i q cid = some e → 10 ≤ opcOf e.bytes → exec (.sqeBadOpc i q cid) s = .next (s.complete i q cid 1 0 0)) ∧
      (s.nextSqe i q cid = some e → badHead e.bytes = true →
        ∀ x ∈ [(Instr.sqeNop i q cid, 0), (.sqeChanCmd i q cid, 1), (.sqeStepMsg i q cid, 3), (.sqeMsgTx i q cid data, 4),
          (.sqeFence i q cid, 5), (.sqeWinLock i q cid, 6), (.sqeDma i q cid, 7)],
          opcOf e.bytes = x.2 → exec x.1 s = .next (s.complete i q cid 2 0 0)) ∧
      (s.nextSqe i q cid = some e → badHead e.bytes = false → ∀ m : State, m = s.markRun i e →
        (opcOf e.bytes = 0 → exec (.sqeNop i q cid) s = .next (m.complete i q cid 0 0 0)) ∧
        (opcOf e.bytes = 1 → byteAt e.bytes 12 < 16 → exec (.sqeChanCmd i q cid) s = .next (m.sqeChan i q cid e.bytes)) ∧
        (opcOf e.bytes = 2 → le16At e.bytes 8 < 1024 → byteAt e.bytes 10 < 16 → s.progOp = none → s.has 0x031 = true →
          Answers (exec (.sqeProg i q cid data) s) fun t => t.progOp = some (progOf i q cid e.bytes data) ∧
            t.bit Reg.STEP_PSTAT 0 = true ∧ s.keepsRegs t [Reg.STEP_PSTAT]) ∧
        (opcOf e.bytes = 3 → exec (.sqeStepMsg i q cid) s = .next (m.sqeMsg i q cid e.bytes)) ∧
        (opcOf e.bytes = 4 → byteAt e.bytes 12 ≤ 64 → le16At e.bytes 8 / 512 % 64 = 0 →
          exec (.sqeMsgTx i q cid data) s = .next (m.sqeTx i q cid e.bytes data)) ∧
        (opcOf e.bytes = 5 → exec (.sqeFence i q cid) s = .next (m.fenceIssue i (.sqe i q cid))) ∧
        (opcOf e.bytes = 6 → byteAt e.bytes 8 < 64 → byteAt e.bytes 9 = 1 ∨ byteAt e.bytes 9 = 2 →
          exec (.sqeWinLock i q cid) s = .next (m.sqeLock i q cid e.bytes)) ∧
        (opcOf e.bytes = 7 → badDesc e.bytes = false → exec (.sqeDma i q cid) s = .next (m.sqeDma i q cid e.bytes)) ∧
        (opcOf e.bytes = 8 → (∀ a, sqeReg e.bytes = some a → s.copyHeld a = false) →
          exec (.sqeRegRd i q cid) s = .next (m.sqeRead i q cid e.bytes)) ∧
        (opcOf e.bytes = 9 → exec (.sqeRegWr i q cid) s = .next (m.sqeWrite i q cid e.bytes).regWrFollow)) ∧
      (∀ r, s.maskRefused i (maskCh (byteAt b 8) (le16At b 10)) = r → r ≠ 0 →
        s.sqeChan i q cid b = s.complete i q cid r 0 0 ∧ s.sqeMsg i q cid b = s.complete i q cid r 0 0) ∧
      (sqeReg b = none → s.sqeRead i q cid b = s.complete i q cid 3 0 0 ∧ s.sqeWrite i q cid b = s.complete i q cid 3 0 0)) ∧
  (
    ∀ (s : State) (i q cid status detail result : Nat), i < 64 → q < 8 → cid < 65536 →
      (s.startedOf i q cid = none → s.complete i q cid status detail result = s) ∧
      (∀ e, s.startedOf i q cid = some e →
        (s.complete i q cid status detail result).get (Reg.ST_CNT i) 31 0 = min (s.get (Reg.ST_CNT i) 31 0 + 1) (2 ^ 32 - 1) ∧
        ((s.complete i q cid status detail result).seat i).started = (s.seat i).started.erase e ∧
        ((byteAt e.bytes 1).testBit 1 = true → status = 0 → (s.complete i q cid status detail result).out = s.out ∧
          s.keepsRegs (s.complete i q cid status detail result) [Reg.ST_CNT i])))

/-- Ports: each seat that was ACTIVE on a port that goes down is DETACHED and no other seat changes its state; a tenant whose time
is over is LOST; a reset and a binding end; and an unmasked entry sends what was pending. That tenants stay DETACHED when their
port returns is the model's reading (log 24). -/
def Obligations.PortsAndSeats : Prop :=
  ∀ (s : State) (p i rate width vec : Nat) (d3 : Bool), p < 2 → i < 64 → 1 ≤ rate → rate ≤ 4 → 1 ≤ width → width < 16 → vec < 512 →
    (Answers (exec (.portDown p d3) s) fun t => t.portUp p = false ∧
      (s.portUp p = true → t.seatState i = if s.seatState i = 1 ∧ s.seatPort i = p then 2 else s.seatState i) ∧
      (s.portUp p = false → s.keepsRegs t [Reg.PCIE_LSTAT p]) ∧ (d3 = true → t.bit (Reg.PCIE_LSTAT p) 8 = true)) ∧
    (exec (.pcieFlr p) s = .next (((((s.portFall p).msixReset p).setBit (Reg.PCIE_LSTAT p) 9 true).count (Reg.PCIE_DOWNS p) 31 16).raise
      (0x0F8 + p) 11)) ∧
    (s.running (0x0F8 + p) = false ∨ s.easy = true ∧ p = 1 → exec (.pcieLinkUp p rate width) s = .next s) ∧
    (s.running (0x0F8 + p) = true → s.easy = false ∨ p = 0 → ∀ t : State,
      t = (s.wrN (Reg.PCIE_LSTAT p) (1 + 2 * rate + 16 * width)).raise (0x0F8 + p) 9 →
      (s.seatPort 0 = p → s.seatState 0 ≠ 3 →
        exec (.pcieLinkUp p rate width) s = .next ((t.freeHeld 0).setSeatState 0 1)) ∧
      (s.seatPort 0 ≠ p ∨ s.seatState 0 = 3 → exec (.pcieLinkUp p rate width) s = .next t.seatsFollow)) ∧
    (i ≠ 0 → s.seatState i = 2 → s.rd (Reg.ST_LOSTTO i) ≠ 0 → exec (.seatLostTimeout i) s = .next (s.seatLose i)) ∧
    (i = 0 ∨ s.seatState i ≠ 2 ∨ s.rd (Reg.ST_LOSTTO i) = 0 → exec (.seatLostTimeout i) s = .next s) ∧
    (s.seatState i = 3 → exec (.seatResetDone i) s = .next (s.resetEnd i)) ∧
    (s.seatState i ≠ 3 → exec (.seatResetDone i) s = .next s ∧ exec (.seatResetChunkDeadline i) s = .next s) ∧
    (s.seatState i = 3 → exec (.seatResetChunkDeadline i) s = .next
      ((s.each ((s.enginesOf i).filter fun e => e.2.data.isNone) fun s e => s.abandon e.1 .ready).dropXfers i)) ∧
    ((s.seat i).binding = none → exec (.seatBindDone i) s = .next s) ∧
    (∀ q, (s.seat i).binding = some q → s.enginesOf i = [] → exec (.seatBindDone i) s = .next (s.bindEnd i q)) ∧
    (∀ q, (s.seat i).binding = some q → s.enginesOf i ≠ [] → exec (.seatBindDone i) s = .next s) ∧
    (exec (.pcieCompletionTimeout p none) s = .next ((s.count (Reg.PCIE_ERR p) 15 0).raise (0x0F8 + p) 10)) ∧
    (∀ e, e < 8 → exec (.pcieCompletionTimeout p (some e)) s =
      .next (((s.count (Reg.PCIE_ERR p) 15 0).raise (0x0F8 + p) 10).readDone e none)) ∧
    (Answers (exec (.msixUnmask p vec) s) fun t => t.msixEntry p vec = { masked := false, pending := false } ∧ t.regs = s.regs ∧
      t.out = if (s.msixEntry p vec).pending then .msix p vec :: s.out else s.out)

/-- The mailbox: a command written while BUSY raises its event and does nothing, Easy mode refuses what it does not offer, a
reserved bit is refused, and otherwise the body of the op runs and the command ends with its result. Response words without a
stated content are free (log 12). -/
def Obligations.MailboxCommands : Prop :=
  ∀ (s : State) (data : List Byte) (ok : Bool),
    (∀ x ∈ ([(.mbxNop, 0, true, fun s _ => accept s), (.seatOpen, 1, false, seatOpenBody), (.seatClose, 2, false, seatCloseBody),
        (.seatReset, 3, false, seatResetBody), (.seatShare, 4, false, seatShareBody), (.seatBind, 5, false, seatBindBody),
        (.seatLost, 6, false, seatLostBody), (.queueSet, 8, false, queueSetBody), (.queueDel, 9, false, queueDelBody),
        (.ringSet, 10, false, ringSetBody), (.ringDel, 11, false, ringDelBody), (.grant, 12, false, grantBody),
        (.revoke, 13, false, revokeBody), (.xlateSet, 14, false, xlateSetBody), (.xlateInv, 15, false, xlateInvBody),
        (.seatInfo, 16, true, seatInfoBody), (.authChallenge, 24, true, challengeBody), (.recInfo, 32, true, recInfoBody),
        (.recErase, 33, true, recEraseBody), (.recWrite data, 34, true, recWriteBody data),
        (.recVerify ok, 35, true, recVerifyBody ok), (.recSelect ok, 36, true, recSelectBody ok),
        (.recRestart ok, 37, true, recRestartBody ok), (.mbxBadOp, (s.arg 0).fld 7 0, false, fun s _ => refuse s 1)] :
        List (Instr × Nat × Bool × MbxBody)),
      (s.bit Reg.COX_STAT 0 = true → exec x.1 s = .next (s.raise 0x080 9)) ∧
      (s.bit Reg.COX_STAT 0 = false → ∀ b : State, b = s.setBit Reg.COX_STAT 0 true →
        (s.easy = true → x.2.2.1 = false → exec x.1 s =
          .next { b with mbx := some { op := x.2.1, seat := s.argSeat, result := some (9, []) } }) ∧
        (s.easy = false ∨ x.2.2.1 = true → (s.arg 0).fld 31 16 ≠ 0 → exec x.1 s =
          .next { b with mbx := some { op := x.2.1, seat := s.argSeat, result := some (2, []) } }) ∧
        (s.easy = false ∨ x.2.2.1 = true → (s.arg 0).fld 31 16 = 0 → exec x.1 s =
          .next { (x.2.2.2 b s.argSeat).1 with mbx := some { op := x.2.1, seat := s.argSeat, result := (x.2.2.2 b s.argSeat).2 } }))) ∧
    (s.mbx = none → exec .mbxCommandDone s = .next s) ∧
    (∀ m, s.mbx = some m → m.result = none → exec .mbxCommandDone s = .next s) ∧
    (∀ m st rsp, s.mbx = some m → m.result = some (st, rsp) → st < 256 → Answers (exec .mbxCommandDone s) fun t => t.mbx = none ∧
      t.bit Reg.COX_STAT 0 = false ∧ t.get Reg.COX_STAT 15 8 = st ∧
      t.get Reg.COX_STAT 31 16 = (s.get Reg.COX_STAT 31 16 + 1) % 65536 ∧ t.bit (Reg.PG_EVRAW 0x080) 8 = true ∧
      t.mbxLog.length ≤ 16 ∧ ∀ w v, w < 4 → rsp[w]? = some v → t.rd (Reg.COX_RSP w) = v)

/-- What the mailbox refuses of seats, queues, rings and grants, and what it does otherwise. Corners of queues and rings are the
model's readings (log 25). -/
def Obligations.SeatOperations : Prop :=
  ∀ (s : State) (i : Nat), i < 64 →
    (seatCloseBody s 0 = refuse s 3 ∧ seatCloseBody s 64 = refuse s 2) ∧
    (i ≠ 0 → s.seatState i ≠ 0 → seatCloseBody s i = (s.resetStart i true, none)) ∧
    (s.seatState i = 0 ∨ s.seatState i = 3 → seatResetBody s i = refuse s 3) ∧
    (s.seatState i ≠ 0 → s.seatState i ≠ 3 → seatResetBody s i = (s.resetStart i false, none)) ∧
    ((s.arg 1).fld 31 8 = 0 → (s.arg 1).fld 7 0 = 0 → seatShareBody s 0 = refuse s 2) ∧
    ((s.arg 1).fld 31 8 = 0 → s.seatState i ≠ 0 → i ≠ 0 ∨ (s.arg 1).fld 7 0 ≠ 0 →
      seatShareBody s i = accept (s.modSeat i fun t => { t with shareNext := some ((s.arg 1).fld 7 0) })) ∧
    (s.liveSeat i = 0 → (s.arg 1).fld 31 1 = 0 → s.portUp ((s.arg 1).fld 0 0) = false → seatBindBody s i = refuse s 11) ∧
    (i ≠ 0 → s.seatState i = 1 ∨ s.seatState i = 2 → seatLostBody s i = accept (s.seatLose i)) ∧
    (seatLostBody s 0 = refuse s 3) ∧
    ((s.arg 1).fld 7 1 = 0 → (s.arg 1).fld 31 16 = 0 → s.seatState i ≠ 0 → seatOpenBody s i = refuse s 3) ∧
    ((s.arg 1).fld 7 1 = 0 → (s.arg 1).fld 31 16 = 0 → s.seatState i = 0 → s.portUp ((s.arg 1).fld 0 0) = true →
      seatOpenBody s i = accept (s.openSeat i ((s.arg 1).fld 0 0) ((s.arg 1).fld 15 8) (s.arg 2).toNat) [BitVec.ofNat 32 i]) ∧
    (s.seatState i = 3 → queueSetBody s i = refuse s 3 ∧ queueDelBody s i = refuse s 3 ∧ ringSetBody s i = refuse s 3 ∧
      ringDelBody s i = refuse s 3 ∧ xlateSetBody s i = refuse s 3 ∧ grantBody s i = refuse s 5 ∧
      ((s.arg 1).fld 31 1 = 0 → seatBindBody s i = refuse s 5)) ∧
    (s.liveSeat i = 0 → badQueueWord (s.arg 1) = false → s.argAddr 3 % 4096 = 0 → (s.arg 5).fld 31 3 = 0 →
      (goodDepth (s.arg 2).toNat = false → queueSetBody s i = refuse s 8) ∧
      (goodDepth (s.arg 2).toNat = true → s.queueUp i ((s.arg 1).fld 1 0) ((s.arg 1).fld 6 4) = true →
        queueSetBody s i = refuse s 5) ∧
      (goodDepth (s.arg 2).toNat = true → s.queueUp i ((s.arg 1).fld 1 0) ((s.arg 1).fld 6 4) = false →
        (s.arg 1).fld 1 0 ≠ 0 ∨ (s.cqOf i ((s.arg 5).fld 2 0)).isSome = true →
        queueSetBody s i = accept (s.setQueue i ((s.arg 1).fld 1 0) ((s.arg 1).fld 6 4) (s.arg 2).toNat (s.argAddr 3)
          ((s.arg 5).fld 2 0)))) ∧
    (s.liveSeat i = 0 → badQueueWord (s.arg 1) = false → s.queueUp i ((s.arg 1).fld 1 0) ((s.arg 1).fld 6 4) = false →
      queueDelBody s i = refuse s 2) ∧
    (s.liveSeat i = 0 → s.named i = none → grantBody s i = refuse s 2 ∧ revokeBody s i = refuse s 2) ∧
    (∀ n, s.liveSeat i = 0 → s.named i = some n → (n.idxs.any fun x => !s.resourceAt n.kind x) = true →
      grantBody s i = refuse s 7 ∧ revokeBody s i = refuse s 7) ∧
    (∀ n, s.liveSeat i = 0 → s.named i = some n → (n.idxs.all fun x => s.resourceAt n.kind x) = true →
      (n.idxs.any fun x => s.heldBy i n.kind x) = true → grantBody s i = refuse s 6) ∧
    (seatInfoBody s i = accept s [s.rd (Reg.ST_STAT i), s.rd (Reg.ST_QSET i), BitVec.ofNat 32 ((s.rd (Reg.ST_GRANTS i)).fld 8 0),
      s.rd (Reg.ST_LOSTTO i)]) ∧
    (s.key.authShut = true → challengeBody s i = (s, some (10, [9])))

/-! ### The transfer engines and the seat map unit -/

/-- Engines and translation: a chunk that may not be carried is not started, data comes to an engine that waits for it, a chunk is
written out only when its data is there, and a suspended seat goes on or ends by command. The order of checks in corners is the
model's reading (log 57). -/
def Obligations.EnginesAndTranslation : Prop :=
  ∀ (s : State) (e x i : Nat) (host : List (Nat × Nat)) (data : List Byte), e < 8 → i < 64 → data.length ≤ 256 →
    (s.halted = true ∨ s.xfer? x = none → exec (.dmaChunkStart e x host) s = .next s) ∧
    (∀ t, s.xfer? x = some t → s.mayCarry e t = false → exec (.dmaChunkStart e x host) s = .next s) ∧
    (∀ t q cid, s.halted = false → s.xfer? x = some t → s.mayCarry e t = true → t.kind = .desc q cid →
      s.bit (Reg.PG_INJARM 0x098) 0 = false → exec (.dmaChunkStart e x host) s = .next ((s.spend t.seat).descChunk e x t host)) ∧
    (∀ t r, s.halted = false → s.xfer? x = some t → s.mayCarry e t = true → t.kind = .record r →
      s.bit (Reg.PG_INJARM 0x098) 0 = false → exec (.dmaChunkStart e x host) s = .next (s.recChunk e x t r host)) ∧
    (s.engine? e = none → exec (.dmaReadCompletion e (some data)) s = .next s ∧ exec (.dmaReadCompletion e none) s = .next s ∧
      exec (.dmaChunkComplete e) s = .next s) ∧
    (∀ c, s.engine? e = some c → c.data = none → c.want = data.length → Answers (exec (.dmaReadCompletion e (some data)) s) fun t =>
      t.engine? e = some { c with data := some (c.pre ++ data ++ c.post) } ∧ t.regs = s.regs ∧ t.dma.dram = s.dma.dram) ∧
    (∀ c, s.engine? e = some c → c.data = none → exec (.dmaReadCompletion e none) s = .next (s.readError e)) ∧
    (∀ c, s.engine? e = some c → c.data = none → exec (.dmaChunkComplete e) s = .next s) ∧
    (∀ c d t, s.engine? e = some c → c.data = some d → s.xfer? c.x = some t → s.bit (Reg.PG_INJARM (0x090 + e)) 0 = false →
      exec (.dmaChunkComplete e) s = .next ((((s.chunkWrite c t d).engineIdle e).chunkCount e t.seat c.len).xferNext e c t)) ∧
    (exec (.smuResumeRetry i) s = .next (s.smuRetry i)) ∧ (exec (.smuResumeAbort i) s = .next (s.smuAbort i)) ∧
    ((s.smuRetry i).dma.xfers.all fun y => !(y.2.seat == i && y.2.st == .suspended)) = true ∧
    (s.mbx = none → exec .xlateSetDone s = .next s ∧ exec .xlateInvDone s = .next s) ∧
    (∀ m, s.mbx = some m → m.op = 14 → m.result = none → s.running 0x098 = true → s.enginesOf m.seat = [] →
      Answers (exec .xlateSetDone s) fun t => t.mbx = some { m with result := some (0, []) } ∧ t.regs = s.regs) ∧
    (∀ m, s.mbx = some m → m.op = 15 → m.result = none → s.running 0x098 = true → s.enginesOf m.seat = [] →
      Answers (exec .xlateInvDone s) fun t => t.mbx = some { m with result := some (0, []) } ∧ t.bit (Reg.PG_EVRAW 0x098) 9 = true) ∧
    (s.running 0x098 = false → exec .xlateSetDone s = .next s ∧ exec .xlateInvDone s = .next s) ∧
    (s.dma.smuLog = [] → Answers (exec .faultLogRead s) fun t => t.rd Reg.SMU_FLOG0 = 0 ∧ t.rd Reg.SMU_FLOG3 = 0 ∧
      t.rd64 Reg.SMU_FLOG1 Reg.SMU_FLOG2 = 0 ∧ s.keepsRegs t [Reg.SMU_FLOG0, Reg.SMU_FLOG1, Reg.SMU_FLOG2, Reg.SMU_FLOG3]) ∧
    (∀ w addr tag rest, s.dma.smuLog = (w, addr, tag) :: rest → addr < 2 ^ 64 → Answers (exec .faultLogRead s) fun t =>
      t.dma.smuLog = rest ∧ t.rd Reg.SMU_FLOG0 = w ∧ t.rd64 Reg.SMU_FLOG1 Reg.SMU_FLOG2 = addr ∧ t.rd Reg.SMU_FLOG3 = tag ∧
      s.keepsRegs t [Reg.SMU_FLOG0, Reg.SMU_FLOG1, Reg.SMU_FLOG2, Reg.SMU_FLOG3])

/-- Device DRAM: what is written is read back, and no other byte changes; a read of a byte that nothing has written gives 0
(the model's choice, log 9). Boot flash: an erased bank reads FFH everywhere and no other bank changes, the running bank is refused, and
a region is written once between erasures. -/
def Obligations.DeviceMemoryAndFlash : Prop :=
  (
    ∀ (s : State) (addr : Nat) (data : List Byte),
      Memory.read (s.dramWrite addr data).dma.dram addr data.length = data ∧ s.keepsDram (s.dramWrite addr data) addr data.length ∧
      (Memory.wf s.dma.dram = true → Memory.wf (s.dramWrite addr data).dma.dram = true) ∧
      (s.dramWrite addr data).regs = s.regs ∧ (∀ a, Memory.byte State.reset.dma.dram a = 0) ∧
      (s.bit (Reg.PG_INJARM 0x0F0) 0 = false → s.dramRead addr data.length = (s, some (Memory.read s.dma.dram addr data.length)))) ∧
  (
    ∀ (s : State) (i : Nat) (data : List Byte) (ok : Bool),
      (s.badBank = false → s.ownBank s.argBank = false → ∃ t : State, recEraseBody s i = (t, some (0, [])) ∧ t.regs = s.regs ∧
        ∀ a, Sparse.find? t.flash a = if a / bankSize = s.argBank then none else Sparse.find? s.flash a) ∧
      (s.badBank = true ∨ s.ownBank s.argBank = true → recEraseBody s i = refuse s 2 ∧ recWriteBody data s i = refuse s 2) ∧
      ((s.arg 2).toNat % 256 ≠ 0 ∨ (s.arg 5).toNat % 256 ≠ 0 ∨ (s.arg 5).toNat < 256 ∨ 65536 < (s.arg 5).toNat →
        recWriteBody data s i = refuse s 2) ∧
      ((∃ p ∈ s.flashPages, (s.argBank * bankSize + (s.arg 2).toNat) / 256 ≤ p ∧
          p < (s.argBank * bankSize + (s.arg 2).toNat) / 256 + (s.arg 5).toNat / 256) → recWriteBody data s i = refuse s 2) ∧
      (s.badBank = false → s.ownBank s.argBank = false → (s.arg 2).toNat % 256 = 0 → (s.arg 5).toNat % 256 = 0 → 256 ≤ (s.arg 5).toNat →
        (s.arg 5).toNat ≤ 65536 → (s.arg 2).toNat + (s.arg 5).toNat ≤ bankSize → data.length = (s.arg 5).toNat →
        (∀ p ∈ s.flashPages, p < (s.argBank * bankSize + (s.arg 2).toNat) / 256 ∨
          (s.argBank * bankSize + (s.arg 2).toNat) / 256 + (s.arg 5).toNat / 256 ≤ p) →
        ∃ t : State, recWriteBody data s i = (t, some (0, [])) ∧ t.regs = s.regs ∧
          (∀ j, j < data.length → Sparse.get 0xFF t.flash (s.argBank * bankSize + (s.arg 2).toNat + j) = data.getD j 0) ∧
          ∀ a, (a < s.argBank * bankSize + (s.arg 2).toNat ∨ s.argBank * bankSize + (s.arg 2).toNat + data.length ≤ a) →
            Sparse.find? t.flash a = Sparse.find? s.flash a) ∧
      (s.badBank = true → recVerifyBody ok s i = refuse s 2 ∧ recSelectBody ok s i = refuse s 2) ∧
      (s.badBank = false → recVerifyBody ok s i = accept s [BitVec.ofNat 32 (s.imageCode s.argBank true ok)]) ∧
      (s.badBank = false → ∀ code, s.imageCode s.argBank true ok = code → ∃ t : State, s.keepsRegs t [Reg.BOOT_SEL] ∧
        (if code = 0 then recSelectBody ok s i = (t, some (0, [0])) ∧ t.get Reg.BOOT_SEL 0 0 = s.argBank % 2
          else recSelectBody ok s i = (t, some (10, [BitVec.ofNat 32 code])) ∧ t = s)) ∧
      (∀ code, s.imageCode (s.get Reg.BOOT_SEL 0 0) true ok = code → ∃ t : State, s.keepsRegs t [Reg.BOOT_SEL] ∧
        (if code = 0 then recRestartBody ok s i = (t, some (0, [])) ∧ t.power.recDue = true ∧ t.fails = 0
          else recRestartBody ok s i = (t, some (10, [BitVec.ofNat 32 code])) ∧ t = s)))

/-! ### The Ethernet switch -/

/-- Ports, tunnels and the seat interface: a port that is not usable takes no frame, leaving UP clears the link bit, and a table
entry of a frame that never completes is dropped and counted. What ports above 11 have in place of PORT.CFG is the model's reading
(log 16). -/
def Obligations.SwitchPorts : Prop :=
  ∀ (s : State) (p t frame seg ts i : Nat) (bytes data desc buf : List Byte) (fcsOk ready last rx : Bool) (v : Word)
    (host : List (Nat × Nat)), p < 12 → t < 8 → i < 64 → 14 ≤ bytes.length → data.length ≤ 256 → desc.length = 16 →
    (∀ q, q < 12 ∨ q = 20 → exec (.ethFrameRx q bytes fcsOk ts) s = .next (s.ethRx q bytes fcsOk (s.tsCorrect q ts false)) ∧
      (s.hasPort q = false ∨ s.portUsable q = false → s.ethRx q bytes fcsOk ts = s) ∧
      (s.hasPort q = true → s.portUsable q = true → s.bit (Reg.PG_INJARM 0x0A0) 0 = false →
        frameLen bytes < 64 → s.ethRx q bytes fcsOk ts = s.portCount q (Reg.PORT_ERR q) 31 16)) ∧
    (∀ q, q < 22 → (s.halted = true → exec (.egressTransmit q ts) s = .next s) ∧
      (s.halted = false → exec (.egressTransmit q ts) s = .next (s.egress q (s.tsCorrect q ts true)))) ∧
    (s.part.hasSwitch = false → exec (.tunnelSegmentRx t frame seg last data ts) s = .next s ∧
      exec (.snicPoll i rx desc buf host) s = .next s) ∧
    (s.part.hasSwitch = true → exec (.tunnelSegmentRx t frame seg last data ts) s = .next (s.segmentRx t frame seg last data ts)) ∧
    (exec (.snicPoll i rx desc buf host) s = .next (s.snicPoll i rx desc buf host)) ∧
    (s.running 0x0A8 = false → exec (.snicPoll i rx desc buf host) s = .next s) ∧
    ((s.sw.tunAsm.all fun x => !(x.tun == t && x.frame == frame)) = true → exec (.tunnelReassemblyTimeout t frame) s = .next s) ∧
    ((s.sw.tunAsm.any fun x => x.tun == t && x.frame == frame) = true →
      Answers (exec (.tunnelReassemblyTimeout t frame) s) fun u => (∀ x ∈ u.sw.tunAsm, ¬ (x.tun = t ∧ x.frame = frame)) ∧
        u.get (Reg.TUN_LOST t) 31 0 = min (s.get (Reg.TUN_LOST t) 31 0 + 1) (2 ^ 32 - 1) ∧ s.keepsRegs u [Reg.TUN_LOST t]) ∧
    (s.hasEth p = true → s.ethState p = 2 → exec (.ethLinkDown p) s = .next (((((s.put (Reg.PORT_STAT p) 1 0 1).count
      (Reg.PORT_STAT p) 31 16).setBit Reg.ETH_LINK p false).raise 0x0A0 9).portFlush p)) ∧
    (s.hasEth p = false ∨ s.ethState p ≠ 2 → exec (.ethLinkDown p) s = .next s) ∧
    (s.hasEth p = true → s.ethState p = 1 → ready = true → s.ethEnabled p = true → Answers (exec (.ethFlushDone p ready) s) fun u =>
      u.ethState p = 2 ∧ u.bit Reg.ETH_LINK p = true ∧ u.bit (Reg.PG_EVRAW 0x0A0) 8 = true) ∧
    (s.hasEth p = true → s.ethState p = 1 → ready = false ∨ s.ethEnabled p = false → Answers (exec (.ethFlushDone p ready) s) fun u =>
      u.ethState p = 0 ∧ s.keepsRegs u [Reg.PORT_STAT p]) ∧
    (s.hasEth p = true → s.ethState p = 0 → s.ethEnabled p = true → Answers (exec (.ethLinkUp p) s) fun u =>
      u.ethState p = 2 ∧ u.bit Reg.ETH_LINK p = true ∧ u.bit (Reg.PG_EVRAW 0x0A0) 8 = true) ∧
    (s.hasEth p = true → s.ethState p = 0 → s.ethEnabled p = false → exec (.ethLinkUp p) s = .next s) ∧
    (s.hasEth p = true → Answers (exec (.portTsArm p v) s) fun u => u.rd (Reg.PORT_TSCTL p) = v &&& 0xFFFF0001 ∧
      s.keepsRegs u [Reg.PORT_TSCTL p])

/-- The MAC and VLAN tables: an op of a page that is not settled is refused, ADD, DEL and LOOKUP complete with their status, a
flush leaves the static entries, and VLAN entries hold what APPLY gave them. Which entry stands at an index is free (log 19);
reserved ops and the VLAN table's domain are the model's readings (logs 42, 54). -/
def Obligations.MacAndVlanTables : Prop :=
  ∀ (s : State) (mac vid : Nat) (e : MacEnt),
    (s.has 0x0A2 = true → s.settled 0x0A2 = false →
      ∀ c ∈ [Instr.macAdd, .macDel, .macLookup, .macFlushPort, .macFlushAll, .macRead], exec c s = .next (s.raise 0x0A2 1)) ∧
    (s.has 0x0A2 = false →
      ∀ c ∈ [Instr.macAdd, .macDel, .macLookup, .macFlushPort, .macFlushAll, .macRead], exec c s = .next s) ∧
    (s.has 0x0A2 = true → s.settled 0x0A2 = true →
      (goodVid s.keyVid = false → Answers (exec .macAdd s) fun t => t.get Reg.MAC_STAT 15 8 = 3 ∧ t.sw = s.sw) ∧
      (goodVid s.keyVid = true → s.macFind s.keyMac s.keyVid = none → s.sw.macs.length < 16384 →
        Answers (exec .macAdd s) fun t => t.get Reg.MAC_STAT 15 8 = 0 ∧ t.sw.macs.length = s.sw.macs.length + 1 ∧
          (t.macFind s.keyMac s.keyVid).map (fun x => (x.mask, x.static, x.discard)) =
            some (s.get Reg.MAC_DATA 21 0, true, s.bit Reg.MAC_DATA 23)) ∧
      (goodVid s.keyVid = true → s.macFind s.keyMac s.keyVid = none → 16384 ≤ s.sw.macs.length →
        Answers (exec .macAdd s) fun t => t.get Reg.MAC_STAT 15 8 = 1 ∧ t.sw = s.sw) ∧
      (goodVid s.keyVid = true → (s.macFind s.keyMac s.keyVid).isSome = true →
        Answers (exec .macAdd s) fun t => t.get Reg.MAC_STAT 15 8 = 0 ∧ t.sw.macs.length = s.sw.macs.length ∧
          (t.macFind s.keyMac s.keyVid).map (fun x => (x.mask, x.static)) = some (s.get Reg.MAC_DATA 21 0, true)) ∧
      (s.macFind s.keyMac s.keyVid = none → (Answers (exec .macDel s) fun t => t.get Reg.MAC_STAT 15 8 = 2 ∧ t.sw = s.sw) ∧
        Answers (exec .macLookup s) fun t => t.get Reg.MAC_STAT 15 8 = 2 ∧ t.sw = s.sw) ∧
      (s.macFind s.keyMac s.keyVid = some e → (Answers (exec .macDel s) fun t => t.sw.macs = s.sw.macs.erase e ∧
          t.get Reg.MAC_STAT 15 8 = 0) ∧
        Answers (exec .macLookup s) fun t => t.sw = s.sw ∧ t.get Reg.MAC_STAT 15 8 = 0 ∧ t.rd Reg.MAC_MTR = e.mtr ∧
          (e.mask < 2 ^ 22 → t.get Reg.MAC_DATA 21 0 = e.mask ∧ t.bit Reg.MAC_DATA 22 = e.static ∧ t.bit Reg.MAC_DATA 23 = e.discard)) ∧
      (Answers (exec .macFlushAll s) fun t => t.sw.macs = s.sw.macs.filter (fun x => x.static) ∧
        t.get Reg.MAC_STAT 15 8 = 0) ∧
      (Answers (exec .macFlushPort s) fun t => (∀ x ∈ t.sw.macs, x.static = true ∨ x.mask &&& s.get Reg.MAC_DATA 21 0 = 0) ∧
        (∀ x ∈ s.sw.macs, x.static = true → x ∈ t.sw.macs)) ∧
      (match s.macAtIdx with
        | none => Answers (exec .macRead s) fun t => t.rd Reg.MAC_DATA = 0 ∧ t.sw = s.sw
        | some x => x ∈ s.sw.macs ∧ Answers (exec .macRead s) fun t => t.rd Reg.MAC_KEY_LO = BitVec.ofNat 32 x.mac ∧
            t.rd Reg.MAC_MTR = x.mtr ∧ t.sw = s.sw)) ∧
    (s.macFind mac vid = none → exec (.macAgeOut mac vid) s = .next s) ∧
    (s.macFind mac vid = some e → e.static = true ∨ s.get Reg.SW_CFG 15 0 = 0 ∨ s.tbSec < e.seen + s.get Reg.SW_CFG 15 0 →
      exec (.macAgeOut mac vid) s = .next s) ∧
    (s.macFind mac vid = some e → e.static = false → s.get Reg.SW_CFG 15 0 ≠ 0 → e.seen + s.get Reg.SW_CFG 15 0 ≤ s.tbSec →
      Answers (exec (.macAgeOut mac vid) s) fun t => t.sw.macs = s.sw.macs.erase e ∧ s.keepsRegs t [Reg.MAC_COUNT]) ∧
    (s.has 0x0A3 = true → s.settled 0x0A3 = true →
      (goodVid (s.get Reg.VLAN_VSEL 11 0) = true → Answers (exec .vlanApply s) fun t => t.regs = s.regs ∧
        t.vlan (s.get Reg.VLAN_VSEL 11 0) =
          { memb := s.get Reg.VLAN_VMEMB 21 0, untag := s.get Reg.VLAN_VUNTAG 21 0, flags := s.get Reg.VLAN_VFLAGS 1 0 } ∧ ∀ j, j ≠ s.get Reg.VLAN_VSEL 11 0 → t.vlan j = s.vlan j) ∧
      (goodVid (s.get Reg.VLAN_VSEL 11 0) = false → exec .vlanApply s = .next s) ∧
      (Answers (exec .vlanRead s) fun t => t.sw = s.sw ∧
        t.rd Reg.VLAN_VMEMB = BitVec.ofNat 32 (s.vlan (s.get Reg.VLAN_VSEL 11 0)).memb ∧
        t.rd Reg.VLAN_VUNTAG = BitVec.ofNat 32 (s.vlan (s.get Reg.VLAN_VSEL 11 0)).untag ∧
        t.rd Reg.VLAN_VFLAGS = BitVec.ofNat 32 (s.vlan (s.get Reg.VLAN_VSEL 11 0)).flags))

/-- Meters: ALLOC shows the lowest free one, FREE of one that an entry names is refused, WRITE checks its rates and bursts, and
READ shows the counts. The marking is that of RFC 2698 (log 17, the model's choice). -/
def Obligations.MeterOperations : Prop :=
  ∀ (s : State) (m : Nat), m < 4096 → s.has 0x0A4 = true →
    (s.settled 0x0A4 = false → ∀ c ∈ [Instr.mtrAlloc, .mtrFree m, .mtrWrite m, .mtrRead m], exec c s = .next (s.raise 0x0A4 1)) ∧
    (s.settled 0x0A4 = true →
      ((s.meter m).used = false → (∀ j, j < m → (s.meter j).used = true) → Answers (exec .mtrAlloc s) fun t =>
        (t.meter m).used = true ∧ t.get Reg.MTR_STAT 27 16 = m ∧ t.get Reg.MTR_STAT 10 8 = 0 ∧
        (∀ j, j ≠ m → t.meter j = s.meter j) ∧ s.keepsRegs t [Reg.MTR_STAT, Reg.MTR_USED]) ∧
      ((∀ j, j < 4096 → (s.meter j).used = true) → Answers (exec .mtrAlloc s) fun t => t.get Reg.MTR_STAT 10 8 = 1 ∧ t.sw = s.sw) ∧
      ((s.meter m).used = false → ∀ c ∈ [Instr.mtrFree m, .mtrWrite m, .mtrRead m],
        Answers (exec c s) fun t => t.get Reg.MTR_STAT 10 8 = 4 ∧ t.sw = s.sw) ∧
      ((s.meter m).used = true →
        (s.meterNamed m = true → Answers (exec (.mtrFree m) s) fun t => t.get Reg.MTR_STAT 10 8 = 2 ∧ t.sw = s.sw) ∧
        (s.meterNamed m = false → Answers (exec (.mtrFree m) s) fun t => t.meter m = {} ∧ t.get Reg.MTR_STAT 10 8 = 0 ∧
          ∀ j, j ≠ m → t.meter j = s.meter j) ∧
        ((s.rd Reg.MTR_PIR).toNat < (s.rd Reg.MTR_CIR).toNat ∨ s.get Reg.MTR_CBS 23 0 < 1522 ∨ s.get Reg.MTR_PBS 23 0 < 1522 →
          Answers (exec (.mtrWrite m) s) fun t => t.get Reg.MTR_STAT 10 8 = 3 ∧ t.sw = s.sw) ∧
        ((s.rd Reg.MTR_CIR).toNat ≤ (s.rd Reg.MTR_PIR).toNat → 1522 ≤ s.get Reg.MTR_CBS 23 0 → 1522 ≤ s.get Reg.MTR_PBS 23 0 →
          Answers (exec (.mtrWrite m) s) fun t => (t.meter m).cir = (s.rd Reg.MTR_CIR).toNat ∧
            (t.meter m).pir = (s.rd Reg.MTR_PIR).toNat ∧ (t.meter m).cbs = s.get Reg.MTR_CBS 23 0 ∧
            (t.meter m).pbs = s.get Reg.MTR_PBS 23 0 ∧ (t.meter m).used = true ∧ t.get Reg.MTR_STAT 10 8 = 0) ∧
        (Answers (exec (.mtrRead m) s) fun t => t.rd (Reg.MTR_CNT 0) = BitVec.ofNat 32 (s.meter m).cnt.1 ∧
          t.rd (Reg.MTR_CNT 1) = BitVec.ofNat 32 (s.meter m).cnt.2.1 ∧ t.rd (Reg.MTR_CNT 2) = BitVec.ofNat 32 (s.meter m).cnt.2.2 ∧
          t.get Reg.MTR_STAT 10 8 = 0)))

/-! ### CAN, TIA-485 and network sleep -/

/-- CAN traffic: a port that takes no part ignores it, error counts move as ISO 11898-1 gives them, a queued frame goes to the
bus, and a recovered port starts its counters again. The count of the queue and the counters in their corners are the model's
choice (log 26). -/
def Obligations.CanTraffic : Prop :=
  ∀ (s : State) (c kind sof : Nat) (f : CanFrame) (rest : List CanFrame) (tx heavy : Bool), c < 4 → kind < 4 → wfCanFrame f = true →
    (s.canLive c = false → (∀ x ∈ [Instr.canFrameRx c f sof, .canTxStart c, .canBusError c kind tx heavy], exec x s = .next s)) ∧
    (s.canLive c = false → kind < 3 → exec (.canTxDone c kind) s = .next (s.canEnd c kind)) ∧
    (s.canLive c = false → s.running (0x0B0 + c) = false → (s.can c).sending = some f → 1 ≤ kind → kind < 3 →
      Answers (exec (.canTxDone c kind) s) fun t => (t.can c).sending = none ∧ (t.can c).queue = (s.can c).queue) ∧
    (s.canLive c = true → s.rec' c ≤ 127 → Answers (exec (.canFrameRx c f sof) s) fun t => t.rec' c = s.rec' c - 1 ∧
      t.get (Reg.CAN_CNT c) 15 0 = min (s.get (Reg.CAN_CNT c) 15 0 + 1) 65535 ∧ t.tec c = s.tec c) ∧
    (s.canLive c = true → s.bit (Reg.CAN_CFG c) 2 = false → f.rtr = false → s.running 0x06A = true →
      Answers (exec (.canFrameRx c f sof) s) fun t => t.mbIn = s.mbIn ++ [(.can c f.ide, f.id, f.data, sof)]) ∧
    (s.canLive c = true → s.halted = false → (s.can c).sending = none → s.bit (Reg.CAN_CFG c) 2 = false →
      s.bit (Reg.CAN_CFG c) 4 = false → (s.can c).queue = f :: rest → s.bit (Reg.PG_INJARM (0x0B0 + c)) 0 = false →
      Answers (exec (.canTxStart c) s) fun t => (t.can c).sending = some f ∧ (t.can c).queue = rest ∧ s.keepsRegs t [Reg.CAN_TXQ c]) ∧
    ((s.can c).sending = none → kind < 3 → exec (.canTxDone c kind) s = .next s) ∧
    (s.canLive c = true → (s.can c).sending = some f →
      (Answers (exec (.canTxDone c 0) s) fun t => (t.can c).sending = none ∧ t.tec c = s.tec c - 1 ∧
        t.get (Reg.CAN_CNT c) 31 16 = min (s.get (Reg.CAN_CNT c) 31 16 + 1) 65535) ∧
      (s.bit (Reg.CAN_CFG c) 3 = false → Answers (exec (.canTxDone c 2) s) fun t => (t.can c).sending = none ∧
        (t.can c).queue = f :: (s.can c).queue) ∧
      exec (.canTxDone c 1) s = .next ((s.count (Reg.CAN_LOST c) 31 16).canAgain c f)) ∧
    (s.canLive c = true → tx = false → Answers (exec (.canBusError c kind tx heavy) s) fun t => t.tec c = s.tec c ∧
      t.rec' c = min 255 (s.rec' c + (if heavy then 8 else 1)) ∧
      t.get (Reg.CAN_ERR c) (8 * kind + 7) (8 * kind) = min (s.get (Reg.CAN_ERR c) (8 * kind + 7) (8 * kind) + 1) 255) ∧
    (s.canLive c = true → tx = true → s.canState c = 0 ∨ kind ≠ 3 → s.tec c + 8 ≤ 255 →
      Answers (exec (.canBusError c kind tx heavy) s) fun t => t.tec c = s.tec c + 8 ∧ t.rec' c = s.rec' c) ∧
    (s.canLive c = true → tx = true → s.canState c = 0 ∨ kind ≠ 3 → 255 < s.tec c + 8 →
      exec (.canBusError c kind tx heavy) s = .next ((s.count (Reg.CAN_ERR c) (8 * kind + 7) (8 * kind)).canBusOff c)) ∧
    (s.canState c = 2 → (s.can c).recovering = true → Answers (exec (.canBusoffRecovered c) s) fun t =>
      (t.can c).busOff = false ∧ t.tec c = 0 ∧ t.rec' c = 0 ∧ s.keepsRegs t [Reg.CAN_ECNT c, Reg.CAN_TXQ c]) ∧
    (s.canState c ≠ 2 → exec (.canBusoffRecovered c) s = .next s) ∧
    (s.canState c = 3 → exec (.txdDominant c) s = .next s) ∧
    (s.canState c ≠ 3 → exec (.txdDominant c) s = .next (s.pageFault (0x0B0 + c) 0x0100))

/-- Waking by CAN, and the awake timer. What a wake without a frame records is free (log 27). -/
def Obligations.CanWakes : Prop :=
  ∀ (s : State) (c sof : Nat) (f : CanFrame) (cfg : Word) (ws : List Word), c < 4 → wfCanFrame f = true →
    (s.feather = true → exec (.canResume c) s = .next s) ∧
    (s.feather = false → Answers (exec (.canResume c) s) fun t => (t.can c).frozen = false ∧ s.keepsRegs t [Reg.CAN_TXQ c]) ∧
    (s.wakeCfg c = none → ∀ x ∈ [Instr.canWupDetected c, .canWakeFrameMatch c f sof, .canWakeFrameError c sof,
      .canConfirmWindowExpiry c], exec x s = .next s) ∧
    (s.wakeCfg c = some (cfg, ws) →
      (cfg.fld 1 0 = 1 → exec (.canWupDetected c) s = .next (s.canWakeFree c 16 none)) ∧
      (cfg.fld 1 0 ≠ 1 → exec (.canWupDetected c) s = .next s) ∧
      (cfg.fld 1 0 ≠ 2 ∨ f.fdf = true → exec (.canWakeFrameMatch c f sof) s = .next s) ∧
      (cfg.fld 1 0 = 2 → f.fdf = false → filterMatches (ws.take 5) f = false → filterMatches (ws.drop 5) f = false →
        Answers (exec (.canWakeFrameMatch c f sof) s) fun t => (t.can c).fec = (s.can c).fec - 1 ∧ s.keepsRegs t [Reg.CAN_TXQ c]) ∧
      (cfg.fld 1 0 = 2 → f.fdf = false → filterMatches (ws.take 5) f = true → exec (.canWakeFrameMatch c f sof) s =
        .next ((s.modCan c fun x => { x with fec := x.fec - 1 }).canMatch c cfg 0 f sof)) ∧
      (cfg.fld 1 0 = 2 → (s.can c).fec < 31 → Answers (exec (.canWakeFrameError c sof) s) fun t =>
        (t.can c).fec = (s.can c).fec + 1 ∧ s.keepsRegs t [Reg.CAN_TXQ c]) ∧
      (cfg.fld 1 0 = 2 → (s.can c).fec = 31 → cfg.getLsbD 2 = true → exec (.canWakeFrameError c sof) s =
        .next ((s.setCan c { s.can c with fec := 32 }).canWakeFree c 8 (some sof))) ∧
      ((s.can c).window = none → exec (.canConfirmWindowExpiry c) s = .next s) ∧
      ((s.can c).window.isSome = true → Answers (exec (.canConfirmWindowExpiry c) s) fun t => (t.can c).matched = 0 ∧
        (t.can c).window = none ∧
        t.get (Reg.CAN_WUNC c) 31 0 = min (s.get (Reg.CAN_WUNC c) 31 0 + (s.can c).matched) (2 ^ 32 - 1))) ∧
    (s.awake = none ∨ s.running 0x0B8 = false → exec .awakeTimerExpiry s = .next s) ∧
    (s.awake.isSome = true → s.running 0x0B8 = true → s.bit Reg.NS_CFG 16 = false → Answers (exec .awakeTimerExpiry s) fun t =>
      t.awake = none ∧ t.bit (Reg.PG_EVRAW 0x0B8) 9 = true ∧ t.get Reg.NS_CNT 31 16 = min (s.get Reg.NS_CNT 31 16 + 1) 65535) ∧
    (s.awake.isSome = true → s.running 0x0B8 = true → s.bit Reg.NS_CFG 16 = true → exec .awakeTimerExpiry s =
      .next (((({ s with awake := none } : State).raise 0x0B8 9).count Reg.NS_CNT 31 16).voteWrite true)) ∧
    (Answers (exec .nsConfirm s) fun t => t.awake = none ∧ t.regs = s.regs ∧ t.out = s.out)

/-- TIA-485: characters join the open frame until LAST closes it, a closed frame is sent and counted, received characters and
descriptors are read oldest first. That characters occupy the buffer until their frame is sent is the model's reading (log 28). -/
def Obligations.SerialPorts : Prop :=
  ∀ (s : State) (u ch ns : Nat) (v : Word) (f : List Nat) (rest : List (List Nat)) (perr ferr : Bool), u < 4 → ch < 512 →
    (s.running (0x0B4 + u) = false → exec (.serTxdWrite u v) s = .next s) ∧
    (s.running (0x0B4 + u) = true → 4096 ≤ (s.ser u).txHeld → exec (.serTxdWrite u v) s = .next (s.raise (0x0B4 + u) 12)) ∧
    (s.running (0x0B4 + u) = true → (s.ser u).txHeld < 4096 → v.getLsbD 16 = false → Answers (exec (.serTxdWrite u v) s) fun t =>
      (t.ser u).opened = (s.ser u).opened ++ [v.fld 8 0] ∧ (t.ser u).closed = (s.ser u).closed ∧ t.regs = s.regs) ∧
    (s.running (0x0B4 + u) = true → (s.ser u).txHeld < 4096 → v.getLsbD 16 = true → Answers (exec (.serTxdWrite u v) s) fun t =>
      (t.ser u).opened = [] ∧ (t.ser u).closed = (s.ser u).closed ++ [(s.ser u).opened ++ [v.fld 8 0]] ∧ t.regs = s.regs) ∧
    ((s.ser u).closed = [] → exec (.serFrameTxStart u) s = .next s) ∧
    ((s.ser u).closed = f :: rest → s.serLive u = true → s.halted = false → (s.ser u).sending = none →
      Answers (exec (.serFrameTxStart u) s) fun t => (t.ser u).sending = some f ∧ (t.ser u).closed = rest ∧ t.regs = s.regs) ∧
    ((s.ser u).sending = none → exec (.serFrameTxDone u) s = .next s) ∧
    ((s.ser u).sending.isSome = true → Answers (exec (.serFrameTxDone u) s) fun t => (t.ser u).sending = none ∧
      t.bit (Reg.PG_EVRAW (0x0B4 + u)) 9 = true ∧ t.get (Reg.SER_CNT u) 31 16 = min (s.get (Reg.SER_CNT u) 31 16 + 1) 65535) ∧
    (s.serLive u = false → exec (.serCharRx u ch perr ferr ns) s = .next s ∧ exec (.serIdleGap u) s = .next s) ∧
    (s.serLive u = true → (s.ser u).sending = some f → exec (.serCharRx u ch perr ferr ns) s = .next (s.serEcho u f ch)) ∧
    (s.serLive u = true → (s.ser u).sending = none → exec (.serCharRx u ch perr ferr ns) s = .next (s.serRx u ch perr ferr ns)) ∧
    (s.serLive u = true → (s.ser u).sending = none → (s.ser u).rx.length < 4095 →
      Answers (exec (.serCharRx u ch perr ferr ns) s) fun t =>
        (t.ser u).rx = (s.ser u).rx ++ [(s.serChar u ch, perr, ferr, false)]) ∧
    (s.serLive u = true → exec (.serIdleGap u) s = .next (s.serFrameEnd u)) ∧
    ((s.ser u).cur = none → s.serFrameEnd u = s) ∧
    ((s.ser u).rx = [] → Answers (exec (.serRxdRead u) s) fun t => t.rd (Reg.SER_RXD u) = 0 ∧ s.keepsRegs t [Reg.SER_RXD u]) ∧
    (∀ x rest, (s.ser u).rx = x :: rest → Answers (exec (.serRxdRead u) s) fun t => (t.ser u).rx = rest ∧
      t.rd (Reg.SER_RXD u) = BitVec.ofNat 32 (x.1 + 2 ^ 12 * x.2.1.toNat + 2 ^ 13 * x.2.2.1.toNat + 2 ^ 15 + 2 ^ 16 * x.2.2.2.toNat)) ∧
    ((s.ser u).descs = [] → Answers (exec (.serRxfrRead u) s) fun t => t.rd (Reg.SER_RXFR u) = 0 ∧ s.keepsRegs t [Reg.SER_RXFR u]) ∧
    (∀ x rest, (s.ser u).descs = x :: rest → Answers (exec (.serRxfrRead u) s) fun t => (t.ser u).descs = rest ∧
      t.rd (Reg.SER_RXFR u) = BitVec.ofNat 32 (x.1 + 2 ^ 16 * x.2.1.toNat + 2 ^ 17 * x.2.2.1.toNat + 2 ^ 31) ∧
      (x.2.2.2 < 2 ^ 64 → t.rd64 (Reg.SER_RXTS_LO u) (Reg.SER_RXTS_HI u) = x.2.2.2))

/-! ### The field die -/

/-- Frames of the field link: nothing is launched before the first upstream frame, a bad downstream frame is counted and does not
act, a field die without supply neither takes nor launches frames, and the commands for it wait for the next frame. Copies and
queue of the field link in corners are the model's readings (log 61). -/
def Obligations.FieldFrames : Prop :=
  ∀ (s : State) (slack : Nat) (m : FieldMeas) (ready good crcBad : Bool),
    (s.fieldSends = false → exec (.fieldDownstreamLaunch ready slack) s = .next s) ∧
    (s.fc.loaded = false → s.fieldSends = false) ∧
    (s.fieldSends = true → s.bit (Reg.PG_INJARM 0x001) 0 = false →
      exec (.fieldDownstreamLaunch true slack) s = .next ((s.launch 3 slack).fieldFresh) ∧
      exec (.fieldDownstreamLaunch false slack) s = .next ((s.missLaunch 3).fieldStale)) ∧
    (s.fc.down = none → exec (.fieldDownstreamRx good) s = .next s) ∧
    (∀ f, s.fc.down = some f → s.bit (Reg.PG_INJARM 0x0C0) 0 = false →
      (s.field.alive = false → Answers (exec (.fieldDownstreamRx good) s) fun t => t.field = s.field ∧ t.fc.down = none ∧ t.regs = s.regs) ∧
      (s.field.alive = true → Answers (exec (.fieldDownstreamRx false) s) fun t => t.field.goodRun = 0 ∧ t.fc.down = none ∧
        t.fget Reg.FL_FERR 15 0 = min (s.fget Reg.FL_FERR 15 0 + 1) 65535 ∧ t.field.doCmd = s.field.doCmd ∧ t.regs = s.regs) ∧
      (s.field.alive = true → exec (.fieldDownstreamRx true) s = .next ((s.setFc { s.fc with down := none }).fieldTakes f))) ∧
    (s.field.alive = false → exec (.fieldUpstreamLaunch m) s = .next s ∧ exec .fieldWatchdogExpiry s = .next (s.injStep 0x0C0 0x11 0)) ∧
    (s.field.alive = true → Answers (exec (.fieldUpstreamLaunch m) s) fun t => t.fc.up.isSome = true ∧ t.field.events = [] ∧
      t.field.lost = 0 ∧ t.field.edges = s.field.edges.drop 6 ∧ t.regs = s.regs) ∧
    (s.fc.up = none → exec .fieldUpstreamRx s = .next s) ∧
    (∀ u, s.fc.up = some u → s.bit (Reg.PG_INJARM 0x0C0) 0 = false → exec .fieldUpstreamRx s = .next (s.upRx u).regWrFollow) ∧
    (exec (.fieldUpstreamMissing crcBad) s = .next (s.upLost crcBad)) ∧
    (s.bit Reg.FL_STAT 8 = true → Answers (exec (.fieldUpstreamMissing crcBad) s) fun t => t.fc.good = 0 ∧ t.fc.echoRun = 0 ∧ t.fc.missing = s.fc.missing + 1) ∧
    (s.running 0x0C0 = false → exec .barrierFail s = .next s) ∧
    (s.running 0x0C0 = true → exec .barrierFail s = .next (s.pageFault 0x0C0 0x0100)) ∧
    (s.field.alive = true → s.bit (Reg.PG_INJARM 0x0C0) 0 = false → ∀ t : State,
      t = ((s.fcount Reg.FL_FERR 31 16).fEvent 0x0C0 10) → exec .fieldWatchdogExpiry s =
        .next ((t.setField { t.field with goodRun := 0 }).enterFailsafe true).fieldSettle) ∧
    (s.bit Reg.BOOT_STAT 2 = true ∨ s.fc.echoRun < 16 → exec .flResume s = .next (s.raise 0x0C0 1)) ∧
    (s.bit Reg.BOOT_STAT 2 = false → 16 ≤ s.fc.echoRun → Answers (exec .flResume s) fun t => t.fc = { s.fc with resume := true } ∧
      t.regs = s.regs) ∧
    (Answers (exec .flForce s) fun t => t.fc = { s.fc with force := true } ∧ t.regs = s.regs ∧ t.field = s.field) ∧
    (Answers (exec .flFrst s) fun t => t.fc = { s.fc with frst := true, doCmd := 0, lsCmd := 0 } ∧ t.regs = s.regs ∧ t.field = s.field)

/-- Supplies, inputs and digital outputs: a rail is in under-voltage once, the loss of FV24 clears the field die, an edge at the
level held changes nothing but the raw level, and a seat commands the outputs granted to it only. -/
def Obligations.FieldInputsAndOutputs : Prop :=
  ∀ (s : State) (n k r ns seat : Nat) (raw : Bool) (v : Word), n < 16 → k < 32 → r < 3 → seat < 64 →
    (s.field.alive = false → exec (.railRecovered r) s = .next s ∧ exec (.outputStaggerSlot n) s = .next s ∧
      exec (.diEdgeAccepted k raw ns) s = .next s ∧ exec (.doAutoRestart n) s = .next s) ∧
    (s.field.alive = true → s.bit (Reg.PG_INJARM 0x0C0) 0 = false → s.railUv r = true → exec (.railUndervoltage r) s = .next s) ∧
    (s.field.alive = true → s.bit (Reg.PG_INJARM 0x0C0) 0 = false → s.railUv r = false → ∀ lo,
      lo = (if r = 0 then 16 else if r = 1 then 0 else 8) → exec (.railUndervoltage r) s = .next
        ((((s.setField { s.field with uv := s.field.uv ++ [r] }).fcount Reg.FL_UVCNT (lo + 7) lo).fEvent 0x0C0 12).fieldSettle)) ∧
    (s.field.alive = true → s.railUv r = false → exec (.railRecovered r) s = .next s) ∧
    (∀ t : State, s.field.alive = true → s.railUv r = true → t = s.setField { s.field with uv := s.field.uv.filter fun x => x != r } →
      exec (.railRecovered r) s = .next ((((if r = 0 then (t.lsStagger sixteen).doStagger sixteen else if r = 1 then t.lsStagger sixteen else t.doStagger sixteen).fEvent
        0x0C0 13)).fieldSettle)) ∧
    (∀ t : State, s.field.alive = true → t = (if s.railUv 0 = true ∨ s.railUv 1 = true then s
        else if (s.lsDyn n).due = true ∧ (s.lsDyn n).prot = 4 then (s.setLs n { s.lsDyn n with wait := false }).lsRetryNow n
        else s.setLs n { s.lsDyn n with wait := false }) →
      exec (.outputStaggerSlot n) s = .next (if t.railUv 0 = true ∨ t.railUv 2 = true then t
        else t.setField { t.field with doWait := t.field.doWait.filter fun x => x != n }).fieldSettle) ∧
    (Answers (exec .fv24Loss s) fun t => t.field.alive = false ∧ t.field.regs = [] ∧ t.regs = s.regs) ∧
    (s.field.alive = true → exec .fv24Return s = .next s) ∧
    (s.field.alive = false → Answers (exec .fv24Return s) fun t => t.field = { freset := true } ∧ t.regs = s.regs ∧
      ∀ c, (t.can c).fec = 0 ∨ t.can c = s.can c) ∧
    (s.field.alive = true → s.bit (Reg.PG_INJARM 0x0C1) 0 = false → (raw != (s.frd (Reg.DI_CFG k)).getLsbD 18) = s.fbit Reg.DI_LEVEL k →
      exec (.diEdgeAccepted k raw ns) s = .next (s.fsetBit Reg.DI_RAW k (s.fbit Reg.DI_LEVEL k))) ∧
    (s.field.alive = true → exec (.diEdgeAccepted k raw ns) s = .next (s.diAccept k raw ns)) ∧
    (s.field.alive = true → s.bit (Reg.PG_INJARM 0x0C2) 0 = false → exec (.doOvertemp n) s =
      .next (((s.fsetBit Reg.DO_FLT n true).fEvent 0x0C2 8).fieldSettle)) ∧
    (s.field.alive = true → s.field.doAuto.testBit n = true → exec (.doAutoRestart n) s = .next (s.fsetBit Reg.DO_FLT n false).fieldSettle) ∧
    (s.field.doAuto.testBit n = false → exec (.doAutoRestart n) s = .next s) ∧
    (exec (.doSetWrite seat v) s = .next (s.doCommand seat (v.fld 15 0) 65535)) ∧
    (exec (.doClrWrite seat v) s = .next (s.doCommand seat (v.fld 15 0) 0)) ∧
    ((s.commandedBits seat 3 16 (v.fld 15 0)).testBit n = (v.getLsbD n && s.commands seat 3 n)) ∧
    ((s.doCommand seat (v.fld 15 0) 65535).fc.doCmd.testBit n = (s.fc.doCmd.testBit n || v.getLsbD n && s.commands seat 3 n)) ∧
    ((s.doCommand seat (v.fld 15 0) 0).fc.doCmd.testBit n = (s.fc.doCmd.testBit n && !(v.getLsbD n && s.commands seat 3 n))) ∧
    (Answers (exec (.doFltClear seat v) s) fun t => t.regs = s.regs ∧ t.fc.queue.length = s.fc.queue.length + 1)

/-- Load switches and zone trips: a seat commands only its own, a fault leads to RETRY_WAIT while retries are left and to LATCHED
after them, and what the core writes for the field die joins the queue. -/
def Obligations.LoadSwitches : Prop :=
  ∀ (s : State) (n seat mj mean : Nat) (on openLoad toSupply backfeed : Bool) (v : Word), n < 16 → seat < 64 →
    (s.commands seat 2 n = false → exec (.lsCmdWrite n seat on) s = .next s ∧ exec (.lsClr n seat) s = .next s) ∧
    (s.commands seat 2 n = true → exec (.lsCmdWrite n seat on) s = .next (s.lsCmdSet n on)) ∧
    (s.commands seat 2 n = true → s.fc.lsCmd < 65536 → Answers (exec (.lsCmdWrite n seat on) s) fun t =>
      t.fc.lsCmd.testBit n = on ∧ ∀ j, j ≠ n → t.fc.lsCmd.testBit j = s.fc.lsCmd.testBit j) ∧
    (s.commands seat 2 n = true → Answers (exec (.lsClr n seat) s) fun t =>
      t.fc.queue = s.fc.queue ++ [(Reg.LS_CTRL n, (1, s.pg 0x0C0 == 1))] ∧ t.regs = s.regs) ∧
    (∀ x ∈ [(Instr.ztRelease v, Reg.ZT_RELEASE), (.ztTest v, Reg.ZT_TEST)], Answers (exec x.1 s) fun t =>
      t.fc.queue = s.fc.queue ++ [(x.2, (v, s.pg 0x0C0 == 1))] ∧ t.regs = s.regs) ∧
    (s.field.alive = false → ∀ x ∈ [Instr.lsLimiting n on, .lsRetry n, .lsInrushEnd n, .lsRleftReload n,
      .lsDiagCheck n openLoad toSupply backfeed, .lsumUpdate mean], exec x s = .next s) ∧
    (s.field.alive = true →
      ((s.lsDyn n).on = false → exec (.lsLimiting n on) s = .next s ∧ exec (.lsRleftReload n) s = .next s) ∧
      ((s.lsDyn n).on = true → exec (.lsLimiting n on) s = .next (s.setLs n { s.lsDyn n with limiting := on }).fieldSettle) ∧
      (s.bit (Reg.PG_INJARM (0x0C3 + n / 8)) 0 = false →
        ((s.lsDyn n).on = true → (s.lsDyn n).limiting = true → exec (.lsOvercurrent n) s = .next (s.lsFault n 1)) ∧
        ((s.lsDyn n).on = false ∨ (s.lsDyn n).limiting = false → exec (.lsOvercurrent n) s = .next s) ∧
        ((s.lsDyn n).on = true → exec (.lsShort n) s = .next (s.lsFault n 2)) ∧
        ((s.lsDyn n).on = false → exec (.lsShort n) s = .next s) ∧
        (exec (.lsThermal n mj) s = .next (s.lsTherm n mj))) ∧
      ((s.lsDyn n).prot ≠ 4 → exec (.lsRetry n) s = .next s) ∧
      ((s.lsDyn n).prot = 4 → s.railUv 0 = false → s.railUv 1 = false → (s.lsDyn n).wait = false →
        exec (.lsRetry n) s = .next (s.lsRetryNow n).fieldSettle) ∧
      ((s.lsDyn n).prot = 4 → s.railUv 0 = true ∨ s.railUv 1 = true ∨ (s.lsDyn n).wait = true →
        Answers (exec (.lsRetry n) s) fun t => t.lsDyn n = { s.lsDyn n with due := true } ∧ t.regs = s.regs) ∧
      (exec (.lsInrushEnd n) s = .next (s.setLs n { s.lsDyn n with inrush := false }).fieldSettle) ∧
      ((s.lsDyn n).on = true →
        exec (.lsRleftReload n) s = .next (s.setLs n { s.lsDyn n with rleft := (s.lsDyn n).cfg.fld 27 24 }).fieldSettle) ∧
      ((s.lsDyn n).on = true → Answers (exec (.lsDiagCheck n openLoad toSupply backfeed) s) fun t =>
        t.fget (Reg.LS_DIAG n) 2 0 = 0 ∧ t.field.events = s.field.events ∧ t.regs = s.regs) ∧
      ((s.lsDyn n).on = false → (s.lsDyn n).rcfg.getLsbD 8 = true →
        Answers (exec (.lsDiagCheck n openLoad toSupply backfeed) s) fun t =>
          t.fget (Reg.LS_DIAG n) 2 0 = openLoad.toNat + 2 * toSupply.toNat + 4 * backfeed.toNat ∧ t.regs = s.regs) ∧
      (Answers (exec (.lsumUpdate mean) s) fun t => t.fget Reg.FL_LSUM 15 0 = min mean 65535 ∧
        t.fget Reg.FL_LSUM 31 16 = max (min mean 65535) (s.fget Reg.FL_LSUM 31 16) ∧
        (16000 < mean → (0x0C0, 14) ∈ t.field.events) ∧ t.regs = s.regs)) ∧
    ((s.lsRetryNow n).lsDyn n = { s.lsDyn n with prot := 0, due := false, rleft := (s.lsDyn n).rleft - 1 })

/-! ### Keys, crypto, attestation, authentication, check values, injection -/

/-- The key store: a command while BUSY raises its event, a page that does not run answers STOPPED, a slot that the op may not
name BAD_ARG; else the op's body decides, and the completion shows its status. Argument errors in corners are the model's readings
(log 23). -/
def Obligations.KeyCommands : Prop :=
  ∀ (s : State) (slot n op : Nat) (any pend ok : Bool), slot < 64 → 10 ≤ op → op < 16 →
    (s.bit Reg.KEY_STAT 0 = true → ∀ c ∈ [Instr.keyNop slot any pend, .keyGenerate slot any pend, .keyDerive slot any pend,
      .keyLoad slot any pend, .keyExport slot any pend, .keyCommit slot any pend, .keyDiscard slot any pend,
      .keyInvalidate slot any pend, .keyRestore slot any pend, .keyLoadPub slot any pend, .keyReservedOp slot op],
      exec c s = .next (s.raise 0x0D0 9)) ∧
    (s.bit Reg.KEY_STAT 0 = false → ∀ b : State, b = s.setBit Reg.KEY_STAT 0 true →
      (s.running 0x0D0 = false → ∀ x ∈ [(Instr.keyNop slot any pend, 0), (.keyGenerate slot any pend, 1),
        (.keyDerive slot any pend, 2), (.keyLoad slot any pend, 3), (.keyExport slot any pend, 4), (.keyCommit slot any pend, 5),
        (.keyDiscard slot any pend, 6), (.keyInvalidate slot any pend, 7), (.keyRestore slot any pend, 8),
        (.keyLoadPub slot any pend, 9), (.keyReservedOp slot op, op)], exec x.1 s = .next (b.keyStart x.2 slot (some 15))) ∧
      (s.running 0x0D0 = true →
        (exec (.keyNop slot any pend) s = .next (b.keyStart 0 slot (some 0))) ∧
        (exec (.keyReservedOp slot op) s = .next (b.keyStart op slot (some 1))) ∧
        (slot < 8 → ∀ x ∈ [(Instr.keyGenerate slot false pend, 1), (.keyDerive slot false pend, 2),
          (.keyLoad slot false pend, 3), (.keyExport slot any pend, 4), (.keyCommit slot any pend, 5), (.keyDiscard slot any pend, 6),
          (.keyRestore slot any pend, 8), (.keyLoadPub slot false pend, 9)],
          exec x.1 s = .next (b.keyStart x.2 slot (some 2))) ∧
        (exec (.keyInvalidate 0 any pend) s = .next (b.keyStart 7 0 (some 2))) ∧
        (8 ≤ slot →
          (exec (.keyExport slot any pend) s = .next (b.exportKey slot pend)) ∧
          (exec (.keyCommit slot any pend) s = .next (b.commitKey slot)) ∧
          (exec (.keyDiscard slot any pend) s =
            .next ((b.setKeySlot slot { s.keySlot slot with pend := none }).keyStart 6 slot (some 0))) ∧
          (exec (.keyRestore slot any pend) s = .next (b.restoreKey slot)) ∧
          ((s.keySlot slot).pend = none → exec (.keyGenerate slot false pend) s = .next (b.generate slot) ∧
            exec (.keyDerive slot false pend) s = .next (b.derive slot) ∧
            exec (.keyLoad slot false pend) s = .next (b.loadPraline slot) ∧
            exec (.keyLoadPub slot false pend) s = .next (b.loadPub slot)) ∧
          ((s.keySlot slot).pend.isSome = true → exec (.keyGenerate slot false pend) s = .next (b.keyStart 1 slot (some 12)) ∧
            exec (.keyLoadPub slot false pend) s = .next (b.keyStart 9 slot (some 12)))) ∧
        (slot ≠ 0 → exec (.keyInvalidate slot any pend) s = .next (b.invalidateKey slot)) ∧
        (8 ≤ n → n < 64 → (s.keySlot n).cur = none → (s.keySlot n).pend = none →
          (∀ j, 8 ≤ j → j < n → (s.keySlot j).cur.isSome = true ∨ (s.keySlot j).pend.isSome = true) →
          exec (.keyGenerate slot true pend) s = .next (b.generate n) ∧ exec (.keyLoadPub slot true pend) s = .next (b.loadPub n)) ∧
        ((∀ j, 8 ≤ j → j < 64 → (s.keySlot j).cur.isSome = true ∨ (s.keySlot j).pend.isSome = true) →
          exec (.keyDerive slot true pend) s = .next (b.keyStart 2 slot (some 11)) ∧
          exec (.keyLoad slot true pend) s = .next (b.keyStart 3 slot (some 11))))) ∧
    (s.key.keyOp = none → exec (.keyCmdComplete ok) s = .next s) ∧
    (∀ c st, s.key.keyOp = some c → c.status = some st → st < 256 → c.slot < 64 → Answers (exec (.keyCmdComplete ok) s) fun t =>
      t.key.keyOp = none ∧ t.bit Reg.KEY_STAT 0 = false ∧ t.get Reg.KEY_STAT 15 8 = st ∧ t.get Reg.KEY_STAT 7 2 = c.slot ∧
      t.bit (Reg.PG_EVRAW 0x0D0) 8 = true) ∧
    (∀ c, s.key.keyOp = some c → c.status = none → 1 ∈ s.compacting → exec (.keyCmdComplete ok) s = .next s) ∧
    (∀ bad, (∀ k ∈ bad, k < 64) → s.power.held = true ∨ s.power.backup = true → exec (.glazeCycle bad) s = .next s) ∧
    (∀ bad, (∀ k ∈ bad, k < 64) → s.power.held = false → s.power.backup = false → exec (.glazeCycle bad) s = .next (s.glaze bad))

/-- Crypto jobs and attestation: one at a time, STOPPED where the page does not run, and the results are written when the job
ends. That a command under way discards the next one is the model's reading (log 32). -/
def Obligations.CryptoAndAttestation : Prop :=
  ∀ s : State,
    (∀ x ∈ ([(.crySha512, State.crySha), (.cryHmac512, State.cryHmac), (.cryGcmEnc, fun s => s.cryGcm true),
        (.cryGcmDec, fun s => s.cryGcm false), (.cryKw, State.cryWrap), (.cryKwu, State.cryUnwrap), (.cryPssSign, State.crySign),
        (.cryPssVerify, State.cryVerify), (.cryBadOp, fun s => s.cryStart 1)] : List (Instr × (State → State))),
      (s.bit Reg.CRY_STAT 0 = true → exec x.1 s = .next (s.raise 0x0D1 1)) ∧
      (s.bit Reg.CRY_STAT 0 = false → s.running 0x0D1 = false → exec x.1 s = .next ((s.setBit Reg.CRY_STAT 0 true).cryStart 15)) ∧
      (s.bit Reg.CRY_STAT 0 = false → s.running 0x0D1 = true → exec x.1 s = .next (x.2 (s.setBit Reg.CRY_STAT 0 true)))) ∧
    (s.key.cryJob = none → exec .cryJobDone s = .next s) ∧
    (∀ j, s.key.cryJob = some j → s.bit (Reg.PG_INJARM 0x0D1) 0 = false → j.status < 256 → j.regs = [] →
      Answers (exec .cryJobDone s) fun t => t.key.cryJob = none ∧ t.rd Reg.CRY_STAT = BitVec.ofNat 32 (256 * j.status) ∧
        t.bit (Reg.PG_EVRAW 0x0D1) 8 = true ∧
        t.dma.dram = (match j.mem with
          | some m => Memory.write s.dma.dram m.1 m.2
          | none => s.dma.dram)) ∧
    (s.bit Reg.ATT_STAT 0 = true → ∀ c ∈ [Instr.attNop, .attReport, .attCert, .attExtend], exec c s = .next (s.raise 0x0D2 1)) ∧
    (s.bit Reg.ATT_STAT 0 = false → s.running 0x0D2 = false → ∀ c ∈ [Instr.attNop, .attReport, .attCert, .attExtend],
      Answers (exec c s) fun t => t.rd Reg.ATT_STAT = 768 ∧ t.bit (Reg.PG_EVRAW 0x0D2) 8 = true ∧ t.key = s.key) ∧
    (s.bit Reg.ATT_STAT 0 = false → s.running 0x0D2 = true →
      exec .attNop s = .next s ∧
      (Answers (exec .attReport s) fun t => t.bit Reg.ATT_STAT 0 = true ∧ t.key = { s.key with attBusy := true } ∧
        s.keepsRegs t [Reg.ATT_STAT]) ∧
      exec .attCert s = .next ((s.wrBytes (Reg.ATT_BUF 0) (Config.cert.take 2048)).attDone 0 (Config.cert.take 2048).length) ∧
      exec .attExtend s = .next ((s.extend 3 (s.regBytes (Reg.ATT_BUF 0) 16)).attDone 0 0)) ∧
    (s.key.attBusy = false → exec .attReportDone s = .next s) ∧
    (s.key.attBusy = true → match s.attKey with
      | none => Answers (exec .attReportDone s) fun t => t.get Reg.ATT_STAT 15 8 = 1 ∧ t.bit Reg.ATT_STAT 0 = false ∧
          t.key.attBusy = false
      | some _ => exec .attReportDone s = .next s.attReport)

/-- Authenticated operations: every attempt uses up the nonce, a token that cannot be read or fails a check is refused with its
reason, and a good one has the effect of its op. The order of the checks is the model's reading (log 33). -/
def Obligations.AuthenticatedOperations : Prop :=
  ∀ (s : State) (ok : Bool) (tok : List Byte),
    (s.bit Reg.COX_STAT 0 = true → ∀ t, ∀ c ∈ [Instr.authInjArm t, .authInjDisarm t, .authDebugUnlock t, .authDebugLock t,
      .authSvnCommit t ok, .authOwnerSet t], exec c s = .next (s.raise 0x080 9)) ∧
    (s.bit Reg.COX_STAT 0 = false → (s.arg 0).fld 31 16 = 0 →
      (∀ c ∈ [Instr.authInjArm none, .authInjDisarm none, .authDebugUnlock none, .authDebugLock none, .authSvnCommit none ok,
        .authOwnerSet none], Answers (exec c s) fun t => t.key.authNonce = none ∧ t.key.authFails = s.key.authFails + 1 ∧
          t.mbx = some { op := 24, seat := s.argSeat, result := some (10, [8]) } ∧ s.keepsRegs t [Reg.COX_STAT]) ∧
      ∀ b : State, b = (s.setBit Reg.COX_STAT 0 true).setKey { s.key with authNonce := none } →
        ∀ x ∈ ([(.authInjArm (some tok), 1, fun b t => authDone (b.injSet (if tokNat t 32 4 = 0 then none else some (tokNat t 32 4)))),
          (.authInjDisarm (some tok), 2, fun b _ => authDone b.injClear),
          (.authDebugUnlock (some tok), 3, fun b t => if tokNat t 32 1 = 1 || tokNat t 32 1 = 2 then authDone (b.setDebug (tokNat t 32 1))
            else b.authFail 6),
          (.authDebugLock (some tok), 4, fun b _ => authDone (b.setDebug 0)),
          (.authSvnCommit (some tok) ok, 5, fun b t => b.svnCommit (tokNat t 32 4) ok),
          (.authOwnerSet (some tok), 6, fun b t => authDone ((b.setKey { b.key with okh := some (sha512 ((t.drop 64).take 512)) }).setBit
            Reg.KEY_FUSE 1 true))] : List (Instr × Nat × (State → List Byte → State × MbxResult))),
          exec x.1 s = (match b.tokenFault s.key.authNonce x.2.1 tok with
            | some r => .next { (b.authFail r).1 with mbx := some { op := 24, seat := s.argSeat, result := (b.authFail r).2 } }
            | none => .next { (x.2.2 b tok).1 with mbx := some { op := 24, seat := s.argSeat, result := (x.2.2 b tok).2 } })) ∧
    (s.tokenFault none 1 tok ≠ none) ∧
    (3 ≤ s.key.authFails → (s.authFail 1).1.key.authShut = true) ∧
    (Answers (exec .authNonceExpiry s) fun t => t.key = { s.key with authNonce := none } ∧ t.regs = s.regs) ∧
    (s.key.authShut = true → Answers (exec .authThrottleExpiry s) fun t => t.key = { s.key with authShut := false, authFails := 0 } ∧
      t.regs = s.regs) ∧
    (s.key.authShut = false → exec .authThrottleExpiry s = .next s)

/-- Check-value units: data and END without an open frame are ignored with their event, each byte goes through the division register
and is counted, and END shows the result. -/
def Obligations.CheckValueUnits : Prop :=
  ∀ (s : State) (u : Nat) (v : Word), u < 8 →
    (s.running (0x0E0 + u) = false → exec (.cvuStart u) s = .next (s.raise (0x0E0 + u) 1)) ∧
    (s.running (0x0E0 + u) = true → Answers (exec (.cvuStart u) s) fun t => (t.cvu u).isOpen = true ∧ (t.cvu u).bytes = [] ∧
      t.bit (Reg.CVU_STAT u) 0 = true ∧
      (t.cvu u).reg = if s.bit (Reg.CVU_CFG u) 9 then bitRev (s.cvuWidth u) (s.cvuInit u) else s.cvuInit u) ∧
    ((s.cvu u).isOpen = false → ∀ c ∈ [Instr.cvuDin1 u v, .cvuDin2 u v, .cvuDin4 u v, .cvuEnd u],
      exec c s = .next (s.raise (0x0E0 + u) 1)) ∧
    ((s.cvu u).isOpen = true → ∀ x ∈ [(Instr.cvuDin1 u v, 1), (.cvuDin2 u v, 2), (.cvuDin4 u v, 4)],
      Answers (exec x.1 s) fun t => t.get (Reg.CVU_STAT u) 31 16 = min (s.get (Reg.CVU_STAT u) 31 16 + x.2) 65535 ∧
        (t.cvu u).reg = (leBytes x.2 v.toNat).foldl (crcByte (s.cvuWidth u) (s.cvuPoly u) (s.bit (Reg.CVU_CFG u) 8)) (s.cvu u).reg ∧
        (t.cvu u).isOpen = true ∧ s.keepsRegs t [Reg.CVU_STAT u]) ∧
    ((s.cvu u).isOpen = true → Answers (exec (.cvuEnd u) s) fun t => (t.cvu u).isOpen = false ∧
      t.rd64 (Reg.CVU_RESULT_LO u) (Reg.CVU_RESULT_HI u) = s.cvuResult u % 2 ^ 64 ∧ t.bit (Reg.CVU_STAT u) 0 = false ∧
      t.bit (Reg.PG_EVRAW (0x0E0 + u)) 9 = true ∧
      t.get (Reg.CVU_CNT u) 15 0 = min (s.get (Reg.CVU_CNT u) 15 0 + 1) 65535) ∧
    (exec (.cvuRelease u) s = .next (((s.cvuReset u).put (Reg.PG_OWNER (0x0E0 + u)) 5 0 0).setOwner 5 u 0 false))

/-- Fault injection: an arm needs the global arm and a listed point, a refused one is counted, and the log is read oldest first. -/
def Obligations.InjectionCommands : Prop :=
  ∀ (s : State) (p : Nat) (v : Word), p < 256 →
    (s.has p = false → exec (.injArmWrite p v) s = .next s) ∧
    (s.has p = true → v.getLsbD 0 = true → s.bit Reg.INJ_STAT 0 = false → Answers (exec (.injArmWrite p v) s) fun t =>
      t.bit (Reg.PG_INJARM p) 0 = false ∧ t.get Reg.INJ_REFUSED 31 0 = min (s.get Reg.INJ_REFUSED 31 0 + 1) (2 ^ 32 - 1) ∧
      t.bit (Reg.PG_EVRAW 0x005) 10 = true) ∧
    (s.has p = true → v.getLsbD 0 = true → s.bit Reg.INJ_STAT 0 = true → s.get (Reg.PG_INJSEL p) 7 0 ≠ 0 →
      s.injListed p (s.get (Reg.PG_INJSEL p) 7 0) (s.get (Reg.PG_INJSEL p) 15 8) = true → Answers (exec (.injArmWrite p v) s) fun t =>
        t.rd (Reg.PG_INJARM p) = (v &&& 0xFF02 ||| 1) ∧ t.injPassedOf p = 0 ∧ s.keepsRegs t [Reg.PG_INJARM p]) ∧
    (s.has p = true → v.getLsbD 0 = false → Answers (exec (.injArmWrite p v) s) fun t =>
      t.rd (Reg.PG_INJARM p) = v &&& 0xFF02 ∧ s.keepsRegs t [Reg.PG_INJARM p]) ∧
    (s.injEnd = none → exec .injArmExpiry s = .next s) ∧
    (s.injEnd.isSome = true → s.bit Reg.INJ_STAT 0 = true → Answers (exec .injArmExpiry s) fun t => t.bit Reg.INJ_STAT 0 = false ∧
      t.injEnd = none ∧ (∀ q, q < 256 → t.bit (Reg.PG_INJARM q) 0 = false) ∧ t.bit (Reg.PG_EVRAW 0x005) 9 = true) ∧
    (s.injLog = [] → Answers (exec .injLogRead s) fun t => t.rd Reg.INJ_LOG0 = 0 ∧ t.rd64 Reg.INJ_LOG1 Reg.INJ_LOG2 = 0 ∧
      s.keepsRegs t [Reg.INJ_LOG0, Reg.INJ_LOG1, Reg.INJ_LOG2]) ∧
    (∀ w u rest, s.injLog = (w, u) :: rest → u < 2 ^ 64 → Answers (exec .injLogRead s) fun t => t.injLog = rest ∧
      t.rd Reg.INJ_LOG0 = w ∧ t.rd64 Reg.INJ_LOG1 Reg.INJ_LOG2 = u ∧ s.keepsRegs t [Reg.INJ_LOG0, Reg.INJ_LOG1, Reg.INJ_LOG2])

/-! ### Resets, power states, the life store -/

/-- Power and resets: a reset names its cause and stops the device, only the key writes `RST.CTRL`, the clearing of domain D
returns every register that does not outlive it to its reset value and keeps the others, and the release needs its supplies. A
trigger during a reset adds nothing, and POWER_ON returns every supply: the model's readings (logs 37, 56). -/
def Obligations.PowerAndResets : Prop :=
  ∀ (s : State) (v : Word) (bit straps fitted life : Nat) (readBad : List Nat), bit < 5 → straps < 512 → 2 ≤ fitted → fitted ≤ 16 →
    life < 3 → (∀ b ∈ readBad, b < 2) →
    (s.power.backup = true → Answers (exec .powerOn s) fun t => t.power = { s.power with supply := 0x9F } ∧ t.regs = s.regs) ∧
    (s.power.backup = false → Answers (exec .powerOn s) fun t => t.power.supply = 0x9F ∧ t.power.cause = some 1 ∧
      t.power.held = true ∧ t.dma.dram = [] ∧ ∀ a, outlives a = false → a ≠ Reg.RST_CNT → t.rd a = resetValue s.part s.straps a) ∧
    (∀ u : State, u = s.setPower { s.power with supply := clearBit s.power.supply bit } → exec (.supplyLoss bit) s = .next
      (if s.power.held && s.power.cause.isNone then u else if u.power.supply.testBit 7 then u.backupEnter else u.powerOff)) ∧
    (Answers (exec .vbkpLoss s) fun t => t.bit Reg.RST_CAUSE 8 = true ∧ t.power.supply.testBit 7 = false) ∧
    (s.halted = true → ∀ cause f, s.trigger cause f = s) ∧
    (s.halted = false → ∀ x ∈ [(Instr.resetNLow, 2), (.bootTimerExpiry, 5), (.bootHashFail, 5)],
      s.done = false → s.easy = false → Answers (exec x.1 s) fun t => t.power.cause = some x.2 ∧ t.halted = true ∧
        t.power.records.length ≤ 64 ∧ t.dma = s.dma) ∧
    (exec .resetNLow s = .next (s.trigger 2 none)) ∧
    (v.fld 31 16 ≠ 0xC10D → exec (.rstDevrst v) s = .next (s.raise 0x002 1) ∧ exec (.rstMgmtrst v) s = .next (s.raise 0x002 1)) ∧
    (v.fld 31 16 = 0xC10D →
      (v.getLsbD 0 = true → exec (.rstDevrst v) s = .next (s.trigger 4 none)) ∧ (v.getLsbD 0 = false → exec (.rstDevrst v) s = .next s) ∧
      (v.getLsbD 1 = true → exec (.rstMgmtrst v) s = .next s.mgmtRestart) ∧ (v.getLsbD 1 = false → exec (.rstMgmtrst v) s = .next s)) ∧
    (s.power.cause = none ∨ s.power.held = true → exec .domainDClear s = .next s) ∧
    (s.power.cause ≠ none → s.power.held = false → Answers (exec .domainDClear s) fun t => t.power.held = true ∧ t.out = s.out ∧
      t.field = s.field ∧ t.dma.dram = (if s.power.backup then [] else s.dma.dram) ∧
      (∀ a, outlives a = false → a ≠ Reg.RST_CNT → t.rd a = resetValue s.part s.straps a) ∧
      (∀ a, outlives a = true → a ∉ [Reg.RST_CNT, Reg.LIFE_LASTSEC_LO, Reg.LIFE_LASTSEC_HI] → t.rd a = s.rd a)) ∧
    (s.power.cause = none ∨ s.power.held = false ∨ s.supplied = false →
      exec (.domainDRelease straps fitted life readBad) s = .next s) ∧
    (∀ c, s.power.cause = some c → s.power.held = true → s.supplied = true →
      exec (.domainDRelease straps fitted life readBad) s = .next ((s.release straps fitted life c).rom life readBad)) ∧
    (s.halted = true ∨ s.done = true ∨ s.easy = true → exec .bootComplete s = .next s) ∧
    (s.halted = false → s.done = false → s.easy = false → Answers (exec .bootComplete s) fun t => t.done = true ∧
      t.rd Reg.BOOT_TIMER = 0 ∧ t.fails = 0 ∧ t.bit (Reg.PG_EVRAW 0x003) 8 = true) ∧
    (s.done = true ∨ s.easy = true → exec .bootTimerExpiry s = .next s ∧ exec .bootHashFail s = .next s) ∧
    (s.halted = true → s.bit (Reg.PG_INJARM 0x002) 0 = false → exec .mgmtWatchdogExpiry s = .next s) ∧
    (s.halted = false → s.bit (Reg.PG_INJARM 0x002) 0 = false → s.done = true → s.power.restart = none →
      exec .mgmtWatchdogExpiry s = .next s.mgmtRestart) ∧
    (s.halted = false → s.bit (Reg.PG_INJARM 0x002) 0 = false → s.done = false → exec .mgmtWatchdogExpiry s = .next (s.trigger 3 (some 3))) ∧
    (s.power.restart = none → exec .watchdogReset s = .next s) ∧
    (s.power.restart ≠ none → exec .watchdogReset s = .next (s.trigger 3 (some 3))) ∧
    (s.power.recDue = false → exec .firmwareReset s = .next s) ∧
    (s.power.recDue = true → exec .firmwareReset s = .next (s.trigger 4 none)) ∧
    (s.halted = false → s.easy = false → exec (.fatalError v) s = .next ((s.writeCrumb 1 v).trigger 6 (some 4))) ∧
    (s.halted = true ∨ s.easy = true → exec (.fatalError v) s = .next s)

/-- Power states: Backup needs its key and quiet channels, Doze and Feather are entered only where they are allowed, and a wake
leaves Backup. -/
def Obligations.PowerStates : Prop :=
  ∀ (s : State) (v : Word) (d p : Nat), d < 2 → p < 2 →
    (s.halted = true → exec (.backupRequest v) s = .next s) ∧
    (s.halted = false → v.getLsbD 0 = true → s.backupOk v = false → exec (.backupRequest v) s = .next (s.raise 0x001 12)) ∧
    (s.halted = false → v.getLsbD 0 = true → s.backupOk v = true → s.slp ≠ 2 → s.power.backup = false → Answers (exec (.backupRequest v) s) fun t =>
      t.power.backup = true ∧ t.power.cause = some 7 ∧ t.halted = true) ∧
    (s.backupOk v = true ↔ v.fld 31 16 = 0xBAC0 ∧ s.get Reg.PWR_STATE 1 0 < 2 ∧
      ∀ k ∈ s.channels, s.chState k = 0 ∨ s.chState k = 5 ∨ s.chState k = 6) ∧
    (s.power.backup = true → s.power.held = true → s.power.cause = none →
      ∀ x ∈ [(Instr.backupWakeN, 0, 1), (.backupTioWake, 1, 2)], s.bit Reg.PWR_BKCFG x.2.1 = true → Answers (exec x.1 s) fun t =>
        t.rd Reg.PWR_BKWAKE = BitVec.ofNat 32 (x.2.2 + 2 ^ 31) ∧ t.power.cause = some 7 ∧ s.keepsRegs t [Reg.PWR_BKWAKE]) ∧
    (s.bit Reg.PWR_BKCFG 0 = false → exec .backupWakeN s = .next s) ∧ (s.bit Reg.PWR_BKCFG 1 = false → exec .backupTioWake s = .next s) ∧
    (s.power.backup = false → exec .backupWakeN s = .next s ∧ exec .backupTioWake s = .next s) ∧
    (s.halted = false → s.get Reg.PWR_STATE 1 0 = 0 → s.bit Reg.PWR_CTRL 0 = true → s.bit Reg.COX_STAT 0 = false →
      Answers (exec .dozeEntry s) fun t => t.rd Reg.PWR_STATE = 1 ∧ t.bit (Reg.PG_EVRAW 0x001) 10 = true) ∧
    (s.get Reg.PWR_STATE 1 0 ≠ 0 ∨ s.bit Reg.PWR_CTRL 0 = false ∨ s.bit Reg.COX_STAT 0 = true → exec .dozeEntry s = .next s) ∧
    (s.halted = false → s.get Reg.PWR_STATE 1 0 = 1 → Answers (exec .dozeExit s) fun t => t.rd Reg.PWR_STATE = 0 ∧
      t.bit (Reg.PG_EVRAW 0x001) 10 = true) ∧
    (s.get Reg.PWR_STATE 1 0 ≠ 1 → exec .dozeExit s = .next s) ∧
    (s.halted = true ∨ s.feather = true ∨ s.mayFeather = false → exec .featherEntry s = .next s) ∧
    (s.halted = false → s.feather = false → s.mayFeather = true →
      (s.pwrBlock = 0 → exec .featherEntry s = .next s.featherEnter) ∧
      (s.pwrBlock ≠ 0 → s.power.blocked = s.pwrBlock → exec .featherEntry s = .next s) ∧
      (s.pwrBlock ≠ 0 → s.power.blocked ≠ s.pwrBlock → Answers (exec .featherEntry s) fun t => t.power.blocked = s.pwrBlock ∧
        t.bit (Reg.PG_EVRAW 0x001) 11 = true ∧ t.get Reg.PWR_STATE 1 0 = s.get Reg.PWR_STATE 1 0)) ∧
    (s.feather = false → exec .featherCheckWindow s = .next s ∧ exec .featherExit s = .next s) ∧
    (s.feather = true → exec .featherCheckWindow s = .next (s.each ((List.range 2).filter fun d => s.hasDie d && !(s.checkChannels d).isEmpty)
      fun s d => s.modDie d fun x => { x with converters := true, checkEnd := some (s.now + 10000000000) })) ∧
    (s.feather = true → s.halted = false → s.bit Reg.PWR_STATE 2 = true → exec .featherExit s = .next s.featherLeave) ∧
    (s.easy = true → s.halted = false → Answers (exec .easyAnnounce s) fun t => t.out = .ethFrame 0 s.announcement true :: s.out ∧
      t.regs = s.regs) ∧
    (s.easy = false ∨ s.halted = true → exec .easyAnnounce s = .next s) ∧
    (s.hasDie d = false → exec (.measureSupplyInvalid d) s = .next s ∧ exec (.measureSupplyValid d) s = .next s) ∧
    (s.hasDie d = true →
      exec (.measureSupplyInvalid d) s = .next (((s.modDie d fun x => { x with powered := false }).ovenStop d).raise 0x001 13) ∧
      exec (.measureSupplyValid d) s = .next ((s.modDie d fun x => { x with powered := true }).ovenStart d)) ∧
    (s.get Reg.KEY_DEBUG 1 0 = 0 → exec .jtagExtest s = .next s) ∧ (s.get Reg.KEY_DEBUG 1 0 ≠ 0 → exec .jtagExtest s = .next s.extest) ∧
    (s.bit (Reg.PG_INJARM 0x000) 0 = false → s.power.pair = p → (1 - p) ∉ s.power.failed → Answers (exec (.mgmtPairFail p) s) fun t =>
      t.power.pair = 1 - p ∧ p ∈ t.power.failed ∧ t.regs = s.regs)

/-- The life store and device DRAM scrubbing: errors are counted and their latest address kept, a journal compacts until its end,
leap seconds keep their order, and the window reads word by word. The order of several command bits is the model's (log 42). -/
def Obligations.LifeStore : Prop :=
  ∀ (s : State) (corr uncorr j addr : Nat) (bad : List Nat) (v : Word), j < 2 →
    (s.halted = true ∨ s.feather = true ∨ s.get Reg.DRAM_SCRUB 7 0 = 0 → exec (.dramScrub corr bad) s = .next s) ∧
    (s.halted = false → s.feather = false → s.get Reg.DRAM_SCRUB 7 0 ≠ 0 → corr ≠ 0 → Answers (exec (.dramScrub corr []) s) fun t =>
      t.get Reg.DRAM_ECC 15 0 = min (s.get Reg.DRAM_ECC 15 0 + corr) 65535 ∧ t.bit (Reg.PG_EVRAW 0x0F0) 8 = true ∧ t.dma = s.dma) ∧
    (s.halted = false → s.feather = false → s.get Reg.DRAM_SCRUB 7 0 ≠ 0 → addr < 2 ^ 64 → Answers (exec (.dramScrub 0 [addr]) s) fun t =>
      t.get Reg.DRAM_ECC 31 16 = min (s.get Reg.DRAM_ECC 31 16 + 1) 65535 ∧ t.rd64 Reg.DRAM_EADDR_LO Reg.DRAM_EADDR_HI = addr ∧
      t.bit (Reg.PG_EVRAW 0x0F0) 9 = true ∧ t.dma = s.dma) ∧
    (Answers (exec (.journalCompactionStart j) s) fun t => j ∈ t.compacting ∧ t.bit Reg.LIFE_STAT 1 = true ∧
      s.keepsRegs t [Reg.LIFE_STAT]) ∧
    (j ∉ s.compacting → exec (.journalCompactionEnd j) s = .next s) ∧
    (j ∈ s.compacting → Answers (exec (.journalCompactionEnd j) s) fun t => j ∉ t.compacting ∧
      t.bit Reg.LIFE_STAT 1 = !t.compacting.isEmpty ∧ t.bit (Reg.PG_EVRAW 0x004) 12 = true) ∧
    (Answers (exec .lifeTotalsFlush s) fun t => (s.power.held = true → t.regs = s.regs) ∧ (s.power.held = false →
      t.rd64 Reg.LIFE_OPSEC_LO Reg.LIFE_OPSEC_HI = (s.rd64 Reg.LIFE_OPSEC_LO Reg.LIFE_OPSEC_HI + 60) % 2 ^ 64 ∧
      s.keepsRegs t [Reg.LIFE_OPSEC_LO, Reg.LIFE_OPSEC_HI])) ∧
    (Answers (exec .lifeHourlyFlush s) fun t => s.keepsRegs t [Reg.LIFE_LASTSEC_LO, Reg.LIFE_LASTSEC_HI] ∧
      (s.bit Reg.TB_STAT 8 = false → t.regs = s.regs)) ∧
    (s.halted = true ∨ s.feather = true → exec (.lifeScrub corr uncorr) s = .next s) ∧
    (s.halted = false → s.feather = false → s.bit (Reg.PG_INJARM 0x004) 0 = false → 0 < uncorr →
      Answers (exec (.lifeScrub 0 uncorr) s) fun t =>
      t.get Reg.LIFE_ECC 31 16 = min (s.get Reg.LIFE_ECC 31 16 + uncorr) 65535 ∧ t.bit (Reg.PG_EVRAW 0x004) 9 = true) ∧
    (s.bit (Reg.PG_INJARM 0x004) 0 = false → exec (.lifeScrub 0 0) s = .next s) ∧
    (64 ≤ s.lifeIdx → exec .leapWrite s = .next (s.raise 0x004 11)) ∧
    (s.lifeIdx = 0 → s.bit Reg.LIFE_LEAP_OFS 31 = true → Answers (exec .leapWrite s) fun t =>
      Sparse.find? t.leaps 0 = some (s.rd64 Reg.LIFE_LEAP_SEC_LO Reg.LIFE_LEAP_SEC_HI, s.getI Reg.LIFE_LEAP_OFS 15 0) ∧ t.regs = s.regs) ∧
    (∀ e, 0 < s.lifeIdx → Sparse.find? s.leaps (s.lifeIdx - 1) = some e → s.rd64 Reg.LIFE_LEAP_SEC_LO Reg.LIFE_LEAP_SEC_HI ≤ e.1 →
      exec .leapWrite s = .next (s.raise 0x004 11)) ∧
    (Sparse.find? s.leaps s.lifeIdx = none → Answers (exec .leapRead s) fun t => t.rd64 Reg.LIFE_LEAP_SEC_LO Reg.LIFE_LEAP_SEC_HI = 0 ∧
      t.rd Reg.LIFE_LEAP_OFS = 0) ∧
    (∀ sec ofs, Sparse.find? s.leaps s.lifeIdx = some (sec, ofs) → sec < 2 ^ 64 → Answers (exec .leapRead s) fun t =>
      t.rd64 Reg.LIFE_LEAP_SEC_LO Reg.LIFE_LEAP_SEC_HI = sec ∧ t.bit Reg.LIFE_LEAP_OFS 31 = true) ∧
    (Answers (exec .leapClear s) fun t => t.leaps = [] ∧ t.regs = s.regs) ∧
    (∀ a ∈ [Reg.LIFE_CRUMB_BASE_LO, Reg.LIFE_CRUMB_BASE_HI], exec (.crumbAreaWrite a v) s =
      .next (if (s.wr a v).crumbOk then s.wr a v else s.raise 0x004 11)) ∧
    (exec (.crumbAreaWrite Reg.LIFE_CRUMB_SIZE v) s =
      .next (if (s.wr Reg.LIFE_CRUMB_SIZE (v &&& 0x7FF)).crumbOk then s.wr Reg.LIFE_CRUMB_SIZE (v &&& 0x7FF) else s.raise 0x004 11)) ∧
    (Answers (exec .lifeWinRead s) fun t => t.get Reg.LIFE_WIN_ADDR 11 0 = (s.get Reg.LIFE_WIN_ADDR 11 0 + 1) % 4096) ∧
    (s.bit (Reg.PG_INJARM 0x004) 0 = false → Answers (exec .lifeWinRead s) fun t => t.rd Reg.LIFE_WIN_DATA = (if s.lifeSet = 4 then
        (Sparse.get {} s.crumbs (s.lifeIdx % 8)).words.getD (s.get Reg.LIFE_WIN_ADDR 11 0) 0 else 0))

/-! ### What holds of every command -/

/-- Every command of the manual completes, in every state: it neither faults nor is refused, and it leaves the commands that wait
behind it and the part as they are. -/
def Obligations.EveryCommandCompletes : Prop :=
  ∀ (i : Instr) (s : State), i.wellFormed = true → Answers (exec i s) fun t => t.pending = s.pending ∧ t.part = s.part

/-- A command that names what no part has, or carries data of the wrong length, is turned away by name and never executed. That
these terms are no commands is the model's reading (log 5). -/
def Obligations.IllFormedCommandsStop : Prop :=
  ∀ (i : Instr) (s : State), i.wellFormed = false → exec i s = .fault .illFormed

/-- A step from a state whose waiting commands are the manual's answers a next state, and that state's waiting commands are the
manual's again. The queue is the model's own (log 43). -/
def Obligations.StepsKeepTheQueueReady : Prop :=
  ∀ s : State, s.ready = true → ∃ t : State, step s = .next t ∧ t.ready = true ∧ t.pending = s.pending.drop 1

/-- Reset is ready, and its register table and device DRAM are in their canonical form. The form is the model's own. -/
def Obligations.ResetIsReadyAndCanonical : Prop := State.reset.ready = true ∧ State.reset.canonical = true

/-- Every step keeps the canonical form of the register table and of device DRAM: equal contents are equal data. -/
def Obligations.StepsKeepTheCanonicalForm : Prop :=
  ∀ s t : State, s.canonical = true → step s = .next t → t.canonical = true
end

