-- ==== Sys2Proof/Laws/Sparse.lean ====
section
/-!
SUPPORT. Tables in canonical form: what a read gives after a write, and that every table operation keeps the keys rising.
-/
namespace Sys2Proof.Machine

theorem Sparse.find?_insert_same {α : Type} (m : List (Nat × α)) (j : Nat) (x : α) :
    Sparse.find? (Sparse.insert m j x) j = some x := by
  induction m with
  | nil => simp [Sparse.insert, Sparse.find?]
  | cons e t ih =>
    obtain ⟨k, v⟩ := e
    simp only [Sparse.insert]
    split
    · simp [Sparse.find?]
    · split
      · simp [Sparse.find?]
      · rename_i h1 h2
        have : ¬ k = j := fun h => h2 h.symm
        simp [Sparse.find?, this, ih]

theorem Sparse.find?_insert_ne {α : Type} (m : List (Nat × α)) (i j : Nat) (x : α) (h : i ≠ j) :
    Sparse.find? (Sparse.insert m j x) i = Sparse.find? m i := by
  have h' : ¬ j = i := fun e => h e.symm
  induction m with
  | nil => simp [Sparse.insert, Sparse.find?, h']
  | cons e t ih =>
    obtain ⟨k, v⟩ := e
    simp only [Sparse.insert]
    split
    · simp [Sparse.find?, h']
    · split
      · rename_i h1 h2
        subst h2
        simp [Sparse.find?, h']
      · simp [Sparse.find?, ih]

theorem Sparse.find?_erase_same {α : Type} (m : List (Nat × α)) (j : Nat) : Sparse.find? (Sparse.erase m j) j = none := by
  induction m with
  | nil => simp [Sparse.erase, Sparse.find?]
  | cons e t ih =>
    obtain ⟨k, v⟩ := e
    by_cases h : k = j
    · simpa [Sparse.erase, h] using ih
    · simpa [Sparse.erase, h, Sparse.find?] using ih

theorem Sparse.find?_erase_ne {α : Type} (m : List (Nat × α)) (i j : Nat) (h : i ≠ j) :
    Sparse.find? (Sparse.erase m j) i = Sparse.find? m i := by
  induction m with
  | nil => simp [Sparse.erase, Sparse.find?]
  | cons e t ih =>
    obtain ⟨k, v⟩ := e
    by_cases hk : k = j
    · subst hk
      have h' : ¬ k = i := fun e => h e.symm
      simpa [Sparse.erase, Sparse.find?, h'] using ih
    · by_cases hi : k = i
      · subst hi
        simp [Sparse.erase, Sparse.find?, h]
      · simpa [Sparse.erase, Sparse.find?, hk, hi] using ih

@[simp] theorem Sparse.get_insert_same {α : Type} (d : α) (m : List (Nat × α)) (j : Nat) (x : α) :
    Sparse.get d (Sparse.insert m j x) j = x := by
  simp [Sparse.get, Sparse.find?_insert_same]

theorem Sparse.get_insert_ne {α : Type} (d : α) (m : List (Nat × α)) (i j : Nat) (x : α) (h : i ≠ j) :
    Sparse.get d (Sparse.insert m j x) i = Sparse.get d m i := by
  simp [Sparse.get, Sparse.find?_insert_ne m i j x h]

@[simp] theorem Sparse.get_set_same {α : Type} [DecidableEq α] (d : α) (m : List (Nat × α)) (j : Nat) (x : α) :
    Sparse.get d (Sparse.set d m j x) j = x := by
  unfold Sparse.set
  split
  · simp [Sparse.get, Sparse.find?_erase_same, *]
  · simp

theorem Sparse.get_set_ne {α : Type} [DecidableEq α] (d e : α) (m : List (Nat × α)) (i j : Nat) (x : α) (h : i ≠ j) :
    Sparse.get e (Sparse.set d m j x) i = Sparse.get e m i := by
  unfold Sparse.set
  split
  · simp [Sparse.get, Sparse.find?_erase_ne m i j h]
  · exact Sparse.get_insert_ne e m i j x h

/-! ### The keys stay rising -/

/-- Every key of the table is above `k`. -/
theorem Sparse.rising_cons {α : Type} (k : Nat) (v : α) (t : List (Nat × α)) :
    Sparse.rising ((k, v) :: t) = true ↔ (∀ e ∈ t, k < e.1) ∧ Sparse.rising t = true := by
  induction t generalizing k v with
  | nil => simp [Sparse.rising]
  | cons e t ih =>
    obtain ⟨k', v'⟩ := e
    simp only [Sparse.rising, Bool.and_eq_true, decide_eq_true_eq, List.mem_cons]
    constructor
    · rintro ⟨hk, hr⟩
      refine ⟨?_, hr⟩
      intro e he
      rcases he with rfl | he
      · exact hk
      · exact Nat.lt_trans hk (((ih k' v').mp hr).1 e he)
    · rintro ⟨ha, hr⟩
      exact ⟨ha (k', v') (Or.inl rfl), hr⟩

theorem Sparse.mem_insert_key {α : Type} (m : List (Nat × α)) (j : Nat) (x : α) (e : Nat × α)
    (h : e ∈ Sparse.insert m j x) : e = (j, x) ∨ e ∈ m := by
  induction m with
  | nil => simpa [Sparse.insert] using h
  | cons a t ih =>
    obtain ⟨k, v⟩ := a
    simp only [Sparse.insert] at h
    split at h
    · simpa using h
    · split at h
      · rcases List.mem_cons.mp h with h | h
        · exact Or.inl h
        · exact Or.inr (List.mem_cons_of_mem _ h)
      · rcases List.mem_cons.mp h with h | h
        · exact Or.inr (h ▸ List.mem_cons_self ..)
        · rcases ih h with h | h
          · exact Or.inl h
          · exact Or.inr (List.mem_cons_of_mem _ h)

theorem Sparse.rising_insert {α : Type} (m : List (Nat × α)) (j : Nat) (x : α) (h : Sparse.rising m = true) :
    Sparse.rising (Sparse.insert m j x) = true := by
  induction m with
  | nil => simp [Sparse.insert, Sparse.rising]
  | cons a t ih =>
    obtain ⟨k, v⟩ := a
    have hc := (Sparse.rising_cons k v t).mp h
    simp only [Sparse.insert]
    split
    · rename_i hlt
      simp [Sparse.rising, hlt, h]
    · split
      · rename_i _ he
        subst he
        exact (Sparse.rising_cons j x t).mpr hc
      · rename_i h1 h2
        refine (Sparse.rising_cons k v _).mpr ⟨?_, ih hc.2⟩
        intro e he
        rcases Sparse.mem_insert_key t j x e he with rfl | he
        · show k < j
          omega
        · exact hc.1 e he

theorem Sparse.rising_filter {α : Type} (m : List (Nat × α)) (p : Nat × α → Bool) (h : Sparse.rising m = true) :
    Sparse.rising (m.filter p) = true := by
  induction m with
  | nil => simpa using h
  | cons a t ih =>
    obtain ⟨k, v⟩ := a
    have hc := (Sparse.rising_cons k v t).mp h
    simp only [List.filter]
    split
    · refine (Sparse.rising_cons k v _).mpr ⟨?_, ih hc.2⟩
      intro e he
      exact hc.1 e (List.mem_filter.mp he).1
    · exact ih hc.2

theorem Sparse.rising_set {α : Type} [DecidableEq α] (d : α) (m : List (Nat × α)) (j : Nat) (x : α)
    (h : Sparse.rising m = true) : Sparse.rising (Sparse.set d m j x) = true := by
  unfold Sparse.set
  split
  · exact Sparse.rising_filter m _ h
  · exact Sparse.rising_insert m j x h

end Sys2Proof.Machine
end

