-- ==== Sys2Proof/Laws/State.lean ====
section
/-!
SUPPORT. What each plain update of the state leaves: one lemma per field and update.
-/
namespace Sys2Proof.Machine

/-! ### `wr` -/

@[simp] theorem State.wr_part (s : State) (a : Nat) (v : Word) : (s.wr a v).part = s.part := rfl
@[simp] theorem State.wr_straps (s : State) (a : Nat) (v : Word) : (s.wr a v).straps = s.straps := rfl
@[simp] theorem State.wr_free (s : State) (a : Nat) (v : Word) : (s.wr a v).free = s.free := rfl
@[simp] theorem State.wr_out (s : State) (a : Nat) (v : Word) : (s.wr a v).out = s.out := rfl
@[simp] theorem State.wr_winSlack (s : State) (a : Nat) (v : Word) : (s.wr a v).winSlack = s.winSlack := rfl
@[simp] theorem State.wr_winMiss (s : State) (a : Nat) (v : Word) : (s.wr a v).winMiss = s.winMiss := rfl
@[simp] theorem State.wr_lowRun (s : State) (a : Nat) (v : Word) : (s.wr a v).lowRun = s.lowRun := rfl
@[simp] theorem State.wr_stopAsked (s : State) (a : Nat) (v : Word) : (s.wr a v).stopAsked = s.stopAsked := rfl
@[simp] theorem State.wr_chans (s : State) (a : Nat) (v : Word) : (s.wr a v).chans = s.chans := rfl
@[simp] theorem State.wr_dies (s : State) (a : Nat) (v : Word) : (s.wr a v).dies = s.dies := rfl
@[simp] theorem State.wr_calJournal (s : State) (a : Nat) (v : Word) : (s.wr a v).calJournal = s.calJournal := rfl
@[simp] theorem State.wr_calReadable (s : State) (a : Nat) (v : Word) : (s.wr a v).calReadable = s.calReadable := rfl
@[simp] theorem State.wr_strokes (s : State) (a : Nat) (v : Word) : (s.wr a v).strokes = s.strokes := rfl
@[simp] theorem State.wr_loopFrom (s : State) (a : Nat) (v : Word) : (s.wr a v).loopFrom = s.loopFrom := rfl
@[simp] theorem State.wr_gains (s : State) (a : Nat) (v : Word) : (s.wr a v).gains = s.gains := rfl
@[simp] theorem State.wr_gainReq (s : State) (a : Nat) (v : Word) : (s.wr a v).gainReq = s.gainReq := rfl
@[simp] theorem State.wr_slots (s : State) (a : Nat) (v : Word) : (s.wr a v).slots = s.slots := rfl
@[simp] theorem State.wr_store (s : State) (a : Nat) (v : Word) : (s.wr a v).store = s.store := rfl
@[simp] theorem State.wr_progOp (s : State) (a : Nat) (v : Word) : (s.wr a v).progOp = s.progOp := rfl
@[simp] theorem State.wr_sweeps (s : State) (a : Nat) (v : Word) : (s.wr a v).sweeps = s.sweeps := rfl
@[simp] theorem State.wr_eisOp (s : State) (a : Nat) (v : Word) : (s.wr a v).eisOp = s.eisOp := rfl
@[simp] theorem State.wr_eisRes (s : State) (a : Nat) (v : Word) : (s.wr a v).eisRes = s.eisRes := rfl
@[simp] theorem State.wr_trendPend (s : State) (a : Nat) (v : Word) : (s.wr a v).trendPend = s.trendPend := rfl
@[simp] theorem State.wr_crews (s : State) (a : Nat) (v : Word) : (s.wr a v).crews = s.crews := rfl
@[simp] theorem State.wr_coords (s : State) (a : Nat) (v : Word) : (s.wr a v).coords = s.coords := rfl
@[simp] theorem State.wr_reds (s : State) (a : Nat) (v : Word) : (s.wr a v).reds = s.reds := rfl
@[simp] theorem State.wr_crits (s : State) (a : Nat) (v : Word) : (s.wr a v).crits = s.crits := rfl
@[simp] theorem State.wr_ranksrc (s : State) (a : Nat) (v : Word) : (s.wr a v).ranksrc = s.ranksrc := rfl
@[simp] theorem State.wr_staging (s : State) (a : Nat) (v : Word) : (s.wr a v).staging = s.staging := rfl
@[simp] theorem State.wr_links (s : State) (a : Nat) (v : Word) : (s.wr a v).links = s.links := rfl
@[simp] theorem State.wr_incStage (s : State) (a : Nat) (v : Word) : (s.wr a v).incStage = s.incStage := rfl
@[simp] theorem State.wr_stepPend (s : State) (a : Nat) (v : Word) : (s.wr a v).stepPend = s.stepPend := rfl
@[simp] theorem State.wr_tbLatch (s : State) (a : Nat) (v : Word) : (s.wr a v).tbLatch = s.tbLatch := rfl
@[simp] theorem State.wr_servo (s : State) (a : Nat) (v : Word) : (s.wr a v).servo = s.servo := rfl
@[simp] theorem State.wr_tioOut (s : State) (a : Nat) (v : Word) : (s.wr a v).tioOut = s.tioOut := rfl
@[simp] theorem State.wr_catFifo (s : State) (a : Nat) (v : Word) : (s.wr a v).catFifo = s.catFifo := rfl
@[simp] theorem State.wr_slotNext (s : State) (a : Nat) (v : Word) : (s.wr a v).slotNext = s.slotNext := rfl
@[simp] theorem State.wr_fab (s : State) (a : Nat) (v : Word) : (s.wr a v).fab = s.fab := rfl
@[simp] theorem State.wr_brg (s : State) (a : Nat) (v : Word) : (s.wr a v).brg = s.brg := rfl
@[simp] theorem State.wr_seats (s : State) (a : Nat) (v : Word) : (s.wr a v).seats = s.seats := rfl
@[simp] theorem State.wr_mbx (s : State) (a : Nat) (v : Word) : (s.wr a v).mbx = s.mbx := rfl
@[simp] theorem State.wr_mbxLog (s : State) (a : Nat) (v : Word) : (s.wr a v).mbxLog = s.mbxLog := rfl
@[simp] theorem State.wr_msix (s : State) (a : Nat) (v : Word) : (s.wr a v).msix = s.msix := rfl
@[simp] theorem State.wr_owners (s : State) (a : Nat) (v : Word) : (s.wr a v).owners = s.owners := rfl
@[simp] theorem State.wr_dma (s : State) (a : Nat) (v : Word) : (s.wr a v).dma = s.dma := rfl
@[simp] theorem State.wr_sw (s : State) (a : Nat) (v : Word) : (s.wr a v).sw = s.sw := rfl
@[simp] theorem State.wr_cans (s : State) (a : Nat) (v : Word) : (s.wr a v).cans = s.cans := rfl
@[simp] theorem State.wr_sers (s : State) (a : Nat) (v : Word) : (s.wr a v).sers = s.sers := rfl
@[simp] theorem State.wr_mbIn (s : State) (a : Nat) (v : Word) : (s.wr a v).mbIn = s.mbIn := rfl
@[simp] theorem State.wr_awake (s : State) (a : Nat) (v : Word) : (s.wr a v).awake = s.awake := rfl
@[simp] theorem State.wr_awakeDue (s : State) (a : Nat) (v : Word) : (s.wr a v).awakeDue = s.awakeDue := rfl
@[simp] theorem State.wr_field (s : State) (a : Nat) (v : Word) : (s.wr a v).field = s.field := rfl
@[simp] theorem State.wr_fc (s : State) (a : Nat) (v : Word) : (s.wr a v).fc = s.fc := rfl
@[simp] theorem State.wr_key (s : State) (a : Nat) (v : Word) : (s.wr a v).key = s.key := rfl
@[simp] theorem State.wr_cvus (s : State) (a : Nat) (v : Word) : (s.wr a v).cvus = s.cvus := rfl
@[simp] theorem State.wr_injPassed (s : State) (a : Nat) (v : Word) : (s.wr a v).injPassed = s.injPassed := rfl
@[simp] theorem State.wr_injLog (s : State) (a : Nat) (v : Word) : (s.wr a v).injLog = s.injLog := rfl
@[simp] theorem State.wr_injEnd (s : State) (a : Nat) (v : Word) : (s.wr a v).injEnd = s.injEnd := rfl
@[simp] theorem State.wr_power (s : State) (a : Nat) (v : Word) : (s.wr a v).power = s.power := rfl
@[simp] theorem State.wr_flash (s : State) (a : Nat) (v : Word) : (s.wr a v).flash = s.flash := rfl
@[simp] theorem State.wr_flashPages (s : State) (a : Nat) (v : Word) : (s.wr a v).flashPages = s.flashPages := rfl
@[simp] theorem State.wr_lifeCh (s : State) (a : Nat) (v : Word) : (s.wr a v).lifeCh = s.lifeCh := rfl
@[simp] theorem State.wr_lifeLs (s : State) (a : Nat) (v : Word) : (s.wr a v).lifeLs = s.lifeLs := rfl
@[simp] theorem State.wr_lifeLink (s : State) (a : Nat) (v : Word) : (s.wr a v).lifeLink = s.lifeLink := rfl
@[simp] theorem State.wr_leaps (s : State) (a : Nat) (v : Word) : (s.wr a v).leaps = s.leaps := rfl
@[simp] theorem State.wr_crumbs (s : State) (a : Nat) (v : Word) : (s.wr a v).crumbs = s.crumbs := rfl
@[simp] theorem State.wr_crumbSeq (s : State) (a : Nat) (v : Word) : (s.wr a v).crumbSeq = s.crumbSeq := rfl
@[simp] theorem State.wr_crumbSeen (s : State) (a : Nat) (v : Word) : (s.wr a v).crumbSeen = s.crumbSeen := rfl
@[simp] theorem State.wr_compacting (s : State) (a : Nat) (v : Word) : (s.wr a v).compacting = s.compacting := rfl
@[simp] theorem State.wr_pending (s : State) (a : Nat) (v : Word) : (s.wr a v).pending = s.pending := rfl

/-! ### `put` -/

@[simp] theorem State.put_part (s : State) (a hi lo v : Nat) : (s.put a hi lo v).part = s.part := rfl
@[simp] theorem State.put_straps (s : State) (a hi lo v : Nat) : (s.put a hi lo v).straps = s.straps := rfl
@[simp] theorem State.put_free (s : State) (a hi lo v : Nat) : (s.put a hi lo v).free = s.free := rfl
@[simp] theorem State.put_out (s : State) (a hi lo v : Nat) : (s.put a hi lo v).out = s.out := rfl
@[simp] theorem State.put_winSlack (s : State) (a hi lo v : Nat) : (s.put a hi lo v).winSlack = s.winSlack := rfl
@[simp] theorem State.put_winMiss (s : State) (a hi lo v : Nat) : (s.put a hi lo v).winMiss = s.winMiss := rfl
@[simp] theorem State.put_lowRun (s : State) (a hi lo v : Nat) : (s.put a hi lo v).lowRun = s.lowRun := rfl
@[simp] theorem State.put_stopAsked (s : State) (a hi lo v : Nat) : (s.put a hi lo v).stopAsked = s.stopAsked := rfl
@[simp] theorem State.put_chans (s : State) (a hi lo v : Nat) : (s.put a hi lo v).chans = s.chans := rfl
@[simp] theorem State.put_dies (s : State) (a hi lo v : Nat) : (s.put a hi lo v).dies = s.dies := rfl
@[simp] theorem State.put_calJournal (s : State) (a hi lo v : Nat) : (s.put a hi lo v).calJournal = s.calJournal := rfl
@[simp] theorem State.put_calReadable (s : State) (a hi lo v : Nat) : (s.put a hi lo v).calReadable = s.calReadable := rfl
@[simp] theorem State.put_strokes (s : State) (a hi lo v : Nat) : (s.put a hi lo v).strokes = s.strokes := rfl
@[simp] theorem State.put_loopFrom (s : State) (a hi lo v : Nat) : (s.put a hi lo v).loopFrom = s.loopFrom := rfl
@[simp] theorem State.put_gains (s : State) (a hi lo v : Nat) : (s.put a hi lo v).gains = s.gains := rfl
@[simp] theorem State.put_gainReq (s : State) (a hi lo v : Nat) : (s.put a hi lo v).gainReq = s.gainReq := rfl
@[simp] theorem State.put_slots (s : State) (a hi lo v : Nat) : (s.put a hi lo v).slots = s.slots := rfl
@[simp] theorem State.put_store (s : State) (a hi lo v : Nat) : (s.put a hi lo v).store = s.store := rfl
@[simp] theorem State.put_progOp (s : State) (a hi lo v : Nat) : (s.put a hi lo v).progOp = s.progOp := rfl
@[simp] theorem State.put_sweeps (s : State) (a hi lo v : Nat) : (s.put a hi lo v).sweeps = s.sweeps := rfl
@[simp] theorem State.put_eisOp (s : State) (a hi lo v : Nat) : (s.put a hi lo v).eisOp = s.eisOp := rfl
@[simp] theorem State.put_eisRes (s : State) (a hi lo v : Nat) : (s.put a hi lo v).eisRes = s.eisRes := rfl
@[simp] theorem State.put_trendPend (s : State) (a hi lo v : Nat) : (s.put a hi lo v).trendPend = s.trendPend := rfl
@[simp] theorem State.put_crews (s : State) (a hi lo v : Nat) : (s.put a hi lo v).crews = s.crews := rfl
@[simp] theorem State.put_coords (s : State) (a hi lo v : Nat) : (s.put a hi lo v).coords = s.coords := rfl
@[simp] theorem State.put_reds (s : State) (a hi lo v : Nat) : (s.put a hi lo v).reds = s.reds := rfl
@[simp] theorem State.put_crits (s : State) (a hi lo v : Nat) : (s.put a hi lo v).crits = s.crits := rfl
@[simp] theorem State.put_ranksrc (s : State) (a hi lo v : Nat) : (s.put a hi lo v).ranksrc = s.ranksrc := rfl
@[simp] theorem State.put_staging (s : State) (a hi lo v : Nat) : (s.put a hi lo v).staging = s.staging := rfl
@[simp] theorem State.put_links (s : State) (a hi lo v : Nat) : (s.put a hi lo v).links = s.links := rfl
@[simp] theorem State.put_incStage (s : State) (a hi lo v : Nat) : (s.put a hi lo v).incStage = s.incStage := rfl
@[simp] theorem State.put_stepPend (s : State) (a hi lo v : Nat) : (s.put a hi lo v).stepPend = s.stepPend := rfl
@[simp] theorem State.put_tbLatch (s : State) (a hi lo v : Nat) : (s.put a hi lo v).tbLatch = s.tbLatch := rfl
@[simp] theorem State.put_servo (s : State) (a hi lo v : Nat) : (s.put a hi lo v).servo = s.servo := rfl
@[simp] theorem State.put_tioOut (s : State) (a hi lo v : Nat) : (s.put a hi lo v).tioOut = s.tioOut := rfl
@[simp] theorem State.put_catFifo (s : State) (a hi lo v : Nat) : (s.put a hi lo v).catFifo = s.catFifo := rfl
@[simp] theorem State.put_slotNext (s : State) (a hi lo v : Nat) : (s.put a hi lo v).slotNext = s.slotNext := rfl
@[simp] theorem State.put_fab (s : State) (a hi lo v : Nat) : (s.put a hi lo v).fab = s.fab := rfl
@[simp] theorem State.put_brg (s : State) (a hi lo v : Nat) : (s.put a hi lo v).brg = s.brg := rfl
@[simp] theorem State.put_seats (s : State) (a hi lo v : Nat) : (s.put a hi lo v).seats = s.seats := rfl
@[simp] theorem State.put_mbx (s : State) (a hi lo v : Nat) : (s.put a hi lo v).mbx = s.mbx := rfl
@[simp] theorem State.put_mbxLog (s : State) (a hi lo v : Nat) : (s.put a hi lo v).mbxLog = s.mbxLog := rfl
@[simp] theorem State.put_msix (s : State) (a hi lo v : Nat) : (s.put a hi lo v).msix = s.msix := rfl
@[simp] theorem State.put_owners (s : State) (a hi lo v : Nat) : (s.put a hi lo v).owners = s.owners := rfl
@[simp] theorem State.put_dma (s : State) (a hi lo v : Nat) : (s.put a hi lo v).dma = s.dma := rfl
@[simp] theorem State.put_sw (s : State) (a hi lo v : Nat) : (s.put a hi lo v).sw = s.sw := rfl
@[simp] theorem State.put_cans (s : State) (a hi lo v : Nat) : (s.put a hi lo v).cans = s.cans := rfl
@[simp] theorem State.put_sers (s : State) (a hi lo v : Nat) : (s.put a hi lo v).sers = s.sers := rfl
@[simp] theorem State.put_mbIn (s : State) (a hi lo v : Nat) : (s.put a hi lo v).mbIn = s.mbIn := rfl
@[simp] theorem State.put_awake (s : State) (a hi lo v : Nat) : (s.put a hi lo v).awake = s.awake := rfl
@[simp] theorem State.put_awakeDue (s : State) (a hi lo v : Nat) : (s.put a hi lo v).awakeDue = s.awakeDue := rfl
@[simp] theorem State.put_field (s : State) (a hi lo v : Nat) : (s.put a hi lo v).field = s.field := rfl
@[simp] theorem State.put_fc (s : State) (a hi lo v : Nat) : (s.put a hi lo v).fc = s.fc := rfl
@[simp] theorem State.put_key (s : State) (a hi lo v : Nat) : (s.put a hi lo v).key = s.key := rfl
@[simp] theorem State.put_cvus (s : State) (a hi lo v : Nat) : (s.put a hi lo v).cvus = s.cvus := rfl
@[simp] theorem State.put_injPassed (s : State) (a hi lo v : Nat) : (s.put a hi lo v).injPassed = s.injPassed := rfl
@[simp] theorem State.put_injLog (s : State) (a hi lo v : Nat) : (s.put a hi lo v).injLog = s.injLog := rfl
@[simp] theorem State.put_injEnd (s : State) (a hi lo v : Nat) : (s.put a hi lo v).injEnd = s.injEnd := rfl
@[simp] theorem State.put_power (s : State) (a hi lo v : Nat) : (s.put a hi lo v).power = s.power := rfl
@[simp] theorem State.put_flash (s : State) (a hi lo v : Nat) : (s.put a hi lo v).flash = s.flash := rfl
@[simp] theorem State.put_flashPages (s : State) (a hi lo v : Nat) : (s.put a hi lo v).flashPages = s.flashPages := rfl
@[simp] theorem State.put_lifeCh (s : State) (a hi lo v : Nat) : (s.put a hi lo v).lifeCh = s.lifeCh := rfl
@[simp] theorem State.put_lifeLs (s : State) (a hi lo v : Nat) : (s.put a hi lo v).lifeLs = s.lifeLs := rfl
@[simp] theorem State.put_lifeLink (s : State) (a hi lo v : Nat) : (s.put a hi lo v).lifeLink = s.lifeLink := rfl
@[simp] theorem State.put_leaps (s : State) (a hi lo v : Nat) : (s.put a hi lo v).leaps = s.leaps := rfl
@[simp] theorem State.put_crumbs (s : State) (a hi lo v : Nat) : (s.put a hi lo v).crumbs = s.crumbs := rfl
@[simp] theorem State.put_crumbSeq (s : State) (a hi lo v : Nat) : (s.put a hi lo v).crumbSeq = s.crumbSeq := rfl
@[simp] theorem State.put_crumbSeen (s : State) (a hi lo v : Nat) : (s.put a hi lo v).crumbSeen = s.crumbSeen := rfl
@[simp] theorem State.put_compacting (s : State) (a hi lo v : Nat) : (s.put a hi lo v).compacting = s.compacting := rfl
@[simp] theorem State.put_pending (s : State) (a hi lo v : Nat) : (s.put a hi lo v).pending = s.pending := rfl

/-! ### `send` -/

@[simp] theorem State.send_part (s : State) (o : Out) : (s.send o).part = s.part := rfl
@[simp] theorem State.send_straps (s : State) (o : Out) : (s.send o).straps = s.straps := rfl
@[simp] theorem State.send_regs (s : State) (o : Out) : (s.send o).regs = s.regs := rfl
@[simp] theorem State.send_free (s : State) (o : Out) : (s.send o).free = s.free := rfl
@[simp] theorem State.send_winSlack (s : State) (o : Out) : (s.send o).winSlack = s.winSlack := rfl
@[simp] theorem State.send_winMiss (s : State) (o : Out) : (s.send o).winMiss = s.winMiss := rfl
@[simp] theorem State.send_lowRun (s : State) (o : Out) : (s.send o).lowRun = s.lowRun := rfl
@[simp] theorem State.send_stopAsked (s : State) (o : Out) : (s.send o).stopAsked = s.stopAsked := rfl
@[simp] theorem State.send_chans (s : State) (o : Out) : (s.send o).chans = s.chans := rfl
@[simp] theorem State.send_dies (s : State) (o : Out) : (s.send o).dies = s.dies := rfl
@[simp] theorem State.send_calJournal (s : State) (o : Out) : (s.send o).calJournal = s.calJournal := rfl
@[simp] theorem State.send_calReadable (s : State) (o : Out) : (s.send o).calReadable = s.calReadable := rfl
@[simp] theorem State.send_strokes (s : State) (o : Out) : (s.send o).strokes = s.strokes := rfl
@[simp] theorem State.send_loopFrom (s : State) (o : Out) : (s.send o).loopFrom = s.loopFrom := rfl
@[simp] theorem State.send_gains (s : State) (o : Out) : (s.send o).gains = s.gains := rfl
@[simp] theorem State.send_gainReq (s : State) (o : Out) : (s.send o).gainReq = s.gainReq := rfl
@[simp] theorem State.send_slots (s : State) (o : Out) : (s.send o).slots = s.slots := rfl
@[simp] theorem State.send_store (s : State) (o : Out) : (s.send o).store = s.store := rfl
@[simp] theorem State.send_progOp (s : State) (o : Out) : (s.send o).progOp = s.progOp := rfl
@[simp] theorem State.send_sweeps (s : State) (o : Out) : (s.send o).sweeps = s.sweeps := rfl
@[simp] theorem State.send_eisOp (s : State) (o : Out) : (s.send o).eisOp = s.eisOp := rfl
@[simp] theorem State.send_eisRes (s : State) (o : Out) : (s.send o).eisRes = s.eisRes := rfl
@[simp] theorem State.send_trendPend (s : State) (o : Out) : (s.send o).trendPend = s.trendPend := rfl
@[simp] theorem State.send_crews (s : State) (o : Out) : (s.send o).crews = s.crews := rfl
@[simp] theorem State.send_coords (s : State) (o : Out) : (s.send o).coords = s.coords := rfl
@[simp] theorem State.send_reds (s : State) (o : Out) : (s.send o).reds = s.reds := rfl
@[simp] theorem State.send_crits (s : State) (o : Out) : (s.send o).crits = s.crits := rfl
@[simp] theorem State.send_ranksrc (s : State) (o : Out) : (s.send o).ranksrc = s.ranksrc := rfl
@[simp] theorem State.send_staging (s : State) (o : Out) : (s.send o).staging = s.staging := rfl
@[simp] theorem State.send_links (s : State) (o : Out) : (s.send o).links = s.links := rfl
@[simp] theorem State.send_incStage (s : State) (o : Out) : (s.send o).incStage = s.incStage := rfl
@[simp] theorem State.send_stepPend (s : State) (o : Out) : (s.send o).stepPend = s.stepPend := rfl
@[simp] theorem State.send_tbLatch (s : State) (o : Out) : (s.send o).tbLatch = s.tbLatch := rfl
@[simp] theorem State.send_servo (s : State) (o : Out) : (s.send o).servo = s.servo := rfl
@[simp] theorem State.send_tioOut (s : State) (o : Out) : (s.send o).tioOut = s.tioOut := rfl
@[simp] theorem State.send_catFifo (s : State) (o : Out) : (s.send o).catFifo = s.catFifo := rfl
@[simp] theorem State.send_slotNext (s : State) (o : Out) : (s.send o).slotNext = s.slotNext := rfl
@[simp] theorem State.send_fab (s : State) (o : Out) : (s.send o).fab = s.fab := rfl
@[simp] theorem State.send_brg (s : State) (o : Out) : (s.send o).brg = s.brg := rfl
@[simp] theorem State.send_seats (s : State) (o : Out) : (s.send o).seats = s.seats := rfl
@[simp] theorem State.send_mbx (s : State) (o : Out) : (s.send o).mbx = s.mbx := rfl
@[simp] theorem State.send_mbxLog (s : State) (o : Out) : (s.send o).mbxLog = s.mbxLog := rfl
@[simp] theorem State.send_msix (s : State) (o : Out) : (s.send o).msix = s.msix := rfl
@[simp] theorem State.send_owners (s : State) (o : Out) : (s.send o).owners = s.owners := rfl
@[simp] theorem State.send_dma (s : State) (o : Out) : (s.send o).dma = s.dma := rfl
@[simp] theorem State.send_sw (s : State) (o : Out) : (s.send o).sw = s.sw := rfl
@[simp] theorem State.send_cans (s : State) (o : Out) : (s.send o).cans = s.cans := rfl
@[simp] theorem State.send_sers (s : State) (o : Out) : (s.send o).sers = s.sers := rfl
@[simp] theorem State.send_mbIn (s : State) (o : Out) : (s.send o).mbIn = s.mbIn := rfl
@[simp] theorem State.send_awake (s : State) (o : Out) : (s.send o).awake = s.awake := rfl
@[simp] theorem State.send_awakeDue (s : State) (o : Out) : (s.send o).awakeDue = s.awakeDue := rfl
@[simp] theorem State.send_field (s : State) (o : Out) : (s.send o).field = s.field := rfl
@[simp] theorem State.send_fc (s : State) (o : Out) : (s.send o).fc = s.fc := rfl
@[simp] theorem State.send_key (s : State) (o : Out) : (s.send o).key = s.key := rfl
@[simp] theorem State.send_cvus (s : State) (o : Out) : (s.send o).cvus = s.cvus := rfl
@[simp] theorem State.send_injPassed (s : State) (o : Out) : (s.send o).injPassed = s.injPassed := rfl
@[simp] theorem State.send_injLog (s : State) (o : Out) : (s.send o).injLog = s.injLog := rfl
@[simp] theorem State.send_injEnd (s : State) (o : Out) : (s.send o).injEnd = s.injEnd := rfl
@[simp] theorem State.send_power (s : State) (o : Out) : (s.send o).power = s.power := rfl
@[simp] theorem State.send_flash (s : State) (o : Out) : (s.send o).flash = s.flash := rfl
@[simp] theorem State.send_flashPages (s : State) (o : Out) : (s.send o).flashPages = s.flashPages := rfl
@[simp] theorem State.send_lifeCh (s : State) (o : Out) : (s.send o).lifeCh = s.lifeCh := rfl
@[simp] theorem State.send_lifeLs (s : State) (o : Out) : (s.send o).lifeLs = s.lifeLs := rfl
@[simp] theorem State.send_lifeLink (s : State) (o : Out) : (s.send o).lifeLink = s.lifeLink := rfl
@[simp] theorem State.send_leaps (s : State) (o : Out) : (s.send o).leaps = s.leaps := rfl
@[simp] theorem State.send_crumbs (s : State) (o : Out) : (s.send o).crumbs = s.crumbs := rfl
@[simp] theorem State.send_crumbSeq (s : State) (o : Out) : (s.send o).crumbSeq = s.crumbSeq := rfl
@[simp] theorem State.send_crumbSeen (s : State) (o : Out) : (s.send o).crumbSeen = s.crumbSeen := rfl
@[simp] theorem State.send_compacting (s : State) (o : Out) : (s.send o).compacting = s.compacting := rfl
@[simp] theorem State.send_pending (s : State) (o : Out) : (s.send o).pending = s.pending := rfl

/-! ### `withPending` -/

@[simp] theorem State.withPending_part (s : State) (l : List Instr) : (s.withPending l).part = s.part := rfl
@[simp] theorem State.withPending_straps (s : State) (l : List Instr) : (s.withPending l).straps = s.straps := rfl
@[simp] theorem State.withPending_regs (s : State) (l : List Instr) : (s.withPending l).regs = s.regs := rfl
@[simp] theorem State.withPending_free (s : State) (l : List Instr) : (s.withPending l).free = s.free := rfl
@[simp] theorem State.withPending_out (s : State) (l : List Instr) : (s.withPending l).out = s.out := rfl
@[simp] theorem State.withPending_winSlack (s : State) (l : List Instr) : (s.withPending l).winSlack = s.winSlack := rfl
@[simp] theorem State.withPending_winMiss (s : State) (l : List Instr) : (s.withPending l).winMiss = s.winMiss := rfl
@[simp] theorem State.withPending_lowRun (s : State) (l : List Instr) : (s.withPending l).lowRun = s.lowRun := rfl
@[simp] theorem State.withPending_stopAsked (s : State) (l : List Instr) : (s.withPending l).stopAsked = s.stopAsked := rfl
@[simp] theorem State.withPending_chans (s : State) (l : List Instr) : (s.withPending l).chans = s.chans := rfl
@[simp] theorem State.withPending_dies (s : State) (l : List Instr) : (s.withPending l).dies = s.dies := rfl
@[simp] theorem State.withPending_calJournal (s : State) (l : List Instr) : (s.withPending l).calJournal = s.calJournal := rfl
@[simp] theorem State.withPending_calReadable (s : State) (l : List Instr) : (s.withPending l).calReadable = s.calReadable := rfl
@[simp] theorem State.withPending_strokes (s : State) (l : List Instr) : (s.withPending l).strokes = s.strokes := rfl
@[simp] theorem State.withPending_loopFrom (s : State) (l : List Instr) : (s.withPending l).loopFrom = s.loopFrom := rfl
@[simp] theorem State.withPending_gains (s : State) (l : List Instr) : (s.withPending l).gains = s.gains := rfl
@[simp] theorem State.withPending_gainReq (s : State) (l : List Instr) : (s.withPending l).gainReq = s.gainReq := rfl
@[simp] theorem State.withPending_slots (s : State) (l : List Instr) : (s.withPending l).slots = s.slots := rfl
@[simp] theorem State.withPending_store (s : State) (l : List Instr) : (s.withPending l).store = s.store := rfl
@[simp] theorem State.withPending_progOp (s : State) (l : List Instr) : (s.withPending l).progOp = s.progOp := rfl
@[simp] theorem State.withPending_sweeps (s : State) (l : List Instr) : (s.withPending l).sweeps = s.sweeps := rfl
@[simp] theorem State.withPending_eisOp (s : State) (l : List Instr) : (s.withPending l).eisOp = s.eisOp := rfl
@[simp] theorem State.withPending_eisRes (s : State) (l : List Instr) : (s.withPending l).eisRes = s.eisRes := rfl
@[simp] theorem State.withPending_trendPend (s : State) (l : List Instr) : (s.withPending l).trendPend = s.trendPend := rfl
@[simp] theorem State.withPending_crews (s : State) (l : List Instr) : (s.withPending l).crews = s.crews := rfl
@[simp] theorem State.withPending_coords (s : State) (l : List Instr) : (s.withPending l).coords = s.coords := rfl
@[simp] theorem State.withPending_reds (s : State) (l : List Instr) : (s.withPending l).reds = s.reds := rfl
@[simp] theorem State.withPending_crits (s : State) (l : List Instr) : (s.withPending l).crits = s.crits := rfl
@[simp] theorem State.withPending_ranksrc (s : State) (l : List Instr) : (s.withPending l).ranksrc = s.ranksrc := rfl
@[simp] theorem State.withPending_staging (s : State) (l : List Instr) : (s.withPending l).staging = s.staging := rfl
@[simp] theorem State.withPending_links (s : State) (l : List Instr) : (s.withPending l).links = s.links := rfl
@[simp] theorem State.withPending_incStage (s : State) (l : List Instr) : (s.withPending l).incStage = s.incStage := rfl
@[simp] theorem State.withPending_stepPend (s : State) (l : List Instr) : (s.withPending l).stepPend = s.stepPend := rfl
@[simp] theorem State.withPending_tbLatch (s : State) (l : List Instr) : (s.withPending l).tbLatch = s.tbLatch := rfl
@[simp] theorem State.withPending_servo (s : State) (l : List Instr) : (s.withPending l).servo = s.servo := rfl
@[simp] theorem State.withPending_tioOut (s : State) (l : List Instr) : (s.withPending l).tioOut = s.tioOut := rfl
@[simp] theorem State.withPending_catFifo (s : State) (l : List Instr) : (s.withPending l).catFifo = s.catFifo := rfl
@[simp] theorem State.withPending_slotNext (s : State) (l : List Instr) : (s.withPending l).slotNext = s.slotNext := rfl
@[simp] theorem State.withPending_fab (s : State) (l : List Instr) : (s.withPending l).fab = s.fab := rfl
@[simp] theorem State.withPending_brg (s : State) (l : List Instr) : (s.withPending l).brg = s.brg := rfl
@[simp] theorem State.withPending_seats (s : State) (l : List Instr) : (s.withPending l).seats = s.seats := rfl
@[simp] theorem State.withPending_mbx (s : State) (l : List Instr) : (s.withPending l).mbx = s.mbx := rfl
@[simp] theorem State.withPending_mbxLog (s : State) (l : List Instr) : (s.withPending l).mbxLog = s.mbxLog := rfl
@[simp] theorem State.withPending_msix (s : State) (l : List Instr) : (s.withPending l).msix = s.msix := rfl
@[simp] theorem State.withPending_owners (s : State) (l : List Instr) : (s.withPending l).owners = s.owners := rfl
@[simp] theorem State.withPending_dma (s : State) (l : List Instr) : (s.withPending l).dma = s.dma := rfl
@[simp] theorem State.withPending_sw (s : State) (l : List Instr) : (s.withPending l).sw = s.sw := rfl
@[simp] theorem State.withPending_cans (s : State) (l : List Instr) : (s.withPending l).cans = s.cans := rfl
@[simp] theorem State.withPending_sers (s : State) (l : List Instr) : (s.withPending l).sers = s.sers := rfl
@[simp] theorem State.withPending_mbIn (s : State) (l : List Instr) : (s.withPending l).mbIn = s.mbIn := rfl
@[simp] theorem State.withPending_awake (s : State) (l : List Instr) : (s.withPending l).awake = s.awake := rfl
@[simp] theorem State.withPending_awakeDue (s : State) (l : List Instr) : (s.withPending l).awakeDue = s.awakeDue := rfl
@[simp] theorem State.withPending_field (s : State) (l : List Instr) : (s.withPending l).field = s.field := rfl
@[simp] theorem State.withPending_fc (s : State) (l : List Instr) : (s.withPending l).fc = s.fc := rfl
@[simp] theorem State.withPending_key (s : State) (l : List Instr) : (s.withPending l).key = s.key := rfl
@[simp] theorem State.withPending_cvus (s : State) (l : List Instr) : (s.withPending l).cvus = s.cvus := rfl
@[simp] theorem State.withPending_injPassed (s : State) (l : List Instr) : (s.withPending l).injPassed = s.injPassed := rfl
@[simp] theorem State.withPending_injLog (s : State) (l : List Instr) : (s.withPending l).injLog = s.injLog := rfl
@[simp] theorem State.withPending_injEnd (s : State) (l : List Instr) : (s.withPending l).injEnd = s.injEnd := rfl
@[simp] theorem State.withPending_power (s : State) (l : List Instr) : (s.withPending l).power = s.power := rfl
@[simp] theorem State.withPending_flash (s : State) (l : List Instr) : (s.withPending l).flash = s.flash := rfl
@[simp] theorem State.withPending_flashPages (s : State) (l : List Instr) : (s.withPending l).flashPages = s.flashPages := rfl
@[simp] theorem State.withPending_lifeCh (s : State) (l : List Instr) : (s.withPending l).lifeCh = s.lifeCh := rfl
@[simp] theorem State.withPending_lifeLs (s : State) (l : List Instr) : (s.withPending l).lifeLs = s.lifeLs := rfl
@[simp] theorem State.withPending_lifeLink (s : State) (l : List Instr) : (s.withPending l).lifeLink = s.lifeLink := rfl
@[simp] theorem State.withPending_leaps (s : State) (l : List Instr) : (s.withPending l).leaps = s.leaps := rfl
@[simp] theorem State.withPending_crumbs (s : State) (l : List Instr) : (s.withPending l).crumbs = s.crumbs := rfl
@[simp] theorem State.withPending_crumbSeq (s : State) (l : List Instr) : (s.withPending l).crumbSeq = s.crumbSeq := rfl
@[simp] theorem State.withPending_crumbSeen (s : State) (l : List Instr) : (s.withPending l).crumbSeen = s.crumbSeen := rfl
@[simp] theorem State.withPending_compacting (s : State) (l : List Instr) : (s.withPending l).compacting = s.compacting := rfl

/-! ### The other updates of registers and the counter of free values -/

theorem State.wrN_eq (s : State) (a v : Nat) : s.wrN a v = s.wr a (BitVec.ofNat 32 v) := rfl
theorem State.wr64_eq (s : State) (lo hi v : Nat) : s.wr64 lo hi v = (s.wrN lo v).wrN hi (v / 2 ^ 32) := rfl
theorem State.setBit_eq (s : State) (a i : Nat) (b : Bool) : s.setBit a i b = s.put a i i b.toNat := rfl
theorem State.count_eq (s : State) (a hi lo n : Nat) :
    s.count a hi lo n = s.put a hi lo (min (s.get a hi lo + n) (2 ^ (hi + 1 - lo) - 1)) := rfl
@[simp] theorem State.send_out (s : State) (o : Out) : (s.send o).out = o :: s.out := rfl
@[simp] theorem State.useFree_free (s : State) : s.useFree.free = s.free + 1 := rfl
@[simp] theorem State.withPending_pending (s : State) (l : List Instr) : (s.withPending l).pending = l := rfl
theorem State.wr_regs (s : State) (a : Nat) (v : Word) :
    (s.wr a v).regs = Sparse.set (resetValue s.part s.straps a) s.regs a v := rfl

end Sys2Proof.Machine
end

