-- ==== Sys2Proof/Laws/Regs.lean ====
section
/-!
SUPPORT. Registers: a read after a write, fields, bits and counters, and what the updates of other state leave of them.
-/
namespace Sys2Proof.Machine

@[simp] theorem State.rd_wr_same (s : State) (a : Nat) (v : Word) : (s.wr a v).rd a = v := by
  simp [State.rd, State.wr]

theorem State.rd_wr_ne (s : State) (a b : Nat) (v : Word) (h : b ≠ a) : (s.wr a v).rd b = s.rd b := by
  simp [State.rd, State.wr, Sparse.get_set_ne _ _ _ _ _ _ h]

theorem State.rd_wr (s : State) (a b : Nat) (v : Word) : (s.wr a v).rd b = if b = a then v else s.rd b := by
  by_cases h : b = a
  · subst h; simp
  · simp [h, State.rd_wr_ne s a b v h]

@[simp] theorem State.rd_send (s : State) (o : Out) (a : Nat) : (s.send o).rd a = s.rd a := rfl
@[simp] theorem State.rd_useFree (s : State) (a : Nat) : s.useFree.rd a = s.rd a := rfl
@[simp] theorem State.rd_withPending (s : State) (l : List Instr) (a : Nat) : (s.withPending l).rd a = s.rd a := rfl

@[simp] theorem State.rd_put_same (s : State) (a hi lo v : Nat) : (s.put a hi lo v).rd a = (s.rd a).setFld hi lo v := by
  simp [State.put]

theorem State.rd_put_ne (s : State) (a b hi lo v : Nat) (h : b ≠ a) : (s.put a hi lo v).rd b = s.rd b :=
  s.rd_wr_ne a b _ h

theorem State.rd_setBit_ne (s : State) (a b i : Nat) (x : Bool) (h : b ≠ a) : (s.setBit a i x).rd b = s.rd b :=
  s.rd_wr_ne a b _ h

theorem State.rd_count_ne (s : State) (a b hi lo n : Nat) (h : b ≠ a) : (s.count a hi lo n).rd b = s.rd b :=
  s.rd_wr_ne a b _ h

theorem State.rd_wrN_ne (s : State) (a b v : Nat) (h : b ≠ a) : (s.wrN a v).rd b = s.rd b := s.rd_wr_ne a b _ h

/-! ### Fields of a word -/

/-- A number below 2^32 with its field [hi:lo] replaced stays below 2^32. -/
theorem Word.setFld_lt (w hi lo v : Nat) (hw : w < 2 ^ 32) (hhi : hi < 32) (hlo : lo ≤ hi) :
    w / 2 ^ (hi + 1) * 2 ^ (hi + 1) + v % 2 ^ (hi + 1 - lo) * 2 ^ lo + w % 2 ^ lo < 2 ^ 32 := by
  have hpos : 0 < 2 ^ lo := Nat.pow_pos (by omega)
  have h1 : w % 2 ^ lo < 2 ^ lo := Nat.mod_lt _ hpos
  have h2 : v % 2 ^ (hi + 1 - lo) < 2 ^ (hi + 1 - lo) := Nat.mod_lt _ (Nat.pow_pos (by omega))
  have h3 : 2 ^ (hi + 1 - lo) * 2 ^ lo = 2 ^ (hi + 1) := by
    rw [← Nat.pow_add]; congr 1; omega
  have h4 : (v % 2 ^ (hi + 1 - lo) + 1) * 2 ^ lo ≤ 2 ^ (hi + 1 - lo) * 2 ^ lo := Nat.mul_le_mul_right _ h2
  have h5 : (w / 2 ^ (hi + 1) + 1) * 2 ^ (hi + 1) ≤ 2 ^ 32 := by
    have h6 : 2 ^ (31 - hi) * 2 ^ (hi + 1) = 2 ^ 32 := by rw [← Nat.pow_add]; congr 1; omega
    rw [← h6]
    refine Nat.mul_le_mul_right _ ?_
    have : w / 2 ^ (hi + 1) < 2 ^ (31 - hi) := by
      rw [Nat.div_lt_iff_lt_mul (Nat.pow_pos (by omega)), h6]
      exact hw
    omega
  rw [h3] at h4
  rw [Nat.add_mul, Nat.one_mul] at h4 h5
  omega

/-- A field reads what was written to it, cut to its width. -/
theorem Word.fld_setFld_same (w : Word) (hi lo v : Nat) (hhi : hi < 32) (hlo : lo ≤ hi) :
    (w.setFld hi lo v).fld hi lo = v % 2 ^ (hi + 1 - lo) := by
  have hb := Word.setFld_lt w.toNat hi lo v w.isLt hhi hlo
  have hpos : 0 < 2 ^ lo := Nat.pow_pos (by omega)
  have h1 : w.toNat % 2 ^ lo < 2 ^ lo := Nat.mod_lt _ hpos
  have h3 : 2 ^ (hi + 1) = 2 ^ (hi + 1 - lo) * 2 ^ lo := by
    rw [← Nat.pow_add]; congr 1; omega
  unfold Word.fld Word.setFld
  rw [BitVec.toNat_ofNat, Nat.mod_eq_of_lt hb]
  generalize w.toNat / 2 ^ (hi + 1) = q
  generalize hr : w.toNat % 2 ^ lo = r at h1
  have hf : v % 2 ^ (hi + 1 - lo) < 2 ^ (hi + 1 - lo) := Nat.mod_lt _ (Nat.pow_pos (by omega))
  generalize v % 2 ^ (hi + 1 - lo) = f at hf
  have h4 : q * 2 ^ (hi + 1) + f * 2 ^ lo + r = 2 ^ lo * (q * 2 ^ (hi + 1 - lo) + f) + r := by
    rw [h3, ← Nat.mul_assoc, ← Nat.add_mul, Nat.mul_comm]
  rw [h4, Nat.mul_add_div hpos, Nat.div_eq_of_lt h1, Nat.add_zero, Nat.add_comm, Nat.add_mul_mod_self_right,
    Nat.mod_eq_of_lt hf]

@[simp] theorem State.get_put_same (s : State) (a hi lo v : Nat) (hhi : hi < 32) (hlo : lo ≤ hi) :
    (s.put a hi lo v).get a hi lo = v % 2 ^ (hi + 1 - lo) := by
  simp [State.get, Word.fld_setFld_same _ _ _ _ hhi hlo]

end Sys2Proof.Machine
end

