-- ==== Sys2Proof/Laws/Events.lean ====
section
/-!
SUPPORT. Raising an event: the registers that routing may change, and that everything else stays.
-/
namespace Sys2Proof.Machine

/-- Registers that the routing of events may change: what the event router shows, and lost entries. -/
def routeReg (a : Nat) : Bool :=
  decide (a = Reg.EVT_LAST ∨ a = Reg.EVT_DROP ∨ (0x100000 ≤ a ∧ a % 0x10000 = 0x04C) ∨
    (0x081000 ≤ a ∧ a < 0x085000 ∧ a % 0x40 = 0x1C))

/-- Registers that raising events may change: raw events and masks of pages as well. -/
def eventReg (a : Nat) : Bool := routeReg a || decide (a < 0x100000 ∧ (a % 0x1000 = 0x014 ∨ a % 0x1000 = 0x018))

/-- What events leave: every register but those of `R`, and all state but seats, messages sent and MSI-X entries. -/
structure EventFrame (R : Nat → Bool) (s t : State) : Prop where
  rd       : ∀ a, R a = false → t.rd a = s.rd a
  part : t.part = s.part
  straps : t.straps = s.straps
  free : t.free = s.free
  winSlack : t.winSlack = s.winSlack
  winMiss : t.winMiss = s.winMiss
  lowRun : t.lowRun = s.lowRun
  stopAsked : t.stopAsked = s.stopAsked
  chans : t.chans = s.chans
  dies : t.dies = s.dies
  calJournal : t.calJournal = s.calJournal
  calReadable : t.calReadable = s.calReadable
  strokes : t.strokes = s.strokes
  loopFrom : t.loopFrom = s.loopFrom
  gains : t.gains = s.gains
  gainReq : t.gainReq = s.gainReq
  slots : t.slots = s.slots
  store : t.store = s.store
  progOp : t.progOp = s.progOp
  sweeps : t.sweeps = s.sweeps
  eisOp : t.eisOp = s.eisOp
  eisRes : t.eisRes = s.eisRes
  trendPend : t.trendPend = s.trendPend
  crews : t.crews = s.crews
  coords : t.coords = s.coords
  reds : t.reds = s.reds
  crits : t.crits = s.crits
  ranksrc : t.ranksrc = s.ranksrc
  staging : t.staging = s.staging
  links : t.links = s.links
  incStage : t.incStage = s.incStage
  stepPend : t.stepPend = s.stepPend
  tbLatch : t.tbLatch = s.tbLatch
  servo : t.servo = s.servo
  tioOut : t.tioOut = s.tioOut
  catFifo : t.catFifo = s.catFifo
  slotNext : t.slotNext = s.slotNext
  fab : t.fab = s.fab
  brg : t.brg = s.brg
  mbx : t.mbx = s.mbx
  mbxLog : t.mbxLog = s.mbxLog
  owners : t.owners = s.owners
  dma : t.dma = s.dma
  sw : t.sw = s.sw
  cans : t.cans = s.cans
  sers : t.sers = s.sers
  mbIn : t.mbIn = s.mbIn
  awake : t.awake = s.awake
  awakeDue : t.awakeDue = s.awakeDue
  field : t.field = s.field
  fc : t.fc = s.fc
  key : t.key = s.key
  cvus : t.cvus = s.cvus
  injPassed : t.injPassed = s.injPassed
  injLog : t.injLog = s.injLog
  injEnd : t.injEnd = s.injEnd
  power : t.power = s.power
  flash : t.flash = s.flash
  flashPages : t.flashPages = s.flashPages
  lifeCh : t.lifeCh = s.lifeCh
  lifeLs : t.lifeLs = s.lifeLs
  lifeLink : t.lifeLink = s.lifeLink
  leaps : t.leaps = s.leaps
  crumbs : t.crumbs = s.crumbs
  crumbSeq : t.crumbSeq = s.crumbSeq
  crumbSeen : t.crumbSeen = s.crumbSeen
  compacting : t.compacting = s.compacting
  pending : t.pending = s.pending

theorem EventFrame.refl {R : Nat → Bool} (s : State) : EventFrame R s s := by constructor <;> intros <;> rfl

theorem EventFrame.trans {R : Nat → Bool} {s t u : State} (h : EventFrame R s t) (g : EventFrame R t u) : EventFrame R s u :=
  ⟨fun a ha => (g.rd a ha).trans (h.rd a ha),
  g.part.trans h.part, g.straps.trans h.straps, g.free.trans h.free, g.winSlack.trans h.winSlack,
  g.winMiss.trans h.winMiss, g.lowRun.trans h.lowRun, g.stopAsked.trans h.stopAsked, g.chans.trans h.chans,
  g.dies.trans h.dies, g.calJournal.trans h.calJournal, g.calReadable.trans h.calReadable,
  g.strokes.trans h.strokes, g.loopFrom.trans h.loopFrom, g.gains.trans h.gains, g.gainReq.trans h.gainReq,
  g.slots.trans h.slots, g.store.trans h.store, g.progOp.trans h.progOp, g.sweeps.trans h.sweeps,
  g.eisOp.trans h.eisOp, g.eisRes.trans h.eisRes, g.trendPend.trans h.trendPend, g.crews.trans h.crews,
  g.coords.trans h.coords, g.reds.trans h.reds, g.crits.trans h.crits, g.ranksrc.trans h.ranksrc,
  g.staging.trans h.staging, g.links.trans h.links, g.incStage.trans h.incStage, g.stepPend.trans h.stepPend,
  g.tbLatch.trans h.tbLatch, g.servo.trans h.servo, g.tioOut.trans h.tioOut, g.catFifo.trans h.catFifo,
  g.slotNext.trans h.slotNext, g.fab.trans h.fab, g.brg.trans h.brg, g.mbx.trans h.mbx, g.mbxLog.trans h.mbxLog,
  g.owners.trans h.owners, g.dma.trans h.dma, g.sw.trans h.sw, g.cans.trans h.cans, g.sers.trans h.sers,
  g.mbIn.trans h.mbIn, g.awake.trans h.awake, g.awakeDue.trans h.awakeDue, g.field.trans h.field, g.fc.trans h.fc,
  g.key.trans h.key, g.cvus.trans h.cvus, g.injPassed.trans h.injPassed, g.injLog.trans h.injLog,
  g.injEnd.trans h.injEnd, g.power.trans h.power, g.flash.trans h.flash, g.flashPages.trans h.flashPages,
  g.lifeCh.trans h.lifeCh, g.lifeLs.trans h.lifeLs, g.lifeLink.trans h.lifeLink, g.leaps.trans h.leaps,
  g.crumbs.trans h.crumbs, g.crumbSeq.trans h.crumbSeq, g.crumbSeen.trans h.crumbSeen,
  g.compacting.trans h.compacting, g.pending.trans h.pending⟩

theorem EventFrame.mono {R Q : Nat → Bool} {s t : State} (h : EventFrame R s t) (g : ∀ a, R a = true → Q a = true) :
    EventFrame Q s t :=
  { h with
    rd := fun a ha => h.rd a (by
      cases hr : R a with
      | false => rfl
      | true => rw [g a hr] at ha; exact ha) }

theorem EventFrame.wr {R : Nat → Bool} (s : State) (b : Nat) (v : Word) (hb : R b = true) : EventFrame R s (s.wr b v) := by
  constructor <;> intros <;> first | rfl | skip
  rename_i a ha
  refine s.rd_wr_ne b a v ?_
  intro e
  rw [e, hb] at ha
  exact Bool.noConfusion ha

theorem EventFrame.count {R : Nat → Bool} (s : State) (b hi lo n : Nat) (hb : R b = true) : EventFrame R s (s.count b hi lo n) :=
  EventFrame.wr s b _ hb

theorem EventFrame.send {R : Nat → Bool} (s : State) (o : Out) : EventFrame R s (s.send o) := by constructor <;> intros <;> rfl
theorem EventFrame.modSeat {R : Nat → Bool} (s : State) (i : Nat) (f : Seat → Seat) : EventFrame R s (s.modSeat i f) := by
  constructor <;> intros <;> rfl
theorem EventFrame.setMsix {R : Nat → Bool} (s : State) (p e : Nat) (m : MsixEntry) : EventFrame R s (s.setMsix p e m) := by
  constructor <;> intros <;> rfl

theorem EventFrame.when {R : Nat → Bool} {s t : State} {f : State → State} (c : Bool) (h : EventFrame R s t)
    (g : EventFrame R t (f t)) : EventFrame R s (t.when c f) := by
  unfold State.when
  split
  · exact h.trans g
  · exact h

theorem EventFrame.each {R : Nat → Bool} {α : Type} (l : List α) (f : State → α → State)
    (hf : ∀ s x, EventFrame R s (f s x)) (s : State) : EventFrame R s (s.each l f) := by
  induction l generalizing s with
  | nil => exact EventFrame.refl s
  | cons x l ih => exact (hf s x).trans (ih (f s x))

theorem EventFrame.queueWrite {R : Nat → Bool} (s : State) (i : Nat) (w : QWrite) : EventFrame R s (s.queueWrite i w) :=
  EventFrame.modSeat s i _

theorem EventFrame.msixSend {R : Nat → Bool} (s : State) (i v : Nat) : EventFrame R s (s.msixSend i v) :=
  EventFrame.queueWrite s i _

theorem EventFrame.eqMsix {R : Nat → Bool} (s : State) (i v : Nat) : EventFrame R s (s.eqMsix i v) :=
  EventFrame.queueWrite s i _

theorem EventFrame.eqPush (s : State) (i typ src : Nat) (r : List Byte) : EventFrame routeReg s (s.eqPush i typ src r) := by
  unfold State.eqPush
  split
  · exact EventFrame.refl s
  · exact (EventFrame.modSeat s i _).trans (EventFrame.queueWrite _ _ _)

theorem EventFrame.eqWrite (s : State) (i typ src : Nat) (r : List Byte) : EventFrame routeReg s (s.eqWrite i typ src r) := by
  unfold State.eqWrite
  split
  · exact EventFrame.refl s
  · exact (EventFrame.eqPush s i typ src r).trans (EventFrame.eqMsix _ _ _)

theorem routeReg_evLost (i : Nat) : routeReg (Reg.SA_EV_LOST i) = true := by
  refine decide_eq_true ?_
  unfold Reg.SA_EV_LOST
  omega

theorem routeReg_stLost (i : Nat) (h : i < 64) : routeReg (Reg.ST_EVLOST i) = true := by
  refine decide_eq_true ?_
  unfold Reg.ST_EVLOST
  omega

theorem eventReg_raw (p : Nat) (h : p < 256) : eventReg (Reg.PG_EVRAW p) = true := by
  refine Bool.or_eq_true_iff.mpr (Or.inr (decide_eq_true ?_))
  unfold Reg.PG_EVRAW
  omega

theorem eventReg_mask (p : Nat) (h : p < 256) : eventReg (Reg.PG_EVMASK p) = true := by
  refine Bool.or_eq_true_iff.mpr (Or.inr (decide_eq_true ?_))
  unfold Reg.PG_EVMASK
  omega

theorem EventFrame.eqLose (s : State) (i : Nat) (h : i < 64) : EventFrame routeReg s (s.eqLose i) := by
  unfold State.eqLose
  exact ((EventFrame.count s _ 31 0 1 (routeReg_evLost i)).trans (EventFrame.count _ _ 31 0 1 (routeReg_stLost i h))).trans
    (EventFrame.modSeat _ i _)

theorem EventFrame.eqOverflow (s : State) (i : Nat) : EventFrame routeReg s (s.eqOverflow i) := by
  unfold State.eqOverflow
  split
  · exact EventFrame.refl s
  · dsimp only
    split
    · exact (EventFrame.modSeat s i _).trans (EventFrame.eqWrite _ _ _ _ _)
    · exact EventFrame.modSeat s i _

theorem EventFrame.postEvent (s : State) (i typ src : Nat) (b : List Byte) (h : i < 64) :
    EventFrame routeReg s (s.postEvent i typ src b) := by
  unfold State.postEvent
  split
  · exact EventFrame.refl s
  · dsimp only
    split
    · exact (EventFrame.eqOverflow s i).trans (EventFrame.eqWrite _ _ _ _ _)
    · exact (EventFrame.eqOverflow s i).trans (EventFrame.eqLose _ i h)

/-- A seat event changes what events may change. -/
theorem EventFrame.seatEvent (s : State) (i code : Nat) (b : List Byte) (h : i < 64) :
    EventFrame routeReg s (s.seatEvent i code b) := by
  unfold State.seatEvent
  split
  · exact EventFrame.postEvent s i _ _ _ h
  · exact EventFrame.refl s

theorem fld_lt (w : Word) (hi lo : Nat) : w.fld hi lo < 2 ^ (hi + 1 - lo) := Nat.mod_lt _ (Nat.pow_pos (by omega))

theorem routeSeat_lt (s : State) (p : Nat) :
    (if (s.rd (Reg.EVT_ROUTE p)).getLsbD 5 then 0 else s.get (Reg.PG_OWNER p) 5 0) < 64 := by
  split
  · omega
  · exact fld_lt _ 5 0

theorem EventFrame.route (s : State) (p : Nat) : EventFrame routeReg s (s.route p) := by
  have hi := routeSeat_lt s p
  unfold State.route
  extract_lets r i s'
  have h0 : EventFrame routeReg s s' := EventFrame.wr s _ _ (by decide)
  split
  · refine EventFrame.when _ ?_ (EventFrame.eqMsix _ _ _)
    exact EventFrame.when _ h0 (EventFrame.postEvent _ _ _ _ _ hi)
  · refine EventFrame.when _ ?_ (EventFrame.count _ _ _ _ _ (by decide))
    exact EventFrame.when _ h0 (EventFrame.count _ _ _ _ _ (by decide))

theorem EventFrame.setEvents (s : State) (p : Nat) (raw mask : Word) (h : p < 256) :
    EventFrame eventReg s (s.setEvents p raw mask) :=
  ((EventFrame.wr s _ _ (eventReg_raw p h)).trans (EventFrame.wr _ _ _ (eventReg_mask p h))).trans
    (EventFrame.each _ _ (fun t _ => (EventFrame.route t p).mono fun _ h => by simp [eventReg, h]) _)

theorem EventFrame.raiseBits (s : State) (p : Nat) (bits : Word) (h : p < 256) : EventFrame eventReg s (s.raiseBits p bits) := by
  unfold State.raiseBits
  split
  · exact EventFrame.setEvents s p _ _ h
  · exact EventFrame.refl s

/-- Raising an event changes only what events may change. -/
theorem EventFrame.raise (s : State) (p b : Nat) (h : p < 256) : EventFrame eventReg s (s.raise p b) := EventFrame.raiseBits s p _ h

/-! ### What raising sets -/

theorem PG_EVRAW_ne_mask (p q : Nat) : Reg.PG_EVRAW p ≠ Reg.PG_EVMASK q := by
  unfold Reg.PG_EVRAW Reg.PG_EVMASK
  omega

theorem routeReg_raw (p : Nat) (h : p < 256) : routeReg (Reg.PG_EVRAW p) = false := by
  refine decide_eq_false ?_
  have h1 : Reg.EVT_LAST % 0x1000 ≠ 0x014 := by decide
  have h2 : Reg.EVT_DROP % 0x1000 ≠ 0x014 := by decide
  unfold Reg.PG_EVRAW
  omega

theorem routeReg_mask (p : Nat) (h : p < 256) : routeReg (Reg.PG_EVMASK p) = false := by
  refine decide_eq_false ?_
  have h1 : Reg.EVT_LAST % 0x1000 ≠ 0x018 := by decide
  have h2 : Reg.EVT_DROP % 0x1000 ≠ 0x018 := by decide
  unfold Reg.PG_EVMASK
  omega

theorem setEvents_route (s : State) (p : Nat) (raw mask : Word) :
    EventFrame routeReg ((s.wr (Reg.PG_EVRAW p) raw).wr (Reg.PG_EVMASK p) mask) (s.setEvents p raw mask) :=
  EventFrame.each _ _ (fun t _ => EventFrame.route t p) _

/-- Raised bits join the raw events of a present page (R53). -/
theorem State.rd_raiseBits_raw (s : State) (p : Nat) (bits : Word) (h : p < 256) (hp : s.has p = true) :
    (s.raiseBits p bits).rd (Reg.PG_EVRAW p) = s.rd (Reg.PG_EVRAW p) ||| bits := by
  unfold State.raiseBits
  rw [if_pos hp, (setEvents_route s p _ _).rd _ (routeReg_raw p h), State.rd_wr_ne _ _ _ _ (PG_EVRAW_ne_mask p p),
    State.rd_wr_same]

theorem State.rd_raise_raw (s : State) (p b : Nat) (h : p < 256) (hp : s.has p = true) :
    (s.raise p b).rd (Reg.PG_EVRAW p) = s.rd (Reg.PG_EVRAW p) ||| BitVec.ofNat 32 (2 ^ b) :=
  s.rd_raiseBits_raw p _ h hp

/-- No mask changes when events are raised. -/
theorem State.rd_raiseBits_mask (s : State) (p : Nat) (bits : Word) (h : p < 256) (hp : s.has p = true) :
    (s.raiseBits p bits).rd (Reg.PG_EVMASK p) = s.rd (Reg.PG_EVMASK p) := by
  unfold State.raiseBits
  rw [if_pos hp, (setEvents_route s p _ _).rd _ (routeReg_mask p h), State.rd_wr_same]

/-- A register that no event touches. -/
theorem State.rd_raise (s : State) (p b a : Nat) (h : p < 256) (ha : eventReg a = false) :
    (s.raise p b).rd a = s.rd a := (EventFrame.raise s p b h).rd a ha

end Sys2Proof.Machine
end

