-- ==== Sys2Proof/Laws/Memory.lean ====
section
/-!
SUPPORT. Device DRAM: a byte read after a write, and that a write keeps the canonical form.
-/
namespace Sys2Proof.Machine

theorem Memory.wf_iff (m : List (Nat × Byte)) :
    Memory.wf m = true ↔ Sparse.rising m = true ∧ ∀ e ∈ m, e.2 ≠ 0 := by
  simp [Memory.wf]

theorem Memory.wf_set (m : List (Nat × Byte)) (a : Nat) (b : Byte) (h : Memory.wf m = true) :
    Memory.wf (Sparse.set 0 m a b) = true := by
  obtain ⟨hr, hz⟩ := (Memory.wf_iff m).mp h
  refine (Memory.wf_iff _).mpr ⟨Sparse.rising_set 0 m a b hr, ?_⟩
  intro e he
  unfold Sparse.set at he
  split at he
  · exact hz e (List.mem_filter.mp he).1
  · rcases Sparse.mem_insert_key m a b e he with rfl | he
    · assumption
    · exact hz e he

/-- A write keeps the canonical form. -/
theorem Memory.wf_write (m : List (Nat × Byte)) (addr : Nat) (data : List Byte) (h : Memory.wf m = true) :
    Memory.wf (Memory.write m addr data) = true := by
  induction data generalizing m addr with
  | nil => exact h
  | cons b bs ih => exact ih _ _ (Memory.wf_set m addr b h)

/-- A write leaves every byte outside it. -/
theorem Memory.byte_write_out (m : List (Nat × Byte)) (addr a : Nat) (data : List Byte)
    (h : a < addr ∨ addr + data.length ≤ a) : Memory.byte (Memory.write m addr data) a = Memory.byte m a := by
  induction data generalizing m addr with
  | nil => rfl
  | cons b bs ih =>
    have hl : (b :: bs).length = bs.length + 1 := rfl
    rw [hl] at h
    show Memory.byte (Memory.write (Sparse.set 0 m addr b) (addr + 1) bs) a = _
    rw [ih]
    · exact Sparse.get_set_ne 0 0 m a addr b (by omega)
    · omega

/-- A byte written is read. -/
theorem Memory.byte_write_in (m : List (Nat × Byte)) (addr i : Nat) (data : List Byte) (h : i < data.length) :
    Memory.byte (Memory.write m addr data) (addr + i) = data[i] := by
  induction data generalizing m addr i with
  | nil => simp at h
  | cons b bs ih =>
    show Memory.byte (Memory.write (Sparse.set 0 m addr b) (addr + 1) bs) (addr + i) = _
    cases i with
    | zero =>
      rw [Memory.byte_write_out _ _ _ _ (by omega)]
      simp [Memory.byte]
    | succ i =>
      have := ih (Sparse.set 0 m addr b) (addr + 1) i (by simpa using h)
      simpa [Nat.add_assoc, Nat.add_comm, Nat.add_left_comm] using this

end Sys2Proof.Machine
end

