-- ==== Sys2Proof/Laws/Kept.lean ====
section
/-!
SUPPORT. What the operations keep: the commands that wait, the part, and, where it holds, the canonical form of the register table and
of device DRAM.
-/
namespace Sys2Proof.Machine
set_option linter.all false

/-- The commands that wait are `q`, the part is `p`, and the tables are in canonical form where `c` asks for it. -/
structure State.Kept (c : Prop) (q : List Instr) (p : Part) (s : State) : Prop where
  pending : s.pending = q
  part    : s.part = p
  canon   : c → s.canonical = true

variable {c : Prop} {q : List Instr} {p : Part}

theorem State.Kept.regs {s : State} (h : s.Kept c q p) (hc : c) : Sparse.rising s.regs = true := by
  have := h.canon hc; simp [State.canonical] at this; exact this.1

theorem State.Kept.dram {s : State} (h : s.Kept c q p) (hc : c) : Memory.wf s.dma.dram = true := by
  have := h.canon hc; simp [State.canonical] at this; exact this.2

/-- Kept is kept by a change of other fields. -/
theorem State.Kept.congr {s t : State} (h : s.Kept c q p) (h1 : t.pending = s.pending) (h2 : t.part = s.part)
    (h3 : t.regs = s.regs) (h4 : t.dma.dram = s.dma.dram) : t.Kept c q p :=
  ⟨h1.trans h.pending, h2.trans h.part, fun hc => by
    have := h.canon hc; simp only [State.canonical, h3, h4] at *; exact this⟩

/-- A register table and a DRAM in canonical form keep it. -/
theorem State.Kept.tables {s t : State} (h : s.Kept c q p) (h1 : t.pending = s.pending) (h2 : t.part = s.part)
    (h3 : c → Sparse.rising t.regs = true) (h4 : c → Memory.wf t.dma.dram = true) : t.Kept c q p :=
  ⟨h1.trans h.pending, h2.trans h.part, fun hc => by simp [State.canonical, h3 hc, h4 hc]⟩

theorem State.wr_kept {s : State} (h : s.Kept c q p) (a : Nat) (v : Word) : (s.wr a v).Kept c q p :=
  h.tables rfl rfl (fun hc => Sparse.rising_set _ _ _ _ (h.regs hc)) h.dram

theorem State.dramWrite_kept {s : State} (h : s.Kept c q p) (a : Nat) (d : List Byte) : (s.dramWrite a d).Kept c q p :=
  h.tables rfl rfl h.regs (fun hc => Memory.wf_write _ _ _ (h.dram hc))

theorem State.each_kept {α : Type} {s : State} (h : s.Kept c q p) (l : List α) (f : State → α → State)
    (hf : ∀ (t : State) (x : α), t.Kept c q p → (f t x).Kept c q p) : (s.each l f).Kept c q p := by
  unfold State.each
  induction l generalizing s with
  | nil => exact h
  | cons x l ih => exact ih (hf s x h)

theorem State.when_kept {s : State} (h : s.Kept c q p) (b : Bool) (f : State → State)
    (hf : ∀ t : State, t.Kept c q p → (f t).Kept c q p) : (s.when b f).Kept c q p := by
  unfold State.when
  split
  · exact hf s h
  · exact h

theorem State.ite_kept {b : Prop} [Decidable b] {s t : State} : (if b then s else t).Kept c q p ↔ if b then s.Kept c q p else t.Kept c q p := by
  split <;> rfl

theorem State.iteFst_kept {α : Type} {b : Prop} [Decidable b] {s t : State × α} :
    (if b then s else t).1.Kept c q p ↔ if b then s.1.Kept c q p else t.1.Kept c q p := by
  split <;> rfl

theorem State.upd_kept {s : State} (h : s.Kept c q p) (x1 x3 x4 x5 x6 x7 x8 x9 x10 x11 x12 x13 x14 x15 x16 x17 x18 x19 x20 x21 x22 x23 x24 x25 x26 x27 x28 x29 x30 x31 x32 x33 x34 x35 x36 x37 x38 x39 x40 x41 x42 x43 x44 x46 x47 x48 x49 x50 x51 x52 x53 x54 x55 x56 x57 x58 x59 x60 x61 x62 x63 x64 x65 x66 x67 x68 x69) :
    (State.mk s.part x1 s.regs x3 x4 x5 x6 x7 x8 x9 x10 x11 x12 x13 x14 x15 x16 x17 x18 x19 x20 x21 x22 x23 x24 x25 x26 x27 x28 x29 x30 x31 x32 x33 x34 x35 x36 x37 x38 x39 x40 x41 x42 x43 x44 s.dma x46 x47 x48 x49 x50 x51 x52 x53 x54 x55 x56 x57 x58 x59 x60 x61 x62 x63 x64 x65 x66 x67 x68 x69 s.pending).Kept c q p :=
  h.congr rfl rfl rfl rfl

theorem State.updDma_kept {s : State} (h : s.Kept c q p) (x1 x3 x4 x5 x6 x7 x8 x9 x10 x11 x12 x13 x14 x15 x16 x17 x18 x19 x20 x21 x22 x23 x24 x25 x26 x27 x28 x29 x30 x31 x32 x33 x34 x35 x36 x37 x38 x39 x40 x41 x42 x43 x44 x46 x47 x48 x49 x50 x51 x52 x53 x54 x55 x56 x57 x58 x59 x60 x61 x62 x63 x64 x65 x66 x67 x68 x69 d1 d2 d3 d4 d5 d6 d7) :
    (State.mk s.part x1 s.regs x3 x4 x5 x6 x7 x8 x9 x10 x11 x12 x13 x14 x15 x16 x17 x18 x19 x20 x21 x22 x23 x24 x25 x26 x27 x28 x29 x30 x31 x32 x33 x34 x35 x36 x37 x38 x39 x40 x41 x42 x43 x44 (Dma.mk s.dma.dram d1 d2 d3 d4 d5 d6 d7) x46 x47 x48 x49 x50 x51 x52 x53 x54 x55 x56 x57 x58 x59 x60 x61 x62 x63 x64 x65 x66 x67 x68 x69 s.pending).Kept c q p :=
  h.congr rfl rfl rfl rfl

theorem State.setDma_kept {s : State} (h : s.Kept c q p) (d1 d2 d3 d4 d5 d6 d7) :
    (s.setDma (Dma.mk s.dma.dram d1 d2 d3 d4 d5 d6 d7)).Kept c q p :=
  h.congr rfl rfl rfl rfl

/-- Every next state of the answer is kept. -/
def Keeps (c : Prop) (q : List Instr) (p : Part) (o : Answer) : Prop := ∀ t, o = .next t → t.Kept c q p

theorem next_keeps {s : State} (h : s.Kept c q p) : Keeps c q p (.next s) := fun _ e => by cases e; exact h

theorem answer_keeps {s : State} (h : s.Kept c q p) (b : Bool) : Keeps c q p (answer b s) := by
  unfold answer
  split
  · exact next_keeps h
  · exact fun _ e => by cases e

theorem ite_keeps {b : Prop} [Decidable b] {x y : Answer} : Keeps c q p (if b then x else y) ↔ if b then Keeps c q p x else Keeps c q p y := by
  split <;> rfl

end Sys2Proof.Machine
end

