-- ==== Sys2Proof/Laws/KeptA.lean ====
section
/-!
SUPPORT. What the operations of these files of the model keep: Ops, Fabric, Detect, Grants, Integrity, KeyStore, Dram, Life,
    Completion, Records, Smu, Engines.
-/
namespace Sys2Proof.Machine
set_option linter.all false
variable {c : Prop} {q : List Instr} {p : Part}

theorem State.wrN_kept {s : State} (h : s.Kept c q p) (x1 x2) : (State.wrN s x1 x2).Kept c q p := by
  simp +contextual (maxDischargeDepth := 100) only [State.wrN, State.wr_kept, h]

theorem State.wrI_kept {s : State} (h : s.Kept c q p) (x1 x2) : (State.wrI s x1 x2).Kept c q p := by
  simp +contextual (maxDischargeDepth := 100) only [State.wrI, State.wr_kept, h]

theorem State.put_kept {s : State} (h : s.Kept c q p) (x1 x2 x3 x4) : (State.put s x1 x2 x3 x4).Kept c q p := by
  simp +contextual (maxDischargeDepth := 100) only [State.put, State.wr_kept, h]

theorem State.setBit_kept {s : State} (h : s.Kept c q p) (x1 x2 x3) : (State.setBit s x1 x2 x3).Kept c q p := by
  simp +contextual (maxDischargeDepth := 100) only [State.setBit, State.put_kept, h]

theorem State.count_kept {s : State} (h : s.Kept c q p) (x1 x2 x3 x4) : (State.count s x1 x2 x3 x4).Kept c q p := by
  simp +contextual (maxDischargeDepth := 100) only [State.count, State.put_kept, h]

theorem State.wr64_kept {s : State} (h : s.Kept c q p) (x1 x2 x3) : (State.wr64 s x1 x2 x3).Kept c q p := by
  simp +contextual (maxDischargeDepth := 100) only [State.wr64, State.wrN_kept, h]

theorem State.useFree_kept {s : State} (h : s.Kept c q p) : (State.useFree s).Kept c q p := by
  simp +contextual (maxDischargeDepth := 100) only [State.useFree, State.upd_kept, h]

theorem State.send_kept {s : State} (h : s.Kept c q p) (x1) : (State.send s x1).Kept c q p := by
  simp +contextual (maxDischargeDepth := 100) only [State.send, State.upd_kept, h]

theorem State.setCh_kept {s : State} (h : s.Kept c q p) (x1 x2) : (State.setCh s x1 x2).Kept c q p := by
  simp +contextual (maxDischargeDepth := 100) only [State.setCh, State.upd_kept, h]

theorem State.modCh_kept {s : State} (h : s.Kept c q p) (x1 x2) : (State.modCh s x1 x2).Kept c q p := by
  simp +contextual (maxDischargeDepth := 100) only [State.modCh, State.setCh_kept, h]

theorem State.modCtl_kept {s : State} (h : s.Kept c q p) (x1 x2) : (State.modCtl s x1 x2).Kept c q p := by
  simp +contextual (maxDischargeDepth := 100) only [State.modCtl, State.modCh_kept, h]

theorem State.modProg_kept {s : State} (h : s.Kept c q p) (x1 x2) : (State.modProg s x1 x2).Kept c q p := by
  simp +contextual (maxDischargeDepth := 100) only [State.modProg, State.modCh_kept, h]

theorem State.modMeas_kept {s : State} (h : s.Kept c q p) (x1 x2) : (State.modMeas s x1 x2).Kept c q p := by
  simp +contextual (maxDischargeDepth := 100) only [State.modMeas, State.modCh_kept, h]

theorem State.modEis_kept {s : State} (h : s.Kept c q p) (x1 x2) : (State.modEis s x1 x2).Kept c q p := by
  simp +contextual (maxDischargeDepth := 100) only [State.modEis, State.modCh_kept, h]

theorem State.modTrend_kept {s : State} (h : s.Kept c q p) (x1 x2) : (State.modTrend s x1 x2).Kept c q p := by
  simp +contextual (maxDischargeDepth := 100) only [State.modTrend, State.modCh_kept, h]

theorem State.modDie_kept {s : State} (h : s.Kept c q p) (x1 x2) : (State.modDie s x1 x2).Kept c q p := by
  simp +contextual (maxDischargeDepth := 100) only [State.modDie, State.upd_kept, h]

theorem State.modLink_kept {s : State} (h : s.Kept c q p) (x1 x2) : (State.modLink s x1 x2).Kept c q p := by
  simp +contextual (maxDischargeDepth := 100) only [State.modLink, State.upd_kept, h]

theorem State.modSeat_kept {s : State} (h : s.Kept c q p) (x1 x2) : (State.modSeat s x1 x2).Kept c q p := by
  simp +contextual (maxDischargeDepth := 100) only [State.modSeat, State.upd_kept, h]

theorem State.launch_kept {s : State} (h : s.Kept c q p) (x1 x2) : (State.launch s x1 x2).Kept c q p := by
  simp +contextual (maxDischargeDepth := 100) only [State.launch, State.upd_kept, State.put_kept, h]

theorem State.missLaunch_kept {s : State} (h : s.Kept c q p) (x1) : (State.missLaunch s x1).Kept c q p := by
  simp +contextual (maxDischargeDepth := 100) only [State.missLaunch, State.upd_kept, State.count_kept, h]

theorem State.queueWrite_kept {s : State} (h : s.Kept c q p) (x1 x2) : (State.queueWrite s x1 x2).Kept c q p := by
  simp +contextual (maxDischargeDepth := 100) only [State.queueWrite, State.ite_kept, State.iteFst_kept, ite_self,
      implies_true, State.modSeat_kept, h]

theorem State.setMsix_kept {s : State} (h : s.Kept c q p) (x1 x2 x3) : (State.setMsix s x1 x2 x3).Kept c q p := by
  simp +contextual (maxDischargeDepth := 100) only [State.setMsix, State.upd_kept, h]

theorem State.msixSend_kept {s : State} (h : s.Kept c q p) (x1 x2) : (State.msixSend s x1 x2).Kept c q p := by
  simp +contextual (maxDischargeDepth := 100) only [State.msixSend, State.ite_kept, ite_self, State.queueWrite_kept, h]

theorem State.eqPush_kept {s : State} (h : s.Kept c q p) (x1 x2 x3 x4) : (State.eqPush s x1 x2 x3 x4).Kept c q p := by
  unfold State.eqPush
  repeat' first
    | (simp +contextual (maxDischargeDepth := 100) only [State.ite_kept, State.iteFst_kept, ite_self, implies_true,
        State.queueWrite_kept, State.modSeat_kept, h]; done)
    | split

theorem State.eqMsix_kept {s : State} (h : s.Kept c q p) (x1 x2) : (State.eqMsix s x1 x2).Kept c q p := by
  simp +contextual (maxDischargeDepth := 100) only [State.eqMsix, State.ite_kept, State.iteFst_kept, ite_self, implies_true,
      State.queueWrite_kept, h]

theorem State.eqWrite_kept {s : State} (h : s.Kept c q p) (x1 x2 x3 x4) : (State.eqWrite s x1 x2 x3 x4).Kept c q p := by
  unfold State.eqWrite
  repeat' first
    | (simp +contextual (maxDischargeDepth := 100) only [State.ite_kept, State.iteFst_kept, ite_self, implies_true,
        State.eqMsix_kept, State.eqPush_kept, h]; done)
    | split

theorem State.eqLose_kept {s : State} (h : s.Kept c q p) (x1) : (State.eqLose s x1).Kept c q p := by
  simp +contextual (maxDischargeDepth := 100) only [State.eqLose, State.count_kept, State.modSeat_kept, h]

theorem State.eqOverflow_kept {s : State} (h : s.Kept c q p) (x1) : (State.eqOverflow s x1).Kept c q p := by
  simp +contextual (maxDischargeDepth := 100) only [State.eqOverflow, State.ite_kept, ite_self, State.modSeat_kept,
      State.eqWrite_kept, h]

theorem State.postEvent_kept {s : State} (h : s.Kept c q p) (x1 x2 x3 x4) : (State.postEvent s x1 x2 x3 x4).Kept c q p := by
  simp +contextual (maxDischargeDepth := 100) only [State.postEvent, State.ite_kept, ite_self, State.eqOverflow_kept,
      State.eqWrite_kept, State.eqLose_kept, h]

theorem State.seatEvent_kept {s : State} (h : s.Kept c q p) (x1 x2 x3) : (State.seatEvent s x1 x2 x3).Kept c q p := by
  simp +contextual (maxDischargeDepth := 100) only [State.seatEvent, State.ite_kept, ite_self, State.postEvent_kept, h]

theorem State.route_kept {s : State} (h : s.Kept c q p) (x1) : (State.route s x1).Kept c q p := by
  simp +contextual (maxDischargeDepth := 100) only [State.route, State.when_kept, State.ite_kept, ite_self, implies_true,
      State.wrN_kept, State.postEvent_kept, State.eqMsix_kept, State.count_kept, h]

theorem State.setEvents_kept {s : State} (h : s.Kept c q p) (x1 x2 x3) : (State.setEvents s x1 x2 x3).Kept c q p := by
  simp +contextual (maxDischargeDepth := 100) only [State.setEvents, State.wr_kept, State.each_kept, implies_true,
      State.route_kept, h]

theorem State.raiseBits_kept {s : State} (h : s.Kept c q p) (x1 x2) : (State.raiseBits s x1 x2).Kept c q p := by
  simp +contextual (maxDischargeDepth := 100) only [State.raiseBits, State.ite_kept, ite_self, State.setEvents_kept, h]

theorem State.raise_kept {s : State} (h : s.Kept c q p) (x1 x2) : (State.raise s x1 x2).Kept c q p := by
  simp +contextual (maxDischargeDepth := 100) only [State.raise, State.raiseBits_kept, h]

theorem State.setPg_kept {s : State} (h : s.Kept c q p) (x1 x2) : (State.setPg s x1 x2).Kept c q p := by
  simp +contextual (maxDischargeDepth := 100) only [State.setPg, State.put_kept, h]

theorem State.pageFault_kept {s : State} (h : s.Kept c q p) (x1 x2) : (State.pageFault s x1 x2).Kept c q p := by
  simp +contextual (maxDischargeDepth := 100) only [State.pageFault, State.when_kept, State.ite_kept, ite_self, implies_true,
      State.put_kept, State.count_kept, State.raise_kept, State.setPg_kept, h]

theorem State.modBl_kept {s : State} (h : s.Kept c q p) (x1 x2) : (State.modBl s x1 x2).Kept c q p := by
  simp +contextual (maxDischargeDepth := 100) only [State.modBl, State.upd_kept, h]

theorem State.setLst_kept {s : State} (h : s.Kept c q p) (x1 x2) : (State.setLst s x1 x2).Kept c q p := by
  simp +contextual (maxDischargeDepth := 100) only [State.setLst, State.put_kept, h]

theorem State.blEmit_kept {s : State} (h : s.Kept c q p) (x1 x2) : (State.blEmit s x1 x2).Kept c q p := by
  simp +contextual (maxDischargeDepth := 100) only [State.blEmit, State.modBl_kept, State.send_kept, h]

theorem State.blDrain_kept {s : State} (h : s.Kept c q p) (n k : Nat) : (s.blDrain n k).Kept c q p := by
  induction k generalizing s with
  | zero => exact h
  | succ k ih =>
    unfold State.blDrain
    split
    · exact h
    · split
      · exact h
      · exact ih (State.blEmit_kept (State.modBl_kept h _ _) _ _)

theorem State.blSend_kept {s : State} (h : s.Kept c q p) (x1 x2) : (State.blSend s x1 x2).Kept c q p := by
  simp +contextual (maxDischargeDepth := 100) only [State.blSend, State.modBl_kept, State.blDrain_kept, h]

theorem State.altStat_kept {s : State} (h : s.Kept c q p) : (State.altStat s).Kept c q p := by
  simp +contextual (maxDischargeDepth := 100) only [State.altStat, State.setBit_kept, h]

theorem State.useAlt_kept {s : State} (h : s.Kept c q p) (x1) : (State.useAlt s x1).Kept c q p := by
  simp +contextual (maxDischargeDepth := 100) only [State.useAlt, State.when_kept, State.upd_kept, implies_true,
      State.altStat_kept, State.raise_kept, h]

theorem State.logRerr_kept {s : State} (h : s.Kept c q p) (x1 x2 x3 x4 x5) : (State.logRerr s x1 x2 x3 x4 x5).Kept c q p := by
  simp +contextual (maxDischargeDepth := 100) only [State.logRerr, State.upd_kept, State.ite_kept, ite_self, State.count_kept,
      State.raise_kept, State.seatEvent_kept, h]

theorem State.forward_kept {s t : State} (h : s.Kept c q p) {x : Packet} {f : Nat} (e : s.forward x f = some t) : t.Kept c q p
    := by
  unfold State.forward at e
  split at e
  · cases e
  · cases e
    exact State.blSend_kept (State.when_kept h _ _ fun t ht => State.useAlt_kept ht _) _ _

theorem State.fabricSend_kept {s : State} (h : s.Kept c q p) (dst cls init tag : Nat) (load : Load) :
    (s.fabricSend dst cls init tag load).Kept c q p := by
  unfold State.fabricSend
  split
  · exact h
  · dsimp only
    split
    · simp only [State.ite_kept, State.logRerr_kept h, h, ite_self]
    · rename_i e
      have ht := State.forward_kept h e
      simp only [State.ite_kept, State.upd_kept ht, State.upd_kept (State.upd_kept ht ..), ite_self]

theorem State.sendCrew_kept {s : State} (h : s.Kept c q p) (x1 x2) : (State.sendCrew s x1 x2).Kept c q p := by
  simp +contextual (maxDischargeDepth := 100) only [State.sendCrew, State.fabricSend_kept, h]

theorem State.updateReach_kept {s : State} (h : s.Kept c q p) : (State.updateReach s).Kept c q p := by
  simp +contextual (maxDischargeDepth := 100) only [State.updateReach, State.when_kept, State.upd_kept, implies_true,
      State.put_kept, State.setBit_kept, State.raise_kept, h]

theorem State.flood_kept {s : State} (h : s.Kept c q p) (dev serial nbrs except) : (s.flood dev serial nbrs except).Kept c q p
    := by
  unfold State.flood
  split
  · exact h
  · refine State.each_kept h _ _ fun t n ht => ?_
    split
    · exact ht
    · exact State.blSend_kept (State.upd_kept ht ..) _ _

theorem State.linksChanged_kept {s : State} (h : s.Kept c q p) : (State.linksChanged s).Kept c q p := by
  simp +contextual (maxDischargeDepth := 100) only [State.linksChanged, State.updateReach_kept, State.flood_kept, h]

theorem State.setBrg_kept {s : State} (h : s.Kept c q p) (x1) : (State.setBrg s x1).Kept c q p := by
  simp +contextual (maxDischargeDepth := 100) only [State.setBrg, State.upd_kept, State.updDma_kept, State.ite_kept,
      State.iteFst_kept, ite_self, implies_true, h]

theorem State.unlockWins_kept {s : State} (h : s.Kept c q p) (x1) : (State.unlockWins s x1).Kept c q p := by
  simp +contextual (maxDischargeDepth := 100) only [State.unlockWins, State.each_kept, State.ite_kept, State.iteFst_kept,
      ite_self, implies_true, State.setBrg_kept, State.fabricSend_kept, State.setBit_kept, h]

theorem State.setCatFifo_kept {s : State} (h : s.Kept c q p) (x1 x2) : (State.setCatFifo s x1 x2).Kept c q p := by
  simp +contextual (maxDischargeDepth := 100) only [State.setCatFifo, State.upd_kept, State.put_kept, h]

theorem State.capture_kept {s : State} (h : s.Kept c q p) (x1 x2 x3) : (State.capture s x1 x2 x3).Kept c q p := by
  simp +contextual (maxDischargeDepth := 100) only [State.capture, State.each_kept, State.ite_kept, ite_self, implies_true,
      State.raise_kept, State.setCatFifo_kept, State.count_kept, h]

theorem State.setSlp_kept {s : State} (h : s.Kept c q p) (x1) : (State.setSlp s x1).Kept c q p := by
  simp +contextual (maxDischargeDepth := 100) only [State.setSlp, State.put_kept, h]

theorem State.setVotes_kept {s : State} (h : s.Kept c q p) (x1) : (State.setVotes s x1).Kept c q p := by
  simp +contextual (maxDischargeDepth := 100) only [State.setVotes, State.upd_kept, State.put_kept, h]

theorem State.sleepLeave_kept {s : State} (h : s.Kept c q p) : (State.sleepLeave s).Kept c q p := by
  simp +contextual (maxDischargeDepth := 100) only [State.sleepLeave, State.ite_kept, ite_self, State.raise_kept,
      State.setSlp_kept, h]

theorem State.sleepAbort_kept {s : State} (h : s.Kept c q p) : (State.sleepAbort s).Kept c q p := by
  simp +contextual (maxDischargeDepth := 100) only [State.sleepAbort, State.each_kept, State.ite_kept, ite_self, implies_true,
      State.fabricSend_kept, State.sleepLeave_kept, h]

theorem State.startWake_kept {s : State} (h : s.Kept c q p) (x1 x2) : (State.startWake s x1 x2).Kept c q p := by
  simp +contextual (maxDischargeDepth := 100) only [State.startWake, State.each_kept, State.upd_kept, State.ite_kept,
      ite_self, implies_true, State.send_kept, State.setLst_kept, State.modBl_kept, State.raise_kept, State.setSlp_kept, h]

theorem State.wakeLatch_kept {s : State} (h : s.Kept c q p) (x1) : (State.wakeLatch s x1).Kept c q p := by
  simp +contextual (maxDischargeDepth := 100) only [State.wakeLatch, State.when_kept, implies_true, State.wrN_kept,
      State.setBit_kept, h]

theorem State.wakeRequest_kept {s : State} (h : s.Kept c q p) (src : Nat) : (s.wakeRequest src).Kept c q p := by
  have key : ∀ t : State, t.Kept c q p → State.Kept c q p (match t.slp with
      | 1 => t.sleepAbort
      | 2 => if t.now < t.sleepC then t.sleepAbort else { t with fab := { t.fab with wakeHeld := true } }
      | 4 => t.startWake t.devId none
      | _ => t) := by
    intro t h1
    split
    · exact State.sleepAbort_kept h1
    · split
      · exact State.sleepAbort_kept h1
      · exact h1.congr rfl rfl rfl rfl
    · exact State.startWake_kept h1 _ _
    · exact h1
  exact key _ (State.wakeLatch_kept h src)

theorem State.wakeSelf_kept {s : State} (h : s.Kept c q p) : (State.wakeSelf s).Kept c q p := by
  simp +contextual (maxDischargeDepth := 100) only [State.wakeSelf, State.when_kept, implies_true, State.wakeRequest_kept, h]

theorem State.mbPush_kept {s : State} (h : s.Kept c q p) (x1 x2 x3 x4) : (State.mbPush s x1 x2 x3 x4).Kept c q p := by
  simp +contextual (maxDischargeDepth := 100) only [State.mbPush, State.upd_kept, State.ite_kept, ite_self, State.count_kept, h]

theorem State.setInjPassed_kept {s : State} (h : s.Kept c q p) (x1 x2) : (State.setInjPassed s x1 x2).Kept c q p := by
  simp +contextual (maxDischargeDepth := 100) only [State.setInjPassed, State.upd_kept, h]

theorem State.injStep_kept {s : State} (h : s.Kept c q p) (x1 x2 x3) : (State.injStep s x1 x2 x3).Kept c q p := by
  simp +contextual (maxDischargeDepth := 100) only [State.injStep, State.when_kept, State.upd_kept, State.ite_kept, ite_self,
      implies_true, State.setInjPassed_kept, State.setBit_kept, State.count_kept, State.raise_kept, h]

theorem State.lifeFlushCh_kept {s : State} (h : s.Kept c q p) (x1) : (State.lifeFlushCh s x1).Kept c q p := by
  simp +contextual (maxDischargeDepth := 100) only [State.lifeFlushCh, State.upd_kept, h]

theorem State.lifeRestart_kept {s : State} (h : s.Kept c q p) (x1) : (State.lifeRestart s x1).Kept c q p := by
  simp +contextual (maxDischargeDepth := 100) only [State.lifeRestart, State.upd_kept, State.lifeFlushCh_kept, h]

theorem State.setOwner_kept {s : State} (h : s.Kept c q p) (x1 x2 x3 x4) : (State.setOwner s x1 x2 x3 x4).Kept c q p := by
  simp +contextual (maxDischargeDepth := 100) only [State.setOwner, State.upd_kept, h]

theorem State.clearDom_kept {s : State} (h : s.Kept c q p) (x dm) : (s.clearDom x dm).Kept c q p := by
  unfold State.clearDom
  exact h.tables rfl rfl (fun hc => Sparse.rising_filter _ _ (h.regs hc)) h.dram

theorem State.setCvu_kept {s : State} (h : s.Kept c q p) (x1 x2) : (State.setCvu s x1 x2).Kept c q p := by
  simp +contextual (maxDischargeDepth := 100) only [State.setCvu, State.upd_kept, h]

theorem State.cvuDiscard_kept {s : State} (h : s.Kept c q p) (x1) : (State.cvuDiscard s x1).Kept c q p := by
  simp +contextual (maxDischargeDepth := 100) only [State.cvuDiscard, State.ite_kept, ite_self, State.raise_kept,
      State.setBit_kept, State.put_kept, State.setCvu_kept, h]

theorem State.cvuOpen_kept {s : State} (h : s.Kept c q p) (x1) : (State.cvuOpen s x1).Kept c q p := by
  simp +contextual (maxDischargeDepth := 100) only [State.cvuOpen, State.ite_kept, ite_self, State.raise_kept,
      State.cvuDiscard_kept, State.setBit_kept, State.setCvu_kept, h]

theorem State.cvuData_kept {s : State} (h : s.Kept c q p) (x1 x2) : (State.cvuData s x1 x2).Kept c q p := by
  simp +contextual (maxDischargeDepth := 100) only [State.cvuData, State.ite_kept, ite_self, State.raise_kept,
      State.count_kept, State.setCvu_kept, h]

theorem State.cvuClose_kept {s : State} (h : s.Kept c q p) (x1) : (State.cvuClose s x1).Kept c q p := by
  simp +contextual (maxDischargeDepth := 100) only [State.cvuClose, State.when_kept, State.ite_kept, ite_self, implies_true,
      State.raise_kept, State.useFree_kept, State.injStep_kept, State.setCvu_kept, State.wr64_kept, State.wrN_kept,
      State.count_kept, h]

theorem State.cvuReset_kept {s : State} (h : s.Kept c q p) (x1) : (State.cvuReset s x1).Kept c q p := by
  simp +contextual (maxDischargeDepth := 100) only [State.cvuReset, State.upd_kept, State.clearDom_kept, h]

theorem State.cvuFree_kept {s : State} (h : s.Kept c q p) (x1) : (State.cvuFree s x1).Kept c q p := by
  simp +contextual (maxDischargeDepth := 100) only [State.cvuFree, State.setOwner_kept, State.put_kept, State.cvuReset_kept, h]

theorem execCvuStart_kept {s : State} (h : s.Kept c q p) (x0) : Keeps c q p (execCvuStart x0 s) := by
  simp +contextual (maxDischargeDepth := 100) only [execCvuStart, State.ite_kept, State.iteFst_kept, ite_self, implies_true,
      ite_keeps, next_keeps, answer_keeps, State.cvuOpen_kept, h]

theorem execCvuDin1_kept {s : State} (h : s.Kept c q p) (x0 x1) : Keeps c q p (execCvuDin1 x0 x1 s) := by
  simp +contextual (maxDischargeDepth := 100) only [execCvuDin1, State.ite_kept, State.iteFst_kept, ite_self, implies_true,
      ite_keeps, next_keeps, answer_keeps, State.cvuData_kept, h]

theorem execCvuDin2_kept {s : State} (h : s.Kept c q p) (x0 x1) : Keeps c q p (execCvuDin2 x0 x1 s) := by
  simp +contextual (maxDischargeDepth := 100) only [execCvuDin2, State.ite_kept, State.iteFst_kept, ite_self, implies_true,
      ite_keeps, next_keeps, answer_keeps, State.cvuData_kept, h]

theorem execCvuDin4_kept {s : State} (h : s.Kept c q p) (x0 x1) : Keeps c q p (execCvuDin4 x0 x1 s) := by
  simp +contextual (maxDischargeDepth := 100) only [execCvuDin4, State.ite_kept, State.iteFst_kept, ite_self, implies_true,
      ite_keeps, next_keeps, answer_keeps, State.cvuData_kept, h]

theorem execCvuEnd_kept {s : State} (h : s.Kept c q p) (x0) : Keeps c q p (execCvuEnd x0 s) := by
  simp +contextual (maxDischargeDepth := 100) only [execCvuEnd, State.ite_kept, State.iteFst_kept, ite_self, implies_true,
      ite_keeps, next_keeps, answer_keeps, State.cvuClose_kept, h]

theorem execCvuRelease_kept {s : State} (h : s.Kept c q p) (x0) : Keeps c q p (execCvuRelease x0 s) := by
  simp +contextual (maxDischargeDepth := 100) only [execCvuRelease, State.ite_kept, State.iteFst_kept, ite_self, implies_true,
      ite_keeps, next_keeps, answer_keeps, State.cvuFree_kept, h]

theorem State.injWrite_kept {s : State} (h : s.Kept c q p) (x1 x2) : (State.injWrite s x1 x2).Kept c q p := by
  simp +contextual (maxDischargeDepth := 100) only [State.injWrite, State.wr_kept, State.when_kept, State.ite_kept, ite_self,
      implies_true, State.setInjPassed_kept, State.raise_kept, State.count_kept, h]

theorem execInjArmWrite_kept {s : State} (h : s.Kept c q p) (x0 x1) : Keeps c q p (execInjArmWrite x0 x1 s) := by
  simp +contextual (maxDischargeDepth := 100) only [execInjArmWrite, State.ite_kept, State.iteFst_kept, ite_self,
      implies_true, ite_keeps, next_keeps, answer_keeps, State.injWrite_kept, h]

theorem State.injClear_kept {s : State} (h : s.Kept c q p) : (State.injClear s).Kept c q p := by
  simp +contextual (maxDischargeDepth := 100) only [State.injClear, State.each_kept, State.when_kept, State.upd_kept,
      State.ite_kept, ite_self, implies_true, State.wrN_kept, State.setBit_kept, State.raise_kept, h]

theorem State.injSet_kept {s : State} (h : s.Kept c q p) (x1) : (State.injSet s x1).Kept c q p := by
  simp +contextual (maxDischargeDepth := 100) only [State.injSet, State.upd_kept, State.raise_kept, State.wrN_kept, h]

theorem execInjArmExpiry_kept {s : State} (h : s.Kept c q p) : Keeps c q p (execInjArmExpiry s) := by
  simp +contextual (maxDischargeDepth := 100) only [execInjArmExpiry, State.ite_kept, State.iteFst_kept, ite_self,
      implies_true, ite_keeps, next_keeps, answer_keeps, State.injClear_kept, h]

theorem execInjLogRead_kept {s : State} (h : s.Kept c q p) : Keeps c q p (execInjLogRead s) := by
  unfold execInjLogRead
  repeat' first
    | (simp +contextual (maxDischargeDepth := 100) only [State.wr_kept, State.upd_kept, State.updDma_kept, State.ite_kept,
        State.iteFst_kept, ite_self, implies_true, ite_keeps, next_keeps, answer_keeps, State.wr64_kept, h]; done)
    | split

theorem State.wrBytes_kept {s : State} (h : s.Kept c q p) (x1 x2) : (State.wrBytes s x1 x2).Kept c q p := by
  simp +contextual (maxDischargeDepth := 100) only [State.wrBytes, State.each_kept, implies_true, State.wrN_kept, h]

theorem State.setKey_kept {s : State} (h : s.Kept c q p) (x1) : (State.setKey s x1).Kept c q p := by
  simp +contextual (maxDischargeDepth := 100) only [State.setKey, State.upd_kept, h]

theorem State.setKeySlot_kept {s : State} (h : s.Kept c q p) (x1 x2) : (State.setKeySlot s x1 x2).Kept c q p := by
  simp +contextual (maxDischargeDepth := 100) only [State.setKeySlot, State.setKey_kept, h]

theorem State.setKeyGen_kept {s : State} (h : s.Kept c q p) (x1 x2) : (State.setKeyGen s x1 x2).Kept c q p := by
  simp +contextual (maxDischargeDepth := 100) only [State.setKeyGen, State.setKey_kept, h]

theorem State.keyEmpty_kept {s : State} (h : s.Kept c q p) (x1) : (State.keyEmpty s x1).Kept c q p := by
  simp +contextual (maxDischargeDepth := 100) only [State.keyEmpty, State.setKeySlot_kept, h]

theorem State.keyPend_kept {s : State} (h : s.Kept c q p) (x1 x2) : (State.keyPend s x1 x2).Kept c q p := by
  simp +contextual (maxDischargeDepth := 100) only [State.keyPend, State.setKeySlot_kept, h]

theorem State.orphanAll_kept {s : State} (h : s.Kept c q p) : (State.orphanAll s).Kept c q p := by
  simp +contextual (maxDischargeDepth := 100) only [State.orphanAll, State.each_kept, State.when_kept, implies_true,
      State.setKeySlot_kept, State.raise_kept, h]

theorem State.keyStart_kept {s : State} (h : s.Kept c q p) (x1 x2 x3 x4) : (State.keyStart s x1 x2 x3 x4).Kept c q p := by
  simp +contextual (maxDischargeDepth := 100) only [State.keyStart, State.setKey_kept, h]

theorem State.keyCmd_kept {s : State} (h : s.Kept c q p) (x1 x2 x3) (h3 : ∀ (t : State), t.Kept c q p → (x3 t).Kept c q p) :
    (State.keyCmd s x1 x2 x3).Kept c q p := by
  simp +contextual (maxDischargeDepth := 100) only [State.keyCmd, State.ite_kept, ite_self, State.raise_kept,
      State.setBit_kept, State.keyStart_kept, h, h3]

theorem State.keyTarget_kept {s : State} (h : s.Kept c q p) (x1 x2 x3 x4) (h4 : ∀ (t : State) y1, t.Kept c q p → (x4 t
    y1).Kept c q p) : (State.keyTarget s x1 x2 x3 x4).Kept c q p := by
  unfold State.keyTarget
  dsimp only
  repeat' first
    | (simp +contextual (maxDischargeDepth := 100) only [State.ite_kept, State.iteFst_kept, ite_self, implies_true,
        State.raise_kept, State.setBit_kept, State.keyStart_kept, State.keyCmd_kept, h, h4]; done)
    | split

theorem execKeyNop_kept {s : State} (h : s.Kept c q p) (x0 x1 x2) : Keeps c q p (execKeyNop x0 x1 x2 s) := by
  simp +contextual (maxDischargeDepth := 100) only [execKeyNop, State.ite_kept, State.iteFst_kept, ite_self, implies_true,
      ite_keeps, next_keeps, answer_keeps, State.keyCmd_kept, State.keyStart_kept, h]

theorem State.generate_kept {s : State} (h : s.Kept c q p) (x1) : (State.generate s x1).Kept c q p := by
  simp +contextual (maxDischargeDepth := 100) only [State.generate, State.upd_kept, State.ite_kept, ite_self,
      State.keyStart_kept, State.keyPend_kept, h]

theorem execKeyGenerate_kept {s : State} (h : s.Kept c q p) (x0 x1 x2) : Keeps c q p (execKeyGenerate x0 x1 x2 s) := by
  simp +contextual (maxDischargeDepth := 100) only [execKeyGenerate, State.ite_kept, State.iteFst_kept, ite_self,
      implies_true, ite_keeps, next_keeps, answer_keeps, State.keyTarget_kept, State.generate_kept, h]

theorem State.derive_kept {s : State} (h : s.Kept c q p) (x1) : (State.derive s x1).Kept c q p := by
  simp +contextual (maxDischargeDepth := 100) only [State.derive, State.ite_kept, ite_self, State.keyStart_kept,
      State.keyPend_kept, h]

theorem execKeyDerive_kept {s : State} (h : s.Kept c q p) (x0 x1 x2) : Keeps c q p (execKeyDerive x0 x1 x2 s) := by
  simp +contextual (maxDischargeDepth := 100) only [execKeyDerive, State.ite_kept, State.iteFst_kept, ite_self, implies_true,
      ite_keeps, next_keeps, answer_keeps, State.keyTarget_kept, State.derive_kept, h]

theorem State.loadPraline_kept {s : State} (h : s.Kept c q p) (x1) : (State.loadPraline s x1).Kept c q p := by
  simp +contextual (maxDischargeDepth := 100) only [State.loadPraline, State.ite_kept, ite_self, State.keyStart_kept,
      State.keyPend_kept, h]

theorem execKeyLoad_kept {s : State} (h : s.Kept c q p) (x0 x1 x2) : Keeps c q p (execKeyLoad x0 x1 x2 s) := by
  simp +contextual (maxDischargeDepth := 100) only [execKeyLoad, State.ite_kept, State.iteFst_kept, ite_self, implies_true,
      ite_keeps, next_keeps, answer_keeps, State.keyTarget_kept, State.loadPraline_kept, h]

theorem State.exportKey_kept {s : State} (h : s.Kept c q p) (x1 x2) : (State.exportKey s x1 x2).Kept c q p := by
  unfold State.exportKey
  dsimp only
  repeat' first
    | (simp +contextual (maxDischargeDepth := 100) only [State.ite_kept, State.iteFst_kept, ite_self, implies_true,
        State.keyStart_kept, State.setKeySlot_kept, State.setKey_kept, State.wrBytes_kept, h]; done)
    | split

theorem State.keyBufRead_kept {s : State} (h : s.Kept c q p) (x1) : (State.keyBufRead s x1).Kept c q p := by
  simp +contextual (maxDischargeDepth := 100) only [State.keyBufRead, State.wr_kept, State.each_kept, State.ite_kept,
      State.iteFst_kept, ite_self, implies_true, State.setKey_kept, h]

theorem execKeyExport_kept {s : State} (h : s.Kept c q p) (x0 x1 x2) : Keeps c q p (execKeyExport x0 x1 x2 s) := by
  simp +contextual (maxDischargeDepth := 100) only [execKeyExport, State.ite_kept, State.iteFst_kept, ite_self, implies_true,
      ite_keeps, next_keeps, answer_keeps, State.keyCmd_kept, State.exportKey_kept, h]

theorem State.commitKey_kept {s : State} (h : s.Kept c q p) (x1) : (State.commitKey s x1).Kept c q p := by
  simp +contextual (maxDischargeDepth := 100) only [State.commitKey, State.ite_kept, ite_self, State.keyStart_kept, h]

theorem execKeyCommit_kept {s : State} (h : s.Kept c q p) (x0 x1 x2) : Keeps c q p (execKeyCommit x0 x1 x2 s) := by
  simp +contextual (maxDischargeDepth := 100) only [execKeyCommit, State.ite_kept, State.iteFst_kept, ite_self, implies_true,
      ite_keeps, next_keeps, answer_keeps, State.keyCmd_kept, State.commitKey_kept, h]

theorem execKeyDiscard_kept {s : State} (h : s.Kept c q p) (x0 x1 x2) : Keeps c q p (execKeyDiscard x0 x1 x2 s) := by
  simp +contextual (maxDischargeDepth := 100) only [execKeyDiscard, State.ite_kept, State.iteFst_kept, ite_self, implies_true,
      ite_keeps, next_keeps, answer_keeps, State.keyCmd_kept, State.keyStart_kept, State.setKeySlot_kept, h]

theorem State.invalidateKey_kept {s : State} (h : s.Kept c q p) (x1) : (State.invalidateKey s x1).Kept c q p := by
  simp +contextual (maxDischargeDepth := 100) only [State.invalidateKey, State.ite_kept, ite_self, State.keyStart_kept, h]

theorem execKeyInvalidate_kept {s : State} (h : s.Kept c q p) (x0 x1 x2) : Keeps c q p (execKeyInvalidate x0 x1 x2 s) := by
  simp +contextual (maxDischargeDepth := 100) only [execKeyInvalidate, State.ite_kept, State.iteFst_kept, ite_self,
      implies_true, ite_keeps, next_keeps, answer_keeps, State.keyCmd_kept, State.invalidateKey_kept, h]

theorem State.restoreKey_kept {s : State} (h : s.Kept c q p) (x1) : (State.restoreKey s x1).Kept c q p := by
  simp +contextual (maxDischargeDepth := 100) only [State.restoreKey, State.ite_kept, ite_self, State.keyStart_kept,
      State.setKeySlot_kept, h]

theorem execKeyRestore_kept {s : State} (h : s.Kept c q p) (x0 x1 x2) : Keeps c q p (execKeyRestore x0 x1 x2 s) := by
  simp +contextual (maxDischargeDepth := 100) only [execKeyRestore, State.ite_kept, State.iteFst_kept, ite_self, implies_true,
      ite_keeps, next_keeps, answer_keeps, State.keyCmd_kept, State.restoreKey_kept, h]

theorem State.loadPub_kept {s : State} (h : s.Kept c q p) (x1) : (State.loadPub s x1).Kept c q p := by
  simp +contextual (maxDischargeDepth := 100) only [State.loadPub, State.keyStart_kept, State.keyPend_kept, h]

theorem execKeyLoadPub_kept {s : State} (h : s.Kept c q p) (x0 x1 x2) : Keeps c q p (execKeyLoadPub x0 x1 x2 s) := by
  simp +contextual (maxDischargeDepth := 100) only [execKeyLoadPub, State.ite_kept, State.iteFst_kept, ite_self, implies_true,
      ite_keeps, next_keeps, answer_keeps, State.keyTarget_kept, State.loadPub_kept, h]

theorem execKeyReservedOp_kept {s : State} (h : s.Kept c q p) (x0 x1) : Keeps c q p (execKeyReservedOp x0 x1 s) := by
  simp +contextual (maxDischargeDepth := 100) only [execKeyReservedOp, State.ite_kept, State.iteFst_kept, ite_self,
      implies_true, ite_keeps, next_keeps, answer_keeps, State.keyCmd_kept, State.keyStart_kept, h]

theorem State.journalWrite_kept {s : State} (h : s.Kept c q p) (x1) : (State.journalWrite s x1).Kept c q p := by
  simp +contextual (maxDischargeDepth := 100) only [State.journalWrite, State.setKey_kept, State.wrN_kept, h]

theorem State.commitDoneKey_kept {s : State} (h : s.Kept c q p) (x1 x2) : (State.commitDoneKey s x1 x2).Kept c q p := by
  simp +contextual (maxDischargeDepth := 100) only [State.commitDoneKey, State.journalWrite_kept, State.setKeySlot_kept,
      State.orphanAll_kept, State.setKeyGen_kept, h]

theorem State.invalidateDone_kept {s : State} (h : s.Kept c q p) (x1) : (State.invalidateDone s x1).Kept c q p := by
  simp +contextual (maxDischargeDepth := 100) only [State.invalidateDone, State.ite_kept, ite_self, State.journalWrite_kept,
      State.orphanAll_kept, State.setKeyGen_kept, State.keyEmpty_kept, h]

theorem State.keyJournalled_kept {s : State} (h : s.Kept c q p) (x1 x2) : (State.keyJournalled s x1 x2).1.Kept c q p := by
  unfold State.keyJournalled
  dsimp only
  repeat' first
    | (simp +contextual (maxDischargeDepth := 100) only [State.ite_kept, State.iteFst_kept, ite_self, implies_true,
        State.raise_kept, State.commitDoneKey_kept, State.invalidateDone_kept, h]; done)
    | split

theorem State.keyShutAll_kept {s : State} (h : s.Kept c q p) : (State.keyShutAll s).Kept c q p := by
  simp +contextual (maxDischargeDepth := 100) only [State.keyShutAll, State.setKey_kept, h]

theorem State.debugLevel_kept {s : State} (h : s.Kept c q p) (x1) : (State.debugLevel s x1).Kept c q p := by
  simp +contextual (maxDischargeDepth := 100) only [State.debugLevel, State.ite_kept, State.iteFst_kept, ite_self,
      implies_true, State.keyShutAll_kept, State.setKey_kept, State.raise_kept, State.put_kept, h]

theorem State.setDebug_kept {s : State} (h : s.Kept c q p) (x1) : (State.setDebug s x1).Kept c q p := by
  simp +contextual (maxDischargeDepth := 100) only [State.setDebug, State.ite_kept, ite_self, State.setKey_kept,
      State.debugLevel_kept, h]

theorem State.debugFollow_kept {s : State} (h : s.Kept c q p) : (State.debugFollow s).Kept c q p := by
  simp +contextual (maxDischargeDepth := 100) only [State.debugFollow, State.ite_kept, State.iteFst_kept, ite_self,
      implies_true, State.debugLevel_kept, h]

theorem State.keyFinish_kept {s : State} (h : s.Kept c q p) (x1 x2) : (State.keyFinish s x1 x2).Kept c q p := by
  simp +contextual (maxDischargeDepth := 100) only [State.keyFinish, State.setKey_kept, State.debugFollow_kept,
      State.raise_kept, State.wrN_kept, h]

theorem State.keyComplete_kept {s : State} (h : s.Kept c q p) (x1) : (State.keyComplete s x1).Kept c q p := by
  unfold State.keyComplete
  repeat' first
    | (simp +contextual (maxDischargeDepth := 100) only [State.ite_kept, State.iteFst_kept, ite_self, implies_true,
        State.keyFinish_kept, State.keyJournalled_kept, h]; done)
    | split

theorem execKeyCmdComplete_kept {s : State} (h : s.Kept c q p) (x0) : Keeps c q p (execKeyCmdComplete x0 s) := by
  simp +contextual (maxDischargeDepth := 100) only [execKeyCmdComplete, State.ite_kept, State.iteFst_kept, ite_self,
      implies_true, ite_keeps, next_keeps, answer_keeps, State.keyComplete_kept, h]

theorem State.glazeFault_kept {s : State} (h : s.Kept c q p) (x1) : (State.glazeFault s x1).Kept c q p := by
  simp +contextual (maxDischargeDepth := 100) only [State.glazeFault, State.ite_kept, ite_self, State.raise_kept,
      State.keyEmpty_kept, h]

theorem State.glaze_kept {s : State} (h : s.Kept c q p) (x1) : (State.glaze s x1).Kept c q p := by
  simp +contextual (maxDischargeDepth := 100) only [State.glaze, State.each_kept, implies_true, State.injStep_kept,
      State.glazeFault_kept, State.wrN_kept, h]

theorem execGlazeCycle_kept {s : State} (h : s.Kept c q p) (x0) : Keeps c q p (execGlazeCycle x0 s) := by
  simp +contextual (maxDischargeDepth := 100) only [execGlazeCycle, State.ite_kept, State.iteFst_kept, ite_self, implies_true,
      ite_keeps, next_keeps, answer_keeps, State.glaze_kept, h]

theorem State.keySrst_kept {s : State} (h : s.Kept c q p) : (State.keySrst s).Kept c q p := by
  simp +contextual (maxDischargeDepth := 100) only [State.keySrst, State.wr_kept, State.each_kept, implies_true,
      State.setKey_kept, h]

theorem State.keyClearD_kept {s : State} (h : s.Kept c q p) : (State.keyClearD s).Kept c q p := by
  simp +contextual (maxDischargeDepth := 100) only [State.keyClearD, State.setKey_kept, h]

theorem State.dramRead_kept {s : State} (h : s.Kept c q p) (x1 x2) : (State.dramRead s x1 x2).1.Kept c q p := by
  simp +contextual (maxDischargeDepth := 100) only [State.dramRead, State.when_kept, State.iteFst_kept, ite_self,
      implies_true, State.injStep_kept, State.raise_kept, State.count_kept, State.wr64_kept, h]

theorem State.lifeFlushLs_kept {s : State} (h : s.Kept c q p) (x1) : (State.lifeFlushLs s x1).Kept c q p := by
  simp +contextual (maxDischargeDepth := 100) only [State.lifeFlushLs, State.upd_kept, h]

theorem State.lifeFlushLink_kept {s : State} (h : s.Kept c q p) (x1) : (State.lifeFlushLink s x1).Kept c q p := by
  simp +contextual (maxDischargeDepth := 100) only [State.lifeFlushLink, State.upd_kept, h]

theorem State.lifeLastSec_kept {s : State} (h : s.Kept c q p) : (State.lifeLastSec s).Kept c q p := by
  simp +contextual (maxDischargeDepth := 100) only [State.lifeLastSec, State.when_kept, implies_true, State.wr64_kept, h]

theorem execLifeTotalsFlush_kept {s : State} (h : s.Kept c q p) : Keeps c q p (execLifeTotalsFlush s) := by
  simp +contextual (maxDischargeDepth := 100) only [execLifeTotalsFlush, State.each_kept, State.when_kept, State.upd_kept,
      State.updDma_kept, State.ite_kept, State.iteFst_kept, ite_self, implies_true, ite_keeps, next_keeps, answer_keeps,
      State.wr64_kept, State.lifeFlushCh_kept, State.lifeFlushLs_kept, h]

theorem execLifeHourlyFlush_kept {s : State} (h : s.Kept c q p) : Keeps c q p (execLifeHourlyFlush s) := by
  simp +contextual (maxDischargeDepth := 100) only [execLifeHourlyFlush, State.each_kept, State.ite_kept, State.iteFst_kept,
      ite_self, implies_true, ite_keeps, next_keeps, answer_keeps, State.lifeLastSec_kept, State.lifeFlushLink_kept, h]

theorem State.lifeErrors_kept {s : State} (h : s.Kept c q p) (x1 x2) : (State.lifeErrors s x1 x2).Kept c q p := by
  simp +contextual (maxDischargeDepth := 100) only [State.lifeErrors, State.when_kept, implies_true, State.raise_kept,
      State.count_kept, h]

theorem State.lifeReadEcc_kept {s : State} (h : s.Kept c q p) (x1 x2) : (State.lifeReadEcc s x1 x2).Kept c q p := by
  simp +contextual (maxDischargeDepth := 100) only [State.lifeReadEcc, State.lifeErrors_kept, State.injStep_kept, h]

theorem execLifeScrub_kept {s : State} (h : s.Kept c q p) (x0 x1) : Keeps c q p (execLifeScrub x0 x1 s) := by
  simp +contextual (maxDischargeDepth := 100) only [execLifeScrub, State.ite_kept, State.iteFst_kept, ite_self, implies_true,
      ite_keeps, next_keeps, answer_keeps, State.lifeReadEcc_kept, h]

theorem execJournalCompactionStart_kept {s : State} (h : s.Kept c q p) (x0) : Keeps c q p (execJournalCompactionStart x0 s) := by
  simp +contextual (maxDischargeDepth := 100) only [execJournalCompactionStart, State.upd_kept, State.updDma_kept,
      State.ite_kept, State.iteFst_kept, ite_self, implies_true, ite_keeps, next_keeps, answer_keeps, State.setBit_kept, h]

theorem execJournalCompactionEnd_kept {s : State} (h : s.Kept c q p) (x0) : Keeps c q p (execJournalCompactionEnd x0 s) := by
  simp +contextual (maxDischargeDepth := 100) only [execJournalCompactionEnd, State.upd_kept, State.updDma_kept,
      State.ite_kept, State.iteFst_kept, ite_self, implies_true, ite_keeps, next_keeps, answer_keeps, State.raise_kept,
      State.setBit_kept, h]

theorem State.leapWrite_kept {s : State} (h : s.Kept c q p) : (State.leapWrite s).Kept c q p := by
  simp +contextual (maxDischargeDepth := 100) only [State.leapWrite, State.upd_kept, State.ite_kept, ite_self,
      State.raise_kept, h]

theorem execLeapWrite_kept {s : State} (h : s.Kept c q p) : Keeps c q p (execLeapWrite s) := by
  simp +contextual (maxDischargeDepth := 100) only [execLeapWrite, State.ite_kept, State.iteFst_kept, ite_self, implies_true,
      ite_keeps, next_keeps, answer_keeps, State.leapWrite_kept, h]

theorem execLeapRead_kept {s : State} (h : s.Kept c q p) : Keeps c q p (execLeapRead s) := by
  simp +contextual (maxDischargeDepth := 100) only [execLeapRead, State.ite_kept, State.iteFst_kept, ite_self, implies_true,
      ite_keeps, next_keeps, answer_keeps, State.wrN_kept, State.wr64_kept, h]

theorem execLeapClear_kept {s : State} (h : s.Kept c q p) : Keeps c q p (execLeapClear s) := by
  simp +contextual (maxDischargeDepth := 100) only [execLeapClear, State.upd_kept, State.updDma_kept, State.ite_kept,
      State.iteFst_kept, ite_self, implies_true, ite_keeps, next_keeps, answer_keeps, h]

theorem execCrumbAreaWrite_kept {s : State} (h : s.Kept c q p) (x0 x1) : Keeps c q p (execCrumbAreaWrite x0 x1 s) := by
  simp +contextual (maxDischargeDepth := 100) only [execCrumbAreaWrite, State.wr_kept, State.ite_kept, State.iteFst_kept,
      ite_self, implies_true, ite_keeps, next_keeps, answer_keeps, State.raise_kept, h]

theorem State.lifeWin_kept {s : State} (h : s.Kept c q p) : (State.lifeWin s).Kept c q p := by
  simp +contextual (maxDischargeDepth := 100) only [State.lifeWin, State.wr_kept, State.ite_kept, State.iteFst_kept, ite_self,
      implies_true, State.useFree_kept, State.lifeReadEcc_kept, State.wrN_kept, h]

theorem execLifeWinRead_kept {s : State} (h : s.Kept c q p) : Keeps c q p (execLifeWinRead s) := by
  simp +contextual (maxDischargeDepth := 100) only [execLifeWinRead, State.ite_kept, State.iteFst_kept, ite_self,
      implies_true, ite_keeps, next_keeps, answer_keeps, State.lifeWin_kept, h]

theorem State.cqWrite_kept {s : State} (h : s.Kept c q p) (x1 x2 x3) : (State.cqWrite s x1 x2 x3).Kept c q p := by
  unfold State.cqWrite
  repeat' first
    | (simp +contextual (maxDischargeDepth := 100) only [State.ite_kept, State.iteFst_kept, ite_self, implies_true,
        State.modSeat_kept, State.queueWrite_kept, h]; done)
    | split

theorem State.cqPost_kept {s : State} (h : s.Kept c q p) (x1 x2 x3) : (State.cqPost s x1 x2 x3).Kept c q p := by
  unfold State.cqPost
  repeat' first
    | (simp +contextual (maxDischargeDepth := 100) only [State.ite_kept, State.iteFst_kept, ite_self, implies_true,
        State.cqWrite_kept, State.modSeat_kept, h]; done)
    | split

theorem State.cqDrain_kept {s : State} (h : s.Kept c q p) (i cq n : Nat) : (s.cqDrain i cq n).Kept c q p := by
  induction n generalizing s with
  | zero => exact h
  | succ n ih =>
    unfold State.cqDrain
    split
    · exact h
    · split
      · exact h
      · split
        · exact ih (State.cqWrite_kept (State.modSeat_kept h _ _) _ _ _)
        · exact h

theorem State.complete_kept {s : State} (h : s.Kept c q p) (x1 x2 x3 x4 x5 x6) : (State.complete s x1 x2 x3 x4 x5 x6).Kept c q
    p := by
  unfold State.complete
  dsimp only
  repeat' first
    | (simp +contextual (maxDischargeDepth := 100) only [State.ite_kept, State.iteFst_kept, ite_self, implies_true,
        State.modSeat_kept, State.count_kept, State.cqPost_kept, h]; done)
    | split

theorem State.chanServed_kept {s : State} (h : s.Kept c q p) (x1 x2 x3 x4 x5) : (State.chanServed s x1 x2 x3 x4 x5).Kept c q p
    := by
  unfold State.chanServed
  repeat' first
    | (simp +contextual (maxDischargeDepth := 100) only [State.ite_kept, State.iteFst_kept, ite_self, implies_true,
        State.complete_kept, State.modSeat_kept, h]; done)
    | split

theorem State.regWrFollow_kept {s : State} (h : s.Kept c q p) : (State.regWrFollow s).Kept c q p := by
  simp +contextual (maxDischargeDepth := 100) only [State.regWrFollow, State.each_kept, State.when_kept, implies_true,
      State.complete_kept, h]

theorem State.modRing_kept {s : State} (h : s.Kept c q p) (x1 x2 x3) : (State.modRing s x1 x2 x3).Kept c q p := by
  simp +contextual (maxDischargeDepth := 100) only [State.modRing, State.modSeat_kept, h]

theorem State.stageCount_kept {s : State} (h : s.Kept c q p) : (State.stageCount s).Kept c q p := by
  simp +contextual (maxDischargeDepth := 100) only [State.stageCount, State.when_kept, implies_true, State.wrN_kept,
      State.raise_kept, h]

theorem State.loseRecord_kept {s : State} (h : s.Kept c q p) (x1) : (State.loseRecord s x1).Kept c q p := by
  simp +contextual (maxDischargeDepth := 100) only [State.loseRecord, State.modRing_kept, State.modCh_kept, State.raise_kept, h]

theorem State.stageTrim_kept {s : State} (h : s.Kept c q p) : (State.stageTrim s).Kept c q p := by
  unfold State.stageTrim
  repeat' first
    | (simp +contextual (maxDischargeDepth := 100) only [State.upd_kept, State.updDma_kept, State.ite_kept, State.iteFst_kept,
        ite_self, implies_true, State.loseRecord_kept, h]; done)
    | split

theorem State.stageOne_kept {s : State} (h : s.Kept c q p) (x1) : (State.stageOne s x1).Kept c q p := by
  simp +contextual (maxDischargeDepth := 100) only [State.stageOne, State.upd_kept, State.stageCount_kept,
      State.stageTrim_kept, h]

theorem State.stageStartRec_kept {s : State} (h : s.Kept c q p) : (State.stageStartRec s).Kept c q p := by
  simp +contextual (maxDischargeDepth := 100) only [State.stageStartRec, State.each_kept, State.upd_kept, State.updDma_kept,
      State.ite_kept, State.iteFst_kept, ite_self, implies_true, State.stageCount_kept, State.stageTrim_kept, h]

theorem State.flushLoss_kept {s : State} (h : s.Kept c q p) (x1) : (State.flushLoss s x1).Kept c q p := by
  unfold State.flushLoss
  repeat' first
    | (simp +contextual (maxDischargeDepth := 100) only [State.ite_kept, State.iteFst_kept, ite_self, implies_true,
        State.modCh_kept, State.stageOne_kept, h]; done)
    | split

theorem State.genRecord_kept {s : State} (h : s.Kept c q p) (x1) : (State.genRecord s x1).Kept c q p := by
  simp +contextual (maxDischargeDepth := 100) only [State.genRecord, State.stageOne_kept, State.flushLoss_kept, h]

theorem State.genEvent_kept {s : State} (h : s.Kept c q p) (x1 x2 x3 x4 x5 x6) : (State.genEvent s x1 x2 x3 x4 x5 x6).Kept c q
    p := by
  simp +contextual (maxDischargeDepth := 100) only [State.genEvent, State.genRecord_kept, h]

theorem State.setRing_kept {s : State} (h : s.Kept c q p) (x1 x2 x3) : (State.setRing s x1 x2 x3).Kept c q p := by
  simp +contextual (maxDischargeDepth := 100) only [State.setRing, State.when_kept, State.ite_kept, ite_self, implies_true,
      State.modRing_kept, State.raise_kept, State.seatEvent_kept, h]

theorem State.ringsFollow_kept {s : State} (h : s.Kept c q p) (x1) : (State.ringsFollow s x1).Kept c q p := by
  simp +contextual (maxDischargeDepth := 100) only [State.ringsFollow, State.each_kept, implies_true, State.setRing_kept, h]

theorem State.setTlb_kept {s : State} (h : s.Kept c q p) (x1) : (State.setTlb s x1).Kept c q p := by
  simp +contextual (maxDischargeDepth := 100) only [State.setTlb, State.setDma_kept, State.put_kept, h]

theorem State.tlbAdd_kept {s : State} (h : s.Kept c q p) (x1) : (State.tlbAdd s x1).Kept c q p := by
  simp +contextual (maxDischargeDepth := 100) only [State.tlbAdd, State.setTlb_kept, h]

theorem State.tlbDrop_kept {s : State} (h : s.Kept c q p) (x1) : (State.tlbDrop s x1).Kept c q p := by
  simp +contextual (maxDischargeDepth := 100) only [State.tlbDrop, State.setTlb_kept, h]

theorem State.tableWord_kept {s : State} (h : s.Kept c q p) (x1 x2 x3) : (State.tableWord s x1 x2 x3).1.Kept c q p := by
  simp +contextual (maxDischargeDepth := 100) only [State.tableWord, State.iteFst_kept, ite_self, State.dramRead_kept, h]

theorem State.walk_kept {s : State} (h : s.Kept c q p) (x1 x2 x3 x4 x5 x6) : (State.walk s x1 x2 x3 x4 x5 x6).1.Kept c q p := by
  induction x4 generalizing s x5 x6 with
  | zero =>
    have hr := State.tableWord_kept h x1 x5 (x6 + 8 * (x3 / 2 ^ 12 % 512))
    unfold State.walk
    dsimp only
    repeat' split
    all_goals exact hr
  | succ k ih =>
    have hr := State.tableWord_kept h x1 x5 (x6 + 8 * (x3 / 2 ^ (12 + 9 * (k + 1)) % 512))
    unfold State.walk
    dsimp only
    repeat' split
    all_goals first | exact hr | exact ih hr _ _

theorem State.walkUse_kept {s : State} (h : s.Kept c q p) (x1 x2 x3 x4 x5) : (State.walkUse s x1 x2 x3 x4 x5).1.Kept c q p := by
  unfold State.walkUse
  dsimp only
  repeat' first
    | (simp +contextual (maxDischargeDepth := 100) only [State.ite_kept, State.iteFst_kept, ite_self, implies_true,
        State.walk_kept, State.count_kept, State.tlbAdd_kept, h]; done)
    | split

theorem State.translateBy_kept {s : State} (h : s.Kept c q p) (x1 x2 x3 x4) : (State.translateBy s x1 x2 x3 x4).1.Kept c q p := by
  unfold State.translateBy
  repeat' first
    | (simp +contextual (maxDischargeDepth := 100) only [State.ite_kept, State.iteFst_kept, ite_self, implies_true,
        State.walkUse_kept, State.injStep_kept, State.count_kept, State.setTlb_kept, h]; done)
    | split

theorem State.translate_kept {s : State} (h : s.Kept c q p) (x1 x2 x3 x4) : (State.translate s x1 x2 x3 x4).1.Kept c q p := by
  unfold State.translate
  repeat' first
    | (simp +contextual (maxDischargeDepth := 100) only [State.ite_kept, State.iteFst_kept, ite_self, implies_true,
        State.translateBy_kept, h]; done)
    | split

theorem State.smuFault_kept {s : State} (h : s.Kept c q p) (x1 x2 x3) : (State.smuFault s x1 x2 x3).Kept c q p := by
  simp +contextual (maxDischargeDepth := 100) only [State.smuFault, State.setDma_kept, State.ite_kept, ite_self,
      State.count_kept, State.raise_kept, h]

theorem State.putSeatBit_kept {s : State} (h : s.Kept c q p) (x1 x2 x3 x4) : (State.putSeatBit s x1 x2 x3 x4).Kept c q p := by
  simp +contextual (maxDischargeDepth := 100) only [State.putSeatBit, State.ite_kept, ite_self, State.setBit_kept, h]

theorem State.suspFollow_kept {s : State} (h : s.Kept c q p) (x1) : (State.suspFollow s x1).Kept c q p := by
  simp +contextual (maxDischargeDepth := 100) only [State.suspFollow, State.putSeatBit_kept, h]

theorem State.xlatWrite_kept {s : State} (h : s.Kept c q p) (x1 x2 x3) : (State.xlatWrite s x1 x2 x3).Kept c q p := by
  simp +contextual (maxDischargeDepth := 100) only [State.xlatWrite, State.dramWrite_kept, State.ite_kept, State.iteFst_kept,
      ite_self, implies_true, State.send_kept, h]

theorem execFaultLogRead_kept {s : State} (h : s.Kept c q p) : Keeps c q p (execFaultLogRead s) := by
  unfold execFaultLogRead
  repeat' first
    | (simp +contextual (maxDischargeDepth := 100) only [State.wr_kept, State.setDma_kept, State.ite_kept, State.iteFst_kept,
        ite_self, implies_true, ite_keeps, next_keeps, answer_keeps, State.wr64_kept, h]; done)
    | split

theorem State.setXfer_kept {s : State} (h : s.Kept c q p) (x1 x2) : (State.setXfer s x1 x2).Kept c q p := by
  simp +contextual (maxDischargeDepth := 100) only [State.setXfer, State.setDma_kept, h]

theorem State.dropXfer_kept {s : State} (h : s.Kept c q p) (x1) : (State.dropXfer s x1).Kept c q p := by
  simp +contextual (maxDischargeDepth := 100) only [State.dropXfer, State.setDma_kept, h]

theorem State.engineIdle_kept {s : State} (h : s.Kept c q p) (x1) : (State.engineIdle s x1).Kept c q p := by
  simp +contextual (maxDischargeDepth := 100) only [State.engineIdle, State.wr_kept, State.setDma_kept, h]

theorem State.abandon_kept {s : State} (h : s.Kept c q p) (x1 x2) : (State.abandon s x1 x2).Kept c q p := by
  unfold State.abandon
  dsimp only
  repeat' first
    | (simp +contextual (maxDischargeDepth := 100) only [State.upd_kept, State.updDma_kept, State.ite_kept, State.iteFst_kept,
        ite_self, implies_true, State.raise_kept, State.count_kept, State.engineIdle_kept, State.setXfer_kept, h]; done)
    | split

theorem State.holdXfers_kept {s : State} (h : s.Kept c q p) (x1) : (State.holdXfers s x1).Kept c q p := by
  simp +contextual (maxDischargeDepth := 100) only [State.holdXfers, State.each_kept, implies_true, State.abandon_kept, h]

theorem State.freeHeld_kept {s : State} (h : s.Kept c q p) (x1) : (State.freeHeld s x1).Kept c q p := by
  simp +contextual (maxDischargeDepth := 100) only [State.freeHeld, State.setDma_kept, h]

theorem State.dropXfers_kept {s : State} (h : s.Kept c q p) (x1) : (State.dropXfers s x1).Kept c q p := by
  simp +contextual (maxDischargeDepth := 100) only [State.dropXfers, State.setDma_kept, State.suspFollow_kept, h]

theorem State.abortXfer_kept {s : State} (h : s.Kept c q p) (x1) : (State.abortXfer s x1).Kept c q p := by
  unfold State.abortXfer
  repeat' first
    | (simp +contextual (maxDischargeDepth := 100) only [State.ite_kept, State.iteFst_kept, ite_self, implies_true,
        State.complete_kept, State.dropXfer_kept, h]; done)
    | split

end Sys2Proof.Machine
end

