-- ==== Sys2Proof/Laws/KeptB.lean ====
section
/-!
SUPPORT. What the operations of these files of the model keep: Channel, Sweep, Crew, FieldDie, Sequencer, Control, ChanOps.
-/
namespace Sys2Proof.Machine
set_option linter.all false
variable {c : Prop} {q : List Instr} {p : Part}

theorem State.channelEvent_kept {s : State} (h : s.Kept c q p) (x1) : (State.channelEvent s x1).Kept c q p := by
  simp +contextual (maxDischargeDepth := 100) only [State.channelEvent, State.ite_kept, ite_self, State.postEvent_kept, h]

theorem State.withdraw_kept {s : State} (h : s.Kept c q p) (x1) : (State.withdraw s x1).Kept c q p := by
  simp +contextual (maxDischargeDepth := 100) only [State.withdraw, State.upd_kept, h]

theorem State.setChState_kept {s : State} (h : s.Kept c q p) (x1 x2) : (State.setChState s x1 x2).Kept c q p := by
  simp +contextual (maxDischargeDepth := 100) only [State.setChState, State.when_kept, State.ite_kept, ite_self, implies_true,
      State.put_kept, State.setBit_kept, State.withdraw_kept, State.raise_kept, State.channelEvent_kept, State.wakeSelf_kept, h]

theorem State.releaseSweep_kept {s : State} (h : s.Kept c q p) (x1 x2) : (State.releaseSweep s x1 x2).Kept c q p := by
  simp +contextual (maxDischargeDepth := 100) only [State.releaseSweep, State.upd_kept, State.ite_kept, ite_self,
      State.modEis_kept, h]

theorem State.stopTrend_kept {s : State} (h : s.Kept c q p) (x1 x2) : (State.stopTrend s x1 x2).Kept c q p := by
  simp +contextual (maxDischargeDepth := 100) only [State.stopTrend, State.modTrend_kept, h]

theorem State.endStep_kept {s : State} (h : s.Kept c q p) (x1 x2 x3 x4 x5) : (State.endStep s x1 x2 x3 x4 x5).Kept c q p := by
  simp +contextual (maxDischargeDepth := 100) only [State.endStep, State.ite_kept, ite_self, State.genRecord_kept,
      State.put_kept, State.modProg_kept, State.wakeSelf_kept, State.lifeFlushCh_kept, State.stopTrend_kept,
      State.releaseSweep_kept, h]

theorem State.tripEvent_kept {s : State} (h : s.Kept c q p) (x1 x2) : (State.tripEvent s x1 x2).Kept c q p := by
  simp +contextual (maxDischargeDepth := 100) only [State.tripEvent, State.genEvent_kept, h]

theorem State.zeroDemand_kept {s : State} (h : s.Kept c q p) (x1) : (State.zeroDemand s x1).Kept c q p := by
  simp +contextual (maxDischargeDepth := 100) only [State.zeroDemand, State.modCtl_kept, h]

theorem State.tripCh_kept {s : State} (h : s.Kept c q p) (x1 x2 x3 x4 x5) : (State.tripCh s x1 x2 x3 x4 x5).Kept c q p := by
  simp +contextual (maxDischargeDepth := 100) only [State.tripCh, State.ite_kept, ite_self, State.count_kept, State.put_kept,
      State.setBit_kept, State.setChState_kept, State.tripEvent_kept, State.endStep_kept, State.zeroDemand_kept,
      State.stopTrend_kept, h]

theorem State.tripAt_kept {s : State} (h : s.Kept c q p) (x1 x2 x3 x4) : (State.tripAt s x1 x2 x3 x4).Kept c q p := by
  simp +contextual (maxDischargeDepth := 100) only [State.tripAt, State.tripCh_kept, h]

theorem State.tripNow_kept {s : State} (h : s.Kept c q p) (x1 x2 x3) : (State.tripNow s x1 x2 x3).Kept c q p := by
  simp +contextual (maxDischargeDepth := 100) only [State.tripNow, State.tripCh_kept, h]

theorem State.safeAll_kept {s : State} (h : s.Kept c q p) (x1 x2) : (State.safeAll s x1 x2).Kept c q p := by
  simp +contextual (maxDischargeDepth := 100) only [State.safeAll, State.each_kept, implies_true, State.tripNow_kept, h]

theorem State.forceFrom_kept {s : State} (h : s.Kept c q p) (x1 x2) : (State.forceFrom s x1 x2).Kept c q p := by
  simp +contextual (maxDischargeDepth := 100) only [State.forceFrom, State.modCtl_kept, h]

theorem State.releaseSlot_kept {s : State} (h : s.Kept c q p) (x1) : (State.releaseSlot s x1).Kept c q p := by
  unfold State.releaseSlot
  repeat' first
    | (simp +contextual (maxDischargeDepth := 100) only [State.upd_kept, State.updDma_kept, State.ite_kept, State.iteFst_kept,
        ite_self, implies_true, State.modProg_kept, h]; done)
    | split

theorem State.enterIdle_kept {s : State} (h : s.Kept c q p) (x1) : (State.enterIdle s x1).Kept c q p := by
  simp +contextual (maxDischargeDepth := 100) only [State.enterIdle, State.setChState_kept, State.releaseSlot_kept,
      State.lifeFlushCh_kept, State.modProg_kept, State.put_kept, State.modCtl_kept, h]

theorem State.setSweep_kept {s : State} (h : s.Kept c q p) (x1 x2) : (State.setSweep s x1 x2).Kept c q p := by
  simp +contextual (maxDischargeDepth := 100) only [State.setSweep, State.upd_kept, h]

theorem State.startSweep_kept {s : State} (h : s.Kept c q p) (x1 x2 x3) : (State.startSweep s x1 x2 x3).Kept c q p := by
  simp +contextual (maxDischargeDepth := 100) only [State.startSweep, State.setSweep_kept, State.modEis_kept, h]

theorem State.pauseSweep_kept {s : State} (h : s.Kept c q p) (x1) : (State.pauseSweep s x1).Kept c q p := by
  simp +contextual (maxDischargeDepth := 100) only [State.pauseSweep, State.ite_kept, ite_self, State.modEis_kept, h]

theorem State.resumeSweep_kept {s : State} (h : s.Kept c q p) (x1 x2 x3) : (State.resumeSweep s x1 x2 x3).Kept c q p := by
  simp +contextual (maxDischargeDepth := 100) only [State.resumeSweep, State.ite_kept, ite_self, State.modEis_kept, h]

theorem State.setCrew_kept {s : State} (h : s.Kept c q p) (x1 x2) : (State.setCrew s x1 x2).Kept c q p := by
  simp +contextual (maxDischargeDepth := 100) only [State.setCrew, State.upd_kept, h]

theorem State.modCrew_kept {s : State} (h : s.Kept c q p) (x1 x2) : (State.modCrew s x1 x2).Kept c q p := by
  simp +contextual (maxDischargeDepth := 100) only [State.modCrew, State.setCrew_kept, h]

theorem State.modCoord_kept {s : State} (h : s.Kept c q p) (x1 x2) : (State.modCoord s x1 x2).Kept c q p := by
  simp +contextual (maxDischargeDepth := 100) only [State.modCoord, State.upd_kept, h]

theorem State.registerDev_kept {s : State} (h : s.Kept c q p) (x1 x2 x3) : (State.registerDev s x1 x2 x3).Kept c q p := by
  simp +contextual (maxDischargeDepth := 100) only [State.registerDev, State.modCoord_kept, h]

theorem State.freeMembers_kept {s : State} (h : s.Kept c q p) (x1 x2) : (State.freeMembers s x1 x2).Kept c q p := by
  simp +contextual (maxDischargeDepth := 100) only [State.freeMembers, State.each_kept, State.when_kept, State.ite_kept,
      ite_self, implies_true, State.modProg_kept, State.genEvent_kept, State.modCrew_kept, State.raise_kept, State.count_kept,
      State.capture_kept, h]

theorem State.releaseRx_kept {s : State} (h : s.Kept c q p) (x1 x2 x3) : (State.releaseRx s x1 x2 x3).Kept c q p := by
  simp +contextual (maxDischargeDepth := 100) only [State.releaseRx, State.each_kept, State.ite_kept, ite_self, implies_true,
      State.modCrew_kept, State.freeMembers_kept, h]

theorem State.decideRelease_kept {s : State} (h : s.Kept c q p) (x1) : (State.decideRelease s x1).Kept c q p := by
  unfold State.decideRelease
  repeat' first
    | (simp +contextual (maxDischargeDepth := 100) only [State.each_kept, State.ite_kept, State.iteFst_kept, ite_self,
        implies_true, State.sendCrew_kept, State.modCoord_kept, State.releaseRx_kept, h]; done)
    | split

theorem State.countArrivals_kept {s : State} (h : s.Kept c q p) (x1 x2 x3 x4 x5) : (State.countArrivals s x1 x2 x3 x4 x5).Kept
    c q p := by
  simp +contextual (maxDischargeDepth := 100) only [State.countArrivals, State.modCoord_kept, State.decideRelease_kept, h]

theorem State.reportEntry_kept {s : State} (h : s.Kept c q p) (x1) : (State.reportEntry s x1).Kept c q p := by
  simp +contextual (maxDischargeDepth := 100) only [State.reportEntry, State.ite_kept, ite_self, State.modCrew_kept,
      State.countArrivals_kept, State.sendCrew_kept, h]

theorem State.crewReports_kept {s : State} (h : s.Kept c q p) : (State.crewReports s).Kept c q p := by
  simp +contextual (maxDischargeDepth := 100) only [State.crewReports, State.each_kept, State.ite_kept, ite_self,
      implies_true, State.reportEntry_kept, h]

theorem State.crewStart_kept {s : State} (h : s.Kept c q p) : (State.crewStart s).Kept c q p := by
  simp +contextual (maxDischargeDepth := 100) only [State.crewStart, State.each_kept, State.ite_kept, State.iteFst_kept,
      ite_self, implies_true, State.modCrew_kept, State.freeMembers_kept, State.decideRelease_kept, h]

theorem State.crewDone_kept {s : State} (h : s.Kept c q p) (x1) : (State.crewDone s x1).Kept c q p := by
  simp +contextual (maxDischargeDepth := 100) only [State.crewDone, State.raise_kept, State.put_kept, h]

theorem State.crewCmd_kept {s : State} (h : s.Kept c q p) (x1) (h1 : ∀ (t : State), t.Kept c q p → (x1 t).Kept c q p) :
    (State.crewCmd s x1).Kept c q p := by
  simp +contextual (maxDischargeDepth := 100) only [State.crewCmd, State.ite_kept, ite_self, State.raise_kept,
      State.crewDone_kept, h, h1]

theorem State.crewJoinOp_kept {s : State} (h : s.Kept c q p) (x1) : (State.crewJoinOp s x1).Kept c q p := by
  simp +contextual (maxDischargeDepth := 100) only [State.crewJoinOp, State.ite_kept, ite_self, State.crewDone_kept,
      State.setCrew_kept, h]

theorem State.crewSetmaskOp_kept {s : State} (h : s.Kept c q p) (x1) : (State.crewSetmaskOp s x1).Kept c q p := by
  simp +contextual (maxDischargeDepth := 100) only [State.crewSetmaskOp, State.ite_kept, ite_self, State.crewDone_kept,
      State.modCrew_kept, h]

theorem State.crewSealed_kept {s : State} (h : s.Kept c q p) (x1) : (State.crewSealed s x1).Kept c q p := by
  simp +contextual (maxDischargeDepth := 100) only [State.crewSealed, State.crewDone_kept, State.modCrew_kept, h]

theorem State.crewSealOp_kept {s : State} (h : s.Kept c q p) (x1) : (State.crewSealOp s x1).Kept c q p := by
  simp +contextual (maxDischargeDepth := 100) only [State.crewSealOp, State.ite_kept, ite_self, State.crewDone_kept,
      State.registerDev_kept, State.crewSealed_kept, State.modCrew_kept, State.sendCrew_kept, State.put_kept, h]

theorem State.crewOpenOp_kept {s : State} (h : s.Kept c q p) (x1) : (State.crewOpenOp s x1).Kept c q p := by
  simp +contextual (maxDischargeDepth := 100) only [State.crewOpenOp, State.ite_kept, ite_self, State.crewDone_kept,
      State.registerDev_kept, State.sendCrew_kept, State.modCrew_kept, h]

theorem State.crewLeaveOp_kept {s : State} (h : s.Kept c q p) (x1) : (State.crewLeaveOp s x1).Kept c q p := by
  simp +contextual (maxDischargeDepth := 100) only [State.crewLeaveOp, State.upd_kept, State.ite_kept, ite_self,
      State.crewDone_kept, h]

theorem State.slotState_kept {s : State} (h : s.Kept c q p) (x1 x2) : (State.slotState s x1 x2).Kept c q p := by
  simp +contextual (maxDischargeDepth := 100) only [State.slotState, State.setBit_kept, State.put_kept, h]

theorem State.takeSlot_kept {s : State} (h : s.Kept c q p) (x1 x2 x3) : (State.takeSlot s x1 x2 x3).Kept c q p := by
  simp +contextual (maxDischargeDepth := 100) only [State.takeSlot, State.wrN_kept, State.slotState_kept, h]

theorem State.transMissed_kept {s : State} (h : s.Kept c q p) (x1 x2) : (State.transMissed s x1 x2).Kept c q p := by
  simp +contextual (maxDischargeDepth := 100) only [State.transMissed, State.each_kept, implies_true, State.raise_kept,
      State.count_kept, State.genEvent_kept, h]

theorem State.crewTransOp_kept {s : State} (h : s.Kept c q p) (x1) : (State.crewTransOp s x1).Kept c q p := by
  unfold State.crewTransOp
  repeat' first
    | (simp +contextual (maxDischargeDepth := 100) only [State.each_kept, State.when_kept, State.ite_kept, State.iteFst_kept,
        ite_self, implies_true, State.crewDone_kept, State.modCrew_kept, State.takeSlot_kept, State.sendCrew_kept, h]; done)
    | split

theorem State.transRx_kept {s : State} (h : s.Kept c q p) (x1 x2 x3) : (State.transRx s x1 x2 x3).Kept c q p := by
  unfold State.transRx
  refine State.each_kept h _ _ fun t e ht => ?_
  split
  · exact State.transMissed_kept ht _ _
  · split
    · exact State.transMissed_kept ht _ _
    · exact State.modCrew_kept (State.takeSlot_kept ht _ _ _) _ _

theorem State.transFire_kept {s : State} (h : s.Kept c q p) (x1) : (State.transFire s x1).Kept c q p := by
  unfold State.transFire
  repeat' first
    | assumption
    | (simp +contextual (maxDischargeDepth := 100) only [State.each_kept, State.ite_kept, State.iteFst_kept, ite_self,
        implies_true, State.modCrew_kept, State.modCtl_kept, h]; done)
    | (intro _)
    | with_reducible apply State.each_kept
    | with_reducible apply State.modCrew_kept
    | with_reducible apply State.modCtl_kept
    | split

theorem State.transMiss_kept {s : State} (h : s.Kept c q p) (x1) : (State.transMiss s x1).Kept c q p := by
  unfold State.transMiss
  repeat' first
    | assumption
    | (simp +contextual (maxDischargeDepth := 100) only [State.each_kept, State.ite_kept, State.iteFst_kept, ite_self,
        implies_true, State.transMissed_kept, State.modCrew_kept, h]; done)
    | (intro _)
    | with_reducible apply State.each_kept
    | with_reducible apply State.transMissed_kept
    | with_reducible apply State.modCrew_kept
    | split

theorem State.modRed_kept {s : State} (h : s.Kept c q p) (x1 x2) : (State.modRed s x1 x2).Kept c q p := by
  simp +contextual (maxDischargeDepth := 100) only [State.modRed, State.upd_kept, h]

theorem State.gradeAssign_kept {s : State} (h : s.Kept c q p) (x1 x2) : (State.gradeAssign s x1 x2).Kept c q p := by
  simp +contextual (maxDischargeDepth := 100) only [State.gradeAssign, State.each_kept, implies_true, State.raise_kept,
      State.genRecord_kept, h]

theorem State.writeRanks_kept {s : State} (h : s.Kept c q p) (x1 x2) : (State.writeRanks s x1 x2).Kept c q p := by
  simp +contextual (maxDischargeDepth := 100) only [State.writeRanks, State.each_kept, implies_true, State.modRed_kept,
      State.wrN_kept, h]

theorem State.redKeep_kept {s : State} (h : s.Kept c q p) (x1 x2) : (State.redKeep s x1 x2).Kept c q p := by
  simp +contextual (maxDischargeDepth := 100) only [State.redKeep, State.modRed_kept, h]

theorem State.redEnd_kept {s : State} (h : s.Kept c q p) (x1) : (State.redEnd s x1).Kept c q p := by
  unfold State.redEnd
  dsimp only
  repeat' first
    | (simp +contextual (maxDischargeDepth := 100) only [State.ite_kept, State.iteFst_kept, ite_self, implies_true,
        State.raise_kept, State.modRed_kept, State.gradeAssign_kept, h]; done)
    | split

theorem State.redNext_kept {s : State} (h : s.Kept c q p) (x1 x2 x3) : (State.redNext s x1 x2 x3).Kept c q p := by
  simp +contextual (maxDischargeDepth := 100) only [State.redNext, State.ite_kept, ite_self, State.modRed_kept,
      State.sendCrew_kept, h]

theorem State.redCombine_kept {s : State} (h : s.Kept c q p) (x1 x2) : (State.redCombine s x1 x2).Kept c q p := by
  simp +contextual (maxDischargeDepth := 100) only [State.redCombine, State.each_kept, State.when_kept, implies_true,
      State.sendCrew_kept, State.redKeep_kept, State.writeRanks_kept, h]

theorem State.redFinish_kept {s : State} (h : s.Kept c q p) (x : Nat) (b : Bool) (n : Nat) : (s.redFinish x b n).Kept c q p := by
  induction n generalizing s b with
  | zero => exact h
  | succ n ih =>
    unfold State.redFinish
    dsimp only
    split
    · exact State.redEnd_kept (State.redCombine_kept h _ _) _
    · split
      · exact ih (State.redNext_kept (State.redCombine_kept h _ _) _ _ _) _
      · exact State.redNext_kept (State.redCombine_kept h _ _) _ _ _

theorem State.redResult_kept {s : State} (h : s.Kept c q p) (x1 x2) : (State.redResult s x1 x2).Kept c q p := by
  simp +contextual (maxDischargeDepth := 100) only [State.redResult, State.ite_kept, State.iteFst_kept, ite_self,
      implies_true, State.redKeep_kept, State.raise_kept, State.modRed_kept, h]

theorem State.redCollect_kept {s : State} (h : s.Kept c q p) (x1) : (State.redCollect s x1).Kept c q p := by
  unfold State.redCollect
  dsimp only
  repeat' first
    | (simp +contextual (maxDischargeDepth := 100) only [State.ite_kept, State.iteFst_kept, ite_self, implies_true,
        State.modRed_kept, State.redNext_kept, State.redFinish_kept, h]; done)
    | split

theorem State.redStart_kept {s : State} (h : s.Kept c q p) (x1 x2 x3 x4) : (State.redStart s x1 x2 x3 x4).Kept c q p := by
  unfold State.redStart
  repeat' first
    | (simp +contextual (maxDischargeDepth := 100) only [State.ite_kept, State.iteFst_kept, ite_self, implies_true,
        State.crewDone_kept, State.modRed_kept, State.put_kept, h]; done)
    | split

theorem State.crewInfoOp_kept {s : State} (h : s.Kept c q p) (x1) : (State.crewInfoOp s x1).Kept c q p := by
  simp +contextual (maxDischargeDepth := 100) only [State.crewInfoOp, State.each_kept, implies_true, State.wrN_kept,
      State.crewDone_kept, h]

theorem execCrewNop_kept {s : State} (h : s.Kept c q p) (x0) : Keeps c q p (execCrewNop x0 s) := by
  simp +contextual (maxDischargeDepth := 100) only [execCrewNop, State.ite_kept, State.iteFst_kept, ite_self, implies_true,
      ite_keeps, next_keeps, answer_keeps, State.crewCmd_kept, State.crewDone_kept, h]

theorem execCrewJoin_kept {s : State} (h : s.Kept c q p) (x0) : Keeps c q p (execCrewJoin x0 s) := by
  simp +contextual (maxDischargeDepth := 100) only [execCrewJoin, State.ite_kept, State.iteFst_kept, ite_self, implies_true,
      ite_keeps, next_keeps, answer_keeps, State.crewCmd_kept, State.crewJoinOp_kept, h]

theorem execCrewSetmask_kept {s : State} (h : s.Kept c q p) (x0) : Keeps c q p (execCrewSetmask x0 s) := by
  simp +contextual (maxDischargeDepth := 100) only [execCrewSetmask, State.ite_kept, State.iteFst_kept, ite_self,
      implies_true, ite_keeps, next_keeps, answer_keeps, State.crewCmd_kept, State.crewSetmaskOp_kept, h]

theorem execCrewSeal_kept {s : State} (h : s.Kept c q p) (x0) : Keeps c q p (execCrewSeal x0 s) := by
  simp +contextual (maxDischargeDepth := 100) only [execCrewSeal, State.ite_kept, State.iteFst_kept, ite_self, implies_true,
      ite_keeps, next_keeps, answer_keeps, State.crewCmd_kept, State.crewSealOp_kept, h]

theorem execCrewSealAck_kept {s : State} (h : s.Kept c q p) (x0 x1) : Keeps c q p (execCrewSealAck x0 x1 s) := by
  simp +contextual (maxDischargeDepth := 100) only [execCrewSealAck, State.ite_kept, State.iteFst_kept, ite_self,
      implies_true, ite_keeps, next_keeps, answer_keeps, State.crewSealed_kept, State.modCrew_kept, h]

theorem execCrewSealTimeout_kept {s : State} (h : s.Kept c q p) (x0) : Keeps c q p (execCrewSealTimeout x0 s) := by
  simp +contextual (maxDischargeDepth := 100) only [execCrewSealTimeout, State.ite_kept, State.iteFst_kept, ite_self,
      implies_true, ite_keeps, next_keeps, answer_keeps, State.crewDone_kept, State.modCrew_kept, h]

theorem execCrewOpen_kept {s : State} (h : s.Kept c q p) (x0) : Keeps c q p (execCrewOpen x0 s) := by
  simp +contextual (maxDischargeDepth := 100) only [execCrewOpen, State.ite_kept, State.iteFst_kept, ite_self, implies_true,
      ite_keeps, next_keeps, answer_keeps, State.crewCmd_kept, State.crewOpenOp_kept, h]

theorem execCrewLeave_kept {s : State} (h : s.Kept c q p) (x0) : Keeps c q p (execCrewLeave x0 s) := by
  simp +contextual (maxDischargeDepth := 100) only [execCrewLeave, State.ite_kept, State.iteFst_kept, ite_self, implies_true,
      ite_keeps, next_keeps, answer_keeps, State.crewCmd_kept, State.crewLeaveOp_kept, h]

theorem execCrewTrans_kept {s : State} (h : s.Kept c q p) (x0) : Keeps c q p (execCrewTrans x0 s) := by
  simp +contextual (maxDischargeDepth := 100) only [execCrewTrans, State.ite_kept, State.iteFst_kept, ite_self, implies_true,
      ite_keeps, next_keeps, answer_keeps, State.crewCmd_kept, State.crewTransOp_kept, h]

theorem execCrewReduce_kept {s : State} (h : s.Kept c q p) (x0) : Keeps c q p (execCrewReduce x0 s) := by
  simp +contextual (maxDischargeDepth := 100) only [execCrewReduce, State.ite_kept, State.iteFst_kept, ite_self, implies_true,
      ite_keeps, next_keeps, answer_keeps, State.crewCmd_kept, State.redStart_kept, h]

theorem execCrewGrade_kept {s : State} (h : s.Kept c q p) (x0) : Keeps c q p (execCrewGrade x0 s) := by
  simp +contextual (maxDischargeDepth := 100) only [execCrewGrade, State.ite_kept, State.iteFst_kept, ite_self, implies_true,
      ite_keeps, next_keeps, answer_keeps, State.crewCmd_kept, State.redStart_kept, h]

theorem execCrewInfo_kept {s : State} (h : s.Kept c q p) (x0) : Keeps c q p (execCrewInfo x0 s) := by
  simp +contextual (maxDischargeDepth := 100) only [execCrewInfo, State.ite_kept, State.iteFst_kept, ite_self, implies_true,
      ite_keeps, next_keeps, answer_keeps, State.crewCmd_kept, State.crewInfoOp_kept, h]

theorem execCrewReservedOp_kept {s : State} (h : s.Kept c q p) (x0 x1) : Keeps c q p (execCrewReservedOp x0 x1 s) := by
  simp +contextual (maxDischargeDepth := 100) only [execCrewReservedOp, State.ite_kept, State.iteFst_kept, ite_self,
      implies_true, ite_keeps, next_keeps, answer_keeps, State.crewCmd_kept, State.crewDone_kept, h]

theorem execCrewHeartbeatRx_kept {s : State} (h : s.Kept c q p) (x0) : Keeps c q p (execCrewHeartbeatRx x0 s) := by
  simp +contextual (maxDischargeDepth := 100) only [execCrewHeartbeatRx, State.each_kept, State.ite_kept, State.iteFst_kept,
      ite_self, implies_true, ite_keeps, next_keeps, answer_keeps, State.modCrew_kept, h]

theorem execCoordHeartbeatTimeout_kept {s : State} (h : s.Kept c q p) (x0) : Keeps c q p (execCoordHeartbeatTimeout x0 s) := by
  simp +contextual (maxDischargeDepth := 100) only [execCoordHeartbeatTimeout, State.ite_kept, State.iteFst_kept, ite_self,
      implies_true, ite_keeps, next_keeps, answer_keeps, State.raise_kept, State.modCrew_kept, h]

theorem execCrewArrivalRx_kept {s : State} (h : s.Kept c q p) (x0 x1 x2 x3 x4) : Keeps c q p (execCrewArrivalRx x0 x1 x2 x3 x4
    s) := by
  simp +contextual (maxDischargeDepth := 100) only [execCrewArrivalRx, State.ite_kept, State.iteFst_kept, ite_self,
      implies_true, ite_keeps, next_keeps, answer_keeps, State.countArrivals_kept, h]

theorem execCrewReleaseRx_kept {s : State} (h : s.Kept c q p) (x0 x1 x2) : Keeps c q p (execCrewReleaseRx x0 x1 x2 s) := by
  simp +contextual (maxDischargeDepth := 100) only [execCrewReleaseRx, State.ite_kept, State.iteFst_kept, ite_self,
      implies_true, ite_keeps, next_keeps, answer_keeps, State.releaseRx_kept, h]

theorem execCrewTransRx_kept {s : State} (h : s.Kept c q p) (x0 x1 x2) : Keeps c q p (execCrewTransRx x0 x1 x2 s) := by
  simp +contextual (maxDischargeDepth := 100) only [execCrewTransRx, State.ite_kept, State.iteFst_kept, ite_self,
      implies_true, ite_keeps, next_keeps, answer_keeps, State.transRx_kept, h]

theorem execReductionMark_kept {s : State} (h : s.Kept c q p) (x0) : Keeps c q p (execReductionMark x0 s) := by
  simp +contextual (maxDischargeDepth := 100) only [execReductionMark, State.ite_kept, State.iteFst_kept, ite_self,
      implies_true, ite_keeps, next_keeps, answer_keeps, State.redCollect_kept, h]

theorem execReductionContribRx_kept {s : State} (h : s.Kept c q p) (x0 x1 x2) : Keeps c q p (execReductionContribRx x0 x1 x2
    s) := by
  simp +contextual (maxDischargeDepth := 100) only [execReductionContribRx, State.ite_kept, State.iteFst_kept, ite_self,
      implies_true, ite_keeps, next_keeps, answer_keeps, State.modRed_kept, State.redFinish_kept, h]

theorem execReductionDeadline_kept {s : State} (h : s.Kept c q p) (x0) : Keeps c q p (execReductionDeadline x0 s) := by
  simp +contextual (maxDischargeDepth := 100) only [execReductionDeadline, State.ite_kept, State.iteFst_kept, ite_self,
      implies_true, ite_keeps, next_keeps, answer_keeps, State.redFinish_kept, State.redEnd_kept, State.writeRanks_kept,
      State.redKeep_kept, h]

theorem execReductionResultRx_kept {s : State} (h : s.Kept c q p) (x0 x1) : Keeps c q p (execReductionResultRx x0 x1 s) := by
  simp +contextual (maxDischargeDepth := 100) only [execReductionResultRx, State.ite_kept, State.iteFst_kept, ite_self,
      implies_true, ite_keeps, next_keeps, answer_keeps, State.redResult_kept, h]

theorem execReductionRankRx_kept {s : State} (h : s.Kept c q p) (x0 x1) : Keeps c q p (execReductionRankRx x0 x1 s) := by
  unfold execReductionRankRx
  dsimp only
  repeat' first
    | (simp +contextual (maxDischargeDepth := 100) only [State.when_kept, State.ite_kept, State.iteFst_kept, ite_self,
        implies_true, ite_keeps, next_keeps, answer_keeps, State.writeRanks_kept, State.gradeAssign_kept, State.modRed_kept,
        State.redNext_kept, h]; done)
    | split

theorem execCrewRegistrationRx_kept {s : State} (h : s.Kept c q p) (x0 x1 x2) : Keeps c q p (execCrewRegistrationRx x0 x1 x2
    s) := by
  simp +contextual (maxDischargeDepth := 100) only [execCrewRegistrationRx, State.ite_kept, State.iteFst_kept, ite_self,
      implies_true, ite_keeps, next_keeps, answer_keeps, State.registerDev_kept, State.sendCrew_kept, State.decideRelease_kept, h]

theorem execCoordHeartbeatSend_kept {s : State} (h : s.Kept c q p) : Keeps c q p (execCoordHeartbeatSend s) := by
  simp +contextual (maxDischargeDepth := 100) only [execCoordHeartbeatSend, State.each_kept, State.ite_kept,
      State.iteFst_kept, ite_self, implies_true, ite_keeps, next_keeps, answer_keeps, State.sendCrew_kept, h]

theorem State.setField_kept {s : State} (h : s.Kept c q p) (x1) : (State.setField s x1).Kept c q p := by
  simp +contextual (maxDischargeDepth := 100) only [State.setField, State.upd_kept, h]

theorem State.fwr_kept {s : State} (h : s.Kept c q p) (x1 x2) : (State.fwr s x1 x2).Kept c q p := by
  simp +contextual (maxDischargeDepth := 100) only [State.fwr, State.setField_kept, h]

theorem State.fput_kept {s : State} (h : s.Kept c q p) (x1 x2 x3 x4) : (State.fput s x1 x2 x3 x4).Kept c q p := by
  simp +contextual (maxDischargeDepth := 100) only [State.fput, State.fwr_kept, h]

theorem State.fsetBit_kept {s : State} (h : s.Kept c q p) (x1 x2 x3) : (State.fsetBit s x1 x2 x3).Kept c q p := by
  simp +contextual (maxDischargeDepth := 100) only [State.fsetBit, State.fput_kept, h]

theorem State.fcount_kept {s : State} (h : s.Kept c q p) (x1 x2 x3 x4) : (State.fcount s x1 x2 x3 x4).Kept c q p := by
  simp +contextual (maxDischargeDepth := 100) only [State.fcount, State.fput_kept, h]

theorem State.fEvent_kept {s : State} (h : s.Kept c q p) (x1 x2) : (State.fEvent s x1 x2).Kept c q p := by
  simp +contextual (maxDischargeDepth := 100) only [State.fEvent, State.setField_kept, State.fsetBit_kept, h]

theorem State.fsetPg_kept {s : State} (h : s.Kept c q p) (x1 x2) : (State.fsetPg s x1 x2).Kept c q p := by
  simp +contextual (maxDischargeDepth := 100) only [State.fsetPg, State.fput_kept, h]

theorem State.setLs_kept {s : State} (h : s.Kept c q p) (x1 x2) : (State.setLs s x1 x2).Kept c q p := by
  simp +contextual (maxDischargeDepth := 100) only [State.setLs, State.setField_kept, h]

theorem State.zoneRoute_kept {s : State} (h : s.Kept c q p) (x1) : (State.zoneRoute s x1).Kept c q p := by
  simp +contextual (maxDischargeDepth := 100) only [State.zoneRoute, State.ite_kept, ite_self, State.fsetBit_kept,
      State.fEvent_kept, State.fcount_kept, State.fput_kept, h]

theorem State.lsSettle_kept {s : State} (h : s.Kept c q p) (x1) : (State.lsSettle s x1).Kept c q p := by
  simp +contextual (maxDischargeDepth := 100) only [State.lsSettle, State.ite_kept, ite_self, State.setLs_kept,
      State.fcount_kept, State.fsetBit_kept, State.fput_kept, h]

theorem State.fieldSettle_kept {s : State} (h : s.Kept c q p) : (State.fieldSettle s).Kept c q p := by
  simp +contextual (maxDischargeDepth := 100) only [State.fieldSettle, State.each_kept, State.ite_kept, ite_self,
      implies_true, State.zoneRoute_kept, State.lsSettle_kept, State.fsetBit_kept, State.fput_kept, h]

theorem State.lsStagger_kept {s : State} (h : s.Kept c q p) (x1) : (State.lsStagger s x1).Kept c q p := by
  simp +contextual (maxDischargeDepth := 100) only [State.lsStagger, State.each_kept, implies_true, State.setLs_kept, h]

theorem State.doStagger_kept {s : State} (h : s.Kept c q p) (x1) : (State.doStagger s x1).Kept c q p := by
  simp +contextual (maxDischargeDepth := 100) only [State.doStagger, State.setField_kept, h]

theorem State.enterFailsafe_kept {s : State} (h : s.Kept c q p) (x1) : (State.enterFailsafe s x1).Kept c q p := by
  simp +contextual (maxDischargeDepth := 100) only [State.enterFailsafe, State.each_kept, State.ite_kept, ite_self,
      implies_true, State.setField_kept, State.setLs_kept, h]

theorem State.leaveFailsafe_kept {s : State} (h : s.Kept c q p) : (State.leaveFailsafe s).Kept c q p := by
  simp +contextual (maxDischargeDepth := 100) only [State.leaveFailsafe, State.ite_kept, ite_self, State.setField_kept,
      State.fEvent_kept, State.doStagger_kept, State.lsStagger_kept, State.fsetBit_kept, h]

theorem State.clearField_kept {s : State} (h : s.Kept c q p) : (State.clearField s).Kept c q p := by
  simp +contextual (maxDischargeDepth := 100) only [State.clearField, State.setField_kept, h]

theorem State.lsFault_kept {s : State} (h : s.Kept c q p) (x1 x2) : (State.lsFault s x1 x2).Kept c q p := by
  simp +contextual (maxDischargeDepth := 100) only [State.lsFault, State.ite_kept, ite_self, State.setLs_kept,
      State.fEvent_kept, State.fieldSettle_kept, h]

theorem State.lsTherm_kept {s : State} (h : s.Kept c q p) (x1 x2) : (State.lsTherm s x1 x2).Kept c q p := by
  simp +contextual (maxDischargeDepth := 100) only [State.lsTherm, State.setLs_kept, State.fput_kept, State.fcount_kept,
      State.fieldSettle_kept, State.fEvent_kept, h]

theorem State.lsRetryNow_kept {s : State} (h : s.Kept c q p) (x1) : (State.lsRetryNow s x1).Kept c q p := by
  simp +contextual (maxDischargeDepth := 100) only [State.lsRetryNow, State.setLs_kept, h]

theorem State.lsClrRx_kept {s : State} (h : s.Kept c q p) (x1) : (State.lsClrRx s x1).Kept c q p := by
  simp +contextual (maxDischargeDepth := 100) only [State.lsClrRx, State.ite_kept, ite_self, State.fEvent_kept,
      State.setLs_kept, h]

theorem State.lsCommand_kept {s : State} (h : s.Kept c q p) (x1 x2) : (State.lsCommand s x1 x2).Kept c q p := by
  simp +contextual (maxDischargeDepth := 100) only [State.lsCommand, State.setLs_kept, h]

theorem State.fieldTake_kept {s : State} (h : s.Kept c q p) (x1) : (State.fieldTake s x1).Kept c q p := by
  unfold State.fieldTake
  repeat' first
    | (simp +contextual (maxDischargeDepth := 100) only [State.each_kept, State.ite_kept, State.iteFst_kept, ite_self,
        implies_true, State.setField_kept, State.lsCommand_kept, State.setLs_kept, h]; done)
    | split

theorem State.fieldStart_kept {s : State} (h : s.Kept c q p) (x1 x2 x3) : (State.fieldStart s x1 x2 x3).Kept c q p := by
  simp +contextual (maxDischargeDepth := 100) only [State.fieldStart, State.ite_kept, ite_self, State.fsetPg_kept,
      State.fieldSettle_kept, State.fEvent_kept, State.fieldTake_kept, State.fput_kept, h]

theorem State.fieldFault_kept {s : State} (h : s.Kept c q p) (x1 x2) : (State.fieldFault s x1 x2).Kept c q p := by
  simp +contextual (maxDischargeDepth := 100) only [State.fieldFault, State.ite_kept, ite_self, State.fput_kept,
      State.fEvent_kept, State.fsetPg_kept, State.fcount_kept, h]

theorem State.fieldClearPage_kept {s : State} (h : s.Kept c q p) (x1) : (State.fieldClearPage s x1).Kept c q p := by
  simp +contextual (maxDischargeDepth := 100) only [State.fieldClearPage, State.ite_kept, ite_self, State.setField_kept, h]

theorem State.fieldPgCtrl_kept {s : State} (h : s.Kept c q p) (x1 x2) : (State.fieldPgCtrl s x1 x2).Kept c q p := by
  simp +contextual (maxDischargeDepth := 100) only [State.fieldPgCtrl, State.ite_kept, ite_self, State.fieldSettle_kept,
      State.fEvent_kept, State.fieldClearPage_kept, State.fsetPg_kept, State.fieldStart_kept, h]

theorem State.zoneRelease_kept {s : State} (h : s.Kept c q p) (x1) : (State.zoneRelease s x1).Kept c q p := by
  simp +contextual (maxDischargeDepth := 100) only [State.zoneRelease, State.each_kept, State.ite_kept, ite_self,
      implies_true, State.fEvent_kept, State.fsetBit_kept, State.doStagger_kept, State.lsStagger_kept, h]

theorem State.fieldWrite_kept {s : State} (h : s.Kept c q p) (x1 x2) : (State.fieldWrite s x1 x2).Kept c q p := by
  unfold State.fieldWrite
  dsimp only
  repeat' first
    | assumption
    | (intro _)
    | with_reducible apply State.fieldClearPage_kept
    | with_reducible apply State.fieldPgCtrl_kept
    | with_reducible apply State.fwr_kept
    | with_reducible apply State.zoneRelease_kept
    | with_reducible apply State.setField_kept
    | with_reducible apply State.lsClrRx_kept
    | with_reducible apply State.fEvent_kept
    | split

theorem State.onField_kept {s : State} (h : s.Kept c q p) (x1) (h1 : ∀ (t : State), t.Kept c q p → (x1 t).Kept c q p) :
    (State.onField s x1).Kept c q p := by
  simp +contextual (maxDischargeDepth := 100) only [State.onField, State.ite_kept, ite_self, h, h1]

theorem execFieldWatchdogExpiry_kept {s : State} (h : s.Kept c q p) : Keeps c q p (execFieldWatchdogExpiry s) := by
  simp +contextual (maxDischargeDepth := 100) only [execFieldWatchdogExpiry, State.ite_kept, State.iteFst_kept, ite_self,
      implies_true, ite_keeps, next_keeps, answer_keeps, State.onField_kept, State.injStep_kept, State.fEvent_kept,
      State.fcount_kept, State.setField_kept, State.fieldSettle_kept, State.enterFailsafe_kept, h]

theorem execRailUndervoltage_kept {s : State} (h : s.Kept c q p) (x0) : Keeps c q p (execRailUndervoltage x0 s) := by
  simp +contextual (maxDischargeDepth := 100) only [execRailUndervoltage, State.ite_kept, State.iteFst_kept, ite_self,
      implies_true, ite_keeps, next_keeps, answer_keeps, State.onField_kept, State.injStep_kept, State.setField_kept,
      State.fieldSettle_kept, State.fEvent_kept, State.fcount_kept, h]

theorem execRailRecovered_kept {s : State} (h : s.Kept c q p) (x0) : Keeps c q p (execRailRecovered x0 s) := by
  simp +contextual (maxDischargeDepth := 100) only [execRailRecovered, State.ite_kept, State.iteFst_kept, ite_self,
      implies_true, ite_keeps, next_keeps, answer_keeps, State.onField_kept, State.setField_kept, State.lsStagger_kept,
      State.doStagger_kept, State.fieldSettle_kept, State.fEvent_kept, h]

theorem State.lsSlot_kept {s : State} (h : s.Kept c q p) (x1) : (State.lsSlot s x1).Kept c q p := by
  simp +contextual (maxDischargeDepth := 100) only [State.lsSlot, State.ite_kept, State.iteFst_kept, ite_self, implies_true,
      State.setLs_kept, State.lsRetryNow_kept, h]

theorem execOutputStaggerSlot_kept {s : State} (h : s.Kept c q p) (x0) : Keeps c q p (execOutputStaggerSlot x0 s) := by
  simp +contextual (maxDischargeDepth := 100) only [execOutputStaggerSlot, State.ite_kept, State.iteFst_kept, ite_self,
      implies_true, ite_keeps, next_keeps, answer_keeps, State.onField_kept, State.lsSlot_kept, State.setField_kept,
      State.fieldSettle_kept, h]

theorem execFv24Loss_kept {s : State} (h : s.Kept c q p) : Keeps c q p (execFv24Loss s) := by
  simp +contextual (maxDischargeDepth := 100) only [execFv24Loss, State.ite_kept, State.iteFst_kept, ite_self, implies_true,
      ite_keeps, next_keeps, answer_keeps, State.setField_kept, h]

theorem execFv24Return_kept {s : State} (h : s.Kept c q p) : Keeps c q p (execFv24Return s) := by
  simp +contextual (maxDischargeDepth := 100) only [execFv24Return, State.upd_kept, State.updDma_kept, State.ite_kept,
      State.iteFst_kept, ite_self, implies_true, ite_keeps, next_keeps, answer_keeps, State.setField_kept, h]

theorem State.diAccept_kept {s : State} (h : s.Kept c q p) (x1 x2 x3) : (State.diAccept s x1 x2 x3).Kept c q p := by
  simp +contextual (maxDischargeDepth := 100) only [State.diAccept, State.ite_kept, ite_self, State.injStep_kept,
      State.fsetBit_kept, State.setField_kept, State.fEvent_kept, State.fieldSettle_kept, h]

theorem execDiEdgeAccepted_kept {s : State} (h : s.Kept c q p) (x0 x1 x2) : Keeps c q p (execDiEdgeAccepted x0 x1 x2 s) := by
  simp +contextual (maxDischargeDepth := 100) only [execDiEdgeAccepted, State.ite_kept, State.iteFst_kept, ite_self,
      implies_true, ite_keeps, next_keeps, answer_keeps, State.onField_kept, State.diAccept_kept, h]

theorem execDoOvertemp_kept {s : State} (h : s.Kept c q p) (x0) : Keeps c q p (execDoOvertemp x0 s) := by
  simp +contextual (maxDischargeDepth := 100) only [execDoOvertemp, State.ite_kept, State.iteFst_kept, ite_self, implies_true,
      ite_keeps, next_keeps, answer_keeps, State.onField_kept, State.injStep_kept, State.fieldSettle_kept, State.fEvent_kept,
      State.fsetBit_kept, h]

theorem execDoAutoRestart_kept {s : State} (h : s.Kept c q p) (x0) : Keeps c q p (execDoAutoRestart x0 s) := by
  simp +contextual (maxDischargeDepth := 100) only [execDoAutoRestart, State.ite_kept, State.iteFst_kept, ite_self,
      implies_true, ite_keeps, next_keeps, answer_keeps, State.onField_kept, State.fieldSettle_kept, State.fsetBit_kept, h]

theorem execLsLimiting_kept {s : State} (h : s.Kept c q p) (x0 x1) : Keeps c q p (execLsLimiting x0 x1 s) := by
  simp +contextual (maxDischargeDepth := 100) only [execLsLimiting, State.ite_kept, State.iteFst_kept, ite_self, implies_true,
      ite_keeps, next_keeps, answer_keeps, State.onField_kept, State.fieldSettle_kept, State.setLs_kept, h]

theorem execLsOvercurrent_kept {s : State} (h : s.Kept c q p) (x0) : Keeps c q p (execLsOvercurrent x0 s) := by
  simp +contextual (maxDischargeDepth := 100) only [execLsOvercurrent, State.ite_kept, State.iteFst_kept, ite_self,
      implies_true, ite_keeps, next_keeps, answer_keeps, State.onField_kept, State.injStep_kept, State.lsFault_kept, h]

theorem execLsShort_kept {s : State} (h : s.Kept c q p) (x0) : Keeps c q p (execLsShort x0 s) := by
  simp +contextual (maxDischargeDepth := 100) only [execLsShort, State.ite_kept, State.iteFst_kept, ite_self, implies_true,
      ite_keeps, next_keeps, answer_keeps, State.onField_kept, State.injStep_kept, State.lsFault_kept, h]

theorem execLsRetry_kept {s : State} (h : s.Kept c q p) (x0) : Keeps c q p (execLsRetry x0 s) := by
  simp +contextual (maxDischargeDepth := 100) only [execLsRetry, State.ite_kept, State.iteFst_kept, ite_self, implies_true,
      ite_keeps, next_keeps, answer_keeps, State.onField_kept, State.setLs_kept, State.fieldSettle_kept, State.lsRetryNow_kept, h]

theorem execLsInrushEnd_kept {s : State} (h : s.Kept c q p) (x0) : Keeps c q p (execLsInrushEnd x0 s) := by
  simp +contextual (maxDischargeDepth := 100) only [execLsInrushEnd, State.ite_kept, State.iteFst_kept, ite_self,
      implies_true, ite_keeps, next_keeps, answer_keeps, State.onField_kept, State.fieldSettle_kept, State.setLs_kept, h]

theorem execLsRleftReload_kept {s : State} (h : s.Kept c q p) (x0) : Keeps c q p (execLsRleftReload x0 s) := by
  simp +contextual (maxDischargeDepth := 100) only [execLsRleftReload, State.ite_kept, State.iteFst_kept, ite_self,
      implies_true, ite_keeps, next_keeps, answer_keeps, State.onField_kept, State.fieldSettle_kept, State.setLs_kept, h]

theorem execLsThermal_kept {s : State} (h : s.Kept c q p) (x0 x1) : Keeps c q p (execLsThermal x0 x1 s) := by
  simp +contextual (maxDischargeDepth := 100) only [execLsThermal, State.ite_kept, State.iteFst_kept, ite_self, implies_true,
      ite_keeps, next_keeps, answer_keeps, State.onField_kept, State.injStep_kept, State.lsTherm_kept, h]

theorem State.lsDiag_kept {s : State} (h : s.Kept c q p) (x1 x2) : (State.lsDiag s x1 x2).Kept c q p := by
  simp +contextual (maxDischargeDepth := 100) only [State.lsDiag, State.ite_kept, ite_self, State.fput_kept, State.fEvent_kept, h]

theorem execLsDiagCheck_kept {s : State} (h : s.Kept c q p) (x0 x1 x2 x3) : Keeps c q p (execLsDiagCheck x0 x1 x2 x3 s) := by
  simp +contextual (maxDischargeDepth := 100) only [execLsDiagCheck, State.ite_kept, State.iteFst_kept, ite_self,
      implies_true, ite_keeps, next_keeps, answer_keeps, State.onField_kept, State.lsDiag_kept, h]

theorem execLsumUpdate_kept {s : State} (h : s.Kept c q p) (x0) : Keeps c q p (execLsumUpdate x0 s) := by
  simp +contextual (maxDischargeDepth := 100) only [execLsumUpdate, State.ite_kept, State.iteFst_kept, ite_self, implies_true,
      ite_keeps, next_keeps, answer_keeps, State.onField_kept, State.fput_kept, State.fEvent_kept, h]

theorem State.limitEvent_kept {s : State} (h : s.Kept c q p) (x1 x2 x3 x4) : (State.limitEvent s x1 x2 x3 x4).Kept c q p := by
  simp +contextual (maxDischargeDepth := 100) only [State.limitEvent, State.genEvent_kept, h]

theorem State.limitWarns_kept {s : State} (h : s.Kept c q p) (x1 x2) : (State.limitWarns s x1 x2).Kept c q p := by
  simp +contextual (maxDischargeDepth := 100) only [State.limitWarns, State.each_kept, implies_true, State.modProg_kept,
      State.limitEvent_kept, h]

theorem State.freeze_kept {s : State} (h : s.Kept c q p) (x1 x2 x3) : (State.freeze s x1 x2 x3).Kept c q p := by
  simp +contextual (maxDischargeDepth := 100) only [State.freeze, State.when_kept, State.ite_kept, State.iteFst_kept,
      ite_self, implies_true, State.modProg_kept, State.modCtl_kept, State.setChState_kept, State.pauseSweep_kept, h]

theorem State.endProgram_kept {s : State} (h : s.Kept c q p) (x1) : (State.endProgram s x1).Kept c q p := by
  simp +contextual (maxDischargeDepth := 100) only [State.endProgram, State.modCtl_kept, h]

theorem State.arrive_kept {s : State} (h : s.Kept c q p) (x1 x2) : (State.arrive s x1 x2).Kept c q p := by
  unfold State.arrive
  repeat' first
    | (simp +contextual (maxDischargeDepth := 100) only [State.each_kept, State.upd_kept, State.updDma_kept, State.ite_kept,
        State.iteFst_kept, ite_self, implies_true, State.genEvent_kept, h]; done)
    | split

theorem State.declareArrivals_kept {s : State} (h : s.Kept c q p) (x1) : (State.declareArrivals s x1).Kept c q p := by
  simp +contextual (maxDischargeDepth := 100) only [State.declareArrivals, State.each_kept, implies_true, State.modProg_kept,
      State.arrive_kept, h]

theorem State.startTrend_kept {s : State} (h : s.Kept c q p) (x1 x2) : (State.startTrend s x1 x2).Kept c q p := by
  simp +contextual (maxDischargeDepth := 100) only [State.startTrend, State.ite_kept, ite_self, State.modTrend_kept, h]

theorem State.enterStep_kept {s : State} (h : s.Kept c q p) (x1 x2 x3 x4) : (State.enterStep s x1 x2 x3 x4).Kept c q p := by
  simp +contextual (maxDischargeDepth := 100) only [State.enterStep, State.when_kept, State.ite_kept, ite_self, implies_true,
      State.modProg_kept, State.put_kept, State.setBit_kept, State.modCtl_kept, State.setChState_kept, State.startTrend_kept,
      State.endProgram_kept, State.endStep_kept, State.declareArrivals_kept, State.startSweep_kept, h]

theorem State.takeTerm_kept {s : State} (h : s.Kept c q p) (x1 x2 x3 x4) : (State.takeTerm s x1 x2 x3 x4).Kept c q p := by
  unfold State.takeTerm
  dsimp only
  repeat' first
    | (simp +contextual (maxDischargeDepth := 100) only [State.ite_kept, State.iteFst_kept, ite_self, implies_true,
        State.endStep_kept, State.modProg_kept, State.endProgram_kept, State.enterStep_kept, h]; done)
    | split

theorem State.takeLimit_kept {s : State} (h : s.Kept c q p) (x1 x2 x3 x4) : (State.takeLimit s x1 x2 x3 x4).Kept c q p := by
  unfold State.takeLimit
  repeat' first
    | (simp +contextual (maxDischargeDepth := 100) only [State.ite_kept, State.iteFst_kept, ite_self, implies_true,
        State.tripCh_kept, State.endProgram_kept, State.endStep_kept, State.limitEvent_kept, State.freeze_kept, h]; done)
    | split

theorem State.runStep_kept {s : State} (h : s.Kept c q p) (x0 x2 x3 x4) : (State.runStep x0 s x2 x3 x4).Kept c q p := by
  induction x0 generalizing s with
  | zero =>
    have hl := State.limitWarns_kept h x2 x4
    unfold State.runStep
    split
    · exact h
    · dsimp only
      split
      · exact State.takeLimit_kept hl _ _ _ _
      · split
        · exact hl
        · exact State.raise_kept hl _ _
  | succ k ih =>
    have hl := State.limitWarns_kept h x2 x4
    unfold State.runStep
    split
    · exact h
    · dsimp only
      split
      · exact State.takeLimit_kept hl _ _ _ _
      · split
        · exact hl
        · exact ih (State.takeTerm_kept hl _ _ _ _)

theorem State.runWindows_kept {s : State} (h : s.Kept c q p) (k b : Nat) (l : List Window) : (s.runWindows k b l).Kept c q p := by
  induction l generalizing s with
  | nil => exact h
  | cons w l ih =>
    unfold State.runWindows
    split
    · have h1 := State.modProg_kept h k fun p => { p with due := none }
      dsimp only
      simp +contextual (maxDischargeDepth := 100) only [State.ite_kept, ite_self, State.takeLimit_kept, State.takeTerm_kept, h1]
    · split
      · exact State.runStep_kept h _ _ _ _
      · exact ih (State.limitWarns_kept h _ _)

theorem State.setTrim_kept {s : State} (h : s.Kept c q p) (x1 x2 x3) : (State.setTrim s x1 x2 x3).Kept c q p := by
  simp +contextual (maxDischargeDepth := 100) only [State.setTrim, State.modCtl_kept, h]

theorem State.law_kept {s : State} (h : s.Kept c q p) (x1 x2) : (State.law s x1 x2).1.Kept c q p := by
  unfold State.law
  dsimp only
  repeat' first
    | (simp +contextual (maxDischargeDepth := 100) only [State.when_kept, State.ite_kept, State.iteFst_kept, ite_self,
        implies_true, State.modCtl_kept, State.setTrim_kept, State.setBit_kept, h]; done)
    | split

theorem State.commitPoints_kept {s : State} (h : s.Kept c q p) (x1 x2 x3 x4 x5 x6) : (State.commitPoints s x1 x2 x3 x4 x5
    x6).Kept c q p := by
  simp +contextual (maxDischargeDepth := 100) only [State.commitPoints, State.modCtl_kept, State.modProg_kept,
      State.setBit_kept, h]

theorem State.rampPoints_kept {s : State} (h : s.Kept c q p) (x1) : (State.rampPoints s x1).Kept c q p := by
  simp +contextual (maxDischargeDepth := 100) only [State.rampPoints, State.commitPoints_kept, h]

theorem State.restPoints_kept {s : State} (h : s.Kept c q p) (x1) : (State.restPoints s x1).Kept c q p := by
  simp +contextual (maxDischargeDepth := 100) only [State.restPoints, State.commitPoints_kept, h]

theorem State.lawPoints_kept {s : State} (h : s.Kept c q p) (x1) : (State.lawPoints s x1).Kept c q p := by
  simp +contextual (maxDischargeDepth := 100) only [State.lawPoints, State.law_kept, State.setBit_kept,
      State.commitPoints_kept, h]

theorem State.patternPoints_kept {s : State} (h : s.Kept c q p) (x1) : (State.patternPoints s x1).Kept c q p := by
  simp +contextual (maxDischargeDepth := 100) only [State.patternPoints, State.when_kept, implies_true, State.modEis_kept,
      State.commitPoints_kept, h]

theorem State.computePoints_kept {s : State} (h : s.Kept c q p) (x1) : (State.computePoints s x1).Kept c q p := by
  unfold State.computePoints
  repeat' first
    | (simp +contextual (maxDischargeDepth := 100) only [State.ite_kept, State.iteFst_kept, ite_self, implies_true,
        State.restPoints_kept, State.patternPoints_kept, State.lawPoints_kept, State.rampPoints_kept, h]; done)
    | split

theorem State.armed_kept {s : State} (h : s.Kept c q p) (x1 x2) : (State.armed s x1 x2).Kept c q p := by
  unfold State.armed
  repeat' first
    | (simp +contextual (maxDischargeDepth := 100) only [State.wr_kept, State.upd_kept, State.updDma_kept, State.ite_kept,
        State.iteFst_kept, ite_self, implies_true, State.lifeRestart_kept, State.modProg_kept, State.modCtl_kept,
        State.modMeas_kept, State.put_kept, State.setChState_kept, h]; done)
    | split

theorem State.opArm_kept {s : State} (h : s.Kept c q p) (x1 x2) : (State.opArm s x1 x2).1.Kept c q p := by
  simp +contextual (maxDischargeDepth := 100) only [State.opArm, State.iteFst_kept, ite_self, State.put_kept, State.armed_kept, h]

theorem State.opStart_kept {s : State} (h : s.Kept c q p) (x1 x2) : (State.opStart s x1 x2).1.Kept c q p := by
  unfold State.opStart
  repeat' first
    | (simp +contextual (maxDischargeDepth := 100) only [State.ite_kept, State.iteFst_kept, ite_self, implies_true,
        State.enterStep_kept, State.modProg_kept, h]; done)
    | split

theorem State.opPause_kept {s : State} (h : s.Kept c q p) (x1 x2) : (State.opPause s x1 x2).1.Kept c q p := by
  unfold State.opPause
  repeat' first
    | (simp +contextual (maxDischargeDepth := 100) only [State.ite_kept, State.iteFst_kept, ite_self, implies_true,
        State.freeze_kept, h]; done)
    | split

theorem State.resumed_kept {s : State} (h : s.Kept c q p) (x1 x2) : (State.resumed s x1 x2).Kept c q p := by
  simp +contextual (maxDischargeDepth := 100) only [State.resumed, State.when_kept, State.ite_kept, State.iteFst_kept,
      ite_self, implies_true, State.modProg_kept, State.modCtl_kept, State.setChState_kept, State.resumeSweep_kept, h]

theorem State.opResume_kept {s : State} (h : s.Kept c q p) (x1 x2) : (State.opResume s x1 x2).1.Kept c q p := by
  unfold State.opResume
  repeat' first
    | (simp +contextual (maxDischargeDepth := 100) only [State.ite_kept, State.iteFst_kept, ite_self, implies_true,
        State.resumed_kept, h]; done)
    | split

theorem State.opStop_kept {s : State} (h : s.Kept c q p) (x1 x2) : (State.opStop s x1 x2).1.Kept c q p := by
  unfold State.opStop
  repeat' first
    | (simp +contextual (maxDischargeDepth := 100) only [State.ite_kept, State.iteFst_kept, ite_self, implies_true,
        State.enterIdle_kept, State.endProgram_kept, State.endStep_kept, h]; done)
    | split

theorem State.opSafe_kept {s : State} (h : s.Kept c q p) (x1 x2) : (State.opSafe s x1 x2).1.Kept c q p := by
  unfold State.opSafe
  repeat' first
    | (simp +contextual (maxDischargeDepth := 100) only [State.ite_kept, State.iteFst_kept, ite_self, implies_true,
        State.tripAt_kept, h]; done)
    | split

theorem State.opHold_kept {s : State} (h : s.Kept c q p) (x1 x2) : (State.opHold s x1 x2).1.Kept c q p := by
  unfold State.opHold
  repeat' first
    | (simp +contextual (maxDischargeDepth := 100) only [State.ite_kept, State.iteFst_kept, ite_self, implies_true,
        State.setChState_kept, State.freeze_kept, h]; done)
    | split

theorem State.opClear_kept {s : State} (h : s.Kept c q p) (x1) : (State.opClear s x1).1.Kept c q p := by
  simp +contextual (maxDischargeDepth := 100) only [State.opClear, State.iteFst_kept, ite_self, State.put_kept,
      State.enterIdle_kept, h]

theorem State.noteCmd_kept {s : State} (h : s.Kept c q p) (x1 x2 x3) : (State.noteCmd s x1 x2 x3).Kept c q p := by
  simp +contextual (maxDischargeDepth := 100) only [State.noteCmd, State.put_kept, h]

theorem State.opBody_kept {s : State} (h : s.Kept c q p) (x1 x2 x3) : (State.opBody s x1 x2 x3).1.Kept c q p := by
  unfold State.opBody
  repeat' first
    | (simp +contextual (maxDischargeDepth := 100) only [State.ite_kept, State.iteFst_kept, ite_self, implies_true,
        State.opArm_kept, State.opStart_kept, State.opPause_kept, State.opResume_kept, State.opStop_kept, State.opSafe_kept,
        State.opClear_kept, State.opHold_kept, h]; done)
    | split

theorem State.chanOp_kept {s : State} (h : s.Kept c q p) (x1 x2 x3 x4) : (State.chanOp s x1 x2 x3 x4).1.Kept c q p := by
  simp +contextual (maxDischargeDepth := 100) only [State.chanOp, State.iteFst_kept, ite_self, State.opBody_kept,
      State.noteCmd_kept, h]

theorem State.cancelStart_kept {s : State} (h : s.Kept c q p) (x1) : (State.cancelStart s x1).Kept c q p := by
  simp +contextual (maxDischargeDepth := 100) only [State.cancelStart, State.upd_kept, State.updDma_kept, State.modCtl_kept, h]

theorem State.ownerLostPolicy_kept {s : State} (h : s.Kept c q p) (x1 x2) : (State.ownerLostPolicy s x1 x2).Kept c q p := by
  unfold State.ownerLostPolicy
  dsimp only
  repeat' first
    | (simp +contextual (maxDischargeDepth := 100) only [State.ite_kept, State.iteFst_kept, ite_self, implies_true,
        State.modCtl_kept, State.cancelStart_kept, State.freeze_kept, State.setChState_kept, State.tripAt_kept,
        State.genEvent_kept, h]; done)
    | split

end Sys2Proof.Machine
end

