-- ==== Sys2Proof/Laws/KeptC.lean ====
section
/-!
SUPPORT. What the operations of these files of the model keep: Eis, Trend, Measure, StageLink, Field, Timebase.
-/
namespace Sys2Proof.Machine
set_option linter.all false
variable {c : Prop} {q : List Instr} {p : Part}

theorem State.eisSample_kept {s : State} (h : s.Kept c q p) (x1 x2 x3 x4 x5) : (State.eisSample s x1 x2 x3 x4 x5).Kept c q p := by
  unfold State.eisSample
  dsimp only
  repeat' first
    | (simp +contextual (maxDischargeDepth := 100) only [State.ite_kept, State.iteFst_kept, ite_self, implies_true,
        State.modEis_kept, h]; done)
    | split

theorem State.truncSweeps_kept {s : State} (h : s.Kept c q p) : (State.truncSweeps s).Kept c q p := by
  simp +contextual (maxDischargeDepth := 100) only [State.truncSweeps, State.each_kept, State.when_kept, implies_true,
      State.modEis_kept, State.raise_kept, h]

theorem State.accFault_kept {s : State} (h : s.Kept c q p) : (State.accFault s).Kept c q p := by
  simp +contextual (maxDischargeDepth := 100) only [State.accFault, State.truncSweeps_kept, State.pageFault_kept, h]

theorem State.eisResultDone_kept {s : State} (h : s.Kept c q p) (x1) : (State.eisResultDone s x1).Kept c q p := by
  unfold State.eisResultDone
  repeat' first
    | (simp +contextual (maxDischargeDepth := 100) only [State.when_kept, State.upd_kept, State.updDma_kept, State.ite_kept,
        State.iteFst_kept, ite_self, implies_true, State.accFault_kept, State.modEis_kept, State.injStep_kept,
        State.genRecord_kept, State.raise_kept, State.count_kept, h]; done)
    | split

theorem execEisPointResult_kept {s : State} (h : s.Kept c q p) (x0) : Keeps c q p (execEisPointResult x0 s) := by
  simp +contextual (maxDischargeDepth := 100) only [execEisPointResult, State.ite_kept, State.iteFst_kept, ite_self,
      implies_true, ite_keeps, next_keeps, answer_keeps, State.eisResultDone_kept, h]

theorem State.eisDone_kept {s : State} (h : s.Kept c q p) (x1 x2 x3) : (State.eisDone s x1 x2 x3).Kept c q p := by
  simp +contextual (maxDischargeDepth := 100) only [State.eisDone, State.upd_kept, State.raise_kept, State.wrN_kept, h]

theorem State.eisTableOp_kept {s : State} (h : s.Kept c q p) (x1 x2) : (State.eisTableOp s x1 x2).Kept c q p := by
  unfold State.eisTableOp
  dsimp only
  repeat' first
    | (simp +contextual (maxDischargeDepth := 100) only [State.wr_kept, State.ite_kept, State.iteFst_kept, ite_self,
        implies_true, State.eisDone_kept, State.setSweep_kept, State.wrN_kept, h]; done)
    | split

theorem State.eisBegin_kept {s : State} (h : s.Kept c q p) (x1 x2) : (State.eisBegin s x1 x2).Kept c q p := by
  simp +contextual (maxDischargeDepth := 100) only [State.eisBegin, State.upd_kept, State.ite_kept, ite_self,
      State.raise_kept, State.eisDone_kept, State.setBit_kept, h]

theorem execEisTableNop_kept {s : State} (h : s.Kept c q p) (x0) : Keeps c q p (execEisTableNop x0 s) := by
  simp +contextual (maxDischargeDepth := 100) only [execEisTableNop, State.ite_kept, State.iteFst_kept, ite_self,
      implies_true, ite_keeps, next_keeps, answer_keeps, State.eisBegin_kept, h]

theorem execEisTableOpen_kept {s : State} (h : s.Kept c q p) (x0) : Keeps c q p (execEisTableOpen x0 s) := by
  simp +contextual (maxDischargeDepth := 100) only [execEisTableOpen, State.ite_kept, State.iteFst_kept, ite_self,
      implies_true, ite_keeps, next_keeps, answer_keeps, State.eisBegin_kept, h]

theorem execEisTableWrite_kept {s : State} (h : s.Kept c q p) (x0) : Keeps c q p (execEisTableWrite x0 s) := by
  simp +contextual (maxDischargeDepth := 100) only [execEisTableWrite, State.ite_kept, State.iteFst_kept, ite_self,
      implies_true, ite_keeps, next_keeps, answer_keeps, State.eisBegin_kept, h]

theorem execEisTableRead_kept {s : State} (h : s.Kept c q p) (x0) : Keeps c q p (execEisTableRead x0 s) := by
  simp +contextual (maxDischargeDepth := 100) only [execEisTableRead, State.ite_kept, State.iteFst_kept, ite_self,
      implies_true, ite_keeps, next_keeps, answer_keeps, State.eisBegin_kept, h]

theorem execEisTableSeal_kept {s : State} (h : s.Kept c q p) (x0) : Keeps c q p (execEisTableSeal x0 s) := by
  simp +contextual (maxDischargeDepth := 100) only [execEisTableSeal, State.ite_kept, State.iteFst_kept, ite_self,
      implies_true, ite_keeps, next_keeps, answer_keeps, State.eisBegin_kept, h]

theorem execEisTableClear_kept {s : State} (h : s.Kept c q p) (x0) : Keeps c q p (execEisTableClear x0 s) := by
  simp +contextual (maxDischargeDepth := 100) only [execEisTableClear, State.ite_kept, State.iteFst_kept, ite_self,
      implies_true, ite_keeps, next_keeps, answer_keeps, State.eisBegin_kept, h]

theorem execEisTableReservedOp_kept {s : State} (h : s.Kept c q p) (x0 x1) : Keeps c q p (execEisTableReservedOp x0 x1 s) := by
  simp +contextual (maxDischargeDepth := 100) only [execEisTableReservedOp, State.ite_kept, State.iteFst_kept, ite_self,
      implies_true, ite_keeps, next_keeps, answer_keeps, State.eisBegin_kept, h]

theorem execEisTableOpComplete_kept {s : State} (h : s.Kept c q p) : Keeps c q p (execEisTableOpComplete s) := by
  unfold execEisTableOpComplete
  repeat' first
    | (simp +contextual (maxDischargeDepth := 100) only [State.ite_kept, State.iteFst_kept, ite_self, implies_true, ite_keeps,
        next_keeps, answer_keeps, State.eisTableOp_kept, h]; done)
    | split

theorem State.trendOut_kept {s : State} (h : s.Kept c q p) (x1) : (State.trendOut s x1).Kept c q p := by
  simp +contextual (maxDischargeDepth := 100) only [State.trendOut, State.when_kept, State.upd_kept, State.ite_kept, ite_self,
      implies_true, State.wakeRequest_kept, State.raise_kept, State.genRecord_kept, h]

theorem State.trendWake_kept {s : State} (h : s.Kept c q p) (x1) : (State.trendWake s x1).Kept c q p := by
  simp +contextual (maxDischargeDepth := 100) only [State.trendWake, State.when_kept, State.ite_kept, ite_self, implies_true,
      State.modTrend_kept, State.raise_kept, State.trendOut_kept, h]

theorem State.convertersDown_kept {s : State} (h : s.Kept c q p) (x1) : (State.convertersDown s x1).Kept c q p := by
  simp +contextual (maxDischargeDepth := 100) only [State.convertersDown, State.ite_kept, ite_self, State.modDie_kept, h]

theorem State.trendRestart_kept {s : State} (h : s.Kept c q p) (x1) : (State.trendRestart s x1).Kept c q p := by
  simp +contextual (maxDischargeDepth := 100) only [State.trendRestart, State.ite_kept, ite_self, State.raise_kept,
      State.modTrend_kept, h]

theorem State.stopTrends_kept {s : State} (h : s.Kept c q p) : (State.stopTrends s).Kept c q p := by
  simp +contextual (maxDischargeDepth := 100) only [State.stopTrends, State.each_kept, implies_true, State.modTrend_kept, h]

theorem State.powerConverters_kept {s : State} (h : s.Kept c q p) (x1) : (State.powerConverters s x1).Kept c q p := by
  simp +contextual (maxDischargeDepth := 100) only [State.powerConverters, State.ite_kept, ite_self, State.modDie_kept, h]

theorem State.checkClose_kept {s : State} (h : s.Kept c q p) : (State.checkClose s).Kept c q p := by
  unfold State.checkClose
  repeat' first
    | assumption
    | (simp +contextual (maxDischargeDepth := 100) only [State.each_kept, State.ite_kept, State.iteFst_kept, ite_self,
        implies_true, State.convertersDown_kept, State.modDie_kept, h]; done)
    | (intro _)
    | with_reducible apply State.each_kept
    | with_reducible apply State.convertersDown_kept
    | with_reducible apply State.modDie_kept
    | split

theorem State.flushSamp_kept {s : State} (h : s.Kept c q p) (x1 x2) : (State.flushSamp s x1 x2).Kept c q p := by
  unfold State.flushSamp
  dsimp only
  repeat' first
    | (simp +contextual (maxDischargeDepth := 100) only [State.ite_kept, State.iteFst_kept, ite_self, implies_true,
        State.genRecord_kept, State.modProg_kept, h]; done)
    | split

theorem State.sampOutput_kept {s : State} (h : s.Kept c q p) (x1 x2 x3 x4 x5 x6) : (State.sampOutput s x1 x2 x3 x4 x5 x6).Kept
    c q p := by
  unfold State.sampOutput
  repeat' first
    | (simp +contextual (maxDischargeDepth := 100) only [State.when_kept, State.ite_kept, State.iteFst_kept, ite_self,
        implies_true, State.modProg_kept, State.genRecord_kept, h]; done)
    | split

theorem State.intoLoop_kept {s : State} (h : s.Kept c q p) (x1 x2) : (State.intoLoop s x1 x2).Kept c q p := by
  simp +contextual (maxDischargeDepth := 100) only [State.intoLoop, State.modCtl_kept, h]

theorem State.deliver_kept {s : State} (h : s.Kept c q p) (x1 x2 x3) : (State.deliver s x1 x2 x3).Kept c q p := by
  unfold State.deliver
  dsimp only
  repeat' first
    | (simp +contextual (maxDischargeDepth := 100) only [State.ite_kept, State.iteFst_kept, ite_self, implies_true,
        State.modMeas_kept, State.put_kept, State.eisSample_kept, State.intoLoop_kept, State.modTrend_kept, State.flushSamp_kept,
        State.sampOutput_kept, h]; done)
    | split

theorem State.measFault_kept {s : State} (h : s.Kept c q p) (x1 x2) : (State.measFault s x1 x2).Kept c q p := by
  simp +contextual (maxDischargeDepth := 100) only [State.measFault, State.safeAll_kept, State.modDie_kept,
      State.pageFault_kept, h]

theorem State.calSample_kept {s : State} (h : s.Kept c q p) (x1 x2 x3) : (State.calSample s x1 x2 x3).Kept c q p := by
  simp +contextual (maxDischargeDepth := 100) only [State.calSample, State.modDie_kept, h]

theorem State.lostStrobe_kept {s : State} (h : s.Kept c q p) (x1) : (State.lostStrobe s x1).Kept c q p := by
  simp +contextual (maxDischargeDepth := 100) only [State.lostStrobe, State.each_kept, State.ite_kept, ite_self, implies_true,
      State.raise_kept, State.count_kept, State.deliver_kept, State.modDie_kept, State.calSample_kept, State.measFault_kept, h]

theorem State.frameRx_kept {s : State} (h : s.Kept c q p) (x1 x2 x3) : (State.frameRx s x1 x2 x3).Kept c q p := by
  simp +contextual (maxDischargeDepth := 100) only [State.frameRx, State.each_kept, State.ite_kept, ite_self, implies_true,
      State.injStep_kept, State.lostStrobe_kept, State.count_kept, State.deliver_kept, State.modDie_kept, State.calSample_kept, h]

theorem execMeasureFrameRx_kept {s : State} (h : s.Kept c q p) (x0 x1 x2) : Keeps c q p (execMeasureFrameRx x0 x1 x2 s) := by
  simp +contextual (maxDischargeDepth := 100) only [execMeasureFrameRx, State.ite_kept, State.iteFst_kept, ite_self,
      implies_true, ite_keeps, next_keeps, answer_keeps, State.frameRx_kept, h]

theorem execMeasureFrameDeadline_kept {s : State} (h : s.Kept c q p) (x0) : Keeps c q p (execMeasureFrameDeadline x0 s) := by
  simp +contextual (maxDischargeDepth := 100) only [execMeasureFrameDeadline, State.ite_kept, State.iteFst_kept, ite_self,
      implies_true, ite_keeps, next_keeps, answer_keeps, State.lostStrobe_kept, h]

theorem State.ovenStart_kept {s : State} (h : s.Kept c q p) (x1) : (State.ovenStart s x1).Kept c q p := by
  simp +contextual (maxDischargeDepth := 100) only [State.ovenStart, State.ite_kept, ite_self, State.raise_kept,
      State.put_kept, h]

theorem State.ovenStop_kept {s : State} (h : s.Kept c q p) (x1) : (State.ovenStop s x1).Kept c q p := by
  simp +contextual (maxDischargeDepth := 100) only [State.ovenStop, State.ite_kept, ite_self, State.put_kept, h]

theorem State.changeover_kept {s : State} (h : s.Kept c q p) (x1) : (State.changeover s x1).Kept c q p := by
  simp +contextual (maxDischargeDepth := 100) only [State.changeover, State.each_kept, implies_true, State.setBit_kept,
      State.modDie_kept, State.raise_kept, State.trendRestart_kept, h]

theorem State.strobeCoef_kept {s : State} (h : s.Kept c q p) (x1) : (State.strobeCoef s x1).Kept c q p := by
  unfold State.strobeCoef
  repeat' first
    | (simp +contextual (maxDischargeDepth := 100) only [State.ite_kept, State.iteFst_kept, ite_self, implies_true,
        State.modMeas_kept, State.modCh_kept, h]; done)
    | split

theorem State.measStop_kept {s : State} (h : s.Kept c q p) (x1 x2) : (State.measStop s x1 x2).Kept c q p := by
  simp +contextual (maxDischargeDepth := 100) only [State.measStop, State.each_kept, implies_true, State.safeAll_kept,
      State.forceFrom_kept, State.modMeas_kept, h]

theorem State.dieStrobe_kept {s : State} (h : s.Kept c q p) (x1 x2) : (State.dieStrobe s x1 x2).Kept c q p := by
  simp +contextual (maxDischargeDepth := 100) only [State.dieStrobe, State.each_kept, State.ite_kept, ite_self, implies_true,
      State.wr64_kept, State.changeover_kept, State.ovenStart_kept, State.modDie_kept, State.measStop_kept, State.modMeas_kept, h]

theorem State.baseStrobe_kept {s : State} (h : s.Kept c q p) : (State.baseStrobe s).Kept c q p := by
  simp +contextual (maxDischargeDepth := 100) only [State.baseStrobe, State.each_kept, State.when_kept, implies_true,
      State.checkClose_kept, State.dieStrobe_kept, State.strobeCoef_kept, State.modCtl_kept, h]

theorem execBaseStrobe_kept {s : State} (h : s.Kept c q p) : Keeps c q p (execBaseStrobe s) := by
  simp +contextual (maxDischargeDepth := 100) only [execBaseStrobe, State.ite_kept, State.iteFst_kept, ite_self, implies_true,
      ite_keeps, next_keeps, answer_keeps, State.baseStrobe_kept, h]

theorem State.noteTemp_kept {s : State} (h : s.Kept c q p) (x1 x2) : (State.noteTemp s x1 x2).Kept c q p := by
  simp +contextual (maxDischargeDepth := 100) only [State.noteTemp, State.put_kept, State.modCtl_kept, State.modTrend_kept, h]

theorem State.tsConversion_kept {s : State} (h : s.Kept c q p) (x1 x2) : (State.tsConversion s x1 x2).Kept c q p := by
  unfold State.tsConversion
  dsimp only
  repeat' first
    | (simp +contextual (maxDischargeDepth := 100) only [State.ite_kept, State.iteFst_kept, ite_self, implies_true,
        State.noteTemp_kept, State.injStep_kept, State.raise_kept, State.setBit_kept, h]; done)
    | split

theorem execTsConversionDone_kept {s : State} (h : s.Kept c q p) (x0 x1) : Keeps c q p (execTsConversionDone x0 x1 s) := by
  simp +contextual (maxDischargeDepth := 100) only [execTsConversionDone, State.ite_kept, State.iteFst_kept, ite_self,
      implies_true, ite_keeps, next_keeps, answer_keeps, State.tsConversion_kept, h]

theorem execOdrWrite_kept {s : State} (h : s.Kept c q p) (x0 x1) : Keeps c q p (execOdrWrite x0 x1 s) := by
  simp +contextual (maxDischargeDepth := 100) only [execOdrWrite, State.ite_kept, State.iteFst_kept, ite_self, implies_true,
      ite_keeps, next_keeps, answer_keeps, State.modMeas_kept, State.put_kept, h]

theorem execOvenRegulated_kept {s : State} (h : s.Kept c q p) (x0) : Keeps c q p (execOvenRegulated x0 s) := by
  simp +contextual (maxDischargeDepth := 100) only [execOvenRegulated, State.ite_kept, State.iteFst_kept, ite_self,
      implies_true, ite_keeps, next_keeps, answer_keeps, State.put_kept, h]

theorem execOvenDegraded_kept {s : State} (h : s.Kept c q p) (x0) : Keeps c q p (execOvenDegraded x0 s) := by
  simp +contextual (maxDischargeDepth := 100) only [execOvenDegraded, State.ite_kept, State.iteFst_kept, ite_self,
      implies_true, ite_keeps, next_keeps, answer_keeps, State.raise_kept, State.put_kept, h]

theorem execOvenFault_kept {s : State} (h : s.Kept c q p) (x0) : Keeps c q p (execOvenFault x0 s) := by
  simp +contextual (maxDischargeDepth := 100) only [execOvenFault, State.ite_kept, State.iteFst_kept, ite_self, implies_true,
      ite_keeps, next_keeps, answer_keeps, State.raise_kept, State.put_kept, State.injStep_kept, h]

theorem State.refsGood_kept {s : State} (h : s.Kept c q p) (x1 x2 x3) : (State.refsGood s x1 x2 x3).Kept c q p := by
  simp +contextual (maxDischargeDepth := 100) only [State.refsGood, State.wr_kept, State.when_kept, State.ite_kept, ite_self,
      implies_true, State.put_kept, State.setBit_kept, State.modDie_kept, State.count_kept, State.raise_kept,
      State.changeover_kept, h]

theorem State.refBad_kept {s : State} (h : s.Kept c q p) (x1 x2) : (State.refBad s x1 x2).Kept c q p := by
  simp +contextual (maxDischargeDepth := 100) only [State.refBad, State.raise_kept, State.put_kept, State.modDie_kept, h]

theorem State.crossCheck_kept {s : State} (h : s.Kept c q p) (x1 x2 x3 x4 x5) : (State.crossCheck s x1 x2 x3 x4 x5).Kept c q p
    := by
  simp +contextual (maxDischargeDepth := 100) only [State.crossCheck, State.ite_kept, ite_self, State.injStep_kept,
      State.wrI_kept, State.setBit_kept, State.refsGood_kept, State.measFault_kept, State.refBad_kept, h]

theorem execRefCrossCheck_kept {s : State} (h : s.Kept c q p) (x0 x1 x2 x3 x4) : Keeps c q p (execRefCrossCheck x0 x1 x2 x3 x4
    s) := by
  simp +contextual (maxDischargeDepth := 100) only [execRefCrossCheck, State.ite_kept, State.iteFst_kept, ite_self,
      implies_true, ite_keeps, next_keeps, answer_keeps, State.crossCheck_kept, h]

theorem execSenseOpenCheckStart_kept {s : State} (h : s.Kept c q p) (x0) : Keeps c q p (execSenseOpenCheckStart x0 s) := by
  simp +contextual (maxDischargeDepth := 100) only [execSenseOpenCheckStart, State.ite_kept, State.iteFst_kept, ite_self,
      implies_true, ite_keeps, next_keeps, answer_keeps, State.modMeas_kept, h]

theorem State.socDone_kept {s : State} (h : s.Kept c q p) (x1) : (State.socDone s x1).Kept c q p := by
  unfold State.socDone
  repeat' first
    | (simp +contextual (maxDischargeDepth := 100) only [State.when_kept, State.ite_kept, State.iteFst_kept, ite_self,
        implies_true, State.modMeas_kept, State.injStep_kept, State.setBit_kept, State.raise_kept, h]; done)
    | split

theorem execSenseOpenCheckDone_kept {s : State} (h : s.Kept c q p) (x0) : Keeps c q p (execSenseOpenCheckDone x0 s) := by
  simp +contextual (maxDischargeDepth := 100) only [execSenseOpenCheckDone, State.ite_kept, State.iteFst_kept, ite_self,
      implies_true, ite_keeps, next_keeps, answer_keeps, State.socDone_kept, h]

theorem State.setLstate_kept {s : State} (h : s.Kept c q p) (x1 x2) : (State.setLstate s x1 x2).Kept c q p := by
  simp +contextual (maxDischargeDepth := 100) only [State.setLstate, State.put_kept, h]

theorem State.mreqDone_kept {s : State} (h : s.Kept c q p) (x1 x2 x3) : (State.mreqDone s x1 x2 x3).Kept c q p := by
  simp +contextual (maxDischargeDepth := 100) only [State.mreqDone, State.raise_kept, State.wrN_kept, h]

theorem State.opsLost_kept {s : State} (h : s.Kept c q p) (x1) : (State.opsLost s x1).Kept c q p := by
  simp +contextual (maxDischargeDepth := 100) only [State.opsLost, State.when_kept, implies_true, State.modLink_kept,
      State.mreqDone_kept, h]

theorem State.readDesc_kept {s : State} (h : s.Kept c q p) (x1) : (State.readDesc s x1).Kept c q p := by
  simp +contextual (maxDischargeDepth := 100) only [State.readDesc, State.modLink_kept, h]

theorem State.enterAlign_kept {s : State} (h : s.Kept c q p) (x1) : (State.enterAlign s x1).Kept c q p := by
  simp +contextual (maxDischargeDepth := 100) only [State.enterAlign, State.modLink_kept, State.setLstate_kept,
      State.opsLost_kept, h]

theorem State.mreqOut_kept {s : State} (h : s.Kept c q p) (x1) : (State.mreqOut s x1).Kept c q p := by
  unfold State.mreqOut
  repeat' first
    | (simp +contextual (maxDischargeDepth := 100) only [State.ite_kept, State.iteFst_kept, ite_self, implies_true,
        State.modLink_kept, h]; done)
    | split

theorem State.enterUp_kept {s : State} (h : s.Kept c q p) (x1) : (State.enterUp s x1).Kept c q p := by
  simp +contextual (maxDischargeDepth := 100) only [State.enterUp, State.modLink_kept, State.setLstate_kept,
      State.mreqOut_kept, State.raise_kept, State.count_kept, h]

theorem State.descRead_kept {s : State} (h : s.Kept c q p) (x1) : (State.descRead s x1).Kept c q p := by
  simp +contextual (maxDischargeDepth := 100) only [State.descRead, State.each_kept, State.ite_kept, ite_self, implies_true,
      State.wrN_kept, State.modLink_kept, State.enterUp_kept, State.setBit_kept, State.mreqOut_kept, State.raise_kept,
      State.setLstate_kept, h]

theorem State.mopDone_kept {s : State} (h : s.Kept c q p) (x1 x2 x3) : (State.mopDone s x1 x2 x3).Kept c q p := by
  simp +contextual (maxDischargeDepth := 100) only [State.mopDone, State.when_kept, State.ite_kept, ite_self, implies_true,
      State.modLink_kept, State.wrN_kept, State.mreqDone_kept, State.descRead_kept, h]

theorem State.mopNoAnswer_kept {s : State} (h : s.Kept c q p) (x1 x2) : (State.mopNoAnswer s x1 x2).Kept c q p := by
  simp +contextual (maxDischargeDepth := 100) only [State.mopNoAnswer, State.ite_kept, ite_self, State.modLink_kept,
      State.mreqDone_kept, State.enterAlign_kept, h]

theorem State.override_kept {s : State} (h : s.Kept c q p) (x1 x2 x3) : (State.override s x1 x2 x3).Kept c q p := by
  simp +contextual (maxDischargeDepth := 100) only [State.override, State.modLink_kept, h]

theorem State.overrideEnd_kept {s : State} (h : s.Kept c q p) (x1 x2) : (State.overrideEnd s x1 x2).Kept c q p := by
  simp +contextual (maxDischargeDepth := 100) only [State.overrideEnd, State.modLink_kept, h]

theorem State.stageLoss_kept {s : State} (h : s.Kept c q p) (x1 x2) : (State.stageLoss s x1 x2).Kept c q p := by
  simp +contextual (maxDischargeDepth := 100) only [State.stageLoss, State.ite_kept, ite_self, State.setLstate_kept,
      State.opsLost_kept, State.capture_kept, State.raise_kept, State.count_kept, State.override_kept, State.wakeSelf_kept, h]

theorem State.overrideTrip_kept {s : State} (h : s.Kept c q p) (x1 x2 x3 x4 x5) : (State.overrideTrip s x1 x2 x3 x4 x5).Kept c
    q p := by
  simp +contextual (maxDischargeDepth := 100) only [State.overrideTrip, State.ite_kept, ite_self, State.tripCh_kept, h]

theorem State.overrideStep_kept {s : State} (h : s.Kept c q p) (x1) : (State.overrideStep s x1).Kept c q p := by
  unfold State.overrideStep
  dsimp only
  repeat' first
    | (simp +contextual (maxDischargeDepth := 100) only [State.each_kept, State.ite_kept, State.iteFst_kept, ite_self,
        implies_true, State.overrideTrip_kept, State.modCtl_kept, State.modLink_kept, h]; done)
    | split

theorem State.rangeTo_kept {s : State} (h : s.Kept c q p) (x1 x2) : (State.rangeTo s x1 x2).Kept c q p := by
  simp +contextual (maxDischargeDepth := 100) only [State.rangeTo, State.ite_kept, ite_self, State.modMeas_kept,
      State.put_kept, h]

theorem State.sendFrame_kept {s : State} (h : s.Kept c q p) (x1 x2 x3 x4 x5) : (State.sendFrame s x1 x2 x3 x4 x5).Kept c q p := by
  simp +contextual (maxDischargeDepth := 100) only [State.sendFrame, State.each_kept, implies_true, State.send_kept,
      State.rangeTo_kept, State.put_kept, State.wrI_kept, State.modLink_kept, h]

theorem State.stopFrame_kept {s : State} (h : s.Kept c q p) (x1) : (State.stopFrame s x1).Kept c q p := by
  simp +contextual (maxDischargeDepth := 100) only [State.stopFrame, State.each_kept, State.when_kept, State.ite_kept,
      ite_self, implies_true, State.sendFrame_kept, State.safeAll_kept, State.modCtl_kept, State.modLink_kept, h]

theorem State.upFrame_kept {s : State} (h : s.Kept c q p) (x1 x2) : (State.upFrame s x1 x2).Kept c q p := by
  simp +contextual (maxDischargeDepth := 100) only [State.upFrame, State.each_kept, implies_true, State.sendFrame_kept,
      State.modCtl_kept, State.modLink_kept, State.overrideStep_kept, h]

theorem State.quietFrame_kept {s : State} (h : s.Kept c q p) (x1) : (State.quietFrame s x1).Kept c q p := by
  simp +contextual (maxDischargeDepth := 100) only [State.quietFrame, State.modLink_kept, State.overrideStep_kept,
      State.sendFrame_kept, h]

theorem State.frameLaunch_kept {s : State} (h : s.Kept c q p) (x1 x2 x3) : (State.frameLaunch s x1 x2 x3).Kept c q p := by
  simp +contextual (maxDischargeDepth := 100) only [State.frameLaunch, State.ite_kept, ite_self, State.stopFrame_kept,
      State.injStep_kept, State.launch_kept, State.missLaunch_kept, State.upFrame_kept, State.quietFrame_kept, h]

theorem execStageFrameLaunch_kept {s : State} (h : s.Kept c q p) (x0 x1 x2) : Keeps c q p (execStageFrameLaunch x0 x1 x2 s) := by
  simp +contextual (maxDischargeDepth := 100) only [execStageFrameLaunch, State.ite_kept, State.iteFst_kept, ite_self,
      implies_true, ite_keeps, next_keeps, answer_keeps, State.frameLaunch_kept, h]

theorem State.telemetryLost_kept {s : State} (h : s.Kept c q p) (x1 x2) : (State.telemetryLost s x1 x2).Kept c q p := by
  simp +contextual (maxDischargeDepth := 100) only [State.telemetryLost, State.ite_kept, ite_self, State.modLink_kept,
      State.stageLoss_kept, h]

theorem State.noteTelemetry_kept {s : State} (h : s.Kept c q p) (x1 x2 x3) : (State.noteTelemetry s x1 x2 x3).Kept c q p := by
  simp +contextual (maxDischargeDepth := 100) only [State.noteTelemetry, State.wr_kept, State.each_kept, State.when_kept,
      implies_true, State.put_kept, State.setBit_kept, State.wrN_kept, State.raise_kept, State.count_kept, State.modLink_kept, h]

theorem State.rangeCheck_kept {s : State} (h : s.Kept c q p) (x1 x2) : (State.rangeCheck s x1 x2).Kept c q p := by
  simp +contextual (maxDischargeDepth := 100) only [State.rangeCheck, State.when_kept, implies_true, State.raise_kept,
      State.count_kept, h]

theorem State.answerOp_kept {s : State} (h : s.Kept c q p) (x1 x2) : (State.answerOp s x1 x2).Kept c q p := by
  unfold State.answerOp
  repeat' first
    | (simp +contextual (maxDischargeDepth := 100) only [State.ite_kept, State.iteFst_kept, ite_self, implies_true,
        State.mopDone_kept, h]; done)
    | split

theorem State.linkProgress_kept {s : State} (h : s.Kept c q p) (x1 x2) : (State.linkProgress s x1 x2).Kept c q p := by
  unfold State.linkProgress
  dsimp only
  repeat' first
    | (simp +contextual (maxDischargeDepth := 100) only [State.when_kept, State.ite_kept, State.iteFst_kept, ite_self,
        implies_true, State.modLink_kept, State.overrideEnd_kept, State.readDesc_kept, State.setBit_kept, State.setLstate_kept,
        State.override_kept, State.raise_kept, State.stageLoss_kept, h]; done)
    | split

theorem State.telemetry_kept {s : State} (h : s.Kept c q p) (x1 x2 x3 x4) : (State.telemetry s x1 x2 x3 x4).Kept c q p := by
  simp +contextual (maxDischargeDepth := 100) only [State.telemetry, State.ite_kept, ite_self, State.telemetryLost_kept,
      State.count_kept, State.injStep_kept, State.rangeCheck_kept, State.noteTelemetry_kept, State.answerOp_kept,
      State.linkProgress_kept, h]

theorem execTelemetryRx_kept {s : State} (h : s.Kept c q p) (x0 x1 x2 x3) : Keeps c q p (execTelemetryRx x0 x1 x2 x3 s) := by
  simp +contextual (maxDischargeDepth := 100) only [execTelemetryRx, State.ite_kept, State.iteFst_kept, ite_self,
      implies_true, ite_keeps, next_keeps, answer_keeps, State.telemetry_kept, h]

theorem execTelemetryDeadline_kept {s : State} (h : s.Kept c q p) (x0) : Keeps c q p (execTelemetryDeadline x0 s) := by
  simp +contextual (maxDischargeDepth := 100) only [execTelemetryDeadline, State.ite_kept, State.iteFst_kept, ite_self,
      implies_true, ite_keeps, next_keeps, answer_keeps, State.telemetryLost_kept, State.count_kept, h]

theorem execStageRxSignalLoss_kept {s : State} (h : s.Kept c q p) (x0) : Keeps c q p (execStageRxSignalLoss x0 s) := by
  simp +contextual (maxDischargeDepth := 100) only [execStageRxSignalLoss, State.ite_kept, State.iteFst_kept, ite_self,
      implies_true, ite_keeps, next_keeps, answer_keeps, State.modLink_kept, State.stageLoss_kept, h]

theorem execStageLostTimeout_kept {s : State} (h : s.Kept c q p) (x0) : Keeps c q p (execStageLostTimeout x0 s) := by
  simp +contextual (maxDischargeDepth := 100) only [execStageLostTimeout, State.ite_kept, State.iteFst_kept, ite_self,
      implies_true, ite_keeps, next_keeps, answer_keeps, State.enterAlign_kept, h]

theorem execDescReread_kept {s : State} (h : s.Kept c q p) (x0) : Keeps c q p (execDescReread x0 s) := by
  simp +contextual (maxDischargeDepth := 100) only [execDescReread, State.ite_kept, State.iteFst_kept, ite_self, implies_true,
      ite_keeps, next_keeps, answer_keeps, State.modLink_kept, State.readDesc_kept, h]

theorem State.mopRetry_kept {s : State} (h : s.Kept c q p) (x1) : (State.mopRetry s x1).Kept c q p := by
  unfold State.mopRetry
  repeat' first
    | (simp +contextual (maxDischargeDepth := 100) only [State.ite_kept, State.iteFst_kept, ite_self, implies_true,
        State.mopNoAnswer_kept, State.modLink_kept, h]; done)
    | split

theorem execMopRetry_kept {s : State} (h : s.Kept c q p) (x0) : Keeps c q p (execMopRetry x0 s) := by
  simp +contextual (maxDischargeDepth := 100) only [execMopRetry, State.ite_kept, State.iteFst_kept, ite_self, implies_true,
      ite_keeps, next_keeps, answer_keeps, State.mopRetry_kept, h]

theorem State.mreq_kept {s : State} (h : s.Kept c q p) (x1 x2 x3) : (State.mreq s x1 x2 x3).Kept c q p := by
  simp +contextual (maxDischargeDepth := 100) only [State.mreq, State.ite_kept, ite_self, State.raise_kept,
      State.mreqDone_kept, State.wrN_kept, State.modLink_kept, State.mreqOut_kept, h]

theorem execMreqWrite_kept {s : State} (h : s.Kept c q p) (x0 x1) : Keeps c q p (execMreqWrite x0 x1 s) := by
  simp +contextual (maxDischargeDepth := 100) only [execMreqWrite, State.ite_kept, State.iteFst_kept, ite_self, implies_true,
      ite_keeps, next_keeps, answer_keeps, State.mreq_kept, h]

theorem State.stageUnlock_kept {s : State} (h : s.Kept c q p) (x1) : (State.stageUnlock s x1).Kept c q p := by
  simp +contextual (maxDischargeDepth := 100) only [State.stageUnlock, State.each_kept, State.ite_kept, ite_self,
      implies_true, State.opsLost_kept, State.pageFault_kept, State.injStep_kept, State.setLstate_kept, State.safeAll_kept,
      State.modLink_kept, State.modCtl_kept, h]

theorem State.stageStart_kept {s : State} (h : s.Kept c q p) (x1) : (State.stageStart s x1).Kept c q p := by
  simp +contextual (maxDischargeDepth := 100) only [State.stageStart, State.modLink_kept, State.enterAlign_kept, h]

theorem State.stageStop_kept {s : State} (h : s.Kept c q p) (x1) : (State.stageStop s x1).Kept c q p := by
  simp +contextual (maxDischargeDepth := 100) only [State.stageStop, State.modLink_kept, State.opsLost_kept, h]

theorem State.stageStopped_kept {s : State} (h : s.Kept c q p) (x1) : (State.stageStopped s x1).Kept c q p := by
  simp +contextual (maxDischargeDepth := 100) only [State.stageStopped, State.each_kept, implies_true, State.setLstate_kept,
      State.safeAll_kept, State.modCtl_kept, State.modLink_kept, h]

theorem State.setFc_kept {s : State} (h : s.Kept c q p) (x1) : (State.setFc s x1).Kept c q p := by
  simp +contextual (maxDischargeDepth := 100) only [State.setFc, State.upd_kept, h]

theorem State.withRoutes_kept {s : State} (h : s.Kept c q p) (x1) (h1 : ∀ (t : State), t.Kept c q p → (x1 t).Kept c q p) :
    (State.withRoutes s x1).Kept c q p := by
  simp +contextual (maxDischargeDepth := 100) only [State.withRoutes, State.each_kept, implies_true, State.override_kept,
      State.overrideEnd_kept, h, h1]

theorem State.fieldQueue_kept {s : State} (h : s.Kept c q p) (x1 x2) : (State.fieldQueue s x1 x2).Kept c q p := by
  simp +contextual (maxDischargeDepth := 100) only [State.fieldQueue, State.setFc_kept, h]

theorem State.setDoCmd_kept {s : State} (h : s.Kept c q p) (x1) : (State.setDoCmd s x1).Kept c q p := by
  simp +contextual (maxDischargeDepth := 100) only [State.setDoCmd, State.when_kept, implies_true, State.setFc_kept,
      State.put_kept, h]

theorem State.doCommand_kept {s : State} (h : s.Kept c q p) (x1 x2 x3) : (State.doCommand s x1 x2 x3).Kept c q p := by
  simp +contextual (maxDischargeDepth := 100) only [State.doCommand, State.setDoCmd_kept, h]

theorem State.lsCmdSet_kept {s : State} (h : s.Kept c q p) (x1 x2) : (State.lsCmdSet s x1 x2).Kept c q p := by
  simp +contextual (maxDischargeDepth := 100) only [State.lsCmdSet, State.when_kept, implies_true, State.setFc_kept,
      State.setBit_kept, h]

theorem execDoSetWrite_kept {s : State} (h : s.Kept c q p) (x0 x1) : Keeps c q p (execDoSetWrite x0 x1 s) := by
  simp +contextual (maxDischargeDepth := 100) only [execDoSetWrite, State.ite_kept, State.iteFst_kept, ite_self, implies_true,
      ite_keeps, next_keeps, answer_keeps, State.doCommand_kept, h]

theorem execDoClrWrite_kept {s : State} (h : s.Kept c q p) (x0 x1) : Keeps c q p (execDoClrWrite x0 x1 s) := by
  simp +contextual (maxDischargeDepth := 100) only [execDoClrWrite, State.ite_kept, State.iteFst_kept, ite_self, implies_true,
      ite_keeps, next_keeps, answer_keeps, State.doCommand_kept, h]

theorem execDoFltClear_kept {s : State} (h : s.Kept c q p) (x0 x1) : Keeps c q p (execDoFltClear x0 x1 s) := by
  simp +contextual (maxDischargeDepth := 100) only [execDoFltClear, State.ite_kept, State.iteFst_kept, ite_self, implies_true,
      ite_keeps, next_keeps, answer_keeps, State.fieldQueue_kept, h]

theorem execLsCmdWrite_kept {s : State} (h : s.Kept c q p) (x0 x1 x2) : Keeps c q p (execLsCmdWrite x0 x1 x2 s) := by
  simp +contextual (maxDischargeDepth := 100) only [execLsCmdWrite, State.ite_kept, State.iteFst_kept, ite_self, implies_true,
      ite_keeps, next_keeps, answer_keeps, State.lsCmdSet_kept, h]

theorem execLsClr_kept {s : State} (h : s.Kept c q p) (x0 x1) : Keeps c q p (execLsClr x0 x1 s) := by
  simp +contextual (maxDischargeDepth := 100) only [execLsClr, State.ite_kept, State.iteFst_kept, ite_self, implies_true,
      ite_keeps, next_keeps, answer_keeps, State.fieldQueue_kept, h]

theorem execZtRelease_kept {s : State} (h : s.Kept c q p) (x0) : Keeps c q p (execZtRelease x0 s) := by
  simp +contextual (maxDischargeDepth := 100) only [execZtRelease, State.ite_kept, State.iteFst_kept, ite_self, implies_true,
      ite_keeps, next_keeps, answer_keeps, State.fieldQueue_kept, h]

theorem execZtTest_kept {s : State} (h : s.Kept c q p) (x0) : Keeps c q p (execZtTest x0 s) := by
  simp +contextual (maxDischargeDepth := 100) only [execZtTest, State.ite_kept, State.iteFst_kept, ite_self, implies_true,
      ite_keeps, next_keeps, answer_keeps, State.fieldQueue_kept, h]

theorem execFlResume_kept {s : State} (h : s.Kept c q p) : Keeps c q p (execFlResume s) := by
  simp +contextual (maxDischargeDepth := 100) only [execFlResume, State.ite_kept, State.iteFst_kept, ite_self, implies_true,
      ite_keeps, next_keeps, answer_keeps, State.raise_kept, State.setFc_kept, h]

theorem execFlForce_kept {s : State} (h : s.Kept c q p) : Keeps c q p (execFlForce s) := by
  simp +contextual (maxDischargeDepth := 100) only [execFlForce, State.ite_kept, State.iteFst_kept, ite_self, implies_true,
      ite_keeps, next_keeps, answer_keeps, State.setFc_kept, h]

theorem execFlFrst_kept {s : State} (h : s.Kept c q p) : Keeps c q p (execFlFrst s) := by
  simp +contextual (maxDischargeDepth := 100) only [execFlFrst, State.ite_kept, State.iteFst_kept, ite_self, implies_true,
      ite_keeps, next_keeps, answer_keeps, State.setFc_kept, h]

theorem State.fieldSend_kept {s : State} (h : s.Kept c q p) (x1) : (State.fieldSend s x1).Kept c q p := by
  simp +contextual (maxDischargeDepth := 100) only [State.fieldSend, State.send_kept, State.setFc_kept, h]

theorem State.fieldFresh_kept {s : State} (h : s.Kept c q p) : (State.fieldFresh s).Kept c q p := by
  simp +contextual (maxDischargeDepth := 100) only [State.fieldFresh, State.setFc_kept, State.fieldSend_kept, h]

theorem State.fieldStale_kept {s : State} (h : s.Kept c q p) : (State.fieldStale s).Kept c q p := by
  simp +contextual (maxDischargeDepth := 100) only [State.fieldStale, State.fieldSend_kept, h]

theorem execFieldDownstreamLaunch_kept {s : State} (h : s.Kept c q p) (x0 x1) : Keeps c q p (execFieldDownstreamLaunch x0 x1
    s) := by
  simp +contextual (maxDischargeDepth := 100) only [execFieldDownstreamLaunch, State.ite_kept, State.iteFst_kept, ite_self,
      implies_true, ite_keeps, next_keeps, answer_keeps, State.injStep_kept, State.fieldStale_kept, State.missLaunch_kept,
      State.fieldFresh_kept, State.launch_kept, h]

theorem State.fieldTakes_kept {s : State} (h : s.Kept c q p) (x1) : (State.fieldTakes s x1).Kept c q p := by
  simp +contextual (maxDischargeDepth := 100) only [State.fieldTakes, State.each_kept, State.ite_kept, ite_self, implies_true,
      State.setField_kept, State.clearField_kept, State.fput_kept, State.fsetBit_kept, State.lsCommand_kept,
      State.leaveFailsafe_kept, State.enterFailsafe_kept, State.fieldWrite_kept, State.fieldSettle_kept, h]

theorem execFieldDownstreamRx_kept {s : State} (h : s.Kept c q p) (x0) : Keeps c q p (execFieldDownstreamRx x0 s) := by
  unfold execFieldDownstreamRx
  repeat' first
    | (simp +contextual (maxDischargeDepth := 100) only [State.ite_kept, State.iteFst_kept, ite_self, implies_true, ite_keeps,
        next_keeps, answer_keeps, State.setFc_kept, State.injStep_kept, State.fcount_kept, State.setField_kept,
        State.fieldTakes_kept, h]; done)
    | split

theorem State.fieldMeasured_kept {s : State} (h : s.Kept c q p) (x1) : (State.fieldMeasured s x1).Kept c q p := by
  simp +contextual (maxDischargeDepth := 100) only [State.fieldMeasured, State.each_kept, implies_true, State.fwr_kept,
      State.fput_kept, h]

theorem State.fieldReport_kept {s : State} (h : s.Kept c q p) : (State.fieldReport s).Kept c q p := by
  simp +contextual (maxDischargeDepth := 100) only [State.fieldReport, State.setField_kept, State.setFc_kept, h]

theorem execFieldUpstreamLaunch_kept {s : State} (h : s.Kept c q p) (x0) : Keeps c q p (execFieldUpstreamLaunch x0 s) := by
  simp +contextual (maxDischargeDepth := 100) only [execFieldUpstreamLaunch, State.ite_kept, State.iteFst_kept, ite_self,
      implies_true, ite_keeps, next_keeps, answer_keeps, State.onField_kept, State.fieldReport_kept, State.fieldMeasured_kept, h]

theorem State.fieldKeep_kept {s : State} (h : s.Kept c q p) : (State.fieldKeep s).Kept c q p := by
  unfold State.fieldKeep
  repeat' first
    | (simp +contextual (maxDischargeDepth := 100) only [State.ite_kept, State.iteFst_kept, ite_self, implies_true,
        State.setField_kept, State.setFc_kept, h]; done)
    | split

theorem State.upLost_kept {s : State} (h : s.Kept c q p) (x1) : (State.upLost s x1).Kept c q p := by
  simp +contextual (maxDischargeDepth := 100) only [State.upLost, State.ite_kept, ite_self, implies_true,
      State.fieldKeep_kept, State.count_kept, State.setFc_kept, State.raise_kept, State.withRoutes_kept, State.setBit_kept, h]

theorem execFieldUpstreamMissing_kept {s : State} (h : s.Kept c q p) (x0) : Keeps c q p (execFieldUpstreamMissing x0 s) := by
  simp +contextual (maxDischargeDepth := 100) only [execFieldUpstreamMissing, State.ite_kept, State.iteFst_kept, ite_self,
      implies_true, ite_keeps, next_keeps, answer_keeps, State.upLost_kept, h]

theorem State.copyRegs_kept {s : State} (h : s.Kept c q p) (u : UpFrame) (all : Bool) : (s.copyRegs u all).Kept c q p := by
  have key : ∀ (l : List (Nat × Word)) (m : List (Nat × Word)), Sparse.rising m = true →
      Sparse.rising (l.foldl (fun (m : List (Nat × Word)) (e : Nat × Word) => Sparse.insert m e.1 e.2) m) = true := by
    intro l
    induction l with
    | nil => exact fun _ h => h
    | cons e l ih => exact fun m h => ih _ (Sparse.rising_insert m e.1 e.2 h)
  have h1 : ({ s with regs := List.foldl (fun (m : List (Nat × Word)) (e : Nat × Word) => Sparse.insert m e.1 e.2)
                                (s.regs.filter fun e => !copied all e.1) (u.regs.filter fun e => copied all e.1) } :
                                    State).Kept c q p :=
    h.tables rfl rfl (fun hc => key _ _ (Sparse.rising_filter _ _ (h.regs hc))) h.dram
  unfold State.copyRegs
  refine State.each_kept (State.setBit_kept h1 _ _ _) _ _ fun t w ht => ?_
  split
  · split
    · exact State.wr_kept ht _ _
    · exact ht
  · exact ht

theorem State.copyRoutes_kept {s : State} (h : s.Kept c q p) : (State.copyRoutes s).Kept c q p := by
  simp +contextual (maxDischargeDepth := 100) only [State.copyRoutes, State.setFc_kept, h]

theorem State.edgeRx_kept {s : State} (h : s.Kept c q p) (x1 x2 x3) : (State.edgeRx s x1 x2 x3).Kept c q p := by
  simp +contextual (maxDischargeDepth := 100) only [State.edgeRx, State.each_kept, State.when_kept, State.ite_kept, ite_self,
      implies_true, State.capture_kept, State.count_kept, State.modProg_kept, State.raise_kept, State.wakeRequest_kept, h]

theorem State.upRx_kept {s : State} (h : s.Kept c q p) (x1) : (State.upRx s x1).Kept c q p := by
  simp +contextual (maxDischargeDepth := 100) only [State.upRx, State.each_kept, State.when_kept, State.ite_kept, ite_self,
      implies_true, State.setFc_kept, State.copyRegs_kept, State.setPg_kept, State.raise_kept, State.copyRoutes_kept,
      State.count_kept, State.edgeRx_kept, State.withRoutes_kept, State.setBit_kept, State.wakeSelf_kept, State.capture_kept, h]

theorem execFieldUpstreamRx_kept {s : State} (h : s.Kept c q p) : Keeps c q p (execFieldUpstreamRx s) := by
  unfold execFieldUpstreamRx
  repeat' first
    | (simp +contextual (maxDischargeDepth := 100) only [State.ite_kept, State.iteFst_kept, ite_self, implies_true, ite_keeps,
        next_keeps, answer_keeps, State.injStep_kept, State.upLost_kept, State.regWrFollow_kept, State.upRx_kept, h]; done)
    | split

theorem execBarrierFail_kept {s : State} (h : s.Kept c q p) : Keeps c q p (execBarrierFail s) := by
  simp +contextual (maxDischargeDepth := 100) only [execBarrierFail, State.ite_kept, State.iteFst_kept, ite_self,
      implies_true, ite_keeps, next_keeps, answer_keeps, State.pageFault_kept, h]

theorem State.setInc_kept {s : State} (h : s.Kept c q p) (x1) : (State.setInc s x1).Kept c q p := by
  simp +contextual (maxDischargeDepth := 100) only [State.setInc, State.wrN_kept, h]

theorem State.setCounter_kept {s : State} (h : s.Kept c q p) (x1 x2 x3) : (State.setCounter s x1 x2 x3).Kept c q p := by
  simp +contextual (maxDischargeDepth := 100) only [State.setCounter, State.wrN_kept, State.wr64_kept, h]

theorem State.bkTick_kept {s : State} (h : s.Kept c q p) : (State.bkTick s).Kept c q p := by
  simp +contextual (maxDischargeDepth := 100) only [State.bkTick, State.upd_kept, State.ite_kept, ite_self, State.put_kept,
      State.wr64_kept, h]

theorem State.tick_kept {s : State} (h : s.Kept c q p) : (State.tick s).Kept c q p := by
  simp +contextual (maxDischargeDepth := 100) only [State.tick, State.ite_kept, ite_self, State.bkTick_kept,
      State.setCounter_kept, h]

theorem execTbIncLoWrite_kept {s : State} (h : s.Kept c q p) (x0) : Keeps c q p (execTbIncLoWrite x0 s) := by
  simp +contextual (maxDischargeDepth := 100) only [execTbIncLoWrite, State.upd_kept, State.updDma_kept, State.ite_kept,
      State.iteFst_kept, ite_self, implies_true, ite_keeps, next_keeps, answer_keeps, State.raise_kept, h]

theorem execTbIncHiWrite_kept {s : State} (h : s.Kept c q p) (x0) : Keeps c q p (execTbIncHiWrite x0 s) := by
  simp +contextual (maxDischargeDepth := 100) only [execTbIncHiWrite, State.ite_kept, State.iteFst_kept, ite_self,
      implies_true, ite_keeps, next_keeps, answer_keeps, State.raise_kept, State.setInc_kept, h]

theorem execTbSecLoRead_kept {s : State} (h : s.Kept c q p) : Keeps c q p (execTbSecLoRead s) := by
  simp +contextual (maxDischargeDepth := 100) only [execTbSecLoRead, State.upd_kept, State.updDma_kept, State.ite_kept,
      State.iteFst_kept, ite_self, implies_true, ite_keeps, next_keeps, answer_keeps, h]

theorem State.setStep_kept {s : State} (h : s.Kept c q p) (x1) : (State.setStep s x1).Kept c q p := by
  simp +contextual (maxDischargeDepth := 100) only [State.setStep, State.upd_kept, h]

theorem State.setServo_kept {s : State} (h : s.Kept c q p) (x1) : (State.setServo s x1).Kept c q p := by
  simp +contextual (maxDischargeDepth := 100) only [State.setServo, State.upd_kept, h]

theorem State.timeValid_kept {s : State} (h : s.Kept c q p) : (State.timeValid s).Kept c q p := by
  simp +contextual (maxDischargeDepth := 100) only [State.timeValid, State.ite_kept, ite_self, State.setBit_kept, h]

theorem State.requestStep_kept {s : State} (h : s.Kept c q p) (x1) : (State.requestStep s x1).Kept c q p := by
  simp +contextual (maxDischargeDepth := 100) only [State.requestStep, State.ite_kept, ite_self, State.raise_kept,
      State.setBit_kept, State.setStep_kept, h]

theorem execTbStepGo_kept {s : State} (h : s.Kept c q p) (x0) : Keeps c q p (execTbStepGo x0 s) := by
  simp +contextual (maxDischargeDepth := 100) only [execTbStepGo, State.ite_kept, State.iteFst_kept, ite_self, implies_true,
      ite_keeps, next_keeps, answer_keeps, State.raise_kept, State.requestStep_kept, h]

theorem State.stepChannel_kept {s : State} (h : s.Kept c q p) (x1 x2 x3) : (State.stepChannel s x1 x2 x3).Kept c q p := by
  simp +contextual (maxDischargeDepth := 100) only [State.stepChannel, State.modMeas_kept, State.modCtl_kept,
      State.modEis_kept, State.modTrend_kept, h]

theorem State.stepAt_kept {s : State} (h : s.Kept c q p) (x1) : (State.stepAt s x1).Kept c q p := by
  simp +contextual (maxDischargeDepth := 100) only [State.stepAt, State.each_kept, State.when_kept, State.ite_kept, ite_self,
      implies_true, State.setBit_kept, State.setStep_kept, State.setCounter_kept, State.stepChannel_kept, State.capture_kept,
      State.raise_kept, State.timeValid_kept, State.put_kept, State.setServo_kept, h]

theorem State.applyAdj_kept {s : State} (h : s.Kept c q p) (x1) : (State.applyAdj s x1).Kept c q p := by
  simp +contextual (maxDischargeDepth := 100) only [State.applyAdj, State.setInc_kept, State.wrI_kept, h]

theorem State.servoState_kept {s : State} (h : s.Kept c q p) (x1) : (State.servoState s x1).Kept c q p := by
  simp +contextual (maxDischargeDepth := 100) only [State.servoState, State.ite_kept, ite_self, State.put_kept,
      State.timeValid_kept, State.raise_kept, h]

theorem State.servoLock_kept {s : State} (h : s.Kept c q p) (x1) : (State.servoLock s x1).Kept c q p := by
  simp +contextual (maxDischargeDepth := 100) only [State.servoLock, State.ite_kept, ite_self, State.setServo_kept,
      State.servoState_kept, h]

theorem State.servoFar_kept {s : State} (h : s.Kept c q p) (x1 x2) : (State.servoFar s x1 x2).Kept c q p := by
  simp +contextual (maxDischargeDepth := 100) only [State.servoFar, State.ite_kept, ite_self, State.applyAdj_kept,
      State.setServo_kept, State.requestStep_kept, State.raise_kept, State.setBit_kept, h]

theorem State.servoNear_kept {s : State} (h : s.Kept c q p) (x1 x2) : (State.servoNear s x1 x2).Kept c q p := by
  simp +contextual (maxDischargeDepth := 100) only [State.servoNear, State.applyAdj_kept, State.setBit_kept,
      State.setServo_kept, h]

theorem State.servoOffset_kept {s : State} (h : s.Kept c q p) (x1) : (State.servoOffset s x1).Kept c q p := by
  simp +contextual (maxDischargeDepth := 100) only [State.servoOffset, State.ite_kept, ite_self, State.wrI_kept,
      State.setServo_kept, State.servoLock_kept, State.servoFar_kept, State.servoNear_kept, h]

theorem execTbOfsInWrite_kept {s : State} (h : s.Kept c q p) (x0) : Keeps c q p (execTbOfsInWrite x0 s) := by
  simp +contextual (maxDischargeDepth := 100) only [execTbOfsInWrite, State.ite_kept, State.iteFst_kept, ite_self,
      implies_true, ite_keeps, next_keeps, answer_keeps, State.servoOffset_kept, h]

theorem execServoHoldoverTimeout_kept {s : State} (h : s.Kept c q p) : Keeps c q p (execServoHoldoverTimeout s) := by
  simp +contextual (maxDischargeDepth := 100) only [execServoHoldoverTimeout, State.ite_kept, State.iteFst_kept, ite_self,
      implies_true, ite_keeps, next_keeps, answer_keeps, State.applyAdj_kept, State.raise_kept, State.servoState_kept, h]

theorem State.servoFree_kept {s : State} (h : s.Kept c q p) : (State.servoFree s).Kept c q p := by
  simp +contextual (maxDischargeDepth := 100) only [State.servoFree, State.when_kept, implies_true, State.raise_kept,
      State.setServo_kept, State.put_kept, h]

theorem State.refChange_kept {s : State} (h : s.Kept c q p) (x1) : (State.refChange s x1).Kept c q p := by
  simp +contextual (maxDischargeDepth := 100) only [State.refChange, State.setBit_kept, State.put_kept, State.capture_kept,
      State.raise_kept, State.count_kept, h]

theorem State.refFailed_kept {s : State} (h : s.Kept c q p) (x1) : (State.refFailed s x1).Kept c q p := by
  simp +contextual (maxDischargeDepth := 100) only [State.refFailed, State.ite_kept, ite_self, State.setBit_kept,
      State.raise_kept, State.refChange_kept, h]

theorem execRefEdgeLoss_kept {s : State} (h : s.Kept c q p) (x0) : Keeps c q p (execRefEdgeLoss x0 s) := by
  simp +contextual (maxDischargeDepth := 100) only [execRefEdgeLoss, State.ite_kept, State.iteFst_kept, ite_self,
      implies_true, ite_keeps, next_keeps, answer_keeps, State.refFailed_kept, State.injStep_kept, h]

theorem State.refCompare_kept {s : State} (h : s.Kept c q p) (x1 x2) : (State.refCompare s x1 x2).Kept c q p := by
  simp +contextual (maxDischargeDepth := 100) only [State.refCompare, State.when_kept, implies_true, State.injStep_kept,
      State.put_kept, State.refFailed_kept, h]

theorem execRefFreqCheck_kept {s : State} (h : s.Kept c q p) (x0 x1) : Keeps c q p (execRefFreqCheck x0 x1 s) := by
  simp +contextual (maxDischargeDepth := 100) only [execRefFreqCheck, State.ite_kept, State.iteFst_kept, ite_self,
      implies_true, ite_keeps, next_keeps, answer_keeps, State.refCompare_kept, h]

theorem execRefReturn_kept {s : State} (h : s.Kept c q p) (x0) : Keeps c q p (execRefReturn x0 s) := by
  simp +contextual (maxDischargeDepth := 100) only [execRefReturn, State.ite_kept, State.iteFst_kept, ite_self, implies_true,
      ite_keeps, next_keeps, answer_keeps, State.setBit_kept, State.refChange_kept, h]

theorem execPllUnlock_kept {s : State} (h : s.Kept c q p) : Keeps c q p (execPllUnlock s) := by
  simp +contextual (maxDischargeDepth := 100) only [execPllUnlock, State.ite_kept, State.iteFst_kept, ite_self, implies_true,
      ite_keeps, next_keeps, answer_keeps, State.servoFree_kept, State.pageFault_kept, State.injStep_kept, h]

theorem State.secondPassed_kept {s : State} (h : s.Kept c q p) : (State.secondPassed s).Kept c q p := by
  simp +contextual (maxDischargeDepth := 100) only [State.secondPassed, State.upd_kept, State.ite_kept, ite_self,
      State.put_kept, State.wr64_kept, State.refChange_kept, h]

theorem execWholeSecond_kept {s : State} (h : s.Kept c q p) : Keeps c q p (execWholeSecond s) := by
  simp +contextual (maxDischargeDepth := 100) only [execWholeSecond, State.ite_kept, State.iteFst_kept, ite_self,
      implies_true, ite_keeps, next_keeps, answer_keeps, State.secondPassed_kept, h]

theorem State.catDone_kept {s : State} (h : s.Kept c q p) (x1 x2) : (State.catDone s x1 x2).Kept c q p := by
  simp +contextual (maxDischargeDepth := 100) only [State.catDone, State.wrN_kept, h]

theorem State.catAlloc_kept {s : State} (h : s.Kept c q p) (x1) : (State.catAlloc s x1).Kept c q p := by
  unfold State.catAlloc
  repeat' first
    | (simp +contextual (maxDischargeDepth := 100) only [State.ite_kept, State.iteFst_kept, ite_self, implies_true,
        State.catDone_kept, State.put_kept, h]; done)
    | split

theorem State.catOp_kept {s : State} (h : s.Kept c q p) (x1 x2 x3) : (State.catOp s x1 x2 x3).Kept c q p := by
  unfold State.catOp
  repeat' first
    | (simp +contextual (maxDischargeDepth := 100) only [State.ite_kept, State.iteFst_kept, ite_self, implies_true,
        State.catDone_kept, State.catAlloc_kept, State.put_kept, h]; done)
    | split

theorem execCatNop_kept {s : State} (h : s.Kept c q p) (x0 x1) : Keeps c q p (execCatNop x0 x1 s) := by
  simp +contextual (maxDischargeDepth := 100) only [execCatNop, State.ite_kept, State.iteFst_kept, ite_self, implies_true,
      ite_keeps, next_keeps, answer_keeps, State.catOp_kept, h]

theorem execCatAlloc_kept {s : State} (h : s.Kept c q p) (x0 x1) : Keeps c q p (execCatAlloc x0 x1 s) := by
  simp +contextual (maxDischargeDepth := 100) only [execCatAlloc, State.ite_kept, State.iteFst_kept, ite_self, implies_true,
      ite_keeps, next_keeps, answer_keeps, State.catOp_kept, h]

theorem execCatArm_kept {s : State} (h : s.Kept c q p) (x0 x1) : Keeps c q p (execCatArm x0 x1 s) := by
  simp +contextual (maxDischargeDepth := 100) only [execCatArm, State.ite_kept, State.iteFst_kept, ite_self, implies_true,
      ite_keeps, next_keeps, answer_keeps, State.catOp_kept, h]

theorem execCatDisarm_kept {s : State} (h : s.Kept c q p) (x0 x1) : Keeps c q p (execCatDisarm x0 x1 s) := by
  simp +contextual (maxDischargeDepth := 100) only [execCatDisarm, State.ite_kept, State.iteFst_kept, ite_self, implies_true,
      ite_keeps, next_keeps, answer_keeps, State.catOp_kept, h]

theorem execCatFree_kept {s : State} (h : s.Kept c q p) (x0 x1) : Keeps c q p (execCatFree x0 x1 s) := by
  simp +contextual (maxDischargeDepth := 100) only [execCatFree, State.ite_kept, State.iteFst_kept, ite_self, implies_true,
      ite_keeps, next_keeps, answer_keeps, State.catOp_kept, h]

theorem State.catRead_kept {s : State} (h : s.Kept c q p) (x1) : (State.catRead s x1).Kept c q p := by
  unfold State.catRead
  repeat' first
    | (simp +contextual (maxDischargeDepth := 100) only [State.ite_kept, State.iteFst_kept, ite_self, implies_true,
        State.wrN_kept, State.wr64_kept, State.setCatFifo_kept, h]; done)
    | split

theorem execCatFifoRead_kept {s : State} (h : s.Kept c q p) (x0) : Keeps c q p (execCatFifoRead x0 s) := by
  simp +contextual (maxDischargeDepth := 100) only [execCatFifoRead, State.ite_kept, State.iteFst_kept, ite_self,
      implies_true, ite_keeps, next_keeps, answer_keeps, State.catRead_kept, h]

end Sys2Proof.Machine
end

