-- ==== Sys2Proof/Laws/KeptD.lean ====
section
/-!
SUPPORT. What the operations of these files of the model keep: Slots, Seats, Mailbox, Security.
-/
namespace Sys2Proof.Machine
set_option linter.all false
variable {c : Prop} {q : List Instr} {p : Part}

theorem State.setNext_kept {s : State} (h : s.Kept c q p) (x1 x2) : (State.setNext s x1 x2).Kept c q p := by
  simp +contextual (maxDischargeDepth := 100) only [State.setNext, State.upd_kept, h]

theorem State.clearNext_kept {s : State} (h : s.Kept c q p) (x1) : (State.clearNext s x1).Kept c q p := by
  simp +contextual (maxDischargeDepth := 100) only [State.clearNext, State.upd_kept, h]

theorem State.schDone_kept {s : State} (h : s.Kept c q p) (x1 x2) : (State.schDone s x1 x2).Kept c q p := by
  simp +contextual (maxDischargeDepth := 100) only [State.schDone, State.wrN_kept, h]

theorem State.schMissed_kept {s : State} (h : s.Kept c q p) (x1) : (State.schMissed s x1).Kept c q p := by
  simp +contextual (maxDischargeDepth := 100) only [State.schMissed, State.ite_kept, ite_self, State.count_kept,
      State.setBit_kept, State.clearNext_kept, State.raise_kept, State.transMiss_kept, State.slotState_kept, h]

theorem State.schSkip_kept {s : State} (h : s.Kept c q p) (x1 x2) : (State.schSkip s x1 x2).Kept c q p := by
  simp +contextual (maxDischargeDepth := 100) only [State.schSkip, State.ite_kept, ite_self, State.setNext_kept,
      State.count_kept, State.raise_kept, h]

theorem State.schArm_kept {s : State} (h : s.Kept c q p) (x1) : (State.schArm s x1).Kept c q p := by
  simp +contextual (maxDischargeDepth := 100) only [State.schArm, State.ite_kept, ite_self, State.slotState_kept,
      State.setBit_kept, State.setNext_kept, State.schSkip_kept, State.schMissed_kept, State.schDone_kept, h]

theorem State.schAlloc_kept {s : State} (h : s.Kept c q p) (x1) : (State.schAlloc s x1).Kept c q p := by
  unfold State.schAlloc
  repeat' first
    | (simp +contextual (maxDischargeDepth := 100) only [State.ite_kept, State.iteFst_kept, ite_self, implies_true,
        State.schDone_kept, State.slotState_kept, State.setBit_kept, State.put_kept, h]; done)
    | split

theorem State.schOp_kept {s : State} (h : s.Kept c q p) (x1 x2 x3) : (State.schOp s x1 x2 x3).Kept c q p := by
  unfold State.schOp
  repeat' first
    | (simp +contextual (maxDischargeDepth := 100) only [State.ite_kept, State.iteFst_kept, ite_self, implies_true,
        State.schDone_kept, State.schAlloc_kept, State.schArm_kept, State.clearNext_kept, State.slotState_kept, h]; done)
    | split

theorem execSchNop_kept {s : State} (h : s.Kept c q p) (x0 x1) : Keeps c q p (execSchNop x0 x1 s) := by
  simp +contextual (maxDischargeDepth := 100) only [execSchNop, State.ite_kept, State.iteFst_kept, ite_self, implies_true,
      ite_keeps, next_keeps, answer_keeps, State.schOp_kept, h]

theorem execSchAlloc_kept {s : State} (h : s.Kept c q p) (x0 x1) : Keeps c q p (execSchAlloc x0 x1 s) := by
  simp +contextual (maxDischargeDepth := 100) only [execSchAlloc, State.ite_kept, State.iteFst_kept, ite_self, implies_true,
      ite_keeps, next_keeps, answer_keeps, State.schOp_kept, h]

theorem execSchArm_kept {s : State} (h : s.Kept c q p) (x0 x1) : Keeps c q p (execSchArm x0 x1 s) := by
  simp +contextual (maxDischargeDepth := 100) only [execSchArm, State.ite_kept, State.iteFst_kept, ite_self, implies_true,
      ite_keeps, next_keeps, answer_keeps, State.schOp_kept, h]

theorem execSchDisarm_kept {s : State} (h : s.Kept c q p) (x0 x1) : Keeps c q p (execSchDisarm x0 x1 s) := by
  simp +contextual (maxDischargeDepth := 100) only [execSchDisarm, State.ite_kept, State.iteFst_kept, ite_self, implies_true,
      ite_keeps, next_keeps, answer_keeps, State.schOp_kept, h]

theorem execSchFree_kept {s : State} (h : s.Kept c q p) (x0 x1) : Keeps c q p (execSchFree x0 x1 s) := by
  simp +contextual (maxDischargeDepth := 100) only [execSchFree, State.ite_kept, State.iteFst_kept, ite_self, implies_true,
      ite_keeps, next_keeps, answer_keeps, State.schOp_kept, h]

theorem execSchReservedOp_kept {s : State} (h : s.Kept c q p) (x0 x1 x2) : Keeps c q p (execSchReservedOp x0 x1 x2 s) := by
  simp +contextual (maxDischargeDepth := 100) only [execSchReservedOp, State.ite_kept, State.iteFst_kept, ite_self,
      implies_true, ite_keeps, next_keeps, answer_keeps, State.schOp_kept, h]

theorem State.schAct_kept {s : State} (h : s.Kept c q p) (x1 x2) : (State.schAct s x1 x2).Kept c q p := by
  unfold State.schAct
  repeat' first
    | (simp +contextual (maxDischargeDepth := 100) only [State.when_kept, State.upd_kept, State.updDma_kept, State.ite_kept,
        State.iteFst_kept, ite_self, implies_true, State.wrN_kept, State.raise_kept, State.transFire_kept, State.doCommand_kept,
        State.wakeRequest_kept, h]; done)
    | split

theorem State.schFire_kept {s : State} (h : s.Kept c q p) (x1 x2 x3 x4) : (State.schFire s x1 x2 x3 x4).Kept c q p := by
  simp +contextual (maxDischargeDepth := 100) only [State.schFire, State.ite_kept, ite_self, State.launch_kept,
      State.wrN_kept, State.wr64_kept, State.count_kept, State.raise_kept, State.setBit_kept, State.schAct_kept,
      State.capture_kept, State.slotState_kept, State.clearNext_kept, State.setNext_kept, h]

theorem State.slotFire_kept {s : State} (h : s.Kept c q p) (x1 x2 x3 x4) : (State.slotFire s x1 x2 x3 x4).Kept c q p := by
  simp +contextual (maxDischargeDepth := 100) only [State.slotFire, State.ite_kept, ite_self, State.injStep_kept,
      State.schSkip_kept, State.schMissed_kept, State.missLaunch_kept, State.setNext_kept, State.schFire_kept, h]

theorem State.slotsPassed_kept {s : State} (h : s.Kept c q p) : (State.slotsPassed s).Kept c q p := by
  simp +contextual (maxDischargeDepth := 100) only [State.slotsPassed, State.each_kept, State.ite_kept, ite_self,
      implies_true, State.schSkip_kept, State.schMissed_kept, State.setNext_kept, h]

theorem execStepTick_kept {s : State} (h : s.Kept c q p) : Keeps c q p (execStepTick s) := by
  unfold execStepTick
  repeat' first
    | (simp +contextual (maxDischargeDepth := 100) only [State.when_kept, State.ite_kept, State.iteFst_kept, ite_self,
        implies_true, ite_keeps, next_keeps, answer_keeps, State.stepAt_kept, State.slotsPassed_kept, h]; done)
    | split

theorem execSlotFire_kept {s : State} (h : s.Kept c q p) (x0 x1 x2 x3) : Keeps c q p (execSlotFire x0 x1 x2 x3 s) := by
  simp +contextual (maxDischargeDepth := 100) only [execSlotFire, State.ite_kept, State.iteFst_kept, ite_self, implies_true,
      ite_keeps, next_keeps, answer_keeps, State.slotFire_kept, h]

theorem execTioPulseEnd_kept {s : State} (h : s.Kept c q p) (x0) : Keeps c q p (execTioPulseEnd x0 s) := by
  simp +contextual (maxDischargeDepth := 100) only [execTioPulseEnd, State.upd_kept, State.updDma_kept, State.ite_kept,
      State.iteFst_kept, ite_self, implies_true, ite_keeps, next_keeps, answer_keeps, h]

theorem execTioInEdge_kept {s : State} (h : s.Kept c q p) (x0) : Keeps c q p (execTioInEdge x0 s) := by
  simp +contextual (maxDischargeDepth := 100) only [execTioInEdge, State.ite_kept, State.iteFst_kept, ite_self, implies_true,
      ite_keeps, next_keeps, answer_keeps, State.capture_kept, State.servoOffset_kept, h]

theorem State.seatsFollow_kept {s : State} (h : s.Kept c q p) : (State.seatsFollow s).Kept c q p := by
  simp +contextual (maxDischargeDepth := 100) only [State.seatsFollow, State.each_kept, implies_true, State.wr64_kept, h]

theorem State.setSeatState_kept {s : State} (h : s.Kept c q p) (x1 x2) : (State.setSeatState s x1 x2).Kept c q p := by
  simp +contextual (maxDischargeDepth := 100) only [State.setSeatState, State.putSeatBit_kept, State.put_kept,
      State.ringsFollow_kept, State.seatsFollow_kept, h]

theorem State.setShare_kept {s : State} (h : s.Kept c q p) (x1 x2) : (State.setShare s x1 x2).Kept c q p := by
  simp +contextual (maxDischargeDepth := 100) only [State.setShare, State.setBit_kept, State.put_kept, h]

theorem State.grantsFollow_kept {s : State} (h : s.Kept c q p) (x1) : (State.grantsFollow s x1).Kept c q p := by
  simp +contextual (maxDischargeDepth := 100) only [State.grantsFollow, State.wrN_kept, h]

theorem State.qsetFollow_kept {s : State} (h : s.Kept c q p) (x1) : (State.qsetFollow s x1).Kept c q p := by
  simp +contextual (maxDischargeDepth := 100) only [State.qsetFollow, State.wrN_kept, h]

theorem State.ownerLost_kept {s : State} (h : s.Kept c q p) (x1) : (State.ownerLost s x1).Kept c q p := by
  simp +contextual (maxDischargeDepth := 100) only [State.ownerLost, State.each_kept, implies_true, State.modCtl_kept, h]

theorem State.seatLose_kept {s : State} (h : s.Kept c q p) (x1) : (State.seatLose s x1).Kept c q p := by
  simp +contextual (maxDischargeDepth := 100) only [State.seatLose, State.raise_kept, State.ownerLost_kept,
      State.setSeatState_kept, h]

theorem State.seatDetach_kept {s : State} (h : s.Kept c q p) (x1) : (State.seatDetach s x1).Kept c q p := by
  simp +contextual (maxDischargeDepth := 100) only [State.seatDetach, State.modSeat_kept, State.holdXfers_kept,
      State.raise_kept, State.setSeatState_kept, h]

theorem State.portFall_kept {s : State} (h : s.Kept c q p) (x1) : (State.portFall s x1).Kept c q p := by
  simp +contextual (maxDischargeDepth := 100) only [State.portFall, State.each_kept, State.ite_kept, ite_self, implies_true,
      State.raise_kept, State.count_kept, State.setBit_kept, State.seatDetach_kept, h]

theorem execPortDown_kept {s : State} (h : s.Kept c q p) (x0 x1) : Keeps c q p (execPortDown x0 x1 s) := by
  simp +contextual (maxDischargeDepth := 100) only [execPortDown, State.when_kept, State.ite_kept, State.iteFst_kept,
      ite_self, implies_true, ite_keeps, next_keeps, answer_keeps, State.portFall_kept, State.setBit_kept, h]

theorem State.msixReset_kept {s : State} (h : s.Kept c q p) (x1) : (State.msixReset s x1).Kept c q p := by
  simp +contextual (maxDischargeDepth := 100) only [State.msixReset, State.upd_kept, h]

theorem execPcieFlr_kept {s : State} (h : s.Kept c q p) (x0) : Keeps c q p (execPcieFlr x0 s) := by
  simp +contextual (maxDischargeDepth := 100) only [execPcieFlr, State.ite_kept, State.iteFst_kept, ite_self, implies_true,
      ite_keeps, next_keeps, answer_keeps, State.setBit_kept, State.msixReset_kept, State.portFall_kept, State.raise_kept,
      State.count_kept, h]

theorem State.portRise_kept {s : State} (h : s.Kept c q p) (x1 x2 x3) : (State.portRise s x1 x2 x3).Kept c q p := by
  simp +contextual (maxDischargeDepth := 100) only [State.portRise, State.ite_kept, ite_self, State.wrN_kept,
      State.raise_kept, State.setSeatState_kept, State.freeHeld_kept, State.seatsFollow_kept, h]

theorem execPcieLinkUp_kept {s : State} (h : s.Kept c q p) (x0 x1 x2) : Keeps c q p (execPcieLinkUp x0 x1 x2 s) := by
  simp +contextual (maxDischargeDepth := 100) only [execPcieLinkUp, State.ite_kept, State.iteFst_kept, ite_self, implies_true,
      ite_keeps, next_keeps, answer_keeps, State.portRise_kept, h]

theorem execSeatLostTimeout_kept {s : State} (h : s.Kept c q p) (x0) : Keeps c q p (execSeatLostTimeout x0 s) := by
  simp +contextual (maxDischargeDepth := 100) only [execSeatLostTimeout, State.ite_kept, State.iteFst_kept, ite_self,
      implies_true, ite_keeps, next_keeps, answer_keeps, State.seatLose_kept, h]

theorem execMsixUnmask_kept {s : State} (h : s.Kept c q p) (x0 x1) : Keeps c q p (execMsixUnmask x0 x1 s) := by
  simp +contextual (maxDischargeDepth := 100) only [execMsixUnmask, State.when_kept, State.ite_kept, State.iteFst_kept,
      ite_self, implies_true, ite_keeps, next_keeps, answer_keeps, State.setMsix_kept, State.send_kept, h]

theorem State.dbInvalid_kept {s : State} (h : s.Kept c q p) (x1 x2 x3 x4) : (State.dbInvalid s x1 x2 x3 x4).Kept c q p := by
  simp +contextual (maxDischargeDepth := 100) only [State.dbInvalid, State.seatEvent_kept, State.count_kept, h]

theorem State.sqDoorbell_kept {s : State} (h : s.Kept c q p) (x1 x2 x3) : (State.sqDoorbell s x1 x2 x3).Kept c q p := by
  unfold State.sqDoorbell
  repeat' first
    | (simp +contextual (maxDischargeDepth := 100) only [State.ite_kept, State.iteFst_kept, ite_self, implies_true,
        State.dbInvalid_kept, State.wrN_kept, h]; done)
    | split

theorem State.cqDoorbell_kept {s : State} (h : s.Kept c q p) (x1 x2 x3) : (State.cqDoorbell s x1 x2 x3).Kept c q p := by
  unfold State.cqDoorbell
  repeat' first
    | (simp +contextual (maxDischargeDepth := 100) only [State.ite_kept, State.iteFst_kept, ite_self, implies_true,
        State.dbInvalid_kept, State.modSeat_kept, State.cqDrain_kept, State.wrN_kept, h]; done)
    | split

theorem State.eqDoorbell_kept {s : State} (h : s.Kept c q p) (x1 x2) : (State.eqDoorbell s x1 x2).Kept c q p := by
  unfold State.eqDoorbell
  repeat' first
    | (simp +contextual (maxDischargeDepth := 100) only [State.ite_kept, State.iteFst_kept, ite_self, implies_true,
        State.dbInvalid_kept, State.modSeat_kept, State.eqOverflow_kept, State.wrN_kept, h]; done)
    | split

theorem State.ringConsumed_kept {s : State} (h : s.Kept c q p) (x1 x2 x3) : (State.ringConsumed s x1 x2 x3).Kept c q p := by
  simp +contextual (maxDischargeDepth := 100) only [State.ringConsumed, State.ite_kept, ite_self, State.dbInvalid_kept,
      State.wrN_kept, State.modRing_kept, h]

theorem execSqDoorbell_kept {s : State} (h : s.Kept c q p) (x0 x1 x2) : Keeps c q p (execSqDoorbell x0 x1 x2 s) := by
  simp +contextual (maxDischargeDepth := 100) only [execSqDoorbell, State.ite_kept, State.iteFst_kept, ite_self, implies_true,
      ite_keeps, next_keeps, answer_keeps, State.sqDoorbell_kept, h]

theorem execCqDoorbell_kept {s : State} (h : s.Kept c q p) (x0 x1 x2) : Keeps c q p (execCqDoorbell x0 x1 x2 s) := by
  simp +contextual (maxDischargeDepth := 100) only [execCqDoorbell, State.ite_kept, State.iteFst_kept, ite_self, implies_true,
      ite_keeps, next_keeps, answer_keeps, State.cqDoorbell_kept, h]

theorem execEqDoorbell_kept {s : State} (h : s.Kept c q p) (x0 x1) : Keeps c q p (execEqDoorbell x0 x1 s) := by
  simp +contextual (maxDischargeDepth := 100) only [execEqDoorbell, State.ite_kept, State.iteFst_kept, ite_self, implies_true,
      ite_keeps, next_keeps, answer_keeps, State.eqDoorbell_kept, h]

theorem execRingConsumerWrite_kept {s : State} (h : s.Kept c q p) (x0 x1 x2) : Keeps c q p (execRingConsumerWrite x0 x1 x2 s)
    := by
  simp +contextual (maxDischargeDepth := 100) only [execRingConsumerWrite, State.ite_kept, State.iteFst_kept, ite_self,
      implies_true, ite_keeps, next_keeps, answer_keeps, State.ringConsumed_kept, h]

theorem State.ownersMap_kept {s : State} (h : s.Kept c q p) (x1 x2) : (State.ownersMap s x1 x2).Kept c q p := by
  simp +contextual (maxDischargeDepth := 100) only [State.ownersMap, State.upd_kept, h]

theorem State.orphanGrants_kept {s : State} (h : s.Kept c q p) (x1) : (State.orphanGrants s x1).Kept c q p := by
  simp +contextual (maxDischargeDepth := 100) only [State.orphanGrants, State.each_kept, State.ite_kept, ite_self,
      implies_true, State.modCtl_kept, State.grantsFollow_kept, State.ownersMap_kept, h]

theorem State.chPageOwner_kept {s : State} (h : s.Kept c q p) (x1) : (State.chPageOwner s x1).Kept c q p := by
  simp +contextual (maxDischargeDepth := 100) only [State.chPageOwner, State.put_kept, h]

theorem State.chPagesFollow_kept {s : State} (h : s.Kept c q p) : (State.chPagesFollow s).Kept c q p := by
  simp +contextual (maxDischargeDepth := 100) only [State.chPagesFollow, State.each_kept, implies_true, State.chPageOwner_kept, h]

theorem State.chRevoke_kept {s : State} (h : s.Kept c q p) (x1) : (State.chRevoke s x1).Kept c q p := by
  simp +contextual (maxDischargeDepth := 100) only [State.chRevoke, State.modCtl_kept, State.put_kept, h]

theorem State.revokeAll_kept {s : State} (h : s.Kept c q p) (x1) : (State.revokeAll s x1).Kept c q p := by
  simp +contextual (maxDischargeDepth := 100) only [State.revokeAll, State.each_kept, implies_true, State.chRevoke_kept,
      State.put_kept, State.modSeat_kept, State.grantsFollow_kept, State.chPagesFollow_kept, State.ownersMap_kept, h]

theorem State.freeUnits_kept {s : State} (h : s.Kept c q p) (x1) : (State.freeUnits s x1).Kept c q p := by
  simp +contextual (maxDischargeDepth := 100) only [State.freeUnits, State.wr_kept, State.each_kept, implies_true,
      State.schOp_kept, State.catOp_kept, h]

theorem State.resetStart_kept {s : State} (h : s.Kept c q p) (x1 x2) : (State.resetStart s x1 x2).Kept c q p := by
  simp +contextual (maxDischargeDepth := 100) only [State.resetStart, State.setDma_kept, State.modSeat_kept,
      State.setSeatState_kept, State.setBit_kept, State.orphanGrants_kept, State.ownerLost_kept, State.dropXfers_kept,
      State.unlockWins_kept, h]

theorem State.clearSeat_kept {s : State} (h : s.Kept c q p) (i : Nat) : (s.clearSeat i).Kept c q p := by
  unfold State.clearSeat
  have h1 : ({ s with regs := s.regs.filter fun e => !(e.1 / 0x10000 == 0x10 + i && domOf e.1 == some .s) } : State).Kept c q p :=
    h.tables rfl rfl (fun hc => Sparse.rising_filter _ _ (h.regs hc)) h.dram
  have h2 := State.each_kept h1 [Reg.ST_QSET i, Reg.ST_CNT i, Reg.ST_CHUNKS i, Reg.ST_EVLOST i, Reg.SNIC_TXR i, Reg.SNIC_TXR i
      + 4,
    Reg.SNIC_RXR i, Reg.SNIC_RXR i + 4, Reg.SNIC_RCFG i, Reg.SNIC_CNT i] (fun s a => s.wr a 0) fun t a ht => State.wr_kept ht _ _
  have key : ∀ t : State, t.Kept c q p → (
      let x := t.seat i
      let n : Snic := Sparse.get {} t.sw.snics i
      let s := { t with sw := { t.sw with snics := Sparse.insert t.sw.snics i { mac := n.mac } } }
      let s := { s with staging := s.staging.map fun (x : Staged) => if x.seat = i then { x with written := false } else x }
      ({ s with seats := Sparse.insert s.seats i { shareNext := x.shareNext, oweReset := !x.closing, detFrom := x.detFrom } }
          : State)).Kept c q p :=
    fun t ht => ht.congr rfl rfl rfl rfl
  exact key _ h2

theorem State.mbxResult_kept {s : State} (h : s.Kept c q p) (x1 x2 x3 x4) : (State.mbxResult s x1 x2 x3 x4).Kept c q p := by
  unfold State.mbxResult
  repeat' first
    | (simp +contextual (maxDischargeDepth := 100) only [State.upd_kept, State.updDma_kept, State.ite_kept, State.iteFst_kept,
        ite_self, implies_true, h]; done)
    | split

theorem State.resetEnd_kept {s : State} (h : s.Kept c q p) (x1) : (State.resetEnd s x1).Kept c q p := by
  simp +contextual (maxDischargeDepth := 100) only [State.resetEnd, State.each_kept, State.ite_kept, ite_self, implies_true,
      State.abandon_kept, State.dropXfers_kept, State.clearSeat_kept, State.suspFollow_kept, State.tlbDrop_kept,
      State.putSeatBit_kept, State.setBit_kept, State.raise_kept, State.setSeatState_kept, State.freeUnits_kept,
      State.revokeAll_kept, State.modSeat_kept, State.mbxResult_kept, h]

theorem execSeatResetDone_kept {s : State} (h : s.Kept c q p) (x0) : Keeps c q p (execSeatResetDone x0 s) := by
  simp +contextual (maxDischargeDepth := 100) only [execSeatResetDone, State.ite_kept, State.iteFst_kept, ite_self,
      implies_true, ite_keeps, next_keeps, answer_keeps, State.resetEnd_kept, h]

theorem execSeatResetChunkDeadline_kept {s : State} (h : s.Kept c q p) (x0) : Keeps c q p (execSeatResetChunkDeadline x0 s) := by
  simp +contextual (maxDischargeDepth := 100) only [execSeatResetChunkDeadline, State.each_kept, State.ite_kept,
      State.iteFst_kept, ite_self, implies_true, ite_keeps, next_keeps, answer_keeps, State.dropXfers_kept, State.abandon_kept, h]

theorem State.rewriteLive_kept {s : State} (h : s.Kept c q p) (x1) : (State.rewriteLive s x1).Kept c q p := by
  unfold State.rewriteLive
  dsimp only
  repeat' first
    | (simp +contextual (maxDischargeDepth := 100) only [State.each_kept, State.ite_kept, State.iteFst_kept, ite_self,
        implies_true, State.queueWrite_kept, h]; done)
    | split

theorem State.bindEnd_kept {s : State} (h : s.Kept c q p) (x1 x2) : (State.bindEnd s x1 x2).Kept c q p := by
  simp +contextual (maxDischargeDepth := 100) only [State.bindEnd, State.each_kept, implies_true, State.put_kept,
      State.modSeat_kept, State.setSeatState_kept, State.freeHeld_kept, State.rewriteLive_kept, State.seatEvent_kept,
      State.mbxResult_kept, State.msixSend_kept, h]

theorem execSeatBindDone_kept {s : State} (h : s.Kept c q p) (x0) : Keeps c q p (execSeatBindDone x0 s) := by
  unfold execSeatBindDone
  repeat' first
    | (simp +contextual (maxDischargeDepth := 100) only [State.ite_kept, State.iteFst_kept, ite_self, implies_true, ite_keeps,
        next_keeps, answer_keeps, State.bindEnd_kept, h]; done)
    | split

theorem refuse_kept {s : State} (h : s.Kept c q p) (x1) : (refuse s x1).1.Kept c q p := by
  simp +contextual (maxDischargeDepth := 100) only [refuse, h]

theorem accept_kept {s : State} (h : s.Kept c q p) (x1) : (accept s x1).1.Kept c q p := by
  simp +contextual (maxDischargeDepth := 100) only [accept, h]

theorem State.mbxRun_kept {s : State} (h : s.Kept c q p) (x1 x2 x3) (h3 : ∀ (t : State) y1, t.Kept c q p → (x3 t y1).1.Kept c
    q p) : (State.mbxRun s x1 x2 x3).Kept c q p := by
  simp +contextual (maxDischargeDepth := 100) only [State.mbxRun, State.upd_kept, State.ite_kept, State.iteFst_kept, ite_self,
      State.raise_kept, State.setBit_kept, refuse_kept, h, h3]

theorem State.rspWrite_kept {s : State} (h : s.Kept c q p) (x1 x2) : (State.rspWrite s x1 x2).Kept c q p := by
  unfold State.rspWrite
  repeat' first
    | (simp +contextual (maxDischargeDepth := 100) only [State.wr_kept, State.ite_kept, State.iteFst_kept, ite_self,
        implies_true, State.useFree_kept, h]; done)
    | split

theorem State.mbxDone_kept {s : State} (h : s.Kept c q p) : (State.mbxDone s).Kept c q p := by
  unfold State.mbxDone
  repeat' first
    | (simp +contextual (maxDischargeDepth := 100) only [State.each_kept, State.upd_kept, State.updDma_kept, State.ite_kept,
        State.iteFst_kept, ite_self, implies_true, State.rspWrite_kept, State.raise_kept, State.wrN_kept, h]; done)
    | split

theorem execMbxCommandDone_kept {s : State} (h : s.Kept c q p) : Keeps c q p (execMbxCommandDone s) := by
  simp +contextual (maxDischargeDepth := 100) only [execMbxCommandDone, State.ite_kept, State.iteFst_kept, ite_self,
      implies_true, ite_keeps, next_keeps, answer_keeps, State.mbxDone_kept, h]

theorem execMbxNop_kept {s : State} (h : s.Kept c q p) : Keeps c q p (execMbxNop s) := by
  simp +contextual (maxDischargeDepth := 100) only [execMbxNop, State.ite_kept, State.iteFst_kept, ite_self, implies_true,
      ite_keeps, next_keeps, answer_keeps, State.mbxRun_kept, accept_kept, h]

theorem execMbxBadOp_kept {s : State} (h : s.Kept c q p) : Keeps c q p (execMbxBadOp s) := by
  simp +contextual (maxDischargeDepth := 100) only [execMbxBadOp, State.ite_kept, State.iteFst_kept, ite_self, implies_true,
      ite_keeps, next_keeps, answer_keeps, State.mbxRun_kept, refuse_kept, h]

theorem State.openSeat_kept {s : State} (h : s.Kept c q p) (x1 x2 x3 x4) : (State.openSeat s x1 x2 x3 x4).Kept c q p := by
  simp +contextual (maxDischargeDepth := 100) only [State.openSeat, State.wrN_kept, State.setShare_kept, State.put_kept,
      State.setSeatState_kept, State.modSeat_kept, h]

theorem seatOpenBody_kept {s : State} (h : s.Kept c q p) (x1) : (seatOpenBody s x1).1.Kept c q p := by
  unfold seatOpenBody
  dsimp only
  repeat' first
    | (simp +contextual (maxDischargeDepth := 100) only [State.ite_kept, State.iteFst_kept, ite_self, implies_true,
        refuse_kept, accept_kept, State.openSeat_kept, h]; done)
    | split

theorem execSeatOpen_kept {s : State} (h : s.Kept c q p) : Keeps c q p (execSeatOpen s) := by
  simp +contextual (maxDischargeDepth := 100) only [execSeatOpen, State.ite_kept, State.iteFst_kept, ite_self, implies_true,
      ite_keeps, next_keeps, answer_keeps, State.mbxRun_kept, seatOpenBody_kept, h]

theorem seatCloseBody_kept {s : State} (h : s.Kept c q p) (x1) : (seatCloseBody s x1).1.Kept c q p := by
  simp +contextual (maxDischargeDepth := 100) only [seatCloseBody, State.iteFst_kept, ite_self, refuse_kept,
      State.resetStart_kept, h]

theorem execSeatClose_kept {s : State} (h : s.Kept c q p) : Keeps c q p (execSeatClose s) := by
  simp +contextual (maxDischargeDepth := 100) only [execSeatClose, State.ite_kept, State.iteFst_kept, ite_self, implies_true,
      ite_keeps, next_keeps, answer_keeps, State.mbxRun_kept, seatCloseBody_kept, h]

theorem seatResetBody_kept {s : State} (h : s.Kept c q p) (x1) : (seatResetBody s x1).1.Kept c q p := by
  simp +contextual (maxDischargeDepth := 100) only [seatResetBody, State.iteFst_kept, ite_self, refuse_kept,
      State.resetStart_kept, h]

theorem execSeatReset_kept {s : State} (h : s.Kept c q p) : Keeps c q p (execSeatReset s) := by
  simp +contextual (maxDischargeDepth := 100) only [execSeatReset, State.ite_kept, State.iteFst_kept, ite_self, implies_true,
      ite_keeps, next_keeps, answer_keeps, State.mbxRun_kept, seatResetBody_kept, h]

theorem seatShareBody_kept {s : State} (h : s.Kept c q p) (x1) : (seatShareBody s x1).1.Kept c q p := by
  simp +contextual (maxDischargeDepth := 100) only [seatShareBody, State.iteFst_kept, ite_self, refuse_kept, accept_kept,
      State.modSeat_kept, h]

theorem execSeatShare_kept {s : State} (h : s.Kept c q p) : Keeps c q p (execSeatShare s) := by
  simp +contextual (maxDischargeDepth := 100) only [execSeatShare, State.ite_kept, State.iteFst_kept, ite_self, implies_true,
      ite_keeps, next_keeps, answer_keeps, State.mbxRun_kept, seatShareBody_kept, h]

theorem seatBindBody_kept {s : State} (h : s.Kept c q p) (x1) : (seatBindBody s x1).1.Kept c q p := by
  simp +contextual (maxDischargeDepth := 100) only [seatBindBody, State.iteFst_kept, ite_self, refuse_kept, State.modSeat_kept, h]

theorem execSeatBind_kept {s : State} (h : s.Kept c q p) : Keeps c q p (execSeatBind s) := by
  simp +contextual (maxDischargeDepth := 100) only [execSeatBind, State.ite_kept, State.iteFst_kept, ite_self, implies_true,
      ite_keeps, next_keeps, answer_keeps, State.mbxRun_kept, seatBindBody_kept, h]

theorem seatLostBody_kept {s : State} (h : s.Kept c q p) (x1) : (seatLostBody s x1).1.Kept c q p := by
  simp +contextual (maxDischargeDepth := 100) only [seatLostBody, State.iteFst_kept, ite_self, refuse_kept, accept_kept,
      State.seatLose_kept, h]

theorem execSeatLost_kept {s : State} (h : s.Kept c q p) : Keeps c q p (execSeatLost s) := by
  simp +contextual (maxDischargeDepth := 100) only [execSeatLost, State.ite_kept, State.iteFst_kept, ite_self, implies_true,
      ite_keeps, next_keeps, answer_keeps, State.mbxRun_kept, seatLostBody_kept, h]

theorem seatInfoBody_kept {s : State} (h : s.Kept c q p) (x1) : (seatInfoBody s x1).1.Kept c q p := by
  simp +contextual (maxDischargeDepth := 100) only [seatInfoBody, State.iteFst_kept, ite_self, refuse_kept, accept_kept, h]

theorem execSeatInfo_kept {s : State} (h : s.Kept c q p) : Keeps c q p (execSeatInfo s) := by
  simp +contextual (maxDischargeDepth := 100) only [execSeatInfo, State.ite_kept, State.iteFst_kept, ite_self, implies_true,
      ite_keeps, next_keeps, answer_keeps, State.mbxRun_kept, seatInfoBody_kept, h]

theorem State.payReset_kept {s : State} (h : s.Kept c q p) (x1) : (State.payReset s x1).Kept c q p := by
  simp +contextual (maxDischargeDepth := 100) only [State.payReset, State.ite_kept, ite_self, State.seatEvent_kept,
      State.modSeat_kept, h]

theorem State.setQueue_kept {s : State} (h : s.Kept c q p) (x1 x2 x3 x4 x5 x6) : (State.setQueue s x1 x2 x3 x4 x5 x6).Kept c q
    p := by
  unfold State.setQueue
  repeat' first
    | (simp +contextual (maxDischargeDepth := 100) only [State.ite_kept, State.iteFst_kept, ite_self, implies_true,
        State.modSeat_kept, State.wrN_kept, State.payReset_kept, State.qsetFollow_kept, h]; done)
    | split

theorem queueSetBody_kept {s : State} (h : s.Kept c q p) (x1) : (queueSetBody s x1).1.Kept c q p := by
  simp +contextual (maxDischargeDepth := 100) only [queueSetBody, State.iteFst_kept, ite_self, refuse_kept, accept_kept,
      State.setQueue_kept, h]

theorem execQueueSet_kept {s : State} (h : s.Kept c q p) : Keeps c q p (execQueueSet s) := by
  simp +contextual (maxDischargeDepth := 100) only [execQueueSet, State.ite_kept, State.iteFst_kept, ite_self, implies_true,
      ite_keeps, next_keeps, answer_keeps, State.mbxRun_kept, queueSetBody_kept, h]

theorem State.sqDelete_kept {s : State} (h : s.Kept c q p) (x1 x2) : (State.sqDelete s x1 x2).1.Kept c q p := by
  unfold State.sqDelete
  repeat' first
    | (simp +contextual (maxDischargeDepth := 100) only [State.each_kept, State.setDma_kept, State.ite_kept,
        State.iteFst_kept, ite_self, implies_true, State.abortXfer_kept, State.modSeat_kept, State.qsetFollow_kept,
        State.suspFollow_kept, h]; done)
    | split

theorem queueDelBody_kept {s : State} (h : s.Kept c q p) (x1) : (queueDelBody s x1).1.Kept c q p := by
  unfold queueDelBody
  dsimp only
  repeat' first
    | (simp +contextual (maxDischargeDepth := 100) only [State.ite_kept, State.iteFst_kept, ite_self, implies_true,
        refuse_kept, State.sqDelete_kept, accept_kept, State.qsetFollow_kept, State.suspFollow_kept, State.modSeat_kept, h]; done)
    | split

theorem execQueueDel_kept {s : State} (h : s.Kept c q p) : Keeps c q p (execQueueDel s) := by
  simp +contextual (maxDischargeDepth := 100) only [execQueueDel, State.ite_kept, State.iteFst_kept, ite_self, implies_true,
      ite_keeps, next_keeps, answer_keeps, State.mbxRun_kept, queueDelBody_kept, h]

theorem ringSetBody_kept {s : State} (h : s.Kept c q p) (x1) : (ringSetBody s x1).1.Kept c q p := by
  simp +contextual (maxDischargeDepth := 100) only [ringSetBody, State.iteFst_kept, ite_self, refuse_kept, State.modRing_kept,
      State.suspFollow_kept, State.dropXfer_kept, accept_kept, State.qsetFollow_kept, State.setRing_kept, State.wrN_kept, h]

theorem execRingSet_kept {s : State} (h : s.Kept c q p) : Keeps c q p (execRingSet s) := by
  simp +contextual (maxDischargeDepth := 100) only [execRingSet, State.ite_kept, State.iteFst_kept, ite_self, implies_true,
      ite_keeps, next_keeps, answer_keeps, State.mbxRun_kept, ringSetBody_kept, h]

theorem ringDelBody_kept {s : State} (h : s.Kept c q p) (x1) : (ringDelBody s x1).1.Kept c q p := by
  simp +contextual (maxDischargeDepth := 100) only [ringDelBody, State.each_kept, State.upd_kept, State.iteFst_kept, ite_self,
      implies_true, refuse_kept, State.setRing_kept, State.abandon_kept, accept_kept, State.qsetFollow_kept,
      State.suspFollow_kept, State.dropXfer_kept, h]

theorem execRingDel_kept {s : State} (h : s.Kept c q p) : Keeps c q p (execRingDel s) := by
  simp +contextual (maxDischargeDepth := 100) only [execRingDel, State.ite_kept, State.iteFst_kept, ite_self, implies_true,
      ite_keeps, next_keeps, answer_keeps, State.mbxRun_kept, ringDelBody_kept, h]

theorem State.handOver_kept {s : State} (h : s.Kept c q p) (x1 x2) : (State.handOver s x1 x2).Kept c q p := by
  simp +contextual (maxDischargeDepth := 100) only [State.handOver, State.upd_kept, State.ite_kept, ite_self,
      State.flushLoss_kept, h]

theorem State.grantCh_kept {s : State} (h : s.Kept c q p) (x1 x2 x3) : (State.grantCh s x1 x2 x3).Kept c q p := by
  simp +contextual (maxDischargeDepth := 100) only [State.grantCh, State.handOver_kept, State.put_kept,
      State.grantsFollow_kept, State.modCtl_kept, h]

theorem State.grantCvu_kept {s : State} (h : s.Kept c q p) (x1 x2) : (State.grantCvu s x1 x2).Kept c q p := by
  simp +contextual (maxDischargeDepth := 100) only [State.grantCvu, State.ite_kept, ite_self, State.cvuReset_kept,
      State.put_kept, State.setCvu_kept, h]

theorem State.grantSnic_kept {s : State} (h : s.Kept c q p) (x1) : (State.grantSnic s x1).Kept c q p := by
  simp +contextual (maxDischargeDepth := 100) only [State.grantSnic, State.upd_kept, State.put_kept, State.setBit_kept, h]

theorem State.grantOne_kept {s : State} (h : s.Kept c q p) (x1 x2 x3) : (State.grantOne s x1 x2 x3).Kept c q p := by
  unfold State.grantOne
  repeat' first
    | (simp +contextual (maxDischargeDepth := 100) only [State.ite_kept, State.iteFst_kept, ite_self, implies_true,
        State.grantCh_kept, State.setOwner_kept, State.grantCvu_kept, State.put_kept, State.grantSnic_kept, h]; done)
    | split

theorem grantBody_kept {s : State} (h : s.Kept c q p) (x1) : (grantBody s x1).1.Kept c q p := by
  unfold grantBody
  repeat' first
    | (simp +contextual (maxDischargeDepth := 100) only [State.each_kept, State.ite_kept, State.iteFst_kept, ite_self,
        implies_true, refuse_kept, accept_kept, State.chPagesFollow_kept, State.grantsFollow_kept, State.grantOne_kept, h]; done)
    | split

theorem execGrant_kept {s : State} (h : s.Kept c q p) : Keeps c q p (execGrant s) := by
  simp +contextual (maxDischargeDepth := 100) only [execGrant, State.ite_kept, State.iteFst_kept, ite_self, implies_true,
      ite_keeps, next_keeps, answer_keeps, State.mbxRun_kept, grantBody_kept, h]

theorem State.revokeOne_kept {s : State} (h : s.Kept c q p) (x1 x2) : (State.revokeOne s x1 x2).Kept c q p := by
  unfold State.revokeOne
  repeat' first
    | (simp +contextual (maxDischargeDepth := 100) only [State.ite_kept, State.iteFst_kept, ite_self, implies_true,
        State.grantsFollow_kept, State.chRevoke_kept, State.setOwner_kept, State.put_kept, State.setBit_kept, h]; done)
    | split

theorem revokeBody_kept {s : State} (h : s.Kept c q p) (x1) : (revokeBody s x1).1.Kept c q p := by
  unfold revokeBody
  repeat' first
    | (simp +contextual (maxDischargeDepth := 100) only [State.each_kept, State.ite_kept, State.iteFst_kept, ite_self,
        implies_true, refuse_kept, accept_kept, State.chPagesFollow_kept, State.grantsFollow_kept, State.revokeOne_kept, h]; done)
    | split

theorem execRevoke_kept {s : State} (h : s.Kept c q p) : Keeps c q p (execRevoke s) := by
  simp +contextual (maxDischargeDepth := 100) only [execRevoke, State.ite_kept, State.iteFst_kept, ite_self, implies_true,
      ite_keeps, next_keeps, answer_keeps, State.mbxRun_kept, revokeBody_kept, h]

theorem State.cryStart_kept {s : State} (h : s.Kept c q p) (x1 x2 x3) : (State.cryStart s x1 x2 x3).Kept c q p := by
  simp +contextual (maxDischargeDepth := 100) only [State.cryStart, State.setKey_kept, h]

theorem State.cryGo_kept {s : State} (h : s.Kept c q p) (x1) (h1 : ∀ (t : State), t.Kept c q p → (x1 t).Kept c q p) :
    (State.cryGo s x1).Kept c q p := by
  simp +contextual (maxDischargeDepth := 100) only [State.cryGo, State.ite_kept, ite_self, State.raise_kept,
      State.setBit_kept, State.cryStart_kept, h, h1]

theorem State.crySource_kept {s : State} (h : s.Kept c q p) (out : Nat) (body : State → List Byte → State)
    (hb : ∀ (t : State) b, t.Kept c q p → (body t b).Kept c q p) : (s.crySource out body).Kept c q p := by
  unfold State.crySource
  dsimp only
  split
  · exact State.cryStart_kept h _ _ _
  · split
    · exact hb _ _ h
    · have hd := State.dramRead_kept h (s.rd64 Reg.CRY_SRC_LO Reg.CRY_SRC_HI) s.cryLen
      split
      · rename_i e; rw [e] at hd
        exact State.cryStart_kept (State.useFree_kept hd) _ _ _
      · rename_i e; rw [e] at hd
        exact hb _ _ hd

theorem State.cryKey_kept {s : State} (h : s.Kept c q p) (x1 x2 x3) (h3 : ∀ (t : State) y1, t.Kept c q p → (x3 t y1).Kept c q
    p) : (State.cryKey s x1 x2 x3).Kept c q p := by
  simp +contextual (maxDischargeDepth := 100) only [State.cryKey, State.ite_kept, ite_self, State.cryStart_kept, h, h3]

theorem State.crySha_kept {s : State} (h : s.Kept c q p) : (State.crySha s).Kept c q p := by
  simp +contextual (maxDischargeDepth := 100) only [State.crySha, implies_true, State.crySource_kept, State.cryStart_kept, h]

theorem execCrySha512_kept {s : State} (h : s.Kept c q p) : Keeps c q p (execCrySha512 s) := by
  simp +contextual (maxDischargeDepth := 100) only [execCrySha512, State.ite_kept, State.iteFst_kept, ite_self, implies_true,
      ite_keeps, next_keeps, answer_keeps, State.cryGo_kept, State.crySha_kept, h]

theorem State.cryHmac_kept {s : State} (h : s.Kept c q p) : (State.cryHmac s).Kept c q p := by
  simp +contextual (maxDischargeDepth := 100) only [State.cryHmac, implies_true, State.cryKey_kept, State.crySource_kept,
      State.cryStart_kept, h]

theorem execCryHmac512_kept {s : State} (h : s.Kept c q p) : Keeps c q p (execCryHmac512 s) := by
  simp +contextual (maxDischargeDepth := 100) only [execCryHmac512, State.ite_kept, State.iteFst_kept, ite_self, implies_true,
      ite_keeps, next_keeps, answer_keeps, State.cryGo_kept, State.cryHmac_kept, h]

theorem State.cryGcm_kept {s : State} (h : s.Kept c q p) (x1) : (State.cryGcm s x1).Kept c q p := by
  simp +contextual (maxDischargeDepth := 100) only [State.cryGcm, State.ite_kept, ite_self, implies_true, State.cryKey_kept,
      State.cryStart_kept, State.crySource_kept, h]

theorem execCryGcmEnc_kept {s : State} (h : s.Kept c q p) : Keeps c q p (execCryGcmEnc s) := by
  simp +contextual (maxDischargeDepth := 100) only [execCryGcmEnc, State.ite_kept, State.iteFst_kept, ite_self, implies_true,
      ite_keeps, next_keeps, answer_keeps, State.cryGo_kept, State.cryGcm_kept, h]

theorem execCryGcmDec_kept {s : State} (h : s.Kept c q p) : Keeps c q p (execCryGcmDec s) := by
  simp +contextual (maxDischargeDepth := 100) only [execCryGcmDec, State.ite_kept, State.iteFst_kept, ite_self, implies_true,
      ite_keeps, next_keeps, answer_keeps, State.cryGo_kept, State.cryGcm_kept, h]

theorem State.cryWrap_kept {s : State} (h : s.Kept c q p) : (State.cryWrap s).Kept c q p := by
  simp +contextual (maxDischargeDepth := 100) only [State.cryWrap, implies_true, State.cryKey_kept, State.crySource_kept,
      State.cryStart_kept, h]

theorem execCryKw_kept {s : State} (h : s.Kept c q p) : Keeps c q p (execCryKw s) := by
  simp +contextual (maxDischargeDepth := 100) only [execCryKw, State.ite_kept, State.iteFst_kept, ite_self, implies_true,
      ite_keeps, next_keeps, answer_keeps, State.cryGo_kept, State.cryWrap_kept, h]

theorem State.cryUnwrap_kept {s : State} (h : s.Kept c q p) : (State.cryUnwrap s).Kept c q p := by
  unfold State.cryUnwrap
  repeat' first
    | assumption
    | (simp +contextual (maxDischargeDepth := 100) only [State.ite_kept, State.iteFst_kept, ite_self, implies_true,
        State.cryKey_kept, State.crySource_kept, State.cryStart_kept, h]; done)
    | (intro _)
    | with_reducible apply State.cryKey_kept
    | with_reducible apply State.crySource_kept
    | with_reducible apply State.cryStart_kept
    | split

theorem execCryKwu_kept {s : State} (h : s.Kept c q p) : Keeps c q p (execCryKwu s) := by
  simp +contextual (maxDischargeDepth := 100) only [execCryKwu, State.ite_kept, State.iteFst_kept, ite_self, implies_true,
      ite_keeps, next_keeps, answer_keeps, State.cryGo_kept, State.cryUnwrap_kept, h]

theorem State.rsaSign_kept {s : State} (h : s.Kept c q p) (x1 x2) : (State.rsaSign s x1 x2).1.Kept c q p := by
  simp +contextual (maxDischargeDepth := 100) only [State.rsaSign, State.upd_kept, h]

theorem State.crySign_kept {s : State} (h : s.Kept c q p) : (State.crySign s).Kept c q p := by
  simp +contextual (maxDischargeDepth := 100) only [State.crySign, implies_true, State.cryKey_kept, State.rsaSign_kept,
      State.cryStart_kept, h]

theorem execCryPssSign_kept {s : State} (h : s.Kept c q p) : Keeps c q p (execCryPssSign s) := by
  simp +contextual (maxDischargeDepth := 100) only [execCryPssSign, State.ite_kept, State.iteFst_kept, ite_self, implies_true,
      ite_keeps, next_keeps, answer_keeps, State.cryGo_kept, State.crySign_kept, h]

theorem State.cryVerify_kept {s : State} (h : s.Kept c q p) : (State.cryVerify s).Kept c q p := by
  simp +contextual (maxDischargeDepth := 100) only [State.cryVerify, implies_true, State.cryKey_kept, State.cryStart_kept, h]

theorem execCryPssVerify_kept {s : State} (h : s.Kept c q p) : Keeps c q p (execCryPssVerify s) := by
  simp +contextual (maxDischargeDepth := 100) only [execCryPssVerify, State.ite_kept, State.iteFst_kept, ite_self,
      implies_true, ite_keeps, next_keeps, answer_keeps, State.cryGo_kept, State.cryVerify_kept, h]

theorem execCryBadOp_kept {s : State} (h : s.Kept c q p) : Keeps c q p (execCryBadOp s) := by
  simp +contextual (maxDischargeDepth := 100) only [execCryBadOp, State.ite_kept, State.iteFst_kept, ite_self, implies_true,
      ite_keeps, next_keeps, answer_keeps, State.cryGo_kept, State.cryStart_kept, h]

theorem State.cryDone_kept {s : State} (h : s.Kept c q p) : (State.cryDone s).Kept c q p := by
  unfold State.cryDone
  repeat' first
    | (simp +contextual (maxDischargeDepth := 100) only [State.wr_kept, State.each_kept, State.dramWrite_kept, State.ite_kept,
        State.iteFst_kept, ite_self, implies_true, State.setKey_kept, State.injStep_kept, State.debugFollow_kept,
        State.pageFault_kept, State.raise_kept, State.wrN_kept, h]; done)
    | split

theorem execCryJobDone_kept {s : State} (h : s.Kept c q p) : Keeps c q p (execCryJobDone s) := by
  simp +contextual (maxDischargeDepth := 100) only [execCryJobDone, State.ite_kept, State.iteFst_kept, ite_self, implies_true,
      ite_keeps, next_keeps, answer_keeps, State.cryDone_kept, h]

theorem State.extend_kept {s : State} (h : s.Kept c q p) (x1 x2) : (State.extend s x1 x2).Kept c q p := by
  simp +contextual (maxDischargeDepth := 100) only [State.extend, State.wrBytes_kept, h]

theorem State.clearM_kept {s : State} (h : s.Kept c q p) : (State.clearM s).Kept c q p := by
  simp +contextual (maxDischargeDepth := 100) only [State.clearM, State.wr_kept, State.each_kept, implies_true, h]

theorem State.attCmd_kept {s : State} (h : s.Kept c q p) (x1) (h1 : ∀ (t : State), t.Kept c q p → (x1 t).Kept c q p) :
    (State.attCmd s x1).Kept c q p := by
  simp +contextual (maxDischargeDepth := 100) only [State.attCmd, State.ite_kept, ite_self, State.raise_kept, State.wrN_kept,
      h, h1]

theorem State.attDone_kept {s : State} (h : s.Kept c q p) (x1 x2) : (State.attDone s x1 x2).Kept c q p := by
  simp +contextual (maxDischargeDepth := 100) only [State.attDone, State.raise_kept, State.wrN_kept, h]

theorem execAttNop_kept {s : State} (h : s.Kept c q p) : Keeps c q p (execAttNop s) :=
  next_keeps (State.attCmd_kept h _ fun _ ht => ht)

theorem execAttReport_kept {s : State} (h : s.Kept c q p) : Keeps c q p (execAttReport s) := by
  simp +contextual (maxDischargeDepth := 100) only [execAttReport, State.ite_kept, State.iteFst_kept, ite_self, implies_true,
      ite_keeps, next_keeps, answer_keeps, State.attCmd_kept, State.setBit_kept, State.setKey_kept, h]

theorem State.attReport_kept {s : State} (h : s.Kept c q p) : (State.attReport s).Kept c q p := by
  unfold State.attReport
  dsimp only
  repeat' first
    | (simp +contextual (maxDischargeDepth := 100) only [State.ite_kept, State.iteFst_kept, ite_self, implies_true,
        State.setKey_kept, State.debugFollow_kept, State.attDone_kept, State.rsaSign_kept, State.wrBytes_kept, h]; done)
    | split

theorem execAttReportDone_kept {s : State} (h : s.Kept c q p) : Keeps c q p (execAttReportDone s) := by
  simp +contextual (maxDischargeDepth := 100) only [execAttReportDone, State.ite_kept, State.iteFst_kept, ite_self,
      implies_true, ite_keeps, next_keeps, answer_keeps, State.attReport_kept, h]

theorem execAttCert_kept {s : State} (h : s.Kept c q p) : Keeps c q p (execAttCert s) := by
  simp +contextual (maxDischargeDepth := 100) only [execAttCert, State.ite_kept, State.iteFst_kept, ite_self, implies_true,
      ite_keeps, next_keeps, answer_keeps, State.attCmd_kept, State.attDone_kept, State.wrBytes_kept, h]

theorem execAttExtend_kept {s : State} (h : s.Kept c q p) : Keeps c q p (execAttExtend s) := by
  simp +contextual (maxDischargeDepth := 100) only [execAttExtend, State.ite_kept, State.iteFst_kept, ite_self, implies_true,
      ite_keeps, next_keeps, answer_keeps, State.attCmd_kept, State.attDone_kept, State.extend_kept, h]

theorem State.authFail_kept {s : State} (h : s.Kept c q p) (x1) : (State.authFail s x1).1.Kept c q p := by
  simp +contextual (maxDischargeDepth := 100) only [State.authFail, State.setKey_kept, h]

theorem challengeBody_kept {s : State} (h : s.Kept c q p) (x1) : (challengeBody s x1).1.Kept c q p := by
  simp +contextual (maxDischargeDepth := 100) only [challengeBody, State.upd_kept, State.iteFst_kept, ite_self, accept_kept,
      State.setKey_kept, h]

theorem execAuthChallenge_kept {s : State} (h : s.Kept c q p) : Keeps c q p (execAuthChallenge s) := by
  simp +contextual (maxDischargeDepth := 100) only [execAuthChallenge, State.ite_kept, State.iteFst_kept, ite_self,
      implies_true, ite_keeps, next_keeps, answer_keeps, State.mbxRun_kept, challengeBody_kept, h]

theorem executeBody_kept {s : State} (h : s.Kept c q p) (x0 x1 x2 x4) (h2 : ∀ (t : State) y1, t.Kept c q p → (x2 t y1).1.Kept
    c q p) : (executeBody x0 x1 x2 s x4).1.Kept c q p := by
  unfold executeBody
  dsimp only
  repeat' first
    | (simp +contextual (maxDischargeDepth := 100) only [State.ite_kept, State.iteFst_kept, ite_self, implies_true,
        State.setKey_kept, State.authFail_kept, h, h2]; done)
    | split

theorem authDone_kept {s : State} (h : s.Kept c q p) : (authDone s).1.Kept c q p := by
  simp +contextual (maxDischargeDepth := 100) only [authDone, accept_kept, State.setKey_kept, h]

theorem State.execute_kept {s : State} (h : s.Kept c q p) (x1 x2 x3) (h3 : ∀ (t : State) y1, t.Kept c q p → (x3 t y1).1.Kept c
    q p) : Keeps c q p (State.execute s x1 x2 x3) := by
  simp +contextual (maxDischargeDepth := 100) only [State.execute, State.ite_kept, State.iteFst_kept, ite_self, implies_true,
      ite_keeps, next_keeps, answer_keeps, State.mbxRun_kept, executeBody_kept, h, h3]

theorem execAuthInjArm_kept {s : State} (h : s.Kept c q p) (x0) : Keeps c q p (execAuthInjArm x0 s) := by
  simp +contextual (maxDischargeDepth := 100) only [execAuthInjArm, State.ite_kept, State.iteFst_kept, ite_self, implies_true,
      ite_keeps, next_keeps, answer_keeps, State.execute_kept, authDone_kept, State.injSet_kept, h]

theorem execAuthInjDisarm_kept {s : State} (h : s.Kept c q p) (x0) : Keeps c q p (execAuthInjDisarm x0 s) := by
  simp +contextual (maxDischargeDepth := 100) only [execAuthInjDisarm, State.ite_kept, State.iteFst_kept, ite_self,
      implies_true, ite_keeps, next_keeps, answer_keeps, State.execute_kept, authDone_kept, State.injClear_kept, h]

theorem execAuthDebugUnlock_kept {s : State} (h : s.Kept c q p) (x0) : Keeps c q p (execAuthDebugUnlock x0 s) := by
  simp +contextual (maxDischargeDepth := 100) only [execAuthDebugUnlock, State.ite_kept, State.iteFst_kept, ite_self,
      implies_true, ite_keeps, next_keeps, answer_keeps, State.execute_kept, authDone_kept, State.setDebug_kept,
      State.authFail_kept, h]

theorem execAuthDebugLock_kept {s : State} (h : s.Kept c q p) (x0) : Keeps c q p (execAuthDebugLock x0 s) := by
  simp +contextual (maxDischargeDepth := 100) only [execAuthDebugLock, State.ite_kept, State.iteFst_kept, ite_self,
      implies_true, ite_keeps, next_keeps, answer_keeps, State.execute_kept, authDone_kept, State.setDebug_kept, h]

theorem State.svnCommit_kept {s : State} (h : s.Kept c q p) (x1 x2) : (State.svnCommit s x1 x2).1.Kept c q p := by
  simp +contextual (maxDischargeDepth := 100) only [State.svnCommit, State.iteFst_kept, ite_self, State.authFail_kept,
      State.raise_kept, State.useFree_kept, authDone_kept, State.put_kept, State.journalWrite_kept, h]

theorem execAuthSvnCommit_kept {s : State} (h : s.Kept c q p) (x0 x1) : Keeps c q p (execAuthSvnCommit x0 x1 s) := by
  simp +contextual (maxDischargeDepth := 100) only [execAuthSvnCommit, State.ite_kept, State.iteFst_kept, ite_self,
      implies_true, ite_keeps, next_keeps, answer_keeps, State.execute_kept, State.svnCommit_kept, h]

theorem execAuthOwnerSet_kept {s : State} (h : s.Kept c q p) (x0) : Keeps c q p (execAuthOwnerSet x0 s) := by
  simp +contextual (maxDischargeDepth := 100) only [execAuthOwnerSet, State.ite_kept, State.iteFst_kept, ite_self,
      implies_true, ite_keeps, next_keeps, answer_keeps, State.execute_kept, authDone_kept, State.setBit_kept, State.setKey_kept,
      h]

theorem execAuthNonceExpiry_kept {s : State} (h : s.Kept c q p) : Keeps c q p (execAuthNonceExpiry s) := by
  simp +contextual (maxDischargeDepth := 100) only [execAuthNonceExpiry, State.ite_kept, State.iteFst_kept, ite_self,
      implies_true, ite_keeps, next_keeps, answer_keeps, State.setKey_kept, h]

theorem execAuthThrottleExpiry_kept {s : State} (h : s.Kept c q p) : Keeps c q p (execAuthThrottleExpiry s) := by
  simp +contextual (maxDischargeDepth := 100) only [execAuthThrottleExpiry, State.ite_kept, State.iteFst_kept, ite_self,
      implies_true, ite_keeps, next_keeps, answer_keeps, State.setKey_kept, h]

end Sys2Proof.Machine
end

