-- ==== Sys2Proof/Laws/KeptE.lean ====
section
/-!
SUPPORT. What the operations of these files of the model keep: Crumb, Guard, Stroke, Rest, Boot, SwitchBuffer, Bruil.
-/
namespace Sys2Proof.Machine
set_option linter.all false
variable {c : Prop} {q : List Instr} {p : Part}

theorem State.freeSection_kept {s : State} (h : s.Kept c q p) : (State.freeSection s).1.Kept c q p := by
  simp +contextual (maxDischargeDepth := 100) only [State.freeSection, State.upd_kept, State.useFree_kept, h]

theorem State.crumbRecord_kept {s : State} (h : s.Kept c q p) (x1 x2 x3 x4 x5 x6) : (State.crumbRecord s x1 x2 x3 x4 x5
    x6).1.Kept c q p := by
  unfold State.crumbRecord
  dsimp only
  repeat' first
    | (simp +contextual (maxDischargeDepth := 100) only [State.ite_kept, State.iteFst_kept, ite_self, implies_true,
        State.rsaSign_kept, h]; done)
    | split

theorem State.writeCrumb_kept {s : State} (h : s.Kept c q p) (x1 x2) : (State.writeCrumb s x1 x2).Kept c q p := by
  simp +contextual (maxDischargeDepth := 100) only [State.writeCrumb, State.dramWrite_kept, State.upd_kept, State.ite_kept,
      ite_self, State.freeSection_kept, State.crumbRecord_kept, h]

theorem State.crumbFind_kept {s : State} (h : s.Kept c q p) : (State.crumbFind s).Kept c q p := by
  unfold State.crumbFind
  dsimp only
  repeat' first
    | (simp +contextual (maxDischargeDepth := 100) only [State.wr_kept, State.when_kept, State.upd_kept, State.updDma_kept,
        State.ite_kept, State.iteFst_kept, ite_self, implies_true, State.wrN_kept, State.raise_kept, h]; done)
    | split

theorem State.guardCh_kept {s : State} (h : s.Kept c q p) (x1 x2 x3) : (State.guardCh s x1 x2 x3).Kept c q p := by
  unfold State.guardCh
  dsimp only
  repeat' first
    | (simp +contextual (maxDischargeDepth := 100) only [State.when_kept, State.ite_kept, State.iteFst_kept, ite_self,
        implies_true, State.count_kept, State.tripAt_kept, h]; done)
    | split

theorem State.guardDone_kept {s : State} (h : s.Kept c q p) (x1) : (State.guardDone s x1).Kept c q p := by
  simp +contextual (maxDischargeDepth := 100) only [State.guardDone, State.modCtl_kept, h]

theorem State.closeWindow_kept {s : State} (h : s.Kept c q p) (x1 x2) : (State.closeWindow s x1 x2).Kept c q p := by
  simp +contextual (maxDischargeDepth := 100) only [State.closeWindow, State.modCtl_kept, h]

theorem State.kelvin_kept {s : State} (h : s.Kept c q p) (x1 x2 x3) : (State.kelvin s x1 x2 x3).Kept c q p := by
  simp +contextual (maxDischargeDepth := 100) only [State.kelvin, State.when_kept, State.ite_kept, ite_self, implies_true,
      State.modMeas_kept, State.count_kept, State.put_kept, State.raise_kept, State.setBit_kept, h]

theorem State.noteSample_kept {s : State} (h : s.Kept c q p) (x1 x2) : (State.noteSample s x1 x2).Kept c q p := by
  simp +contextual (maxDischargeDepth := 100) only [State.noteSample, State.wr_kept, State.ite_kept, ite_self, h]

theorem State.runCmd_kept {s : State} (h : s.Kept c q p) (x1 x2 x3) : (State.runCmd s x1 x2 x3).Kept c q p := by
  unfold State.runCmd
  repeat' first
    | (simp +contextual (maxDischargeDepth := 100) only [State.ite_kept, State.iteFst_kept, ite_self, implies_true,
        State.chanOp_kept, State.chanServed_kept, State.genEvent_kept, h]; done)
    | split

theorem State.runCmds_kept {s : State} (h : s.Kept c q p) (x1 x2) : (State.runCmds s x1 x2).Kept c q p := by
  simp +contextual (maxDischargeDepth := 100) only [State.runCmds, State.each_kept, implies_true, State.modCtl_kept,
      State.runCmd_kept, h]

theorem State.noteStepTime_kept {s : State} (h : s.Kept c q p) (x1 x2) : (State.noteStepTime s x1 x2).Kept c q p := by
  simp +contextual (maxDischargeDepth := 100) only [State.noteStepTime, State.ite_kept, ite_self, State.wrN_kept, h]

theorem State.serveTail_kept {s : State} (h : s.Kept c q p) (x1 x2 x3) : (State.serveTail s x1 x2 x3).Kept c q p := by
  simp +contextual (maxDischargeDepth := 100) only [State.serveTail, State.noteSample_kept, State.runWindows_kept,
      State.computePoints_kept, State.modCtl_kept, State.noteStepTime_kept, h]

theorem State.serve_kept {s : State} (h : s.Kept c q p) (x1 x2) : (State.serve s x1 x2).Kept c q p := by
  unfold State.serve
  dsimp only
  repeat' first
    | (simp +contextual (maxDischargeDepth := 100) only [State.ite_kept, State.iteFst_kept, ite_self, implies_true,
        State.modCtl_kept, State.setBit_kept, State.noteSample_kept, State.runCmds_kept, State.ownerLostPolicy_kept,
        State.serveTail_kept, h]; done)
    | split

theorem State.hold_kept {s : State} (h : s.Kept c q p) (x1 x2) : (State.hold s x1 x2).Kept c q p := by
  simp +contextual (maxDischargeDepth := 100) only [State.hold, State.when_kept, implies_true, State.modCtl_kept,
      State.modProg_kept, State.modEis_kept, h]

theorem State.setPair_kept {s : State} (h : s.Kept c q p) (x1 x2) : (State.setPair s x1 x2).Kept c q p := by
  simp +contextual (maxDischargeDepth := 100) only [State.setPair, State.put_kept, h]

theorem State.retirePair_kept {s : State} (h : s.Kept c q p) (x1) : (State.retirePair s x1).Kept c q p := by
  simp +contextual (maxDischargeDepth := 100) only [State.retirePair, State.raise_kept, State.count_kept, State.setPair_kept, h]

theorem State.replacePairs_kept {s : State} (h : s.Kept c q p) (x1) : (State.replacePairs s x1).Kept c q p := by
  unfold State.replacePairs
  repeat' first
    | assumption
    | (simp +contextual (maxDischargeDepth := 100) only [State.each_kept, State.ite_kept, State.iteFst_kept, ite_self,
        implies_true, State.setPair_kept, State.raise_kept, h]; done)
    | (intro _)
    | with_reducible apply State.each_kept
    | with_reducible apply State.setPair_kept
    | with_reducible apply State.raise_kept
    | split

theorem State.loopCut_kept {s : State} (h : s.Kept c q p) : (State.loopCut s).Kept c q p := by
  simp +contextual (maxDischargeDepth := 100) only [State.loopCut, State.each_kept, State.ite_kept, State.iteFst_kept,
      ite_self, implies_true, State.modCtl_kept, h]

theorem State.lanesOut_kept {s : State} (h : s.Kept c q p) : (State.lanesOut s).Kept c q p := by
  simp +contextual (maxDischargeDepth := 100) only [State.lanesOut, State.loopCut_kept, State.safeAll_kept,
      State.pageFault_kept, h]

theorem State.serveIdle_kept {s : State} (h : s.Kept c q p) (x1 x2) : (State.serveIdle s x1 x2).Kept c q p := by
  simp +contextual (maxDischargeDepth := 100) only [State.serveIdle, State.ite_kept, ite_self, State.runCmds_kept,
      State.ownerLostPolicy_kept, State.serveTail_kept, State.modCtl_kept, h]

theorem State.stopMoves_kept {s : State} (h : s.Kept c q p) (x1) : (State.stopMoves s x1).Kept c q p := by
  simp +contextual (maxDischargeDepth := 100) only [State.stopMoves, State.ite_kept, ite_self, State.safeAll_kept, h]

theorem State.boundaryStops_kept {s : State} (h : s.Kept c q p) : (State.boundaryStops s).Kept c q p := by
  simp +contextual (maxDischargeDepth := 100) only [State.boundaryStops, State.each_kept, State.ite_kept, ite_self,
      implies_true, State.stopMoves_kept, h]

theorem State.progBad_kept {s : State} (h : s.Kept c q p) (x1) : (State.progBad s x1).Kept c q p := by
  simp +contextual (maxDischargeDepth := 100) only [State.progBad, State.upd_kept, State.raise_kept, State.count_kept,
      State.safeAll_kept, h]

theorem State.dirCorrupt_kept {s : State} (h : s.Kept c q p) : (State.dirCorrupt s).Kept c q p := by
  simp +contextual (maxDischargeDepth := 100) only [State.dirCorrupt, State.safeAll_kept, State.pageFault_kept, h]

theorem State.storeFaults_kept {s : State} (h : s.Kept c q p) (x1) : (State.storeFaults s x1).Kept c q p := by
  unfold State.storeFaults
  repeat' first
    | assumption
    | (simp +contextual (maxDischargeDepth := 100) only [State.each_kept, State.when_kept, State.ite_kept, State.iteFst_kept,
        ite_self, implies_true, State.count_kept, State.injStep_kept, State.progBad_kept, State.dirCorrupt_kept, h]; done)
    | (intro _)
    | with_reducible apply State.each_kept
    | with_reducible apply State.when_kept
    | with_reducible apply State.count_kept
    | with_reducible apply State.injStep_kept
    | with_reducible apply State.progBad_kept
    | with_reducible apply State.dirCorrupt_kept
    | split

theorem State.takeGains_kept {s : State} (h : s.Kept c q p) : (State.takeGains s).Kept c q p := by
  simp +contextual (maxDischargeDepth := 100) only [State.takeGains, State.each_kept, State.upd_kept, implies_true, h]

theorem State.guardPass_kept {s : State} (h : s.Kept c q p) (x1 x2) : (State.guardPass s x1 x2).Kept c q p := by
  simp +contextual (maxDischargeDepth := 100) only [State.guardPass, State.each_kept, State.ite_kept, ite_self, implies_true,
      State.injStep_kept, State.tripAt_kept, State.guardCh_kept, State.guardDone_kept, h]

theorem State.kelvinPass_kept {s : State} (h : s.Kept c q p) : (State.kelvinPass s).Kept c q p := by
  unfold State.kelvinPass
  repeat' first
    | assumption
    | (simp +contextual (maxDischargeDepth := 100) only [State.each_kept, State.ite_kept, State.iteFst_kept, ite_self,
        implies_true, State.kelvin_kept, h]; done)
    | (intro _)
    | with_reducible apply State.each_kept
    | with_reducible apply State.kelvin_kept
    | split

theorem State.clearTelemetry_kept {s : State} (h : s.Kept c q p) : (State.clearTelemetry s).Kept c q p := by
  simp +contextual (maxDischargeDepth := 100) only [State.clearTelemetry, State.each_kept, implies_true, State.modLink_kept, h]

theorem State.noteService_kept {s : State} (h : s.Kept c q p) (x1) : (State.noteService s x1).Kept c q p := by
  simp +contextual (maxDischargeDepth := 100) only [State.noteService, State.put_kept, h]

theorem serveOne_kept {x : Progress} (h : x.s.Kept c q p) (b env active k) : (serveOne b env active x k).s.Kept c q p := by
  unfold serveOne
  dsimp only
  repeat' split
  all_goals
    simp +contextual (maxDischargeDepth := 100) only [State.serveIdle_kept, State.hold_kept, State.retirePair_kept,
        State.injStep_kept,
      State.serve_kept, h]

theorem State.servePass_kept {s : State} (h : s.Kept c q p) (b env) : (s.servePass b env).Kept c q p := by
  unfold State.servePass
  have hx : ∀ (l : List Nat) (x : Progress), x.s.Kept c q p → ((l.foldl (serveOne b env s.activePairs) x).s).Kept c q p := by
    intro l
    induction l with
    | nil => exact fun _ hx => hx
    | cons k l ih => exact fun x hx => ih _ (serveOne_kept hx _ _ _ _)
  have := hx s.serveOrder { s := s } h
  exact State.when_kept (State.replacePairs_kept (State.put_kept this _ _ _ _) _) _ _ fun t ht => State.lanesOut_kept ht

theorem State.featherStroke_kept {s : State} (h : s.Kept c q p) (x1 x2) : (State.featherStroke s x1 x2).Kept c q p := by
  simp +contextual (maxDischargeDepth := 100) only [State.featherStroke, State.each_kept, State.when_kept, implies_true,
      State.guardPass_kept, State.modCtl_kept, State.wakeSelf_kept, State.clearTelemetry_kept, h]

theorem State.stroke_kept {s : State} (h : s.Kept c q p) (x1) : (State.stroke s x1).Kept c q p := by
  simp +contextual (maxDischargeDepth := 100) only [State.stroke, State.each_kept, State.upd_kept, State.ite_kept, ite_self,
      implies_true, State.capture_kept, State.takeGains_kept, State.injStep_kept, State.closeWindow_kept,
      State.boundaryStops_kept, State.clearTelemetry_kept, State.featherStroke_kept, State.guardPass_kept, State.storeFaults_kept,
      State.kelvinPass_kept, State.servePass_kept, State.modCtl_kept, State.noteService_kept, State.launch_kept,
      State.crewReports_kept, h]

theorem execStrokeBoundary_kept {s : State} (h : s.Kept c q p) (x0) : Keeps c q p (execStrokeBoundary x0 s) := by
  simp +contextual (maxDischargeDepth := 100) only [execStrokeBoundary, State.ite_kept, State.iteFst_kept, ite_self,
      implies_true, ite_keeps, next_keeps, answer_keeps, State.stroke_kept, h]

theorem State.overrun_kept {s : State} (h : s.Kept c q p) (x1) : (State.overrun s x1).Kept c q p := by
  simp +contextual (maxDischargeDepth := 100) only [State.overrun, State.ite_kept, ite_self, State.modCtl_kept,
      State.count_kept, State.setBit_kept, State.raise_kept, State.missLaunch_kept, State.tripAt_kept, h]

theorem execStrokeDeadline_kept {s : State} (h : s.Kept c q p) : Keeps c q p (execStrokeDeadline s) := by
  simp +contextual (maxDischargeDepth := 100) only [execStrokeDeadline, State.each_kept, State.ite_kept, State.iteFst_kept,
      ite_self, implies_true, ite_keeps, next_keeps, answer_keeps, State.overrun_kept, h]

theorem execGainCommit_kept {s : State} (h : s.Kept c q p) (x0) : Keeps c q p (execGainCommit x0 s) := by
  simp +contextual (maxDischargeDepth := 100) only [execGainCommit, State.upd_kept, State.updDma_kept, State.ite_kept,
      State.iteFst_kept, ite_self, implies_true, ite_keeps, next_keeps, answer_keeps, h]

theorem execAccSelGo_kept {s : State} (h : s.Kept c q p) (x0) : Keeps c q p (execAccSelGo x0 s) := by
  simp +contextual (maxDischargeDepth := 100) only [execAccSelGo, State.ite_kept, State.iteFst_kept, ite_self, implies_true,
      ite_keeps, next_keeps, answer_keeps, State.raise_kept, State.wrN_kept, h]

theorem State.wr96_kept {s : State} (h : s.Kept c q p) (x1 x2) : (State.wr96 s x1 x2).Kept c q p := by
  simp +contextual (maxDischargeDepth := 100) only [State.wr96, State.wrN_kept, h]

theorem execAccLatch_kept {s : State} (h : s.Kept c q p) : Keeps c q p (execAccLatch s) := by
  simp +contextual (maxDischargeDepth := 100) only [execAccLatch, State.ite_kept, State.iteFst_kept, ite_self, implies_true,
      ite_keeps, next_keeps, answer_keeps, State.wr96_kept, State.wr64_kept, State.raise_kept, State.setBit_kept, h]

theorem State.chanRow_kept {s : State} (h : s.Kept c q p) (x1 x2 x3) : (State.chanRow s x1 x2 x3).Kept c q p := by
  simp +contextual (maxDischargeDepth := 100) only [State.chanRow, State.ite_kept, ite_self, State.chanOp_kept,
      State.modProg_kept, State.modCtl_kept, State.serveTail_kept, h]

theorem execChNop_kept {s : State} (h : s.Kept c q p) (x0 x1) : Keeps c q p (execChNop x0 x1 s) := by
  simp +contextual (maxDischargeDepth := 100) only [execChNop, State.ite_kept, State.iteFst_kept, ite_self, implies_true,
      ite_keeps, next_keeps, answer_keeps, State.chanRow_kept, h]

theorem execChArm_kept {s : State} (h : s.Kept c q p) (x0 x1) : Keeps c q p (execChArm x0 x1 s) := by
  simp +contextual (maxDischargeDepth := 100) only [execChArm, State.ite_kept, State.iteFst_kept, ite_self, implies_true,
      ite_keeps, next_keeps, answer_keeps, State.chanRow_kept, h]

theorem execChStart_kept {s : State} (h : s.Kept c q p) (x0 x1) : Keeps c q p (execChStart x0 x1 s) := by
  simp +contextual (maxDischargeDepth := 100) only [execChStart, State.ite_kept, State.iteFst_kept, ite_self, implies_true,
      ite_keeps, next_keeps, answer_keeps, State.chanRow_kept, h]

theorem execChPause_kept {s : State} (h : s.Kept c q p) (x0 x1) : Keeps c q p (execChPause x0 x1 s) := by
  simp +contextual (maxDischargeDepth := 100) only [execChPause, State.ite_kept, State.iteFst_kept, ite_self, implies_true,
      ite_keeps, next_keeps, answer_keeps, State.chanRow_kept, h]

theorem execChResume_kept {s : State} (h : s.Kept c q p) (x0 x1) : Keeps c q p (execChResume x0 x1 s) := by
  simp +contextual (maxDischargeDepth := 100) only [execChResume, State.ite_kept, State.iteFst_kept, ite_self, implies_true,
      ite_keeps, next_keeps, answer_keeps, State.chanRow_kept, h]

theorem execChStop_kept {s : State} (h : s.Kept c q p) (x0 x1) : Keeps c q p (execChStop x0 x1 s) := by
  simp +contextual (maxDischargeDepth := 100) only [execChStop, State.ite_kept, State.iteFst_kept, ite_self, implies_true,
      ite_keeps, next_keeps, answer_keeps, State.chanRow_kept, h]

theorem execChSafe_kept {s : State} (h : s.Kept c q p) (x0 x1) : Keeps c q p (execChSafe x0 x1 s) := by
  simp +contextual (maxDischargeDepth := 100) only [execChSafe, State.ite_kept, State.iteFst_kept, ite_self, implies_true,
      ite_keeps, next_keeps, answer_keeps, State.chanRow_kept, h]

theorem execChClear_kept {s : State} (h : s.Kept c q p) (x0 x1) : Keeps c q p (execChClear x0 x1 s) := by
  simp +contextual (maxDischargeDepth := 100) only [execChClear, State.ite_kept, State.iteFst_kept, ite_self, implies_true,
      ite_keeps, next_keeps, answer_keeps, State.chanRow_kept, h]

theorem execChHold_kept {s : State} (h : s.Kept c q p) (x0 x1) : Keeps c q p (execChHold x0 x1 s) := by
  simp +contextual (maxDischargeDepth := 100) only [execChHold, State.ite_kept, State.iteFst_kept, ite_self, implies_true,
      ite_keeps, next_keeps, answer_keeps, State.chanRow_kept, h]

theorem execChReservedOp_kept {s : State} (h : s.Kept c q p) (x0 x1 x2) : Keeps c q p (execChReservedOp x0 x1 x2 s) := by
  simp +contextual (maxDischargeDepth := 100) only [execChReservedOp, State.ite_kept, State.iteFst_kept, ite_self,
      implies_true, ite_keeps, next_keeps, answer_keeps, State.chanRow_kept, h]

theorem execRampToIdle_kept {s : State} (h : s.Kept c q p) (x0) : Keeps c q p (execRampToIdle x0 s) := by
  simp +contextual (maxDischargeDepth := 100) only [execRampToIdle, State.ite_kept, State.iteFst_kept, ite_self, implies_true,
      ite_keeps, next_keeps, answer_keeps, State.enterIdle_kept, h]

theorem State.restTest_kept {s : State} (h : s.Kept c q p) (x1 x2) : (State.restTest s x1 x2).Kept c q p := by
  unfold State.restTest
  dsimp only
  repeat' first
    | (simp +contextual (maxDischargeDepth := 100) only [State.ite_kept, State.iteFst_kept, ite_self, implies_true,
        State.wakeSelf_kept, State.modProg_kept, h]; done)
    | split

theorem execRestTrendWake_kept {s : State} (h : s.Kept c q p) (x0) : Keeps c q p (execRestTrendWake x0 s) := by
  simp +contextual (maxDischargeDepth := 100) only [execRestTrendWake, State.ite_kept, State.iteFst_kept, ite_self,
      implies_true, ite_keeps, next_keeps, answer_keeps, State.trendWake_kept, State.convertersDown_kept, State.restTest_kept, h]

theorem execTrendConverterPowerUp_kept {s : State} (h : s.Kept c q p) (x0) : Keeps c q p (execTrendConverterPowerUp x0 s) := by
  simp +contextual (maxDischargeDepth := 100) only [execTrendConverterPowerUp, State.ite_kept, State.iteFst_kept, ite_self,
      implies_true, ite_keeps, next_keeps, answer_keeps, State.powerConverters_kept, h]

theorem State.checkWindow_kept {s : State} (h : s.Kept c q p) : (State.checkWindow s).Kept c q p := by
  simp +contextual (maxDischargeDepth := 100) only [State.checkWindow, State.each_kept, State.ite_kept, ite_self,
      implies_true, State.modDie_kept, h]

theorem execFeatherCheckWindow_kept {s : State} (h : s.Kept c q p) : Keeps c q p (execFeatherCheckWindow s) := by
  simp +contextual (maxDischargeDepth := 100) only [execFeatherCheckWindow, State.ite_kept, State.iteFst_kept, ite_self,
      implies_true, ite_keeps, next_keeps, answer_keeps, State.checkWindow_kept, h]

theorem State.setPower_kept {s : State} (h : s.Kept c q p) (x1) : (State.setPower s x1).Kept c q p := by
  simp +contextual (maxDischargeDepth := 100) only [State.setPower, State.upd_kept, h]

theorem State.failStart_kept {s : State} (h : s.Kept c q p) (x1) : (State.failStart s x1).Kept c q p := by
  simp +contextual (maxDischargeDepth := 100) only [State.failStart, State.count_kept, State.put_kept, State.setPower_kept, h]

theorem State.opFlush_kept {s : State} (h : s.Kept c q p) : (State.opFlush s).Kept c q p := by
  simp +contextual (maxDischargeDepth := 100) only [State.opFlush, State.wr64_kept, State.setPower_kept, h]

theorem State.trigger_kept {s : State} (h : s.Kept c q p) (x1 x2) : (State.trigger s x1 x2).Kept c q p := by
  unfold State.trigger
  repeat' first
    | (simp +contextual (maxDischargeDepth := 100) only [State.ite_kept, State.iteFst_kept, ite_self, implies_true,
        State.opFlush_kept, State.failStart_kept, State.setPower_kept, h]; done)
    | split

theorem State.measureBoot_kept {s : State} (h : s.Kept c q p) : (State.measureBoot s).Kept c q p := by
  simp +contextual (maxDischargeDepth := 100) only [State.measureBoot, State.each_kept, State.upd_kept, implies_true,
      State.extend_kept, h]

theorem State.mgmtRestart_kept {s : State} (h : s.Kept c q p) : (State.mgmtRestart s).Kept c q p := by
  simp +contextual (maxDischargeDepth := 100) only [State.mgmtRestart, State.ite_kept, ite_self, State.trigger_kept,
      State.measureBoot_kept, State.clearM_kept, State.raise_kept, State.count_kept, State.setBit_kept, State.setPower_kept,
      State.writeCrumb_kept, State.useFree_kept, h]

theorem State.rstCtrl_kept {s : State} (h : s.Kept c q p) (x1 x2 x3) (h3 : ∀ (t : State), t.Kept c q p → (x3 t).Kept c q p) :
    (State.rstCtrl s x1 x2 x3).Kept c q p := by
  simp +contextual (maxDischargeDepth := 100) only [State.rstCtrl, State.ite_kept, ite_self, State.raise_kept, h, h3]

theorem execRstDevrst_kept {s : State} (h : s.Kept c q p) (x0) : Keeps c q p (execRstDevrst x0 s) := by
  simp +contextual (maxDischargeDepth := 100) only [execRstDevrst, State.ite_kept, State.iteFst_kept, ite_self, implies_true,
      ite_keeps, next_keeps, answer_keeps, State.rstCtrl_kept, State.trigger_kept, h]

theorem execRstMgmtrst_kept {s : State} (h : s.Kept c q p) (x0) : Keeps c q p (execRstMgmtrst x0 s) := by
  simp +contextual (maxDischargeDepth := 100) only [execRstMgmtrst, State.ite_kept, State.iteFst_kept, ite_self, implies_true,
      ite_keeps, next_keeps, answer_keeps, State.rstCtrl_kept, State.mgmtRestart_kept, h]

theorem execResetNLow_kept {s : State} (h : s.Kept c q p) : Keeps c q p (execResetNLow s) := by
  simp +contextual (maxDischargeDepth := 100) only [execResetNLow, State.ite_kept, State.iteFst_kept, ite_self, implies_true,
      ite_keeps, next_keeps, answer_keeps, State.trigger_kept, h]

theorem State.watchdog_kept {s : State} (h : s.Kept c q p) : (State.watchdog s).Kept c q p := by
  unfold State.watchdog
  dsimp only
  repeat' first
    | (simp +contextual (maxDischargeDepth := 100) only [State.ite_kept, State.iteFst_kept, ite_self, implies_true,
        State.injStep_kept, State.trigger_kept, State.mgmtRestart_kept, h]; done)
    | split

theorem execMgmtWatchdogExpiry_kept {s : State} (h : s.Kept c q p) : Keeps c q p (execMgmtWatchdogExpiry s) := by
  simp +contextual (maxDischargeDepth := 100) only [execMgmtWatchdogExpiry, State.ite_kept, State.iteFst_kept, ite_self,
      implies_true, ite_keeps, next_keeps, answer_keeps, State.watchdog_kept, h]

theorem execWatchdogReset_kept {s : State} (h : s.Kept c q p) : Keeps c q p (execWatchdogReset s) := by
  simp +contextual (maxDischargeDepth := 100) only [execWatchdogReset, State.ite_kept, State.iteFst_kept, ite_self,
      implies_true, ite_keeps, next_keeps, answer_keeps, State.trigger_kept, h]

theorem execFirmwareReset_kept {s : State} (h : s.Kept c q p) : Keeps c q p (execFirmwareReset s) := by
  simp +contextual (maxDischargeDepth := 100) only [execFirmwareReset, State.ite_kept, State.iteFst_kept, ite_self,
      implies_true, ite_keeps, next_keeps, answer_keeps, State.trigger_kept, h]

theorem execBootTimerExpiry_kept {s : State} (h : s.Kept c q p) : Keeps c q p (execBootTimerExpiry s) := by
  simp +contextual (maxDischargeDepth := 100) only [execBootTimerExpiry, State.ite_kept, State.iteFst_kept, ite_self,
      implies_true, ite_keeps, next_keeps, answer_keeps, State.trigger_kept, h]

theorem execBootHashFail_kept {s : State} (h : s.Kept c q p) : Keeps c q p (execBootHashFail s) := by
  simp +contextual (maxDischargeDepth := 100) only [execBootHashFail, State.ite_kept, State.iteFst_kept, ite_self,
      implies_true, ite_keeps, next_keeps, answer_keeps, State.trigger_kept, h]

theorem execBootComplete_kept {s : State} (h : s.Kept c q p) : Keeps c q p (execBootComplete s) := by
  simp +contextual (maxDischargeDepth := 100) only [execBootComplete, State.wr_kept, State.ite_kept, State.iteFst_kept,
      ite_self, implies_true, ite_keeps, next_keeps, answer_keeps, State.raise_kept, State.put_kept, State.setBit_kept, h]

theorem execFatalError_kept {s : State} (h : s.Kept c q p) (x0) : Keeps c q p (execFatalError x0 s) := by
  simp +contextual (maxDischargeDepth := 100) only [execFatalError, State.ite_kept, State.iteFst_kept, ite_self, implies_true,
      ite_keeps, next_keeps, answer_keeps, State.trigger_kept, State.writeCrumb_kept, h]

theorem State.loadAttKey_kept {s : State} (h : s.Kept c q p) : (State.loadAttKey s).Kept c q p := by
  simp +contextual (maxDischargeDepth := 100) only [State.loadAttKey, State.ite_kept, ite_self, State.setKeySlot_kept, h]

theorem State.easyEnter_kept {s : State} (h : s.Kept c q p) (x1 x2) : (State.easyEnter s x1 x2).Kept c q p := by
  simp +contextual (maxDischargeDepth := 100) only [State.easyEnter, State.wr_kept, State.each_kept, State.when_kept,
      State.upd_kept, State.ite_kept, ite_self, implies_true, State.wrN_kept, State.put_kept, State.setBit_kept, State.setPg_kept,
      State.loadAttKey_kept, State.writeCrumb_kept, State.raise_kept, h]

theorem State.loadBank_kept {s : State} (h : s.Kept c q p) (x1) : (State.loadBank s x1).Kept c q p := by
  simp +contextual (maxDischargeDepth := 100) only [State.loadBank, State.put_kept, State.loadAttKey_kept,
      State.measureBoot_kept, h]

theorem State.checkBank_kept {s : State} (h : s.Kept c q p) (x1 x2) : (State.checkBank s x1 x2).1.Kept c q p := by
  simp +contextual (maxDischargeDepth := 100) only [State.checkBank, State.put_kept, h]

theorem State.rom_kept {s : State} (h : s.Kept c q p) (x1 x2) : (State.rom s x1 x2).Kept c q p := by
  simp +contextual (maxDischargeDepth := 100) only [State.rom, State.ite_kept, ite_self, State.count_kept, State.put_kept,
      State.easyEnter_kept, State.checkBank_kept, State.loadBank_kept, State.trigger_kept, h]

theorem execEasyAnnounce_kept {s : State} (h : s.Kept c q p) : Keeps c q p (execEasyAnnounce s) := by
  simp +contextual (maxDischargeDepth := 100) only [execEasyAnnounce, State.ite_kept, State.iteFst_kept, ite_self,
      implies_true, ite_keeps, next_keeps, answer_keeps, State.send_kept, h]

theorem recInfoBody_kept {s : State} (h : s.Kept c q p) (x1) : (recInfoBody s x1).1.Kept c q p := by
  simp +contextual (maxDischargeDepth := 100) only [recInfoBody, accept_kept, h]

theorem execRecInfo_kept {s : State} (h : s.Kept c q p) : Keeps c q p (execRecInfo s) := by
  simp +contextual (maxDischargeDepth := 100) only [execRecInfo, State.ite_kept, State.iteFst_kept, ite_self, implies_true,
      ite_keeps, next_keeps, answer_keeps, State.mbxRun_kept, recInfoBody_kept, h]

theorem recEraseBody_kept {s : State} (h : s.Kept c q p) (x1) : (recEraseBody s x1).1.Kept c q p := by
  simp +contextual (maxDischargeDepth := 100) only [recEraseBody, State.upd_kept, State.iteFst_kept, ite_self, refuse_kept,
      accept_kept, h]

theorem execRecErase_kept {s : State} (h : s.Kept c q p) : Keeps c q p (execRecErase s) := by
  simp +contextual (maxDischargeDepth := 100) only [execRecErase, State.ite_kept, State.iteFst_kept, ite_self, implies_true,
      ite_keeps, next_keeps, answer_keeps, State.mbxRun_kept, recEraseBody_kept, h]

theorem recWriteBody_kept {s : State} (h : s.Kept c q p) (x0 x2) : (recWriteBody x0 s x2).1.Kept c q p := by
  simp +contextual (maxDischargeDepth := 100) only [recWriteBody, State.upd_kept, State.iteFst_kept, ite_self, refuse_kept,
      accept_kept, h]

theorem execRecWrite_kept {s : State} (h : s.Kept c q p) (x0) : Keeps c q p (execRecWrite x0 s) := by
  simp +contextual (maxDischargeDepth := 100) only [execRecWrite, State.ite_kept, State.iteFst_kept, ite_self, implies_true,
      ite_keeps, next_keeps, answer_keeps, State.mbxRun_kept, recWriteBody_kept, h]

theorem recVerifyBody_kept {s : State} (h : s.Kept c q p) (x0 x2) : (recVerifyBody x0 s x2).1.Kept c q p := by
  simp +contextual (maxDischargeDepth := 100) only [recVerifyBody, State.iteFst_kept, ite_self, refuse_kept, accept_kept, h]

theorem execRecVerify_kept {s : State} (h : s.Kept c q p) (x0) : Keeps c q p (execRecVerify x0 s) := by
  simp +contextual (maxDischargeDepth := 100) only [execRecVerify, State.ite_kept, State.iteFst_kept, ite_self, implies_true,
      ite_keeps, next_keeps, answer_keeps, State.mbxRun_kept, recVerifyBody_kept, h]

theorem recSelectBody_kept {s : State} (h : s.Kept c q p) (x0 x2) : (recSelectBody x0 s x2).1.Kept c q p := by
  simp +contextual (maxDischargeDepth := 100) only [recSelectBody, State.iteFst_kept, ite_self, refuse_kept, accept_kept,
      State.put_kept, h]

theorem execRecSelect_kept {s : State} (h : s.Kept c q p) (x0) : Keeps c q p (execRecSelect x0 s) := by
  simp +contextual (maxDischargeDepth := 100) only [execRecSelect, State.ite_kept, State.iteFst_kept, ite_self, implies_true,
      ite_keeps, next_keeps, answer_keeps, State.mbxRun_kept, recSelectBody_kept, h]

theorem recRestartBody_kept {s : State} (h : s.Kept c q p) (x0 x2) : (recRestartBody x0 s x2).1.Kept c q p := by
  simp +contextual (maxDischargeDepth := 100) only [recRestartBody, State.iteFst_kept, ite_self, State.put_kept, accept_kept,
      State.setPower_kept, h]

theorem execRecRestart_kept {s : State} (h : s.Kept c q p) (x0) : Keeps c q p (execRecRestart x0 s) := by
  simp +contextual (maxDischargeDepth := 100) only [execRecRestart, State.ite_kept, State.iteFst_kept, ite_self, implies_true,
      ite_keeps, next_keeps, answer_keeps, State.mbxRun_kept, recRestartBody_kept, h]

theorem State.setSw_kept {s : State} (h : s.Kept c q p) (x1) : (State.setSw s x1).Kept c q p := by
  simp +contextual (maxDischargeDepth := 100) only [State.setSw, State.upd_kept, State.updDma_kept, State.ite_kept,
      State.iteFst_kept, ite_self, implies_true, h]

theorem State.portCount_kept {s : State} (h : s.Kept c q p) (x1 x2 x3 x4 x5) : (State.portCount s x1 x2 x3 x4 x5).Kept c q p := by
  simp +contextual (maxDischargeDepth := 100) only [State.portCount, State.ite_kept, State.iteFst_kept, ite_self,
      implies_true, State.count_kept, h]

theorem State.setSwQueue_kept {s : State} (h : s.Kept c q p) (x1 x2) : (State.setSwQueue s x1 x2).Kept c q p := by
  simp +contextual (maxDischargeDepth := 100) only [State.setSwQueue, State.ite_kept, State.iteFst_kept, ite_self,
      implies_true, State.setSw_kept, h]

theorem State.swFollow_kept {s : State} (h : s.Kept c q p) : (State.swFollow s).Kept c q p := by
  simp +contextual (maxDischargeDepth := 100) only [State.swFollow, State.each_kept, State.ite_kept, State.iteFst_kept,
      ite_self, implies_true, State.setSw_kept, State.put_kept, State.wrN_kept, State.setBit_kept, h]

theorem State.mirCapture_kept {s : State} (h : s.Kept c q p) (x1 x2 x3 x4 x5) : (State.mirCapture s x1 x2 x3 x4 x5).Kept c q p
    := by
  simp +contextual (maxDischargeDepth := 100) only [State.mirCapture, State.dramWrite_kept, State.ite_kept, State.iteFst_kept,
      ite_self, implies_true, State.count_kept, State.wrN_kept, h]

theorem State.mirTake_kept {s : State} (h : s.Kept c q p) (x1 x2 x3 x4 x5) : (State.mirTake s x1 x2 x3 x4 x5).Kept c q p := by
  simp +contextual (maxDischargeDepth := 100) only [State.mirTake, State.ite_kept, State.iteFst_kept, ite_self, implies_true,
      State.mirCapture_kept, State.setSw_kept, h]

theorem State.mirror_kept {s : State} (h : s.Kept c q p) (x1 x2 x3 x4 x5) : (State.mirror s x1 x2 x3 x4 x5).Kept c q p := by
  simp +contextual (maxDischargeDepth := 100) only [State.mirror, State.each_kept, State.ite_kept, State.iteFst_kept,
      ite_self, implies_true, State.mirTake_kept, h]

theorem State.mirDrop_kept {s : State} (h : s.Kept c q p) (x1 x2 x3) : (State.mirDrop s x1 x2 x3).Kept c q p := by
  simp +contextual (maxDischargeDepth := 100) only [State.mirDrop, State.ite_kept, State.iteFst_kept, ite_self, implies_true,
      State.mirror_kept, h]

theorem State.setMacs_kept {s : State} (h : s.Kept c q p) (x1) : (State.setMacs s x1).Kept c q p := by
  simp +contextual (maxDischargeDepth := 100) only [State.setMacs, State.ite_kept, State.iteFst_kept, ite_self, implies_true,
      State.setSw_kept, State.wrN_kept, h]

theorem State.macFlush_kept {s : State} (h : s.Kept c q p) (x1) : (State.macFlush s x1).Kept c q p := by
  simp +contextual (maxDischargeDepth := 100) only [State.macFlush, State.ite_kept, State.iteFst_kept, ite_self, implies_true,
      State.setMacs_kept, h]

theorem State.flushPort_kept {s : State} (h : s.Kept c q p) (x1) : (State.flushPort s x1).Kept c q p := by
  simp +contextual (maxDischargeDepth := 100) only [State.flushPort, State.each_kept, State.ite_kept, State.iteFst_kept,
      ite_self, implies_true, State.portCount_kept, State.mirDrop_kept, State.setSwQueue_kept, State.swFollow_kept, h]

theorem State.portFlush_kept {s : State} (h : s.Kept c q p) (x1) : (State.portFlush s x1).Kept c q p := by
  simp +contextual (maxDischargeDepth := 100) only [State.portFlush, State.ite_kept, State.iteFst_kept, ite_self,
      implies_true, State.flushPort_kept, State.macFlush_kept, h]

theorem State.tunFollow_kept {s : State} (h : s.Kept c q p) : (State.tunFollow s).Kept c q p := by
  simp +contextual (maxDischargeDepth := 100) only [State.tunFollow, State.each_kept, State.ite_kept, State.iteFst_kept,
      ite_self, implies_true, State.put_kept, State.portFlush_kept, State.setSw_kept, h]

theorem State.agreeRx_kept {s : State} (h : s.Kept c q p) (x1) : (State.agreeRx s x1).Kept c q p := by
  simp +contextual (maxDischargeDepth := 100) only [State.agreeRx, State.upd_kept, State.ite_kept, ite_self, State.wr64_kept,
      State.raise_kept, State.setSlp_kept, State.sleepAbort_kept, h]

theorem State.leaderCheck_kept {s : State} (h : s.Kept c q p) : (State.leaderCheck s).Kept c q p := by
  simp +contextual (maxDischargeDepth := 100) only [State.leaderCheck, State.each_kept, State.ite_kept, ite_self,
      implies_true, State.fabricSend_kept, State.agreeRx_kept, h]

theorem State.sleepCheck_kept {s : State} (h : s.Kept c q p) (x1) : (State.sleepCheck s x1).Kept c q p := by
  simp +contextual (maxDischargeDepth := 100) only [State.sleepCheck, State.ite_kept, ite_self, State.setVotes_kept,
      State.sleepAbort_kept, State.leaderCheck_kept, h]

theorem State.linksNow_kept {s : State} (h : s.Kept c q p) : (State.linksNow s).Kept c q p := by
  simp +contextual (maxDischargeDepth := 100) only [State.linksNow, State.sleepCheck_kept, State.tunFollow_kept,
      State.linksChanged_kept, h]

theorem State.blActive_kept {s : State} (h : s.Kept c q p) (x1 x2) : (State.blActive s x1 x2).Kept c q p := by
  simp +contextual (maxDischargeDepth := 100) only [State.blActive, State.wr_kept, State.upd_kept, State.ite_kept, ite_self,
      State.modBl_kept, State.raise_kept, State.count_kept, State.linksNow_kept, State.blDrain_kept, State.put_kept, h]

theorem State.blExclude_kept {s : State} (h : s.Kept c q p) (x1 x2 x3) : (State.blExclude s x1 x2 x3).Kept c q p := by
  simp +contextual (maxDischargeDepth := 100) only [State.blExclude, State.modBl_kept, State.raise_kept, State.put_kept,
      State.setLst_kept, h]

theorem State.identRx_kept {s : State} (h : s.Kept c q p) (x1 x2) : (State.identRx s x1 x2).Kept c q p := by
  unfold State.identRx
  dsimp only
  repeat' first
    | (simp +contextual (maxDischargeDepth := 100) only [State.wr_kept, State.ite_kept, State.iteFst_kept, ite_self,
        implies_true, State.modBl_kept, State.blExclude_kept, State.blActive_kept, h]; done)
    | split

theorem execBruilIdentRx_kept {s : State} (h : s.Kept c q p) (x0 x1) : Keeps c q p (execBruilIdentRx x0 x1 s) := by
  simp +contextual (maxDischargeDepth := 100) only [execBruilIdentRx, State.ite_kept, State.iteFst_kept, ite_self,
      implies_true, ite_keeps, next_keeps, answer_keeps, State.identRx_kept, h]

theorem execBruilExclRecheck_kept {s : State} (h : s.Kept c q p) (x0) : Keeps c q p (execBruilExclRecheck x0 s) := by
  unfold execBruilExclRecheck
  repeat' first
    | (simp +contextual (maxDischargeDepth := 100) only [State.ite_kept, State.iteFst_kept, ite_self, implies_true, ite_keeps,
        next_keeps, answer_keeps, State.blActive_kept, h]; done)
    | split

theorem State.reinject_kept {s : State} (h : s.Kept c q p) (x : Packet) : (s.reinject x).Kept c q p := by
  unfold State.reinject
  split
  · rename_i e
    exact State.forward_kept h e
  · split
    · split
      · exact State.logRerr_kept h _ _ _ _ _
      · exact State.fabricSend_kept h _ _ _ _ _
    · split
      · exact State.fabricSend_kept h _ _ _ _ _
      · exact h

theorem State.blDown_kept {s : State} (h : s.Kept c q p) (x1 x2 x3) : (State.blDown s x1 x2 x3).Kept c q p := by
  simp +contextual (maxDischargeDepth := 100) only [State.blDown, State.each_kept, State.when_kept, implies_true,
      State.modBl_kept, State.setBit_kept, State.setLst_kept, State.useAlt_kept, State.reinject_kept, State.linksNow_kept, h]

theorem State.blFail_kept {s : State} (h : s.Kept c q p) (x1 x2) : (State.blFail s x1 x2).Kept c q p := by
  simp +contextual (maxDischargeDepth := 100) only [State.blFail, State.ite_kept, ite_self, State.raise_kept,
      State.count_kept, State.blDown_kept, h]

theorem execBruilAckTimeout_kept {s : State} (h : s.Kept c q p) (x0) : Keeps c q p (execBruilAckTimeout x0 s) := by
  simp +contextual (maxDischargeDepth := 100) only [execBruilAckTimeout, State.ite_kept, State.iteFst_kept, ite_self,
      implies_true, ite_keeps, next_keeps, answer_keeps, State.blFail_kept, h]

theorem execBruilSignalLoss_kept {s : State} (h : s.Kept c q p) (x0) : Keeps c q p (execBruilSignalLoss x0 s) := by
  simp +contextual (maxDischargeDepth := 100) only [execBruilSignalLoss, State.ite_kept, State.iteFst_kept, ite_self,
      implies_true, ite_keeps, next_keeps, answer_keeps, State.blFail_kept, State.modBl_kept, h]

theorem execDepartRx_kept {s : State} (h : s.Kept c q p) (x0) : Keeps c q p (execDepartRx x0 s) := by
  simp +contextual (maxDischargeDepth := 100) only [execDepartRx, State.ite_kept, State.iteFst_kept, ite_self, implies_true,
      ite_keeps, next_keeps, answer_keeps, State.blFail_kept, h]

theorem execBruilFailedRetrain_kept {s : State} (h : s.Kept c q p) (x0) : Keeps c q p (execBruilFailedRetrain x0 s) := by
  simp +contextual (maxDischargeDepth := 100) only [execBruilFailedRetrain, State.ite_kept, State.iteFst_kept, ite_self,
      implies_true, ite_keeps, next_keeps, answer_keeps, State.setLst_kept, State.modBl_kept, h]

theorem State.serdesUnlock_kept {s : State} (h : s.Kept c q p) (x1) : (State.serdesUnlock s x1).Kept c q p := by
  simp +contextual (maxDischargeDepth := 100) only [State.serdesUnlock, State.ite_kept, ite_self, State.stageUnlock_kept,
      State.pageFault_kept, State.blFail_kept, State.injStep_kept, h]

theorem execSerdesUnlock_kept {s : State} (h : s.Kept c q p) (x0) : Keeps c q p (execSerdesUnlock x0 s) := by
  simp +contextual (maxDischargeDepth := 100) only [execSerdesUnlock, State.ite_kept, State.iteFst_kept, ite_self,
      implies_true, ite_keeps, next_keeps, answer_keeps, State.serdesUnlock_kept, h]

theorem State.blStart_kept {s : State} (h : s.Kept c q p) (x1) : (State.blStart s x1).Kept c q p := by
  simp +contextual (maxDischargeDepth := 100) only [State.blStart, State.setLst_kept, State.modBl_kept, h]

theorem State.blStop_kept {s : State} (h : s.Kept c q p) (x1) : (State.blStop s x1).Kept c q p := by
  simp +contextual (maxDischargeDepth := 100) only [State.blStop, State.each_kept, State.ite_kept, ite_self, implies_true,
      State.send_kept, State.blEmit_kept, State.modBl_kept, State.blDown_kept, State.setLst_kept, h]

theorem State.routingStop_kept {s : State} (h : s.Kept c q p) : (State.routingStop s).Kept c q p := by
  simp +contextual (maxDischargeDepth := 100) only [State.routingStop, State.each_kept, State.when_kept, State.ite_kept,
      State.iteFst_kept, ite_self, implies_true, State.sleepLeave_kept, State.blStop_kept, h]

theorem State.routingStart_kept {s : State} (h : s.Kept c q p) : (State.routingStart s).Kept c q p := by
  simp +contextual (maxDischargeDepth := 100) only [State.routingStart, State.each_kept, State.ite_kept, ite_self,
      implies_true, State.wrN_kept, State.blStart_kept, h]

theorem State.ackTo_kept {s : State} (h : s.Kept c q p) (x1 x2) : (State.ackTo s x1 x2).Kept c q p := by
  simp +contextual (maxDischargeDepth := 100) only [State.ackTo, State.ite_kept, ite_self, State.modBl_kept,
      State.blDrain_kept, h]

theorem State.nakRx_kept {s : State} (h : s.Kept c q p) (x1) : (State.nakRx s x1).Kept c q p := by
  simp +contextual (maxDischargeDepth := 100) only [State.nakRx, State.each_kept, State.ite_kept, ite_self, implies_true,
      State.blFail_kept, State.modBl_kept, State.raise_kept, State.count_kept, State.send_kept, h]

theorem State.sendAck_kept {s : State} (h : s.Kept c q p) (x1 x2) : (State.sendAck s x1 x2).Kept c q p := by
  simp +contextual (maxDischargeDepth := 100) only [State.sendAck, State.send_kept, h]

theorem State.nakSend_kept {s : State} (h : s.Kept c q p) (x1) : (State.nakSend s x1).Kept c q p := by
  simp +contextual (maxDischargeDepth := 100) only [State.nakSend, State.ite_kept, ite_self, State.raise_kept,
      State.sendAck_kept, State.modBl_kept, h]

theorem State.flitGood_kept {s : State} (h : s.Kept c q p) (x1 x2) : (State.flitGood s x1 x2).Kept c q p := by
  simp +contextual (maxDischargeDepth := 100) only [State.flitGood, State.when_kept, State.ite_kept, ite_self, implies_true,
      State.ackTo_kept, State.nakRx_kept, State.sendAck_kept, State.modBl_kept, State.nakSend_kept, h]

theorem State.flitRx_kept {s : State} (h : s.Kept c q p) (x1 x2) : (State.flitRx s x1 x2).Kept c q p := by
  unfold State.flitRx
  dsimp only
  repeat' first
    | (simp +contextual (maxDischargeDepth := 100) only [State.when_kept, State.ite_kept, State.iteFst_kept, ite_self,
        implies_true, State.injStep_kept, State.count_kept, State.modBl_kept, State.send_kept, State.setLst_kept,
        State.flitGood_kept, State.nakSend_kept, h]; done)
    | split

theorem execBruilFlitRx_kept {s : State} (h : s.Kept c q p) (x0 x1) : Keeps c q p (execBruilFlitRx x0 x1 s) := by
  simp +contextual (maxDischargeDepth := 100) only [execBruilFlitRx, State.ite_kept, State.iteFst_kept, ite_self,
      implies_true, ite_keeps, next_keeps, answer_keeps, State.flitRx_kept, h]

theorem execLinkStateAnnounceRx_kept {s : State} (h : s.Kept c q p) (x0 x1 x2) : Keeps c q p (execLinkStateAnnounceRx x0 x1 x2
    s) := by
  simp +contextual (maxDischargeDepth := 100) only [execLinkStateAnnounceRx, State.upd_kept, State.updDma_kept,
      State.ite_kept, State.iteFst_kept, ite_self, implies_true, ite_keeps, next_keeps, answer_keeps, State.flood_kept,
      State.sleepCheck_kept, State.tunFollow_kept, State.updateReach_kept, h]

theorem State.errReturn_kept {s : State} (h : s.Kept c q p) (x1 x2) : (State.errReturn s x1 x2).Kept c q p := by
  simp +contextual (maxDischargeDepth := 100) only [State.errReturn, State.fabricSend_kept, h]

theorem State.postedWrite_kept {s : State} (h : s.Kept c q p) (x1 x2 x3) : (State.postedWrite s x1 x2 x3).Kept c q p := by
  simp +contextual (maxDischargeDepth := 100) only [State.postedWrite, State.dramWrite_kept, State.ite_kept, ite_self,
      State.errReturn_kept, State.raise_kept, h]

theorem State.deliverPacket_kept {s : State} (h : s.Kept c q p) (x1) : (State.deliverPacket s x1).Kept c q p := by
  unfold State.deliverPacket
  repeat' first
    | (simp +contextual (maxDischargeDepth := 100) only [State.upd_kept, State.updDma_kept, State.ite_kept, State.iteFst_kept,
        ite_self, implies_true, State.postedWrite_kept, State.mbPush_kept, h]; done)
    | split

theorem State.releaseHeld_kept {s : State} (h : s.Kept c q p) (key n : Nat) : (s.releaseHeld key n).Kept c q p := by
  induction n generalizing s with
  | zero => exact h
  | succ n ih =>
    unfold State.releaseHeld
    dsimp only
    split
    · exact h
    · exact ih (State.deliverPacket_kept (State.upd_kept h ..) _)

theorem State.packetHere_kept {s : State} (h : s.Kept c q p) (x1) : (State.packetHere s x1).Kept c q p := by
  simp +contextual (maxDischargeDepth := 100) only [State.packetHere, State.upd_kept, State.ite_kept, ite_self,
      State.releaseHeld_kept, State.deliverPacket_kept, State.count_kept, h]

theorem State.packetRx_kept {s : State} (h : s.Kept c q p) (n : Nat) (x : Packet) : (s.packetRx n x).Kept c q p := by
  unfold State.packetRx
  split
  · exact State.packetHere_kept h _
  · split
    · rename_i e
      exact State.forward_kept h e
    · exact State.reinject_kept h _

theorem State.routingEcc_kept {s : State} (h : s.Kept c q p) : (State.routingEcc s).Kept c q p := by
  simp +contextual (maxDischargeDepth := 100) only [State.routingEcc, implies_true, State.routingStop_kept,
      State.pageFault_kept, h]

theorem execBruilPacketRx_kept {s : State} (h : s.Kept c q p) (x0 x1) : Keeps c q p (execBruilPacketRx x0 x1 s) := by
  simp +contextual (maxDischargeDepth := 100) only [execBruilPacketRx, State.ite_kept, State.iteFst_kept, ite_self,
      implies_true, ite_keeps, next_keeps, answer_keeps, State.routingEcc_kept, State.injStep_kept, State.packetRx_kept, h]

theorem State.gapLost_kept {s : State} (h : s.Kept c q p) (x1 x2) : (State.gapLost s x1 x2).Kept c q p := by
  unfold State.gapLost
  dsimp only
  repeat' first
    | (simp +contextual (maxDischargeDepth := 100) only [State.each_kept, State.upd_kept, State.updDma_kept, State.ite_kept,
        State.iteFst_kept, ite_self, implies_true, State.count_kept, State.useFree_kept, State.fabricSend_kept,
        State.releaseHeld_kept, h]; done)
    | split

theorem execSeqGapTimeout_kept {s : State} (h : s.Kept c q p) (x0 x1) : Keeps c q p (execSeqGapTimeout x0 x1 s) := by
  simp +contextual (maxDischargeDepth := 100) only [execSeqGapTimeout, State.ite_kept, State.iteFst_kept, ite_self,
      implies_true, ite_keeps, next_keeps, answer_keeps, State.gapLost_kept, h]

theorem execPerrAckSend_kept {s : State} (h : s.Kept c q p) : Keeps c q p (execPerrAckSend s) := by
  simp +contextual (maxDischargeDepth := 100) only [execPerrAckSend, State.each_kept, State.upd_kept, State.updDma_kept,
      State.ite_kept, State.iteFst_kept, ite_self, implies_true, ite_keeps, next_keeps, answer_keeps, State.fabricSend_kept, h]

theorem State.perrRx_kept {s : State} (h : s.Kept c q p) (x1 x2 x3 x4) : (State.perrRx s x1 x2 x3 x4).Kept c q p := by
  unfold State.perrRx
  dsimp only
  repeat' first
    | (simp +contextual (maxDischargeDepth := 100) only [State.upd_kept, State.updDma_kept, State.ite_kept, State.iteFst_kept,
        ite_self, implies_true, State.logRerr_kept, h]; done)
    | split

theorem execPerrRx_kept {s : State} (h : s.Kept c q p) (x0 x1 x2 x3) : Keeps c q p (execPerrRx x0 x1 x2 x3 s) := by
  simp +contextual (maxDischargeDepth := 100) only [execPerrRx, State.ite_kept, State.iteFst_kept, ite_self, implies_true,
      ite_keeps, next_keeps, answer_keeps, State.perrRx_kept, h]

theorem execRouteReturn_kept {s : State} (h : s.Kept c q p) (x0) : Keeps c q p (execRouteReturn x0 s) := by
  unfold execRouteReturn
  repeat' first
    | (simp +contextual (maxDischargeDepth := 100) only [State.upd_kept, State.updDma_kept, State.ite_kept, State.iteFst_kept,
        ite_self, implies_true, ite_keeps, next_keeps, answer_keeps, State.altStat_kept, h]; done)
    | split

theorem execRerrLogRead_kept {s : State} (h : s.Kept c q p) : Keeps c q p (execRerrLogRead s) := by
  unfold execRerrLogRead
  repeat' first
    | (simp +contextual (maxDischargeDepth := 100) only [State.wr_kept, State.upd_kept, State.updDma_kept, State.ite_kept,
        State.iteFst_kept, ite_self, implies_true, ite_keeps, next_keeps, answer_keeps, State.wr64_kept, State.wrN_kept, h]; done)
    | split

theorem State.fenceIssue_kept {s : State} (h : s.Kept c q p) (x1 x2) : (State.fenceIssue s x1 x2).Kept c q p := by
  simp +contextual (maxDischargeDepth := 100) only [State.fenceIssue, State.upd_kept, h]

theorem State.xferFenced_kept {s : State} (h : s.Kept c q p) (x1 x2) : (State.xferFenced s x1 x2).Kept c q p := by
  unfold State.xferFenced
  dsimp only
  repeat' first
    | (simp +contextual (maxDischargeDepth := 100) only [State.upd_kept, State.updDma_kept, State.ite_kept, State.iteFst_kept,
        ite_self, implies_true, State.complete_kept, h]; done)
    | split

theorem State.fenceEnd_kept {s : State} (h : s.Kept c q p) (x1 x2) : (State.fenceEnd s x1 x2).Kept c q p := by
  unfold State.fenceEnd
  dsimp only
  repeat' first
    | (simp +contextual (maxDischargeDepth := 100) only [State.upd_kept, State.updDma_kept, State.ite_kept, State.iteFst_kept,
        ite_self, implies_true, State.raise_kept, State.wrN_kept, State.complete_kept, State.xferFenced_kept, h]; done)
    | split

theorem execFenceComplete_kept {s : State} (h : s.Kept c q p) (x0) : Keeps c q p (execFenceComplete x0 s) := by
  unfold execFenceComplete
  repeat' first
    | (simp +contextual (maxDischargeDepth := 100) only [State.ite_kept, State.iteFst_kept, ite_self, implies_true, ite_keeps,
        next_keeps, answer_keeps, State.fenceEnd_kept, h]; done)
    | split

theorem execFenceTimeout_kept {s : State} (h : s.Kept c q p) (x0) : Keeps c q p (execFenceTimeout x0 s) := by
  unfold execFenceTimeout
  repeat' first
    | (simp +contextual (maxDischargeDepth := 100) only [State.ite_kept, State.iteFst_kept, ite_self, implies_true, ite_keeps,
        next_keeps, answer_keeps, State.fenceEnd_kept, h]; done)
    | split

theorem execRtFence_kept {s : State} (h : s.Kept c q p) (x0) : Keeps c q p (execRtFence x0 s) := by
  simp +contextual (maxDischargeDepth := 100) only [execRtFence, State.ite_kept, State.iteFst_kept, ite_self, implies_true,
      ite_keeps, next_keeps, answer_keeps, State.fenceIssue_kept, State.setBit_kept, h]

theorem State.timeLaunch_kept {s : State} (h : s.Kept c q p) (x1) : (State.timeLaunch s x1).Kept c q p := by
  simp +contextual (maxDischargeDepth := 100) only [State.timeLaunch, State.when_kept, State.ite_kept, ite_self, implies_true,
      State.count_kept, State.modBl_kept, State.send_kept, h]

theorem execCrewMark_kept {s : State} (h : s.Kept c q p) : Keeps c q p (execCrewMark s) := by
  simp +contextual (maxDischargeDepth := 100) only [execCrewMark, State.each_kept, State.ite_kept, State.iteFst_kept,
      ite_self, implies_true, ite_keeps, next_keeps, answer_keeps, State.timeLaunch_kept, h]

theorem State.timeGood_kept {s : State} (h : s.Kept c q p) (x1 x2 x3 x4 x5) : (State.timeGood s x1 x2 x3 x4 x5).Kept c q p := by
  simp +contextual (maxDischargeDepth := 100) only [State.timeGood, State.wr_kept, State.when_kept, State.ite_kept, ite_self,
      implies_true, State.put_kept, State.count_kept, State.modBl_kept, State.servoOffset_kept, h]

theorem execTimeFlitRx_kept {s : State} (h : s.Kept c q p) (x0 x1 x2 x3 x4 x5) : Keeps c q p (execTimeFlitRx x0 x1 x2 x3 x4 x5
    s) := by
  simp +contextual (maxDischargeDepth := 100) only [execTimeFlitRx, State.ite_kept, State.iteFst_kept, ite_self, implies_true,
      ite_keeps, next_keeps, answer_keeps, State.timeGood_kept, State.count_kept, State.modBl_kept, h]

theorem State.takeVote_kept {s : State} (h : s.Kept c q p) (x1 x2) : (State.takeVote s x1 x2).Kept c q p := by
  simp +contextual (maxDischargeDepth := 100) only [State.takeVote, State.leaderCheck_kept, State.setVotes_kept, h]

theorem State.voteWrite_kept {s : State} (h : s.Kept c q p) (x1) : (State.voteWrite s x1).Kept c q p := by
  unfold State.voteWrite
  dsimp only
  repeat' first
    | (simp +contextual (maxDischargeDepth := 100) only [State.ite_kept, State.iteFst_kept, ite_self, implies_true,
        State.setBit_kept, State.takeVote_kept, State.fabricSend_kept, State.setSlp_kept, State.sleepAbort_kept, h]; done)
    | split

theorem execSleepVoteWrite_kept {s : State} (h : s.Kept c q p) (x0) : Keeps c q p (execSleepVoteWrite x0 s) := by
  simp +contextual (maxDischargeDepth := 100) only [execSleepVoteWrite, State.ite_kept, State.iteFst_kept, ite_self,
      implies_true, ite_keeps, next_keeps, answer_keeps, State.voteWrite_kept, h]

theorem execSleepVoteRx_kept {s : State} (h : s.Kept c q p) (x0 x1) : Keeps c q p (execSleepVoteRx x0 x1 s) := by
  simp +contextual (maxDischargeDepth := 100) only [execSleepVoteRx, State.ite_kept, State.iteFst_kept, ite_self,
      implies_true, ite_keeps, next_keeps, answer_keeps, State.takeVote_kept, h]

theorem execSleepAgreeRx_kept {s : State} (h : s.Kept c q p) (x0) : Keeps c q p (execSleepAgreeRx x0 s) := by
  simp +contextual (maxDischargeDepth := 100) only [execSleepAgreeRx, State.ite_kept, State.iteFst_kept, ite_self,
      implies_true, ite_keeps, next_keeps, answer_keeps, State.agreeRx_kept, h]

theorem execSleepAbortRx_kept {s : State} (h : s.Kept c q p) (x0) : Keeps c q p (execSleepAbortRx x0 s) := by
  simp +contextual (maxDischargeDepth := 100) only [execSleepAbortRx, State.each_kept, State.ite_kept, State.iteFst_kept,
      ite_self, implies_true, ite_keeps, next_keeps, answer_keeps, State.sleepLeave_kept, State.setVotes_kept,
      State.fabricSend_kept, h]

theorem State.sleepNow_kept {s : State} (h : s.Kept c q p) : (State.sleepNow s).Kept c q p := by
  simp +contextual (maxDischargeDepth := 100) only [State.sleepNow, State.each_kept, State.when_kept, State.upd_kept,
      State.ite_kept, ite_self, implies_true, State.setLst_kept, State.modBl_kept, State.tunFollow_kept, State.raise_kept,
      State.setSlp_kept, State.setVotes_kept, State.startWake_kept, State.send_kept, h]

theorem execSleepInstant_kept {s : State} (h : s.Kept c q p) : Keeps c q p (execSleepInstant s) := by
  simp +contextual (maxDischargeDepth := 100) only [execSleepInstant, State.ite_kept, State.iteFst_kept, ite_self,
      implies_true, ite_keeps, next_keeps, answer_keeps, State.sleepNow_kept, h]

theorem execWakeRequest_kept {s : State} (h : s.Kept c q p) (x0) : Keeps c q p (execWakeRequest x0 s) := by
  simp +contextual (maxDischargeDepth := 100) only [execWakeRequest, State.ite_kept, State.iteFst_kept, ite_self,
      implies_true, ite_keeps, next_keeps, answer_keeps, State.wakeRequest_kept, h]

theorem execSlpWakeWrite_kept {s : State} (h : s.Kept c q p) : Keeps c q p (execSlpWakeWrite s) := by
  simp +contextual (maxDischargeDepth := 100) only [execSlpWakeWrite, State.ite_kept, State.iteFst_kept, ite_self,
      implies_true, ite_keeps, next_keeps, answer_keeps, State.wakeRequest_kept, h]

theorem State.beaconRx_kept {s : State} (h : s.Kept c q p) (x1 x2) : (State.beaconRx s x1 x2).Kept c q p := by
  simp +contextual (maxDischargeDepth := 100) only [State.beaconRx, State.ite_kept, ite_self, State.raise_kept,
      State.wrN_kept, State.startWake_kept, h]

theorem execWakeBeaconRx_kept {s : State} (h : s.Kept c q p) (x0 x1) : Keeps c q p (execWakeBeaconRx x0 x1 s) := by
  simp +contextual (maxDischargeDepth := 100) only [execWakeBeaconRx, State.ite_kept, State.iteFst_kept, ite_self,
      implies_true, ite_keeps, next_keeps, answer_keeps, State.beaconRx_kept, h]

end Sys2Proof.Machine
end

