-- ==== Sys2Proof/Laws/KeptF.lean ====
section
/-!
SUPPORT. What the operations of these files of the model keep: Bridges, Calib, Can, Program, Submit.
-/
namespace Sys2Proof.Machine
set_option linter.all false
variable {c : Prop} {q : List Instr} {p : Part}

theorem State.setWinAccs_kept {s : State} (h : s.Kept c q p) (x1 x2) : (State.setWinAccs s x1 x2).Kept c q p := by
  simp +contextual (maxDischargeDepth := 100) only [State.setWinAccs, State.ite_kept, State.iteFst_kept, ite_self,
      implies_true, State.setBit_kept, State.setBrg_kept, h]

theorem State.winFailed_kept {s : State} (h : s.Kept c q p) (x1 x2 x3 x4) : (State.winFailed s x1 x2 x3 x4).Kept c q p := by
  simp +contextual (maxDischargeDepth := 100) only [State.winFailed, State.when_kept, State.ite_kept, State.iteFst_kept,
      ite_self, implies_true, State.count_kept, State.put_kept, State.setBrg_kept, State.setBit_kept, State.raise_kept,
      State.seatEvent_kept, h]

theorem State.winFail_kept {s : State} (h : s.Kept c q p) (x1 x2 x3) : (State.winFail s x1 x2 x3).Kept c q p := by
  simp +contextual (maxDischargeDepth := 100) only [State.winFail, State.ite_kept, State.iteFst_kept, ite_self, implies_true,
      State.send_kept, State.winFailed_kept, h]

theorem State.winPump_kept {s : State} (h : s.Kept c q p) (x1 x2) : (State.winPump s x1 x2).Kept c q p := by
  induction x2 generalizing s with
  | zero => exact h
  | succ n ih =>
    have hp : ∀ t : State, t.Kept c q p → ∀ e, (t.setBrg e).Kept c q p := fun t ht e => State.setBrg_kept ht e
    unfold State.winPump
    split
    · exact h
    · split
      · exact h
      · dsimp only
        split
        · exact ih (State.winFail_kept (State.setWinAccs_kept h _ _) _ _ _)
        · exact State.fabricSend_kept (State.setWinAccs_kept (hp _ h _) _ _) _ _ _ _ _

theorem State.winJoin_kept {s : State} (h : s.Kept c q p) (x1 x2) : (State.winJoin s x1 x2).Kept c q p := by
  simp +contextual (maxDischargeDepth := 100) only [State.winJoin, State.ite_kept, State.iteFst_kept, ite_self, implies_true,
      State.winFail_kept, State.winPump_kept, State.setWinAccs_kept, State.setBrg_kept, h]

theorem State.winMissed_kept {s : State} (h : s.Kept c q p) (x1 x2 x3) : (State.winMissed s x1 x2 x3).Kept c q p := by
  simp +contextual (maxDischargeDepth := 100) only [State.winMissed, State.ite_kept, State.iteFst_kept, ite_self,
      implies_true, State.send_kept, State.count_kept, h]

theorem State.winRead_kept {s : State} (h : s.Kept c q p) (x1 x2 x3) : (State.winRead s x1 x2 x3).Kept c q p := by
  unfold State.winRead
  repeat' first
    | (simp +contextual (maxDischargeDepth := 100) only [State.ite_kept, State.iteFst_kept, ite_self, implies_true,
        State.winMissed_kept, State.winJoin_kept, h]; done)
    | split

theorem State.winWrite_kept {s : State} (h : s.Kept c q p) (x1 x2 x3) : (State.winWrite s x1 x2 x3).Kept c q p := by
  unfold State.winWrite
  repeat' first
    | (simp +contextual (maxDischargeDepth := 100) only [State.each_kept, State.ite_kept, State.iteFst_kept, ite_self,
        implies_true, State.winMissed_kept, State.winJoin_kept, h]; done)
    | split

theorem execWindowRead_kept {s : State} (h : s.Kept c q p) (x0 x1 x2) : Keeps c q p (execWindowRead x0 x1 x2 s) := by
  simp +contextual (maxDischargeDepth := 100) only [execWindowRead, State.ite_kept, State.iteFst_kept, ite_self, implies_true,
      ite_keeps, next_keeps, answer_keeps, State.winRead_kept, h]

theorem execWindowWrite_kept {s : State} (h : s.Kept c q p) (x0 x1 x2) : Keeps c q p (execWindowWrite x0 x1 x2 s) := by
  simp +contextual (maxDischargeDepth := 100) only [execWindowWrite, State.ite_kept, State.iteFst_kept, ite_self,
      implies_true, ite_keeps, next_keeps, answer_keeps, State.winWrite_kept, h]

theorem State.lockDone_kept {s : State} (h : s.Kept c q p) (x1 x2 x3) : (State.lockDone s x1 x2 x3).Kept c q p := by
  unfold State.lockDone
  repeat' first
    | (simp +contextual (maxDischargeDepth := 100) only [State.ite_kept, State.iteFst_kept, ite_self, implies_true,
        State.raise_kept, State.wrN_kept, State.winFailed_kept, State.complete_kept, h]; done)
    | split

theorem State.winLock_kept {s : State} (h : s.Kept c q p) (x1 x2 x3) : (State.winLock s x1 x2 x3).Kept c q p := by
  simp +contextual (maxDischargeDepth := 100) only [State.winLock, State.ite_kept, State.iteFst_kept, ite_self, implies_true,
      State.lockDone_kept, State.setBrg_kept, State.fabricSend_kept, State.setBit_kept, h]

theorem execWbLock_kept {s : State} (h : s.Kept c q p) (x0) : Keeps c q p (execWbLock x0 s) := by
  simp +contextual (maxDischargeDepth := 100) only [execWbLock, State.ite_kept, State.iteFst_kept, ite_self, implies_true,
      ite_keeps, next_keeps, answer_keeps, State.winLock_kept, h]

theorem execWbUnlock_kept {s : State} (h : s.Kept c q p) (x0) : Keeps c q p (execWbUnlock x0 s) := by
  simp +contextual (maxDischargeDepth := 100) only [execWbUnlock, State.ite_kept, State.iteFst_kept, ite_self, implies_true,
      ite_keeps, next_keeps, answer_keeps, State.winLock_kept, h]

theorem State.lockResult_kept {s : State} (h : s.Kept c q p) (x1 x2) : (State.lockResult s x1 x2).Kept c q p := by
  simp +contextual (maxDischargeDepth := 100) only [State.lockResult, State.ite_kept, State.iteFst_kept, ite_self,
      implies_true, State.setBrg_kept, State.setBit_kept, State.lockDone_kept, h]

theorem State.winEnd_kept {s : State} (h : s.Kept c q p) (x1 x2 x3 x4) : (State.winEnd s x1 x2 x3 x4).Kept c q p := by
  simp +contextual (maxDischargeDepth := 100) only [State.winEnd, State.ite_kept, State.iteFst_kept, ite_self, implies_true,
      State.setWinAccs_kept, State.send_kept, State.count_kept, State.winFail_kept, State.winPump_kept, h]

theorem State.wcplRx_kept {s : State} (h : s.Kept c q p) (x1 x2 x3 x4) : (State.wcplRx s x1 x2 x3 x4).Kept c q p := by
  unfold State.wcplRx
  repeat' first
    | (simp +contextual (maxDischargeDepth := 100) only [State.ite_kept, State.iteFst_kept, ite_self, implies_true,
        State.winEnd_kept, State.lockResult_kept, h]; done)
    | split

theorem execWindowCompletionRx_kept {s : State} (h : s.Kept c q p) (x0 x1 x2 x3) : Keeps c q p (execWindowCompletionRx x0 x1
    x2 x3 s) := by
  simp +contextual (maxDischargeDepth := 100) only [execWindowCompletionRx, State.ite_kept, State.iteFst_kept, ite_self,
      implies_true, ite_keeps, next_keeps, answer_keeps, State.wcplRx_kept, h]

theorem execWindowTimeout_kept {s : State} (h : s.Kept c q p) (x0 x1) : Keeps c q p (execWindowTimeout x0 x1 s) := by
  unfold execWindowTimeout
  repeat' first
    | (simp +contextual (maxDischargeDepth := 100) only [State.ite_kept, State.iteFst_kept, ite_self, implies_true, ite_keeps,
        next_keeps, answer_keeps, State.winEnd_kept, State.lockResult_kept, h]; done)
    | split

theorem State.holdMessage_kept {s : State} (h : s.Kept c q p) (x1 x2 x3 x4) : (State.holdMessage s x1 x2 x3 x4).Kept c q p := by
  simp +contextual (maxDischargeDepth := 100) only [State.holdMessage, State.ite_kept, State.iteFst_kept, ite_self,
      implies_true, State.setBrg_kept, h]

theorem execSigTxWrite_kept {s : State} (h : s.Kept c q p) (x0) : Keeps c q p (execSigTxWrite x0 s) := by
  simp +contextual (maxDischargeDepth := 100) only [execSigTxWrite, State.ite_kept, State.iteFst_kept, ite_self, implies_true,
      ite_keeps, next_keeps, answer_keeps, State.holdMessage_kept, h]

theorem State.messageRelease_kept {s : State} (h : s.Kept c q p) : (State.messageRelease s).Kept c q p := by
  unfold State.messageRelease
  repeat' first
    | (simp +contextual (maxDischargeDepth := 100) only [State.ite_kept, State.iteFst_kept, ite_self, implies_true,
        State.fabricSend_kept, State.setBrg_kept, h]; done)
    | split

theorem execMessageRelease_kept {s : State} (h : s.Kept c q p) : Keeps c q p (execMessageRelease s) := by
  simp +contextual (maxDischargeDepth := 100) only [execMessageRelease, State.ite_kept, State.iteFst_kept, ite_self,
      implies_true, ite_keeps, next_keeps, answer_keeps, State.messageRelease_kept, h]

theorem execWindowCommit_kept {s : State} (h : s.Kept c q p) (x0) : Keeps c q p (execWindowCommit x0 s) := by
  simp +contextual (maxDischargeDepth := 100) only [execWindowCommit, State.ite_kept, State.iteFst_kept, ite_self,
      implies_true, ite_keeps, next_keeps, answer_keeps, State.raise_kept, State.setBit_kept, State.setBrg_kept, h]

theorem execInboundCommit_kept {s : State} (h : s.Kept c q p) (x0) : Keeps c q p (execInboundCommit x0 s) := by
  simp +contextual (maxDischargeDepth := 100) only [execInboundCommit, State.ite_kept, State.iteFst_kept, ite_self,
      implies_true, ite_keeps, next_keeps, answer_keeps, State.raise_kept, State.setBit_kept, State.setBrg_kept, h]

theorem State.commitDone_kept {s : State} (h : s.Kept c q p) (x1) : (State.commitDone s x1).Kept c q p := by
  simp +contextual (maxDischargeDepth := 100) only [State.commitDone, State.ite_kept, State.iteFst_kept, ite_self,
      implies_true, State.setBrg_kept, State.raise_kept, State.wrN_kept, h]

theorem State.winCount_kept {s : State} (h : s.Kept c q p) : (State.winCount s).Kept c q p := by
  simp +contextual (maxDischargeDepth := 100) only [State.winCount, State.ite_kept, State.iteFst_kept, ite_self, implies_true,
      State.put_kept, h]

theorem State.winApply_kept {s : State} (h : s.Kept c q p) (x1) : (State.winApply s x1).Kept c q p := by
  simp +contextual (maxDischargeDepth := 100) only [State.winApply, State.ite_kept, State.iteFst_kept, ite_self, implies_true,
      State.commitDone_kept, State.setBrg_kept, State.winCount_kept, State.setBit_kept, h]

theorem State.winCommitStep_kept {s : State} (h : s.Kept c q p) (x1) : (State.winCommitStep s x1).Kept c q p := by
  unfold State.winCommitStep
  repeat' first
    | (simp +contextual (maxDischargeDepth := 100) only [State.ite_kept, State.iteFst_kept, ite_self, implies_true,
        State.winApply_kept, State.commitDone_kept, State.winPump_kept, h]; done)
    | split

theorem execWindowCommitApply_kept {s : State} (h : s.Kept c q p) (x0) : Keeps c q p (execWindowCommitApply x0 s) := by
  simp +contextual (maxDischargeDepth := 100) only [execWindowCommitApply, State.ite_kept, State.iteFst_kept, ite_self,
      implies_true, ite_keeps, next_keeps, answer_keeps, State.winCommitStep_kept, h]

theorem State.inCommitStep_kept {s : State} (h : s.Kept c q p) (x1) : (State.inCommitStep s x1).Kept c q p := by
  unfold State.inCommitStep
  repeat' first
    | (simp +contextual (maxDischargeDepth := 100) only [State.ite_kept, State.iteFst_kept, ite_self, implies_true,
        State.commitDone_kept, State.setBrg_kept, h]; done)
    | split

theorem execInboundCommitApply_kept {s : State} (h : s.Kept c q p) (x0) : Keeps c q p (execInboundCommitApply x0 s) := by
  simp +contextual (maxDischargeDepth := 100) only [execInboundCommitApply, State.ite_kept, State.iteFst_kept, ite_self,
      implies_true, ite_keeps, next_keeps, answer_keeps, State.inCommitStep_kept, h]

theorem execWerrLogRead_kept {s : State} (h : s.Kept c q p) : Keeps c q p (execWerrLogRead s) := by
  unfold execWerrLogRead
  repeat' first
    | (simp +contextual (maxDischargeDepth := 100) only [State.wr_kept, State.ite_kept, State.iteFst_kept, ite_self,
        implies_true, ite_keeps, next_keeps, answer_keeps, State.wr64_kept, State.wrN_kept, State.setBrg_kept, h]; done)
    | split

theorem State.calDone_kept {s : State} (h : s.Kept c q p) (x1 x2) : (State.calDone s x1 x2).Kept c q p := by
  simp +contextual (maxDischargeDepth := 100) only [State.calDone, State.ite_kept, State.iteFst_kept, ite_self, implies_true,
      State.modDie_kept, State.raise_kept, State.put_kept, State.setBit_kept, h]

theorem State.calBusy_kept {s : State} (h : s.Kept c q p) (x1 x2) : (State.calBusy s x1 x2).Kept c q p := by
  simp +contextual (maxDischargeDepth := 100) only [State.calBusy, State.ite_kept, State.iteFst_kept, ite_self, implies_true,
      State.setBit_kept, State.modDie_kept, h]

theorem State.calCmd_kept {s : State} (h : s.Kept c q p) (x1 x2) (h2 : ∀ (t : State), t.Kept c q p → (x2 t).Kept c q p) :
    (State.calCmd s x1 x2).Kept c q p := by
  simp +contextual (maxDischargeDepth := 100) only [State.calCmd, State.ite_kept, State.iteFst_kept, ite_self, implies_true,
      State.raise_kept, h, h2]

theorem State.setCalWindow_kept {s : State} (h : s.Kept c q p) (x1 x2) : (State.setCalWindow s x1 x2).Kept c q p := by
  simp +contextual (maxDischargeDepth := 100) only [State.setCalWindow, State.ite_kept, State.iteFst_kept, ite_self,
      implies_true, State.wrN_kept, State.wrI_kept, h]

theorem State.calRelease_kept {s : State} (h : s.Kept c q p) (x1) : (State.calRelease s x1).Kept c q p := by
  simp +contextual (maxDischargeDepth := 100) only [State.calRelease, State.ite_kept, State.iteFst_kept, ite_self,
      implies_true, State.put_kept, State.setBit_kept, h]

theorem State.connect_kept {s : State} (h : s.Kept c q p) (x1) : (State.connect s x1).Kept c q p := by
  simp +contextual (maxDischargeDepth := 100) only [State.connect, State.ite_kept, State.iteFst_kept, ite_self, implies_true,
      State.calDone_kept, State.setBit_kept, State.put_kept, State.calBusy_kept, State.modDie_kept, h]

theorem State.measure_kept {s : State} (h : s.Kept c q p) (x1) : (State.measure s x1).Kept c q p := by
  simp +contextual (maxDischargeDepth := 100) only [State.measure, State.ite_kept, State.iteFst_kept, ite_self, implies_true,
      State.calDone_kept, State.calBusy_kept, h]

theorem State.measureDone_kept {s : State} (h : s.Kept c q p) (x1) : (State.measureDone s x1).Kept c q p := by
  unfold State.measureDone
  repeat' first
    | (simp +contextual (maxDischargeDepth := 100) only [State.wr_kept, State.ite_kept, State.iteFst_kept, ite_self,
        implies_true, State.calDone_kept, State.wrI_kept, State.wrN_kept, h]; done)
    | split

theorem State.commitSet_kept {s : State} (h : s.Kept c q p) (x1 x2 x3) : (State.commitSet s x1 x2 x3).Kept c q p := by
  simp +contextual (maxDischargeDepth := 100) only [State.commitSet, State.ite_kept, State.iteFst_kept, ite_self,
      implies_true, State.calDone_kept, State.calBusy_kept, h]

theorem State.commit_kept {s : State} (h : s.Kept c q p) (x1) : (State.commit s x1).Kept c q p := by
  simp +contextual (maxDischargeDepth := 100) only [State.commit, State.ite_kept, State.iteFst_kept, ite_self, implies_true,
      State.calDone_kept, State.commitSet_kept, h]

theorem State.restoreFactory_kept {s : State} (h : s.Kept c q p) (x1) : (State.restoreFactory s x1).Kept c q p := by
  simp +contextual (maxDischargeDepth := 100) only [State.restoreFactory, State.ite_kept, State.iteFst_kept, ite_self,
      implies_true, State.calDone_kept, State.commitSet_kept, h]

theorem State.journalDone_kept {s : State} (h : s.Kept c q p) (x1 x2) : (State.journalDone s x1 x2).Kept c q p := by
  unfold State.journalDone
  repeat' first
    | (simp +contextual (maxDischargeDepth := 100) only [State.upd_kept, State.updDma_kept, State.ite_kept, State.iteFst_kept,
        ite_self, implies_true, State.injStep_kept, State.calDone_kept, State.modMeas_kept, State.wrN_kept,
        State.trendRestart_kept, State.setBit_kept, h]; done)
    | split

theorem State.calRead_kept {s : State} (h : s.Kept c q p) (x1) : (State.calRead s x1).Kept c q p := by
  simp +contextual (maxDischargeDepth := 100) only [State.calRead, State.ite_kept, State.iteFst_kept, ite_self, implies_true,
      State.calDone_kept, State.setCalWindow_kept, State.wrN_kept, h]

theorem State.calReadFactory_kept {s : State} (h : s.Kept c q p) (x1) : (State.calReadFactory s x1).Kept c q p := by
  simp +contextual (maxDischargeDepth := 100) only [State.calReadFactory, State.ite_kept, State.iteFst_kept, ite_self,
      implies_true, State.calDone_kept, State.wrN_kept, State.setCalWindow_kept, h]

theorem State.calStop_kept {s : State} (h : s.Kept c q p) (x1) : (State.calStop s x1).Kept c q p := by
  unfold State.calStop
  repeat' first
    | (simp +contextual (maxDischargeDepth := 100) only [State.ite_kept, State.iteFst_kept, ite_self, implies_true,
        State.calDone_kept, State.calRelease_kept, h]; done)
    | split

theorem execCalNop_kept {s : State} (h : s.Kept c q p) (x0) : Keeps c q p (execCalNop x0 s) := by
  simp +contextual (maxDischargeDepth := 100) only [execCalNop, State.ite_kept, State.iteFst_kept, ite_self, implies_true,
      ite_keeps, next_keeps, answer_keeps, State.calCmd_kept, State.calDone_kept, h]

theorem execCalConnect_kept {s : State} (h : s.Kept c q p) (x0) : Keeps c q p (execCalConnect x0 s) := by
  simp +contextual (maxDischargeDepth := 100) only [execCalConnect, State.ite_kept, State.iteFst_kept, ite_self, implies_true,
      ite_keeps, next_keeps, answer_keeps, State.calCmd_kept, State.connect_kept, h]

theorem execCalConnectSettled_kept {s : State} (h : s.Kept c q p) (x0) : Keeps c q p (execCalConnectSettled x0 s) := by
  simp +contextual (maxDischargeDepth := 100) only [execCalConnectSettled, State.ite_kept, State.iteFst_kept, ite_self,
      implies_true, ite_keeps, next_keeps, answer_keeps, State.calDone_kept, h]

theorem execCalMeasure_kept {s : State} (h : s.Kept c q p) (x0) : Keeps c q p (execCalMeasure x0 s) := by
  simp +contextual (maxDischargeDepth := 100) only [execCalMeasure, State.ite_kept, State.iteFst_kept, ite_self, implies_true,
      ite_keeps, next_keeps, answer_keeps, State.calCmd_kept, State.measure_kept, h]

theorem execCalMeasureDone_kept {s : State} (h : s.Kept c q p) (x0) : Keeps c q p (execCalMeasureDone x0 s) := by
  simp +contextual (maxDischargeDepth := 100) only [execCalMeasureDone, State.ite_kept, State.iteFst_kept, ite_self,
      implies_true, ite_keeps, next_keeps, answer_keeps, State.measureDone_kept, h]

theorem execCalRelease_kept {s : State} (h : s.Kept c q p) (x0) : Keeps c q p (execCalRelease x0 s) := by
  simp +contextual (maxDischargeDepth := 100) only [execCalRelease, State.ite_kept, State.iteFst_kept, ite_self, implies_true,
      ite_keeps, next_keeps, answer_keeps, State.calCmd_kept, State.calDone_kept, State.calRelease_kept, h]

theorem execCalRead_kept {s : State} (h : s.Kept c q p) (x0) : Keeps c q p (execCalRead x0 s) := by
  simp +contextual (maxDischargeDepth := 100) only [execCalRead, State.ite_kept, State.iteFst_kept, ite_self, implies_true,
      ite_keeps, next_keeps, answer_keeps, State.calCmd_kept, State.calRead_kept, h]

theorem execCalCommit_kept {s : State} (h : s.Kept c q p) (x0) : Keeps c q p (execCalCommit x0 s) := by
  simp +contextual (maxDischargeDepth := 100) only [execCalCommit, State.ite_kept, State.iteFst_kept, ite_self, implies_true,
      ite_keeps, next_keeps, answer_keeps, State.calCmd_kept, State.commit_kept, h]

theorem execCalRestoreFactory_kept {s : State} (h : s.Kept c q p) (x0) : Keeps c q p (execCalRestoreFactory x0 s) := by
  simp +contextual (maxDischargeDepth := 100) only [execCalRestoreFactory, State.ite_kept, State.iteFst_kept, ite_self,
      implies_true, ite_keeps, next_keeps, answer_keeps, State.calCmd_kept, State.restoreFactory_kept, h]

theorem execCalJournalDone_kept {s : State} (h : s.Kept c q p) (x0 x1) : Keeps c q p (execCalJournalDone x0 x1 s) := by
  simp +contextual (maxDischargeDepth := 100) only [execCalJournalDone, State.ite_kept, State.iteFst_kept, ite_self,
      implies_true, ite_keeps, next_keeps, answer_keeps, State.journalDone_kept, h]

theorem execCalReadFactory_kept {s : State} (h : s.Kept c q p) (x0) : Keeps c q p (execCalReadFactory x0 s) := by
  simp +contextual (maxDischargeDepth := 100) only [execCalReadFactory, State.ite_kept, State.iteFst_kept, ite_self,
      implies_true, ite_keeps, next_keeps, answer_keeps, State.calCmd_kept, State.calReadFactory_kept, h]

theorem execCalReservedOp_kept {s : State} (h : s.Kept c q p) (x0 x1) : Keeps c q p (execCalReservedOp x0 x1 s) := by
  simp +contextual (maxDischargeDepth := 100) only [execCalReservedOp, State.ite_kept, State.iteFst_kept, ite_self,
      implies_true, ite_keeps, next_keeps, answer_keeps, State.calCmd_kept, State.calDone_kept, h]

theorem State.setCan_kept {s : State} (h : s.Kept c q p) (x1 x2) : (State.setCan s x1 x2).Kept c q p := by
  simp +contextual (maxDischargeDepth := 100) only [State.setCan, State.upd_kept, State.updDma_kept, State.ite_kept,
      State.iteFst_kept, ite_self, implies_true, State.put_kept, h]

theorem State.modCan_kept {s : State} (h : s.Kept c q p) (x1 x2) : (State.modCan s x1 x2).Kept c q p := by
  simp +contextual (maxDischargeDepth := 100) only [State.modCan, State.ite_kept, State.iteFst_kept, ite_self, implies_true,
      State.setCan_kept, h]

theorem State.canLose_kept {s : State} (h : s.Kept c q p) (x1 x2) : (State.canLose s x1 x2).Kept c q p := by
  simp +contextual (maxDischargeDepth := 100) only [State.canLose, State.ite_kept, State.iteFst_kept, ite_self, implies_true,
      State.raise_kept, State.count_kept, h]

theorem State.canDrop_kept {s : State} (h : s.Kept c q p) (x1) : (State.canDrop s x1).Kept c q p := by
  simp +contextual (maxDischargeDepth := 100) only [State.canDrop, State.ite_kept, State.iteFst_kept, ite_self, implies_true,
      State.canLose_kept, State.modCan_kept, h]

theorem State.canQueue_kept {s : State} (h : s.Kept c q p) (x1 x2) : (State.canQueue s x1 x2).Kept c q p := by
  simp +contextual (maxDischargeDepth := 100) only [State.canQueue, State.ite_kept, State.iteFst_kept, ite_self, implies_true,
      State.canLose_kept, State.modCan_kept, h]

theorem State.canStart_kept {s : State} (h : s.Kept c q p) (x1) : (State.canStart s x1).Kept c q p := by
  simp +contextual (maxDischargeDepth := 100) only [State.canStart, State.ite_kept, State.iteFst_kept, ite_self, implies_true,
      State.modCan_kept, h]

theorem State.canStop_kept {s : State} (h : s.Kept c q p) (x1) : (State.canStop s x1).Kept c q p := by
  simp +contextual (maxDischargeDepth := 100) only [State.canStop, State.ite_kept, State.iteFst_kept, ite_self, implies_true,
      State.canDrop_kept, h]

theorem State.canRx_kept {s : State} (h : s.Kept c q p) (x1 x2 x3) : (State.canRx s x1 x2 x3).Kept c q p := by
  simp +contextual (maxDischargeDepth := 100) only [State.canRx, State.ite_kept, State.iteFst_kept, ite_self, implies_true,
      State.count_kept, State.useFree_kept, State.put_kept, State.mbPush_kept, h]

theorem execCanFrameRx_kept {s : State} (h : s.Kept c q p) (x0 x1 x2) : Keeps c q p (execCanFrameRx x0 x1 x2 s) := by
  simp +contextual (maxDischargeDepth := 100) only [execCanFrameRx, State.ite_kept, State.iteFst_kept, ite_self, implies_true,
      ite_keeps, next_keeps, answer_keeps, State.canRx_kept, h]

theorem State.canTx_kept {s : State} (h : s.Kept c q p) (x1) : (State.canTx s x1).Kept c q p := by
  unfold State.canTx
  dsimp only
  repeat' first
    | (simp +contextual (maxDischargeDepth := 100) only [State.ite_kept, State.iteFst_kept, ite_self, implies_true,
        State.setCan_kept, State.injStep_kept, State.pageFault_kept, h]; done)
    | split

theorem execCanTxStart_kept {s : State} (h : s.Kept c q p) (x0) : Keeps c q p (execCanTxStart x0 s) := by
  simp +contextual (maxDischargeDepth := 100) only [execCanTxStart, State.ite_kept, State.iteFst_kept, ite_self, implies_true,
      ite_keeps, next_keeps, answer_keeps, State.canTx_kept, h]

theorem State.canSent_kept {s : State} (h : s.Kept c q p) (x1 x2) : (State.canSent s x1 x2).Kept c q p := by
  simp +contextual (maxDischargeDepth := 100) only [State.canSent, State.ite_kept, State.iteFst_kept, ite_self, implies_true,
      State.count_kept, State.modCan_kept, State.put_kept, State.useFree_kept, h]

theorem State.canAgain_kept {s : State} (h : s.Kept c q p) (x1 x2) : (State.canAgain s x1 x2).Kept c q p := by
  simp +contextual (maxDischargeDepth := 100) only [State.canAgain, State.ite_kept, State.iteFst_kept, ite_self, implies_true,
      State.canLose_kept, State.modCan_kept, h]

theorem State.canDone_kept {s : State} (h : s.Kept c q p) (x1 x2) : (State.canDone s x1 x2).Kept c q p := by
  unfold State.canDone
  repeat' first
    | (simp +contextual (maxDischargeDepth := 100) only [State.when_kept, State.ite_kept, State.iteFst_kept, ite_self,
        implies_true, State.canSent_kept, State.canAgain_kept, State.count_kept, h]; done)
    | split

theorem State.canEnd_kept {s : State} (h : s.Kept c q p) (x1 x2) : (State.canEnd s x1 x2).Kept c q p := by
  unfold State.canEnd
  repeat' first
    | (simp +contextual (maxDischargeDepth := 100) only [State.ite_kept, State.iteFst_kept, ite_self, implies_true,
        State.canSent_kept, State.modCan_kept, State.canLose_kept, h]; done)
    | split

theorem execCanTxDone_kept {s : State} (h : s.Kept c q p) (x0 x1) : Keeps c q p (execCanTxDone x0 x1 s) := by
  simp +contextual (maxDischargeDepth := 100) only [execCanTxDone, State.ite_kept, State.iteFst_kept, ite_self, implies_true,
      ite_keeps, next_keeps, answer_keeps, State.canDone_kept, State.canEnd_kept, h]

theorem State.canBusOff_kept {s : State} (h : s.Kept c q p) (x1) : (State.canBusOff s x1).Kept c q p := by
  simp +contextual (maxDischargeDepth := 100) only [State.canBusOff, State.ite_kept, State.iteFst_kept, ite_self,
      implies_true, State.canDrop_kept, State.put_kept, State.raise_kept, State.modCan_kept, h]

theorem State.canError_kept {s : State} (h : s.Kept c q p) (x1 x2 x3 x4) : (State.canError s x1 x2 x3 x4).Kept c q p := by
  simp +contextual (maxDischargeDepth := 100) only [State.canError, State.when_kept, State.ite_kept, State.iteFst_kept,
      ite_self, implies_true, State.count_kept, State.canBusOff_kept, State.put_kept, State.raise_kept, h]

theorem execCanBusError_kept {s : State} (h : s.Kept c q p) (x0 x1 x2 x3) : Keeps c q p (execCanBusError x0 x1 x2 x3 s) := by
  simp +contextual (maxDischargeDepth := 100) only [execCanBusError, State.ite_kept, State.iteFst_kept, ite_self,
      implies_true, ite_keeps, next_keeps, answer_keeps, State.canError_kept, h]

theorem execCanBusoffRecovered_kept {s : State} (h : s.Kept c q p) (x0) : Keeps c q p (execCanBusoffRecovered x0 s) := by
  simp +contextual (maxDischargeDepth := 100) only [execCanBusoffRecovered, State.ite_kept, State.iteFst_kept, ite_self,
      implies_true, ite_keeps, next_keeps, answer_keeps, State.put_kept, State.modCan_kept, h]

theorem execTxdDominant_kept {s : State} (h : s.Kept c q p) (x0) : Keeps c q p (execTxdDominant x0 s) := by
  simp +contextual (maxDischargeDepth := 100) only [execTxdDominant, State.ite_kept, State.iteFst_kept, ite_self,
      implies_true, ite_keeps, next_keeps, answer_keeps, State.pageFault_kept, h]

theorem execCanResume_kept {s : State} (h : s.Kept c q p) (x0) : Keeps c q p (execCanResume x0 s) := by
  simp +contextual (maxDischargeDepth := 100) only [execCanResume, State.ite_kept, State.iteFst_kept, ite_self, implies_true,
      ite_keeps, next_keeps, answer_keeps, State.modCan_kept, h]

theorem State.canArm_kept {s : State} (h : s.Kept c q p) (x1) : (State.canArm s x1).Kept c q p := by
  simp +contextual (maxDischargeDepth := 100) only [State.canArm, State.when_kept, State.ite_kept, State.iteFst_kept,
      ite_self, implies_true, State.raise_kept, State.modCan_kept, h]

theorem State.canSleep_kept {s : State} (h : s.Kept c q p) : (State.canSleep s).Kept c q p := by
  simp +contextual (maxDischargeDepth := 100) only [State.canSleep, State.each_kept, State.when_kept, State.ite_kept,
      State.iteFst_kept, ite_self, implies_true, State.canLose_kept, State.modCan_kept, State.canArm_kept, h]

theorem State.canWakeUp_kept {s : State} (h : s.Kept c q p) : (State.canWakeUp s).Kept c q p := by
  simp +contextual (maxDischargeDepth := 100) only [State.canWakeUp, State.each_kept, State.upd_kept, State.updDma_kept,
      State.ite_kept, State.iteFst_kept, ite_self, implies_true, State.modCan_kept, State.voteWrite_kept, h]

theorem State.canWake_kept {s : State} (h : s.Kept c q p) (x1 x2 x3 x4 x5 x6) : (State.canWake s x1 x2 x3 x4 x5 x6).Kept c q p
    := by
  simp +contextual (maxDischargeDepth := 100) only [State.canWake, State.wr_kept, State.upd_kept, State.updDma_kept,
      State.ite_kept, State.iteFst_kept, ite_self, implies_true, State.wrN_kept, State.wr64_kept, State.modCan_kept,
      State.put_kept, State.count_kept, State.raise_kept, State.wakeRequest_kept, h]

theorem State.canWakeFree_kept {s : State} (h : s.Kept c q p) (x1 x2 x3) : (State.canWakeFree s x1 x2 x3).Kept c q p := by
  simp +contextual (maxDischargeDepth := 100) only [State.canWakeFree, State.upd_kept, State.updDma_kept, State.ite_kept,
      State.iteFst_kept, ite_self, implies_true, State.canWake_kept, h]

theorem execCanWupDetected_kept {s : State} (h : s.Kept c q p) (x0) : Keeps c q p (execCanWupDetected x0 s) := by
  unfold execCanWupDetected
  repeat' first
    | (simp +contextual (maxDischargeDepth := 100) only [State.ite_kept, State.iteFst_kept, ite_self, implies_true, ite_keeps,
        next_keeps, answer_keeps, State.canWakeFree_kept, h]; done)
    | split

theorem State.unconfirmed_kept {s : State} (h : s.Kept c q p) (x1) : (State.unconfirmed s x1).Kept c q p := by
  simp +contextual (maxDischargeDepth := 100) only [State.unconfirmed, State.ite_kept, State.iteFst_kept, ite_self,
      implies_true, State.count_kept, State.modCan_kept, h]

theorem State.canMatch_kept {s : State} (h : s.Kept c q p) (x1 x2 x3 x4 x5) : (State.canMatch s x1 x2 x3 x4 x5).Kept c q p := by
  simp +contextual (maxDischargeDepth := 100) only [State.canMatch, State.ite_kept, State.iteFst_kept, ite_self, implies_true,
      State.unconfirmed_kept, State.setCan_kept, State.canWake_kept, h]

theorem State.canDecode_kept {s : State} (h : s.Kept c q p) (x1 x2 x3) : (State.canDecode s x1 x2 x3).Kept c q p := by
  unfold State.canDecode
  repeat' first
    | (simp +contextual (maxDischargeDepth := 100) only [State.ite_kept, State.iteFst_kept, ite_self, implies_true,
        State.modCan_kept, State.canMatch_kept, h]; done)
    | split

theorem execCanWakeFrameMatch_kept {s : State} (h : s.Kept c q p) (x0 x1 x2) : Keeps c q p (execCanWakeFrameMatch x0 x1 x2 s)
    := by
  simp +contextual (maxDischargeDepth := 100) only [execCanWakeFrameMatch, State.ite_kept, State.iteFst_kept, ite_self,
      implies_true, ite_keeps, next_keeps, answer_keeps, State.canDecode_kept, h]

theorem State.canDecodeBad_kept {s : State} (h : s.Kept c q p) (x1 x2) : (State.canDecodeBad s x1 x2).Kept c q p := by
  unfold State.canDecodeBad
  repeat' first
    | (simp +contextual (maxDischargeDepth := 100) only [State.ite_kept, State.iteFst_kept, ite_self, implies_true,
        State.setCan_kept, State.canWakeFree_kept, State.raise_kept, State.modCan_kept, h]; done)
    | split

theorem execCanWakeFrameError_kept {s : State} (h : s.Kept c q p) (x0 x1) : Keeps c q p (execCanWakeFrameError x0 x1 s) := by
  simp +contextual (maxDischargeDepth := 100) only [execCanWakeFrameError, State.ite_kept, State.iteFst_kept, ite_self,
      implies_true, ite_keeps, next_keeps, answer_keeps, State.canDecodeBad_kept, h]

theorem execCanConfirmWindowExpiry_kept {s : State} (h : s.Kept c q p) (x0) : Keeps c q p (execCanConfirmWindowExpiry x0 s) := by
  simp +contextual (maxDischargeDepth := 100) only [execCanConfirmWindowExpiry, State.ite_kept, State.iteFst_kept, ite_self,
      implies_true, ite_keeps, next_keeps, answer_keeps, State.unconfirmed_kept, h]

theorem execAwakeTimerExpiry_kept {s : State} (h : s.Kept c q p) : Keeps c q p (execAwakeTimerExpiry s) := by
  simp +contextual (maxDischargeDepth := 100) only [execAwakeTimerExpiry, State.upd_kept, State.updDma_kept, State.ite_kept,
      State.iteFst_kept, ite_self, implies_true, ite_keeps, next_keeps, answer_keeps, State.count_kept, State.raise_kept,
      State.voteWrite_kept, h]

theorem execNsConfirm_kept {s : State} (h : s.Kept c q p) : Keeps c q p (execNsConfirm s) := by
  simp +contextual (maxDischargeDepth := 100) only [execNsConfirm, State.upd_kept, State.updDma_kept, State.ite_kept,
      State.iteFst_kept, ite_self, implies_true, ite_keeps, next_keeps, answer_keeps, h]

theorem State.nsStop_kept {s : State} (h : s.Kept c q p) : (State.nsStop s).Kept c q p := by
  simp +contextual (maxDischargeDepth := 100) only [State.nsStop, State.upd_kept, State.updDma_kept, State.ite_kept,
      State.iteFst_kept, ite_self, implies_true, h]

theorem State.setSer_kept {s : State} (h : s.Kept c q p) (x1 x2) : (State.setSer s x1 x2).Kept c q p := by
  simp +contextual (maxDischargeDepth := 100) only [State.setSer, State.upd_kept, State.updDma_kept, State.ite_kept,
      State.iteFst_kept, ite_self, implies_true, h]

theorem State.serWrite_kept {s : State} (h : s.Kept c q p) (x1 x2) : (State.serWrite s x1 x2).Kept c q p := by
  simp +contextual (maxDischargeDepth := 100) only [State.serWrite, State.ite_kept, State.iteFst_kept, ite_self, implies_true,
      State.raise_kept, State.setSer_kept, h]

theorem execSerTxdWrite_kept {s : State} (h : s.Kept c q p) (x0 x1) : Keeps c q p (execSerTxdWrite x0 x1 s) := by
  simp +contextual (maxDischargeDepth := 100) only [execSerTxdWrite, State.ite_kept, State.iteFst_kept, ite_self,
      implies_true, ite_keeps, next_keeps, answer_keeps, State.serWrite_kept, h]

theorem execSerFrameTxStart_kept {s : State} (h : s.Kept c q p) (x0) : Keeps c q p (execSerFrameTxStart x0 s) := by
  unfold execSerFrameTxStart
  dsimp only
  repeat' first
    | (simp +contextual (maxDischargeDepth := 100) only [State.ite_kept, State.iteFst_kept, ite_self, implies_true, ite_keeps,
        next_keeps, answer_keeps, State.setSer_kept, h]; done)
    | split

theorem execSerFrameTxDone_kept {s : State} (h : s.Kept c q p) (x0) : Keeps c q p (execSerFrameTxDone x0 s) := by
  simp +contextual (maxDischargeDepth := 100) only [execSerFrameTxDone, State.ite_kept, State.iteFst_kept, ite_self,
      implies_true, ite_keeps, next_keeps, answer_keeps, State.raise_kept, State.count_kept, State.setSer_kept, h]

theorem State.serFrameEnd_kept {s : State} (h : s.Kept c q p) (x1) : (State.serFrameEnd s x1).Kept c q p := by
  unfold State.serFrameEnd
  dsimp only
  repeat' first
    | (simp +contextual (maxDischargeDepth := 100) only [State.ite_kept, State.iteFst_kept, ite_self, implies_true,
        State.raise_kept, State.count_kept, State.setSer_kept, h]; done)
    | split

theorem State.serCollide_kept {s : State} (h : s.Kept c q p) (x1) : (State.serCollide s x1).Kept c q p := by
  simp +contextual (maxDischargeDepth := 100) only [State.serCollide, State.ite_kept, State.iteFst_kept, ite_self,
      implies_true, State.raise_kept, State.count_kept, State.setSer_kept, h]

theorem State.serEcho_kept {s : State} (h : s.Kept c q p) (x1 x2 x3) : (State.serEcho s x1 x2 x3).Kept c q p := by
  unfold State.serEcho
  dsimp only
  repeat' first
    | (simp +contextual (maxDischargeDepth := 100) only [State.ite_kept, State.iteFst_kept, ite_self, implies_true,
        State.setSer_kept, State.serCollide_kept, h]; done)
    | split

theorem State.serRx_kept {s : State} (h : s.Kept c q p) (x1 x2 x3 x4 x5) : (State.serRx s x1 x2 x3 x4 x5).Kept c q p := by
  simp +contextual (maxDischargeDepth := 100) only [State.serRx, State.when_kept, State.ite_kept, State.iteFst_kept, ite_self,
      implies_true, State.setSer_kept, State.raise_kept, State.count_kept, State.serFrameEnd_kept, h]

theorem execSerCharRx_kept {s : State} (h : s.Kept c q p) (x0 x1 x2 x3 x4) : Keeps c q p (execSerCharRx x0 x1 x2 x3 x4 s) := by
  unfold execSerCharRx
  repeat' first
    | (simp +contextual (maxDischargeDepth := 100) only [State.ite_kept, State.iteFst_kept, ite_self, implies_true, ite_keeps,
        next_keeps, answer_keeps, State.serEcho_kept, State.serRx_kept, h]; done)
    | split

theorem execSerIdleGap_kept {s : State} (h : s.Kept c q p) (x0) : Keeps c q p (execSerIdleGap x0 s) := by
  simp +contextual (maxDischargeDepth := 100) only [execSerIdleGap, State.ite_kept, State.iteFst_kept, ite_self, implies_true,
      ite_keeps, next_keeps, answer_keeps, State.serFrameEnd_kept, h]

theorem State.serRead_kept {s : State} (h : s.Kept c q p) (x1) : (State.serRead s x1).Kept c q p := by
  unfold State.serRead
  dsimp only
  repeat' first
    | (simp +contextual (maxDischargeDepth := 100) only [State.wr_kept, State.ite_kept, State.iteFst_kept, ite_self,
        implies_true, State.wrN_kept, State.setSer_kept, h]; done)
    | split

theorem execSerRxdRead_kept {s : State} (h : s.Kept c q p) (x0) : Keeps c q p (execSerRxdRead x0 s) := by
  simp +contextual (maxDischargeDepth := 100) only [execSerRxdRead, State.ite_kept, State.iteFst_kept, ite_self, implies_true,
      ite_keeps, next_keeps, answer_keeps, State.serRead_kept, h]

theorem State.serReadFrame_kept {s : State} (h : s.Kept c q p) (x1) : (State.serReadFrame s x1).Kept c q p := by
  unfold State.serReadFrame
  dsimp only
  repeat' first
    | (simp +contextual (maxDischargeDepth := 100) only [State.wr_kept, State.ite_kept, State.iteFst_kept, ite_self,
        implies_true, State.wr64_kept, State.wrN_kept, State.setSer_kept, h]; done)
    | split

theorem execSerRxfrRead_kept {s : State} (h : s.Kept c q p) (x0) : Keeps c q p (execSerRxfrRead x0 s) := by
  simp +contextual (maxDischargeDepth := 100) only [execSerRxfrRead, State.ite_kept, State.iteFst_kept, ite_self,
      implies_true, ite_keeps, next_keeps, answer_keeps, State.serReadFrame_kept, h]

theorem State.serStop_kept {s : State} (h : s.Kept c q p) (x1) : (State.serStop s x1).Kept c q p := by
  simp +contextual (maxDischargeDepth := 100) only [State.serStop, State.ite_kept, State.iteFst_kept, ite_self, implies_true,
      State.setSer_kept, h]

theorem State.serSleep_kept {s : State} (h : s.Kept c q p) : (State.serSleep s).Kept c q p := by
  simp +contextual (maxDischargeDepth := 100) only [State.serSleep, State.each_kept, State.ite_kept, State.iteFst_kept,
      ite_self, implies_true, State.setSer_kept, State.count_kept, h]

theorem State.setSlot_kept {s : State} (h : s.Kept c q p) (x1 x2) : (State.setSlot s x1 x2).Kept c q p := by
  simp +contextual (maxDischargeDepth := 100) only [State.setSlot, State.upd_kept, State.updDma_kept, State.ite_kept,
      State.iteFst_kept, ite_self, implies_true, h]

theorem State.clearRegion_kept {s : State} (h : s.Kept c q p) (x1 x2) : (State.clearRegion s x1 x2).Kept c q p := by
  simp +contextual (maxDischargeDepth := 100) only [State.clearRegion, State.upd_kept, State.updDma_kept, State.ite_kept,
      State.iteFst_kept, ite_self, implies_true, h]

theorem State.countFree_kept {s : State} (h : s.Kept c q p) : (State.countFree s).Kept c q p := by
  simp +contextual (maxDischargeDepth := 100) only [State.countFree, State.ite_kept, State.iteFst_kept, ite_self,
      implies_true, State.wrN_kept, h]

theorem State.progEffect_kept {s : State} (h : s.Kept c q p) (x1) : (State.progEffect s x1).1.Kept c q p := by
  unfold State.progEffect
  dsimp only
  repeat' first
    | (simp +contextual (maxDischargeDepth := 100) only [State.each_kept, State.when_kept, State.upd_kept, State.updDma_kept,
        State.ite_kept, State.iteFst_kept, ite_self, implies_true, State.clearRegion_kept, State.setSlot_kept,
        State.countFree_kept, State.progBad_kept, h]; done)
    | split

theorem State.progApply_kept {s : State} (h : s.Kept c q p) (x1) : (State.progApply s x1).1.Kept c q p := by
  simp +contextual (maxDischargeDepth := 100) only [State.progApply, State.ite_kept, State.iteFst_kept, ite_self,
      implies_true, State.progEffect_kept, h]

theorem State.progLoad_kept {s : State} (h : s.Kept c q p) (x1) : (State.progLoad s x1).Kept c q p := by
  unfold State.progLoad
  repeat' first
    | (simp +contextual (maxDischargeDepth := 100) only [State.wr_kept, State.each_kept, State.ite_kept, State.iteFst_kept,
        ite_self, implies_true, State.wrN_kept, h]; done)
    | split

theorem State.progDone_kept {s : State} (h : s.Kept c q p) (x1 x2 x3) : (State.progDone s x1 x2 x3).Kept c q p := by
  simp +contextual (maxDischargeDepth := 100) only [State.progDone, State.ite_kept, State.iteFst_kept, ite_self, implies_true,
      State.raise_kept, State.wrN_kept, h]

theorem State.progWritten_kept {s : State} (h : s.Kept c q p) (x1 x2 x3) : (State.progWritten s x1 x2 x3).Kept c q p := by
  simp +contextual (maxDischargeDepth := 100) only [State.progWritten, State.upd_kept, State.updDma_kept, State.ite_kept,
      State.iteFst_kept, ite_self, implies_true, State.raise_kept, State.setBit_kept, h]

theorem State.progEnd_kept {s : State} (h : s.Kept c q p) (x1 x2 x3 x4) : (State.progEnd s x1 x2 x3 x4).Kept c q p := by
  unfold State.progEnd
  repeat' first
    | (simp +contextual (maxDischargeDepth := 100) only [State.ite_kept, State.iteFst_kept, ite_self, implies_true,
        State.progDone_kept, State.progLoad_kept, State.queueWrite_kept, State.complete_kept, h]; done)
    | split

theorem State.progFinish_kept {s : State} (h : s.Kept c q p) : (State.progFinish s).Kept c q p := by
  unfold State.progFinish
  repeat' first
    | (simp +contextual (maxDischargeDepth := 100) only [State.upd_kept, State.updDma_kept, State.ite_kept, State.iteFst_kept,
        ite_self, implies_true, State.progEnd_kept, State.progApply_kept, h]; done)
    | split

theorem execProgNop_kept {s : State} (h : s.Kept c q p) (x0) : Keeps c q p (execProgNop x0 s) := by
  simp +contextual (maxDischargeDepth := 100) only [execProgNop, State.ite_kept, State.iteFst_kept, ite_self, implies_true,
      ite_keeps, next_keeps, answer_keeps, State.progWritten_kept, h]

theorem execProgDefine_kept {s : State} (h : s.Kept c q p) (x0) : Keeps c q p (execProgDefine x0 s) := by
  simp +contextual (maxDischargeDepth := 100) only [execProgDefine, State.ite_kept, State.iteFst_kept, ite_self, implies_true,
      ite_keeps, next_keeps, answer_keeps, State.progWritten_kept, h]

theorem execProgUndefine_kept {s : State} (h : s.Kept c q p) (x0) : Keeps c q p (execProgUndefine x0 s) := by
  simp +contextual (maxDischargeDepth := 100) only [execProgUndefine, State.ite_kept, State.iteFst_kept, ite_self,
      implies_true, ite_keeps, next_keeps, answer_keeps, State.progWritten_kept, h]

theorem execProgOpen_kept {s : State} (h : s.Kept c q p) (x0) : Keeps c q p (execProgOpen x0 s) := by
  simp +contextual (maxDischargeDepth := 100) only [execProgOpen, State.ite_kept, State.iteFst_kept, ite_self, implies_true,
      ite_keeps, next_keeps, answer_keeps, State.progWritten_kept, h]

theorem execProgWrite_kept {s : State} (h : s.Kept c q p) (x0) : Keeps c q p (execProgWrite x0 s) := by
  simp +contextual (maxDischargeDepth := 100) only [execProgWrite, State.ite_kept, State.iteFst_kept, ite_self, implies_true,
      ite_keeps, next_keeps, answer_keeps, State.progWritten_kept, h]

theorem execProgRead_kept {s : State} (h : s.Kept c q p) (x0 x1) : Keeps c q p (execProgRead x0 x1 s) := by
  simp +contextual (maxDischargeDepth := 100) only [execProgRead, State.ite_kept, State.iteFst_kept, ite_self, implies_true,
      ite_keeps, next_keeps, answer_keeps, State.progWritten_kept, h]

theorem execProgSeal_kept {s : State} (h : s.Kept c q p) (x0) : Keeps c q p (execProgSeal x0 s) := by
  simp +contextual (maxDischargeDepth := 100) only [execProgSeal, State.ite_kept, State.iteFst_kept, ite_self, implies_true,
      ite_keeps, next_keeps, answer_keeps, State.progWritten_kept, h]

theorem execProgInfo_kept {s : State} (h : s.Kept c q p) (x0) : Keeps c q p (execProgInfo x0 s) := by
  simp +contextual (maxDischargeDepth := 100) only [execProgInfo, State.ite_kept, State.iteFst_kept, ite_self, implies_true,
      ite_keeps, next_keeps, answer_keeps, State.progWritten_kept, h]

theorem execProgReservedOp_kept {s : State} (h : s.Kept c q p) (x0 x1) : Keeps c q p (execProgReservedOp x0 x1 s) := by
  simp +contextual (maxDischargeDepth := 100) only [execProgReservedOp, State.ite_kept, State.iteFst_kept, ite_self,
      implies_true, ite_keeps, next_keeps, answer_keeps, State.progWritten_kept, h]

theorem execProgOpComplete_kept {s : State} (h : s.Kept c q p) : Keeps c q p (execProgOpComplete s) := by
  simp +contextual (maxDischargeDepth := 100) only [execProgOpComplete, State.ite_kept, State.iteFst_kept, ite_self,
      implies_true, ite_keeps, next_keeps, answer_keeps, State.progFinish_kept, h]

theorem State.shareApply_kept {s : State} (h : s.Kept c q p) (x1) : (State.shareApply s x1).Kept c q p := by
  unfold State.shareApply
  repeat' first
    | (simp +contextual (maxDischargeDepth := 100) only [State.ite_kept, State.iteFst_kept, ite_self, implies_true,
        State.modSeat_kept, State.ringsFollow_kept, State.setShare_kept, State.seatEvent_kept, h]; done)
    | split

theorem State.roundStart_kept {s : State} (h : s.Kept c q p) : (State.roundStart s).Kept c q p := by
  simp +contextual (maxDischargeDepth := 100) only [State.roundStart, State.each_kept, State.ite_kept, State.iteFst_kept,
      ite_self, implies_true, State.shareApply_kept, State.modSeat_kept, h]

theorem execArbRoundStart_kept {s : State} (h : s.Kept c q p) : Keeps c q p (execArbRoundStart s) := by
  simp +contextual (maxDischargeDepth := 100) only [execArbRoundStart, State.ite_kept, State.iteFst_kept, ite_self,
      implies_true, ite_keeps, next_keeps, answer_keeps, State.roundStart_kept, h]

theorem State.spend_kept {s : State} (h : s.Kept c q p) (x1) : (State.spend s x1).Kept c q p := by
  simp +contextual (maxDischargeDepth := 100) only [State.spend, State.ite_kept, State.iteFst_kept, ite_self, implies_true,
      State.modSeat_kept, h]

theorem State.entryBytes_kept {s : State} (h : s.Kept c q p) (x1 x2) : (State.entryBytes s x1 x2).1.Kept c q p := by
  simp +contextual (maxDischargeDepth := 100) only [State.entryBytes, State.ite_kept, State.iteFst_kept, ite_self,
      implies_true, State.dramRead_kept, h]

theorem State.entryStart_kept {s : State} (h : s.Kept c q p) (x1 x2 x3 x4) : (State.entryStart s x1 x2 x3 x4).Kept c q p := by
  simp +contextual (maxDischargeDepth := 100) only [State.entryStart, State.ite_kept, State.iteFst_kept, ite_self,
      implies_true, State.modSeat_kept, State.wrN_kept, State.spend_kept, h]

theorem State.sqFetch_kept {s : State} (h : s.Kept c q p) (x1 x2 x3 x4) : (State.sqFetch s x1 x2 x3 x4).Kept c q p := by
  unfold State.sqFetch
  dsimp only
  repeat' first
    | (simp +contextual (maxDischargeDepth := 100) only [State.setDma_kept, State.ite_kept, State.iteFst_kept, ite_self,
        implies_true, State.translate_kept, State.suspFollow_kept, State.smuFault_kept, State.entryBytes_kept,
        State.entryStart_kept, h]; done)
    | split

theorem execSqEntryFetch_kept {s : State} (h : s.Kept c q p) (x0 x1 x2 x3) : Keeps c q p (execSqEntryFetch x0 x1 x2 x3 s) := by
  simp +contextual (maxDischargeDepth := 100) only [execSqEntryFetch, State.ite_kept, State.iteFst_kept, ite_self,
      implies_true, ite_keeps, next_keeps, answer_keeps, State.sqFetch_kept, h]

theorem State.markRun_kept {s : State} (h : s.Kept c q p) (x1 x2) : (State.markRun s x1 x2).Kept c q p := by
  simp +contextual (maxDischargeDepth := 100) only [State.markRun, State.ite_kept, State.iteFst_kept, ite_self, implies_true,
      State.modSeat_kept, h]

theorem State.sqe_kept {s : State} (h : s.Kept c q p) (x1 x2 x3 x4 x5 x6) (h6 : ∀ (t : State) y1, t.Kept c q p → (x6 t
    y1).Kept c q p) : (State.sqe s x1 x2 x3 x4 x5 x6).Kept c q p := by
  unfold State.sqe
  repeat' first
    | (simp +contextual (maxDischargeDepth := 100) only [State.ite_kept, State.iteFst_kept, ite_self, implies_true,
        State.complete_kept, State.markRun_kept, h, h6]; done)
    | split

theorem execSqeNop_kept {s : State} (h : s.Kept c q p) (x0 x1 x2) : Keeps c q p (execSqeNop x0 x1 x2 s) := by
  simp +contextual (maxDischargeDepth := 100) only [execSqeNop, State.ite_kept, State.iteFst_kept, ite_self, implies_true,
      ite_keeps, next_keeps, answer_keeps, State.sqe_kept, State.complete_kept, h]

theorem execSqeBadOpc_kept {s : State} (h : s.Kept c q p) (x0 x1 x2) : Keeps c q p (execSqeBadOpc x0 x1 x2 s) := by
  unfold execSqeBadOpc
  repeat' first
    | (simp +contextual (maxDischargeDepth := 100) only [State.ite_kept, State.iteFst_kept, ite_self, implies_true, ite_keeps,
        next_keeps, answer_keeps, State.complete_kept, h]; done)
    | split

theorem State.issueCmd_kept {s : State} (h : s.Kept c q p) (x1 x2) : (State.issueCmd s x1 x2).Kept c q p := by
  simp +contextual (maxDischargeDepth := 100) only [State.issueCmd, State.ite_kept, State.iteFst_kept, ite_self, implies_true,
      State.modCtl_kept, State.runCmd_kept, h]

theorem State.sqeChan_kept {s : State} (h : s.Kept c q p) (x1 x2 x3 x4) : (State.sqeChan s x1 x2 x3 x4).Kept c q p := by
  simp +contextual (maxDischargeDepth := 100) only [State.sqeChan, State.each_kept, State.ite_kept, State.iteFst_kept,
      ite_self, implies_true, State.complete_kept, State.modSeat_kept, State.issueCmd_kept, h]

theorem execSqeChanCmd_kept {s : State} (h : s.Kept c q p) (x0 x1 x2) : Keeps c q p (execSqeChanCmd x0 x1 x2 s) := by
  simp +contextual (maxDischargeDepth := 100) only [execSqeChanCmd, State.ite_kept, State.iteFst_kept, ite_self, implies_true,
      ite_keeps, next_keeps, answer_keeps, State.sqe_kept, State.sqeChan_kept, h]

theorem State.sqeProg_kept {s : State} (h : s.Kept c q p) (x1 x2 x3 x4) : (State.sqeProg s x1 x2 x3 x4).Kept c q p := by
  simp +contextual (maxDischargeDepth := 100) only [State.sqeProg, State.upd_kept, State.updDma_kept, State.ite_kept,
      State.iteFst_kept, ite_self, implies_true, State.sqe_kept, State.complete_kept, State.setBit_kept, h]

theorem execSqeProg_kept {s : State} (h : s.Kept c q p) (x0 x1 x2 x3) : Keeps c q p (execSqeProg x0 x1 x2 x3 s) := by
  simp +contextual (maxDischargeDepth := 100) only [execSqeProg, State.ite_kept, State.iteFst_kept, ite_self, implies_true,
      ite_keeps, next_keeps, answer_keeps, State.sqeProg_kept, h]

theorem State.stepMessage_kept {s : State} (h : s.Kept c q p) (x1 x2) : (State.stepMessage s x1 x2).Kept c q p := by
  simp +contextual (maxDischargeDepth := 100) only [State.stepMessage, State.ite_kept, State.iteFst_kept, ite_self,
      implies_true, State.modProg_kept, h]

theorem State.sqeMsg_kept {s : State} (h : s.Kept c q p) (x1 x2 x3 x4) : (State.sqeMsg s x1 x2 x3 x4).Kept c q p := by
  simp +contextual (maxDischargeDepth := 100) only [State.sqeMsg, State.each_kept, State.ite_kept, State.iteFst_kept,
      ite_self, implies_true, State.complete_kept, State.stepMessage_kept, h]

theorem execSqeStepMsg_kept {s : State} (h : s.Kept c q p) (x0 x1 x2) : Keeps c q p (execSqeStepMsg x0 x1 x2 s) := by
  simp +contextual (maxDischargeDepth := 100) only [execSqeStepMsg, State.ite_kept, State.iteFst_kept, ite_self, implies_true,
      ite_keeps, next_keeps, answer_keeps, State.sqe_kept, State.sqeMsg_kept, h]

theorem State.sqeTx_kept {s : State} (h : s.Kept c q p) (x1 x2 x3 x4 x5) : (State.sqeTx s x1 x2 x3 x4 x5).Kept c q p := by
  simp +contextual (maxDischargeDepth := 100) only [State.sqeTx, State.ite_kept, State.iteFst_kept, ite_self, implies_true,
      State.mbPush_kept, State.holdMessage_kept, State.complete_kept, h]

theorem execSqeMsgTx_kept {s : State} (h : s.Kept c q p) (x0 x1 x2 x3) : Keeps c q p (execSqeMsgTx x0 x1 x2 x3 s) := by
  simp +contextual (maxDischargeDepth := 100) only [execSqeMsgTx, State.ite_kept, State.iteFst_kept, ite_self, implies_true,
      ite_keeps, next_keeps, answer_keeps, State.sqe_kept, State.sqeTx_kept, h]

theorem execSqeFence_kept {s : State} (h : s.Kept c q p) (x0 x1 x2) : Keeps c q p (execSqeFence x0 x1 x2 s) := by
  simp +contextual (maxDischargeDepth := 100) only [execSqeFence, State.ite_kept, State.iteFst_kept, ite_self, implies_true,
      ite_keeps, next_keeps, answer_keeps, State.sqe_kept, State.fenceIssue_kept, h]

theorem State.sqeLock_kept {s : State} (h : s.Kept c q p) (x1 x2 x3 x4) : (State.sqeLock s x1 x2 x3 x4).Kept c q p := by
  simp +contextual (maxDischargeDepth := 100) only [State.sqeLock, State.ite_kept, State.iteFst_kept, ite_self, implies_true,
      State.complete_kept, State.winLock_kept, h]

theorem execSqeWinLock_kept {s : State} (h : s.Kept c q p) (x0 x1 x2) : Keeps c q p (execSqeWinLock x0 x1 x2 s) := by
  simp +contextual (maxDischargeDepth := 100) only [execSqeWinLock, State.ite_kept, State.iteFst_kept, ite_self, implies_true,
      ite_keeps, next_keeps, answer_keeps, State.sqe_kept, State.sqeLock_kept, h]

end Sys2Proof.Machine
end

