-- ==== Sys2Proof/Laws/KeptG.lean ====
section
/-!
SUPPORT. What the operations of these files of the model keep: DmaEng, Governor, SwitchCore, SwitchPort, Power.
-/
namespace Sys2Proof.Machine
set_option linter.all false
variable {c : Prop} {q : List Instr} {p : Part}

theorem State.newXfer_kept {s : State} (h : s.Kept c q p) (x1) : (State.newXfer s x1).Kept c q p := by
  simp +contextual (maxDischargeDepth := 100) only [State.newXfer, State.setDma_kept, State.ite_kept, State.iteFst_kept,
      ite_self, implies_true, State.setXfer_kept, h]

theorem State.sqeDma_kept {s : State} (h : s.Kept c q p) (x1 x2 x3 x4) : (State.sqeDma s x1 x2 x3 x4).Kept c q p := by
  simp +contextual (maxDischargeDepth := 100) only [State.sqeDma, State.ite_kept, State.iteFst_kept, ite_self, implies_true,
      State.complete_kept, State.fenceIssue_kept, State.newXfer_kept, h]

theorem execSqeDma_kept {s : State} (h : s.Kept c q p) (x0 x1 x2) : Keeps c q p (execSqeDma x0 x1 x2 s) := by
  simp +contextual (maxDischargeDepth := 100) only [execSqeDma, State.ite_kept, State.iteFst_kept, ite_self, implies_true,
      ite_keeps, next_keeps, answer_keeps, State.sqe_kept, State.sqeDma_kept, h]

theorem State.engineTake_kept {s : State} (h : s.Kept c q p) (x1 x2 x3) : (State.engineTake s x1 x2 x3).Kept c q p := by
  simp +contextual (maxDischargeDepth := 100) only [State.engineTake, State.setDma_kept, State.ite_kept, State.iteFst_kept,
      ite_self, implies_true, State.wrN_kept, State.setXfer_kept, h]

theorem State.chunkFault_kept {s : State} (h : s.Kept c q p) (x1 x2 x3 x4 x5 x6) : (State.chunkFault s x1 x2 x3 x4 x5 x6).Kept
    c q p := by
  unfold State.chunkFault
  repeat' first
    | (simp +contextual (maxDischargeDepth := 100) only [State.ite_kept, State.iteFst_kept, ite_self, implies_true,
        State.raise_kept, State.count_kept, State.setXfer_kept, State.suspFollow_kept, State.smuFault_kept, State.setRing_kept,
        h]; done)
    | split

theorem State.readError_kept {s : State} (h : s.Kept c q p) (x1) : (State.readError s x1).Kept c q p := by
  unfold State.readError
  dsimp only
  repeat' first
    | (simp +contextual (maxDischargeDepth := 100) only [State.ite_kept, State.iteFst_kept, ite_self, implies_true,
        State.abandon_kept, State.raise_kept, State.count_kept, State.complete_kept, State.dropXfer_kept, h]; done)
    | split

theorem State.srcXlat_kept {s : State} (h : s.Kept c q p) (x1 x2 x3) : (State.srcXlat s x1 x2 x3).1.Kept c q p := by
  induction x3 generalizing s with
  | nil => exact h
  | cons e l ih =>
    have ht := State.translate_kept h x1 x2 e.1 false
    unfold State.srcXlat
    dsimp only
    split
    · exact ht
    · exact ih ht

theorem State.chunkRead_kept {s : State} (h : s.Kept c q p) (x1 x2 x3 x4 x5 x6) : (State.chunkRead s x1 x2 x3 x4 x5 x6).Kept c
    q p := by
  have hg : ∀ (l : List (Xlat × Nat)) (g : Gather) (n : Nat), g.s.Kept c q p → ((l.foldl (fun (g : Gather) y => g.part n y)
      g).s).Kept c q p := by
    intro l
    induction l with
    | nil => exact fun _ _ hs => hs
    | cons y l ih =>
      intro g n hs
      refine ih _ n ?_
      unfold Gather.part
      dsimp only
      repeat' split
      all_goals simp +contextual (maxDischargeDepth := 100) only [State.dramRead_kept, State.send_kept, hs]
  unfold State.chunkRead
  split
  · exact State.engineTake_kept h _ _ _
  · have h1 := hg x5 { s := s } (s.seatPort x3.seat) h
    dsimp only
    split
    · exact State.readError_kept (State.engineTake_kept h1 _ _ _) _
    · exact State.engineTake_kept h1 _ _ _

theorem State.descChunk_kept {s : State} (h : s.Kept c q p) (x1 x2 x3 x4) : (State.descChunk s x1 x2 x3 x4).Kept c q p := by
  unfold State.descChunk
  dsimp only
  repeat' first
    | (simp +contextual (maxDischargeDepth := 100) only [State.ite_kept, State.iteFst_kept, ite_self, implies_true,
        State.translate_kept, State.chunkFault_kept, State.srcXlat_kept, State.chunkRead_kept, h]; done)
    | split

theorem State.dropSamples_kept {s : State} (h : s.Kept c q p) (x1 x2 x3) : (State.dropSamples s x1 x2 x3).Kept c q p := by
  induction x3 generalizing s with
  | zero => exact h
  | succ n ih =>
    unfold State.dropSamples
    split
    · split
      · exact ih (State.stageCount_kept (State.loseRecord_kept (State.upd_kept h ..) _))
      · exact h
    · exact h

theorem State.recChunk_kept {s : State} (h : s.Kept c q p) (x1 x2 x3 x4 x5) : (State.recChunk s x1 x2 x3 x4 x5).Kept c q p := by
  simp +contextual (maxDischargeDepth := 100) only [State.recChunk, State.upd_kept, State.updDma_kept, State.ite_kept,
      State.iteFst_kept, ite_self, implies_true, State.dropSamples_kept, State.translate_kept, State.chunkFault_kept,
      State.spend_kept, State.engineTake_kept, h]

theorem State.ctxLost_kept {s : State} (h : s.Kept c q p) (x1 x2) : (State.ctxLost s x1 x2).Kept c q p := by
  unfold State.ctxLost
  repeat' first
    | (simp +contextual (maxDischargeDepth := 100) only [State.ite_kept, State.iteFst_kept, ite_self, implies_true,
        State.pageFault_kept, State.complete_kept, State.dropXfer_kept, h]; done)
    | split

theorem State.chunkStart_kept {s : State} (h : s.Kept c q p) (x1 x2 x3) : (State.chunkStart s x1 x2 x3).Kept c q p := by
  unfold State.chunkStart
  repeat' first
    | (simp +contextual (maxDischargeDepth := 100) only [State.ite_kept, State.iteFst_kept, ite_self, implies_true,
        State.injStep_kept, State.ctxLost_kept, State.descChunk_kept, State.spend_kept, State.recChunk_kept, h]; done)
    | split

theorem execDmaChunkStart_kept {s : State} (h : s.Kept c q p) (x0 x1 x2) : Keeps c q p (execDmaChunkStart x0 x1 x2 s) := by
  simp +contextual (maxDischargeDepth := 100) only [execDmaChunkStart, State.ite_kept, State.iteFst_kept, ite_self,
      implies_true, ite_keeps, next_keeps, answer_keeps, State.chunkStart_kept, h]

theorem State.readDone_kept {s : State} (h : s.Kept c q p) (x1 x2) : (State.readDone s x1 x2).Kept c q p := by
  unfold State.readDone
  repeat' first
    | (simp +contextual (maxDischargeDepth := 100) only [State.setDma_kept, State.ite_kept, State.iteFst_kept, ite_self,
        implies_true, State.readError_kept, h]; done)
    | split

theorem execDmaReadCompletion_kept {s : State} (h : s.Kept c q p) (x0 x1) : Keeps c q p (execDmaReadCompletion x0 x1 s) := by
  simp +contextual (maxDischargeDepth := 100) only [execDmaReadCompletion, State.ite_kept, State.iteFst_kept, ite_self,
      implies_true, ite_keeps, next_keeps, answer_keeps, State.readDone_kept, h]

theorem execPcieCompletionTimeout_kept {s : State} (h : s.Kept c q p) (x0 x1) : Keeps c q p (execPcieCompletionTimeout x0 x1
    s) := by
  unfold execPcieCompletionTimeout
  repeat' first
    | (simp +contextual (maxDischargeDepth := 100) only [State.ite_kept, State.iteFst_kept, ite_self, implies_true, ite_keeps,
        next_keeps, answer_keeps, State.raise_kept, State.count_kept, State.readDone_kept, h]; done)
    | split

theorem State.chunkWrite_kept {s : State} (h : s.Kept c q p) (x1 x2 x3) : (State.chunkWrite s x1 x2 x3).Kept c q p := by
  unfold State.chunkWrite
  repeat' first
    | (simp +contextual (maxDischargeDepth := 100) only [State.dramWrite_kept, State.ite_kept, State.iteFst_kept, ite_self,
        implies_true, State.send_kept, State.fabricSend_kept, h]; done)
    | split

theorem State.chunkCount_kept {s : State} (h : s.Kept c q p) (x1 x2 x3) : (State.chunkCount s x1 x2 x3).Kept c q p := by
  simp +contextual (maxDischargeDepth := 100) only [State.chunkCount, State.ite_kept, State.iteFst_kept, ite_self,
      implies_true, State.count_kept, State.wr64_kept, h]

theorem State.recordsDone_kept {s : State} (h : s.Kept c q p) (x1 x2 x3) : (State.recordsDone s x1 x2 x3).Kept c q p := by
  simp +contextual (maxDischargeDepth := 100) only [State.recordsDone, State.upd_kept, State.updDma_kept, State.ite_kept,
      State.iteFst_kept, ite_self, implies_true, State.modRing_kept, State.stageCount_kept, State.queueWrite_kept, h]

theorem State.descDone_kept {s : State} (h : s.Kept c q p) (x1 x2) : (State.descDone s x1 x2).Kept c q p := by
  unfold State.descDone
  repeat' first
    | (simp +contextual (maxDischargeDepth := 100) only [State.ite_kept, State.iteFst_kept, ite_self, implies_true,
        State.fenceIssue_kept, State.setXfer_kept, State.complete_kept, State.dropXfer_kept, h]; done)
    | split

theorem State.xferNext_kept {s : State} (h : s.Kept c q p) (x1 x2 x3) : (State.xferNext s x1 x2 x3).Kept c q p := by
  unfold State.xferNext
  repeat' first
    | (simp +contextual (maxDischargeDepth := 100) only [State.when_kept, State.upd_kept, State.updDma_kept, State.ite_kept,
        State.iteFst_kept, ite_self, implies_true, State.dropXfer_kept, State.recordsDone_kept, State.descDone_kept,
        State.setXfer_kept, State.count_kept, h]; done)
    | split

theorem State.chunkDone_kept {s : State} (h : s.Kept c q p) (x1) : (State.chunkDone s x1).Kept c q p := by
  unfold State.chunkDone
  repeat' first
    | (simp +contextual (maxDischargeDepth := 100) only [State.ite_kept, State.iteFst_kept, ite_self, implies_true,
        State.injStep_kept, State.pageFault_kept, State.abandon_kept, State.xferNext_kept, State.chunkCount_kept,
        State.engineIdle_kept, State.chunkWrite_kept, h]; done)
    | split

theorem execDmaChunkComplete_kept {s : State} (h : s.Kept c q p) (x0) : Keeps c q p (execDmaChunkComplete x0 s) := by
  simp +contextual (maxDischargeDepth := 100) only [execDmaChunkComplete, State.ite_kept, State.iteFst_kept, ite_self,
      implies_true, ite_keeps, next_keeps, answer_keeps, State.chunkDone_kept, h]

theorem State.markOld_kept {s : State} (h : s.Kept c q p) (x1 x2) : (State.markOld s x1 x2).Kept c q p := by
  simp +contextual (maxDischargeDepth := 100) only [State.markOld, State.setDma_kept, State.ite_kept, State.iteFst_kept,
      ite_self, implies_true, h]

theorem xlateSetBody_kept {s : State} (h : s.Kept c q p) (x1) : (xlateSetBody s x1).1.Kept c q p := by
  simp +contextual (maxDischargeDepth := 100) only [xlateSetBody, State.setDma_kept, State.ite_kept, State.iteFst_kept,
      ite_self, implies_true, refuse_kept, State.markOld_kept, State.tlbDrop_kept, h]

theorem execXlateSet_kept {s : State} (h : s.Kept c q p) : Keeps c q p (execXlateSet s) := by
  simp +contextual (maxDischargeDepth := 100) only [execXlateSet, State.ite_kept, State.iteFst_kept, ite_self, implies_true,
      ite_keeps, next_keeps, answer_keeps, State.mbxRun_kept, xlateSetBody_kept, h]

theorem State.xlateInv_kept {s : State} (h : s.Kept c q p) (x1 x2) : (State.xlateInv s x1 x2).Kept c q p := by
  simp +contextual (maxDischargeDepth := 100) only [State.xlateInv, State.ite_kept, State.iteFst_kept, ite_self, implies_true,
      State.markOld_kept, State.setTlb_kept, h]

theorem xlateInvBody_kept {s : State} (h : s.Kept c q p) (x1) : (xlateInvBody s x1).1.Kept c q p := by
  simp +contextual (maxDischargeDepth := 100) only [xlateInvBody, State.ite_kept, State.iteFst_kept, ite_self, implies_true,
      refuse_kept, State.xlateInv_kept, h]

theorem execXlateInv_kept {s : State} (h : s.Kept c q p) : Keeps c q p (execXlateInv s) := by
  simp +contextual (maxDischargeDepth := 100) only [execXlateInv, State.ite_kept, State.iteFst_kept, ite_self, implies_true,
      ite_keeps, next_keeps, answer_keeps, State.mbxRun_kept, xlateInvBody_kept, h]

theorem State.xlateEnd_kept {s : State} (h : s.Kept c q p) (x1) : (State.xlateEnd s x1).Kept c q p := by
  unfold State.xlateEnd
  repeat' first
    | (simp +contextual (maxDischargeDepth := 100) only [State.when_kept, State.ite_kept, State.iteFst_kept, ite_self,
        implies_true, State.mbxResult_kept, State.raise_kept, h]; done)
    | split

theorem execXlateSetDone_kept {s : State} (h : s.Kept c q p) : Keeps c q p (execXlateSetDone s) := by
  simp +contextual (maxDischargeDepth := 100) only [execXlateSetDone, State.ite_kept, State.iteFst_kept, ite_self,
      implies_true, ite_keeps, next_keeps, answer_keeps, State.xlateEnd_kept, h]

theorem execXlateInvDone_kept {s : State} (h : s.Kept c q p) : Keeps c q p (execXlateInvDone s) := by
  simp +contextual (maxDischargeDepth := 100) only [execXlateInvDone, State.ite_kept, State.iteFst_kept, ite_self,
      implies_true, ite_keeps, next_keeps, answer_keeps, State.xlateEnd_kept, h]

theorem State.smuRetry_kept {s : State} (h : s.Kept c q p) (x1) : (State.smuRetry s x1).Kept c q p := by
  simp +contextual (maxDischargeDepth := 100) only [State.smuRetry, State.setDma_kept, State.upd_kept, State.updDma_kept,
      State.ite_kept, State.iteFst_kept, ite_self, implies_true, State.modSeat_kept, State.ringsFollow_kept,
      State.suspFollow_kept, h]

theorem execSmuResumeRetry_kept {s : State} (h : s.Kept c q p) (x0) : Keeps c q p (execSmuResumeRetry x0 s) := by
  simp +contextual (maxDischargeDepth := 100) only [execSmuResumeRetry, State.ite_kept, State.iteFst_kept, ite_self,
      implies_true, ite_keeps, next_keeps, answer_keeps, State.smuRetry_kept, h]

theorem State.smuAbort_kept {s : State} (h : s.Kept c q p) (x1) : (State.smuAbort s x1).Kept c q p := by
  simp +contextual (maxDischargeDepth := 100) only [State.smuAbort, State.each_kept, State.ite_kept, State.iteFst_kept,
      ite_self, implies_true, State.suspFollow_kept, State.abortXfer_kept, h]

theorem execSmuResumeAbort_kept {s : State} (h : s.Kept c q p) (x0) : Keeps c q p (execSmuResumeAbort x0 s) := by
  simp +contextual (maxDischargeDepth := 100) only [execSmuResumeAbort, State.ite_kept, State.iteFst_kept, ite_self,
      implies_true, ite_keeps, next_keeps, answer_keeps, State.smuAbort_kept, h]

theorem State.setVid_kept {s : State} (h : s.Kept c q p) (x1) : (State.setVid s x1).Kept c q p := by
  simp +contextual (maxDischargeDepth := 100) only [State.setVid, State.ite_kept, State.iteFst_kept, ite_self, implies_true,
      State.put_kept, h]

theorem State.govern_kept {s : State} (h : s.Kept c q p) : (State.govern s).Kept c q p := by
  simp +contextual (maxDischargeDepth := 100) only [State.govern, State.when_kept, State.upd_kept, State.updDma_kept,
      State.ite_kept, State.iteFst_kept, ite_self, implies_true, State.raise_kept, State.setBit_kept, State.setVid_kept, h]

theorem State.windowEnd_kept {s : State} (h : s.Kept c q p) : (State.windowEnd s).Kept c q p := by
  simp +contextual (maxDischargeDepth := 100) only [State.windowEnd, State.upd_kept, State.updDma_kept, State.ite_kept,
      State.iteFst_kept, ite_self, implies_true, State.govern_kept, h]

theorem execGovernorWindow_kept {s : State} (h : s.Kept c q p) : Keeps c q p (execGovernorWindow s) := by
  simp +contextual (maxDischargeDepth := 100) only [execGovernorWindow, State.ite_kept, State.iteFst_kept, ite_self,
      implies_true, ite_keeps, next_keeps, answer_keeps, State.windowEnd_kept, h]

theorem State.slackClear_kept {s : State} (h : s.Kept c q p) (x1) : (State.slackClear s x1).Kept c q p := by
  simp +contextual (maxDischargeDepth := 100) only [State.slackClear, State.wr_kept, State.each_kept, State.when_kept,
      State.ite_kept, State.iteFst_kept, ite_self, implies_true, State.put_kept, h]

theorem execSlackClr_kept {s : State} (h : s.Kept c q p) (x0) : Keeps c q p (execSlackClr x0 s) := by
  simp +contextual (maxDischargeDepth := 100) only [execSlackClr, State.ite_kept, State.iteFst_kept, ite_self, implies_true,
      ite_keeps, next_keeps, answer_keeps, State.slackClear_kept, h]

theorem execBadAccess_kept {s : State} (h : s.Kept c q p) : Keeps c q p (execBadAccess s) := by
  simp +contextual (maxDischargeDepth := 100) only [execBadAccess, State.ite_kept, State.iteFst_kept, ite_self, implies_true,
      ite_keeps, next_keeps, answer_keeps, State.raise_kept, h]

theorem State.portOctets_kept {s : State} (h : s.Kept c q p) (x1 x2 x3) : (State.portOctets s x1 x2 x3).Kept c q p := by
  simp +contextual (maxDischargeDepth := 100) only [State.portOctets, State.ite_kept, State.iteFst_kept, ite_self,
      implies_true, State.wr64_kept, h]

theorem State.dropIn_kept {s : State} (h : s.Kept c q p) (x1) : (State.dropIn s x1).Kept c q p := by
  simp +contextual (maxDischargeDepth := 100) only [State.dropIn, State.ite_kept, State.iteFst_kept, ite_self, implies_true,
      State.portCount_kept, h]

theorem State.dropOut_kept {s : State} (h : s.Kept c q p) (x1) : (State.dropOut s x1).Kept c q p := by
  simp +contextual (maxDischargeDepth := 100) only [State.dropOut, State.ite_kept, State.iteFst_kept, ite_self, implies_true,
      State.portCount_kept, h]

theorem State.spillCheck_kept {s : State} (h : s.Kept c q p) (x1) : (State.spillCheck s x1).Kept c q p := by
  simp +contextual (maxDischargeDepth := 100) only [State.spillCheck, State.ite_kept, State.iteFst_kept, ite_self,
      implies_true, State.raise_kept, State.setSw_kept, h]

theorem State.mirRx_kept {s : State} (h : s.Kept c q p) (x1) : (State.mirRx s x1).Kept c q p := by
  simp +contextual (maxDischargeDepth := 100) only [State.mirRx, State.ite_kept, State.iteFst_kept, ite_self, implies_true,
      State.mirror_kept, h]

theorem State.mirTx_kept {s : State} (h : s.Kept c q p) (x1 x2 x3) : (State.mirTx s x1 x2 x3).Kept c q p := by
  simp +contextual (maxDischargeDepth := 100) only [State.mirTx, State.ite_kept, State.iteFst_kept, ite_self, implies_true,
      State.mirror_kept, h]

theorem State.macPut_kept {s : State} (h : s.Kept c q p) (x1) : (State.macPut s x1).Kept c q p := by
  simp +contextual (maxDischargeDepth := 100) only [State.macPut, State.ite_kept, State.iteFst_kept, ite_self, implies_true,
      State.setMacs_kept, h]

theorem State.learn_kept {s : State} (h : s.Kept c q p) (x1 x2 x3) : (State.learn s x1 x2 x3).Kept c q p := by
  unfold State.learn
  repeat' first
    | (simp +contextual (maxDischargeDepth := 100) only [State.when_kept, State.ite_kept, State.iteFst_kept, ite_self,
        implies_true, State.macPut_kept, State.raise_kept, State.setMacs_kept, State.setSw_kept, h]; done)
    | split

theorem State.setMeter_kept {s : State} (h : s.Kept c q p) (x1 x2) : (State.setMeter s x1 x2).Kept c q p := by
  simp +contextual (maxDischargeDepth := 100) only [State.setMeter, State.ite_kept, State.iteFst_kept, ite_self, implies_true,
      State.setSw_kept, State.wrN_kept, h]

theorem State.metered_kept {s : State} (h : s.Kept c q p) (x1 x2 x3) : (State.metered s x1 x2 x3).1.Kept c q p := by
  unfold State.metered
  repeat' first
    | (simp +contextual (maxDischargeDepth := 100) only [State.ite_kept, State.iteFst_kept, ite_self, implies_true,
        State.setMeter_kept, h]; done)
    | split

theorem State.wredDrops_kept {s : State} (h : s.Kept c q p) (x1 x2 x3) : (State.wredDrops s x1 x2 x3).1.Kept c q p := by
  simp +contextual (maxDischargeDepth := 100) only [State.wredDrops, State.ite_kept, State.iteFst_kept, ite_self,
      implies_true, State.setSw_kept, State.useFree_kept, h]

theorem State.tailDrop_kept {s : State} (h : s.Kept c q p) (x1 x2) : (State.tailDrop s x1 x2).Kept c q p := by
  simp +contextual (maxDischargeDepth := 100) only [State.tailDrop, State.ite_kept, State.iteFst_kept, ite_self, implies_true,
      State.mirDrop_kept, State.dropOut_kept, h]

theorem State.admitCopy_kept {s : State} (h : s.Kept c q p) (x1 x2 x3 x4) : (State.admitCopy s x1 x2 x3 x4).Kept c q p := by
  simp +contextual (maxDischargeDepth := 100) only [State.admitCopy, State.ite_kept, State.iteFst_kept, ite_self,
      implies_true, State.dropOut_kept, State.wredDrops_kept, State.mirDrop_kept, State.tailDrop_kept, State.spillCheck_kept,
      State.raise_kept, State.count_kept, State.swFollow_kept, State.setSwQueue_kept, h]

theorem State.enqueue_kept {s : State} (h : s.Kept c q p) (x1 x2 x3) : (State.enqueue s x1 x2 x3).Kept c q p := by
  simp +contextual (maxDischargeDepth := 100) only [State.enqueue, State.each_kept, State.ite_kept, State.iteFst_kept,
      ite_self, implies_true, State.setSw_kept, State.swFollow_kept, State.admitCopy_kept, h]

theorem State.tableEcc_kept {s : State} (h : s.Kept c q p) (x1) : (State.tableEcc s x1).Kept c q p := by
  simp +contextual (maxDischargeDepth := 100) only [State.tableEcc, State.when_kept, State.ite_kept, State.iteFst_kept,
      ite_self, implies_true, State.injStep_kept, State.pageFault_kept, h]

theorem State.forwardFrame_kept {s : State} (h : s.Kept c q p) (x1) : (State.forwardFrame s x1).Kept c q p := by
  simp +contextual (maxDischargeDepth := 100) only [State.forwardFrame, State.when_kept, State.ite_kept, State.iteFst_kept,
      ite_self, implies_true, State.tableEcc_kept, State.mirDrop_kept, State.dropIn_kept, State.learn_kept, State.metered_kept,
      State.enqueue_kept, h]

theorem State.ingress_kept {s : State} (h : s.Kept c q p) (x1 x2 x3 x4 x5) : (State.ingress s x1 x2 x3 x4 x5).Kept c q p := by
  simp +contextual (maxDischargeDepth := 100) only [State.ingress, State.when_kept, State.ite_kept, State.iteFst_kept,
      ite_self, implies_true, State.dropIn_kept, State.mirRx_kept, State.mirDrop_kept, State.forwardFrame_kept, h]

theorem State.ethDown_kept {s : State} (h : s.Kept c q p) (x1) : (State.ethDown s x1).Kept c q p := by
  simp +contextual (maxDischargeDepth := 100) only [State.ethDown, State.ite_kept, State.iteFst_kept, ite_self, implies_true,
      State.count_kept, State.put_kept, State.portFlush_kept, State.raise_kept, State.setBit_kept, h]

theorem State.ethUp_kept {s : State} (h : s.Kept c q p) (x1) : (State.ethUp s x1).Kept c q p := by
  simp +contextual (maxDischargeDepth := 100) only [State.ethUp, State.ite_kept, State.iteFst_kept, ite_self, implies_true,
      State.raise_kept, State.setBit_kept, State.put_kept, h]

theorem execEthLinkDown_kept {s : State} (h : s.Kept c q p) (x0) : Keeps c q p (execEthLinkDown x0 s) := by
  simp +contextual (maxDischargeDepth := 100) only [execEthLinkDown, State.ite_kept, State.iteFst_kept, ite_self,
      implies_true, ite_keeps, next_keeps, answer_keeps, State.ethDown_kept, h]

theorem execEthFlushDone_kept {s : State} (h : s.Kept c q p) (x0 x1) : Keeps c q p (execEthFlushDone x0 x1 s) := by
  simp +contextual (maxDischargeDepth := 100) only [execEthFlushDone, State.ite_kept, State.iteFst_kept, ite_self,
      implies_true, ite_keeps, next_keeps, answer_keeps, State.ethUp_kept, State.put_kept, h]

theorem execEthLinkUp_kept {s : State} (h : s.Kept c q p) (x0) : Keeps c q p (execEthLinkUp x0 s) := by
  simp +contextual (maxDischargeDepth := 100) only [execEthLinkUp, State.ite_kept, State.iteFst_kept, ite_self, implies_true,
      ite_keeps, next_keeps, answer_keeps, State.ethUp_kept, h]

theorem State.tunSend_kept {s : State} (h : s.Kept c q p) (x1 x2) : (State.tunSend s x1 x2).Kept c q p := by
  simp +contextual (maxDischargeDepth := 100) only [State.tunSend, State.each_kept, State.ite_kept, State.iteFst_kept,
      ite_self, implies_true, State.count_kept, State.setSw_kept, State.fabricSend_kept, h]

theorem State.ingressPlain_kept {s : State} (h : s.Kept c q p) (x1 x2 x3 x4) : (State.ingressPlain s x1 x2 x3 x4).Kept c q p := by
  simp +contextual (maxDischargeDepth := 100) only [State.ingressPlain, State.ite_kept, State.iteFst_kept, ite_self,
      implies_true, State.ingress_kept, h]

theorem State.segmentRx_kept {s : State} (h : s.Kept c q p) (x1 x2 x3 x4 x5 x6) : (State.segmentRx s x1 x2 x3 x4 x5 x6).Kept c
    q p := by
  unfold State.segmentRx
  dsimp only
  repeat' first
    | (simp +contextual (maxDischargeDepth := 100) only [State.ite_kept, State.iteFst_kept, ite_self, implies_true,
        State.setSw_kept, State.ingressPlain_kept, State.count_kept, h]; done)
    | split

theorem execTunnelSegmentRx_kept {s : State} (h : s.Kept c q p) (x0 x1 x2 x3 x4 x5) : Keeps c q p (execTunnelSegmentRx x0 x1
    x2 x3 x4 x5 s) := by
  simp +contextual (maxDischargeDepth := 100) only [execTunnelSegmentRx, State.ite_kept, State.iteFst_kept, ite_self,
      implies_true, ite_keeps, next_keeps, answer_keeps, State.segmentRx_kept, h]

theorem execTunnelReassemblyTimeout_kept {s : State} (h : s.Kept c q p) (x0 x1) : Keeps c q p (execTunnelReassemblyTimeout x0
    x1 s) := by
  simp +contextual (maxDischargeDepth := 100) only [execTunnelReassemblyTimeout, State.ite_kept, State.iteFst_kept, ite_self,
      implies_true, ite_keeps, next_keeps, answer_keeps, State.count_kept, State.setSw_kept, h]

theorem State.tsLatch_kept {s : State} (h : s.Kept c q p) (x1 x2 x3) : (State.tsLatch s x1 x2 x3).Kept c q p := by
  simp +contextual (maxDischargeDepth := 100) only [State.tsLatch, State.ite_kept, State.iteFst_kept, ite_self, implies_true,
      State.wr64_kept, State.setBit_kept, h]

theorem State.ptpCount_kept {s : State} (h : s.Kept c q p) (x1 x2) : (State.ptpCount s x1 x2).Kept c q p := by
  simp +contextual (maxDischargeDepth := 100) only [State.ptpCount, State.ite_kept, State.iteFst_kept, ite_self, implies_true,
      State.count_kept, h]

theorem State.ethRx_kept {s : State} (h : s.Kept c q p) (x1 x2 x3 x4) : (State.ethRx s x1 x2 x3 x4).Kept c q p := by
  simp +contextual (maxDischargeDepth := 100) only [State.ethRx, State.when_kept, State.ite_kept, State.iteFst_kept, ite_self,
      implies_true, State.injStep_kept, State.portCount_kept, State.ingress_kept, State.portOctets_kept, State.ptpCount_kept,
      State.tsLatch_kept, h]

theorem execEthFrameRx_kept {s : State} (h : s.Kept c q p) (x0 x1 x2 x3) : Keeps c q p (execEthFrameRx x0 x1 x2 x3 s) := by
  simp +contextual (maxDischargeDepth := 100) only [execEthFrameRx, State.ite_kept, State.iteFst_kept, ite_self, implies_true,
      ite_keeps, next_keeps, answer_keeps, State.ethRx_kept, h]

theorem State.tcApply_kept {s : State} (h : s.Kept c q p) (x1 x2 x3 x4) : (State.tcApply s x1 x2 x3 x4).1.Kept c q p := by
  unfold State.tcApply
  repeat' first
    | (simp +contextual (maxDischargeDepth := 100) only [State.ite_kept, State.iteFst_kept, ite_self, implies_true,
        State.setSw_kept, h]; done)
    | split

theorem State.setTurn_kept {s : State} (h : s.Kept c q p) (x1 x2) : (State.setTurn s x1 x2).Kept c q p := by
  simp +contextual (maxDischargeDepth := 100) only [State.setTurn, State.ite_kept, State.iteFst_kept, ite_self, implies_true,
      State.setSw_kept, h]

theorem State.setDeficit_kept {s : State} (h : s.Kept c q p) (x1 x2) : (State.setDeficit s x1 x2).Kept c q p := by
  simp +contextual (maxDischargeDepth := 100) only [State.setDeficit, State.ite_kept, State.iteFst_kept, ite_self,
      implies_true, State.setSw_kept, h]

theorem State.drrPick_kept {s : State} (h : s.Kept c q p) (x1 x2) : (State.drrPick s x1 x2).1.Kept c q p := by
  induction x2 generalizing s with
  | zero => exact h
  | succ n ih =>
    unfold State.drrPick
    dsimp only
    split
    · exact ih (State.setDeficit_kept (State.setTurn_kept (State.setDeficit_kept h _ _) _ _) _ _)
    · split
      · exact State.setDeficit_kept h _ _
      · exact ih (State.setDeficit_kept (State.setTurn_kept h _ _) _ _)

theorem State.pickClass_kept {s : State} (h : s.Kept c q p) (x1) : (State.pickClass s x1).1.Kept c q p := by
  unfold State.pickClass
  repeat' first
    | (simp +contextual (maxDischargeDepth := 100) only [State.ite_kept, State.iteFst_kept, ite_self, implies_true,
        State.drrPick_kept, h]; done)
    | split

theorem State.snicDeliver_kept {s : State} (h : s.Kept c q p) (x1 x2 x3) : (State.snicDeliver s x1 x2 x3).Kept c q p := by
  simp +contextual (maxDischargeDepth := 100) only [State.snicDeliver, State.ite_kept, State.iteFst_kept, ite_self,
      implies_true, State.count_kept, State.setSw_kept, h]

theorem State.transmit_kept {s : State} (h : s.Kept c q p) (x1 x2 x3) : (State.transmit s x1 x2 x3).Kept c q p := by
  simp +contextual (maxDischargeDepth := 100) only [State.transmit, State.ite_kept, State.iteFst_kept, ite_self, implies_true,
      State.mirTx_kept, State.tcApply_kept, State.swFollow_kept, State.send_kept, State.ptpCount_kept, State.portOctets_kept,
      State.portCount_kept, State.tunSend_kept, State.snicDeliver_kept, h]

theorem State.cellEcc_kept {s : State} (h : s.Kept c q p) (x1) : (State.cellEcc s x1).Kept c q p := by
  simp +contextual (maxDischargeDepth := 100) only [State.cellEcc, State.ite_kept, State.iteFst_kept, ite_self, implies_true,
      State.setSw_kept, State.swFollow_kept, State.raise_kept, State.count_kept, h]

theorem State.spillRead_kept {s : State} (h : s.Kept c q p) : (State.spillRead s).1.Kept c q p := by
  simp +contextual (maxDischargeDepth := 100) only [State.spillRead, State.ite_kept, State.iteFst_kept, ite_self,
      implies_true, State.useFree_kept, State.dramRead_kept, h]

theorem State.spillEcc_kept {s : State} (h : s.Kept c q p) (x1) : (State.spillEcc s x1).Kept c q p := by
  simp +contextual (maxDischargeDepth := 100) only [State.spillEcc, State.ite_kept, State.iteFst_kept, ite_self, implies_true,
      State.setSw_kept, State.swFollow_kept, State.count_kept, h]

theorem State.egress_kept {s : State} (h : s.Kept c q p) (x1 x2) : (State.egress s x1 x2).Kept c q p := by
  unfold State.egress
  dsimp only
  repeat' first
    | (simp +contextual (maxDischargeDepth := 100) only [State.ite_kept, State.iteFst_kept, ite_self, implies_true,
        State.pickClass_kept, State.spillRead_kept, State.spillEcc_kept, State.transmit_kept, State.setSwQueue_kept,
        State.injStep_kept, State.cellEcc_kept, h]; done)
    | split

theorem execEgressTransmit_kept {s : State} (h : s.Kept c q p) (x0 x1) : Keeps c q p (execEgressTransmit x0 x1 s) := by
  simp +contextual (maxDischargeDepth := 100) only [execEgressTransmit, State.ite_kept, State.iteFst_kept, ite_self,
      implies_true, ite_keeps, next_keeps, answer_keeps, State.egress_kept, h]

theorem State.tableOp_kept {s : State} (h : s.Kept c q p) (x1 x2) (h2 : ∀ (t : State), t.Kept c q p → (x2 t).Kept c q p) :
    (State.tableOp s x1 x2).Kept c q p := by
  simp +contextual (maxDischargeDepth := 100) only [State.tableOp, State.ite_kept, State.iteFst_kept, ite_self, implies_true,
      State.raise_kept, h, h2]

theorem State.macDone_kept {s : State} (h : s.Kept c q p) (x1) : (State.macDone s x1).Kept c q p := by
  simp +contextual (maxDischargeDepth := 100) only [State.macDone, State.ite_kept, State.iteFst_kept, ite_self, implies_true,
      State.wrN_kept, h]

theorem State.macShow_kept {s : State} (h : s.Kept c q p) (x1) : (State.macShow s x1).Kept c q p := by
  simp +contextual (maxDischargeDepth := 100) only [State.macShow, State.wr_kept, State.ite_kept, State.iteFst_kept, ite_self,
      implies_true, State.useFree_kept, h]

theorem State.macAdd_kept {s : State} (h : s.Kept c q p) : (State.macAdd s).Kept c q p := by
  unfold State.macAdd
  dsimp only
  repeat' first
    | (simp +contextual (maxDischargeDepth := 100) only [State.ite_kept, State.iteFst_kept, ite_self, implies_true,
        State.macDone_kept, State.macPut_kept, State.setMacs_kept, h]; done)
    | split

theorem execMacAdd_kept {s : State} (h : s.Kept c q p) : Keeps c q p (execMacAdd s) := by
  simp +contextual (maxDischargeDepth := 100) only [execMacAdd, State.ite_kept, State.iteFst_kept, ite_self, implies_true,
      ite_keeps, next_keeps, answer_keeps, State.tableOp_kept, State.macAdd_kept, h]

theorem execMacDel_kept {s : State} (h : s.Kept c q p) : Keeps c q p (execMacDel s) := by
  refine next_keeps (State.tableOp_kept h _ _ fun t ht => ?_)
  split <;> simp only [State.macDone_kept, State.setMacs_kept, ht]

theorem execMacLookup_kept {s : State} (h : s.Kept c q p) : Keeps c q p (execMacLookup s) := by
  refine next_keeps (State.tableOp_kept h _ _ fun t ht => ?_)
  split <;> simp only [State.macDone_kept, State.macShow_kept, ht]

theorem execMacFlushPort_kept {s : State} (h : s.Kept c q p) : Keeps c q p (execMacFlushPort s) := by
  simp +contextual (maxDischargeDepth := 100) only [execMacFlushPort, State.ite_kept, State.iteFst_kept, ite_self,
      implies_true, ite_keeps, next_keeps, answer_keeps, State.tableOp_kept, State.macDone_kept, State.macFlush_kept, h]

theorem execMacFlushAll_kept {s : State} (h : s.Kept c q p) : Keeps c q p (execMacFlushAll s) := by
  simp +contextual (maxDischargeDepth := 100) only [execMacFlushAll, State.ite_kept, State.iteFst_kept, ite_self,
      implies_true, ite_keeps, next_keeps, answer_keeps, State.tableOp_kept, State.macDone_kept, State.setMacs_kept, h]

theorem execMacRead_kept {s : State} (h : s.Kept c q p) : Keeps c q p (execMacRead s) := by
  refine next_keeps (State.tableOp_kept h _ _ fun t ht => ?_)
  split
  · exact State.macDone_kept (State.macShow_kept (State.wrN_kept (State.wrN_kept ht _ _) _ _) _) _
  · exact State.macDone_kept (State.wr_kept ht _ _) _

theorem execMacAgeOut_kept {s : State} (h : s.Kept c q p) (x0 x1) : Keeps c q p (execMacAgeOut x0 x1 s) := by
  unfold execMacAgeOut
  repeat' first
    | (simp +contextual (maxDischargeDepth := 100) only [State.ite_kept, State.iteFst_kept, ite_self, implies_true, ite_keeps,
        next_keeps, answer_keeps, State.setMacs_kept, h]; done)
    | split

theorem execVlanApply_kept {s : State} (h : s.Kept c q p) : Keeps c q p (execVlanApply s) := by
  simp +contextual (maxDischargeDepth := 100) only [execVlanApply, State.ite_kept, State.iteFst_kept, ite_self, implies_true,
      ite_keeps, next_keeps, answer_keeps, State.tableOp_kept, State.setSw_kept, h]

theorem execVlanRead_kept {s : State} (h : s.Kept c q p) : Keeps c q p (execVlanRead s) := by
  simp +contextual (maxDischargeDepth := 100) only [execVlanRead, State.ite_kept, State.iteFst_kept, ite_self, implies_true,
      ite_keeps, next_keeps, answer_keeps, State.tableOp_kept, State.wrN_kept, h]

theorem State.mtrDone_kept {s : State} (h : s.Kept c q p) (x1) : (State.mtrDone s x1).Kept c q p := by
  simp +contextual (maxDischargeDepth := 100) only [State.mtrDone, State.ite_kept, State.iteFst_kept, ite_self, implies_true,
      State.put_kept, h]

theorem execMtrAlloc_kept {s : State} (h : s.Kept c q p) : Keeps c q p (execMtrAlloc s) := by
  refine next_keeps (State.tableOp_kept h _ _ fun t ht => ?_)
  generalize (List.range 4096).find? (fun m => !(t.meter m).used) = x
  cases x with
  | none => exact State.mtrDone_kept ht _
  | some m => exact State.mtrDone_kept (State.put_kept (State.setMeter_kept ht _ _) _ _ _ _) _

theorem execMtrFree_kept {s : State} (h : s.Kept c q p) (x0) : Keeps c q p (execMtrFree x0 s) := by
  simp +contextual (maxDischargeDepth := 100) only [execMtrFree, State.ite_kept, State.iteFst_kept, ite_self, implies_true,
      ite_keeps, next_keeps, answer_keeps, State.tableOp_kept, State.mtrDone_kept, State.setMeter_kept, h]

theorem execMtrWrite_kept {s : State} (h : s.Kept c q p) (x0) : Keeps c q p (execMtrWrite x0 s) := by
  simp +contextual (maxDischargeDepth := 100) only [execMtrWrite, State.ite_kept, State.iteFst_kept, ite_self, implies_true,
      ite_keeps, next_keeps, answer_keeps, State.tableOp_kept, State.mtrDone_kept, State.setMeter_kept, h]

theorem execMtrRead_kept {s : State} (h : s.Kept c q p) (x0) : Keeps c q p (execMtrRead x0 s) := by
  simp +contextual (maxDischargeDepth := 100) only [execMtrRead, State.ite_kept, State.iteFst_kept, ite_self, implies_true,
      ite_keeps, next_keeps, answer_keeps, State.tableOp_kept, State.mtrDone_kept, State.wrN_kept, h]

theorem execPortTsArm_kept {s : State} (h : s.Kept c q p) (x0 x1) : Keeps c q p (execPortTsArm x0 x1 s) := by
  simp +contextual (maxDischargeDepth := 100) only [execPortTsArm, State.wr_kept, State.ite_kept, State.iteFst_kept, ite_self,
      implies_true, ite_keeps, next_keeps, answer_keeps, h]

theorem State.setSnic_kept {s : State} (h : s.Kept c q p) (x1 x2) : (State.setSnic s x1 x2).Kept c q p := by
  simp +contextual (maxDischargeDepth := 100) only [State.setSnic, State.ite_kept, State.iteFst_kept, ite_self, implies_true,
      State.setSw_kept, h]

theorem State.snicFault_kept {s : State} (h : s.Kept c q p) (x1 x2 x3 x4 x5) : (State.snicFault s x1 x2 x3 x4 x5).Kept c q p := by
  simp +contextual (maxDischargeDepth := 100) only [State.snicFault, State.ite_kept, State.iteFst_kept, ite_self,
      implies_true, State.setSnic_kept, State.suspFollow_kept, State.smuFault_kept, h]

theorem State.descEnd_kept {s : State} (h : s.Kept c q p) (x1 x2 x3 x4 x5 x6) : (State.descEnd s x1 x2 x3 x4 x5 x6).Kept c q p
    := by
  simp +contextual (maxDischargeDepth := 100) only [State.descEnd, State.ite_kept, State.iteFst_kept, ite_self, implies_true,
      State.msixSend_kept, State.xlatWrite_kept, State.setSnic_kept, h]

theorem State.snicTx_kept {s : State} (h : s.Kept c q p) (x1 x2 x3 x4 x5) : (State.snicTx s x1 x2 x3 x4 x5).Kept c q p := by
  unfold State.snicTx
  dsimp only
  repeat' first
    | (simp +contextual (maxDischargeDepth := 100) only [State.ite_kept, State.iteFst_kept, ite_self, implies_true,
        State.translate_kept, State.snicFault_kept, State.dramRead_kept, State.descEnd_kept, State.spend_kept, State.count_kept,
        State.ingressPlain_kept, h]; done)
    | split

theorem State.snicRx_kept {s : State} (h : s.Kept c q p) (x1 x2 x3 x4) : (State.snicRx s x1 x2 x3 x4).Kept c q p := by
  unfold State.snicRx
  dsimp only
  repeat' first
    | (simp +contextual (maxDischargeDepth := 100) only [State.ite_kept, State.iteFst_kept, ite_self, implies_true,
        State.setSnic_kept, State.count_kept, State.translate_kept, State.snicFault_kept, State.descEnd_kept,
        State.xlatWrite_kept, State.spend_kept, h]; done)
    | split

theorem State.snicPoll_kept {s : State} (h : s.Kept c q p) (x1 x2 x3 x4 x5) : (State.snicPoll s x1 x2 x3 x4 x5).Kept c q p := by
  unfold State.snicPoll
  dsimp only
  repeat' first
    | (simp +contextual (maxDischargeDepth := 100) only [State.ite_kept, State.iteFst_kept, ite_self, implies_true,
        State.translate_kept, State.snicFault_kept, State.dramRead_kept, State.snicRx_kept, State.snicTx_kept, h]; done)
    | split

theorem execSnicPoll_kept {s : State} (h : s.Kept c q p) (x0 x1 x2 x3 x4) : Keeps c q p (execSnicPoll x0 x1 x2 x3 x4 s) := by
  simp +contextual (maxDischargeDepth := 100) only [execSnicPoll, State.ite_kept, State.iteFst_kept, ite_self, implies_true,
      ite_keeps, next_keeps, answer_keeps, State.snicPoll_kept, h]

theorem State.clearDSK_kept {s : State} (h : s.Kept c q p) (b : Bool) : (s.clearDSK b).Kept c q p := by
  refine h.tables rfl rfl (fun hc => Sparse.rising_filter _ _ (h.regs hc)) fun hc => ?_
  cases b
  · rfl
  · exact h.dram hc

theorem State.clearD_kept {s : State} (h : s.Kept c q p) (x1) : (State.clearD s x1).Kept c q p := by
  simp +contextual (maxDischargeDepth := 100) only [State.clearD, State.each_kept, State.ite_kept, State.iteFst_kept,
      ite_self, implies_true, State.lifeLastSec_kept, State.lifeFlushLink_kept, State.count_kept, State.clearDSK_kept, h]

theorem State.loseA_kept {s : State} (h : s.Kept c q p) : s.loseA.Kept c q p := by
  have h1 : ({ s with regs := s.regs.filter fun (e : Nat × Word) => domOf e.1 != some .a } : State).Kept c q p :=
    h.tables rfl rfl (fun hc => Sparse.rising_filter _ _ (h.regs hc)) h.dram
  exact State.setPower_kept (State.setBit_kept h1 _ _ _) _

theorem State.powerOff_kept {s : State} (h : s.Kept c q p) : (State.powerOff s).Kept c q p := by
  simp +contextual (maxDischargeDepth := 100) only [State.powerOff, State.ite_kept, State.iteFst_kept, ite_self, implies_true,
      State.loseA_kept, State.clearDSK_kept, State.setPower_kept, h]

theorem State.powerOn_kept {s : State} (h : s.Kept c q p) : (State.powerOn s).Kept c q p := by
  simp +contextual (maxDischargeDepth := 100) only [State.powerOn, State.ite_kept, State.iteFst_kept, ite_self, implies_true,
      State.setPower_kept, State.count_kept, State.clearDSK_kept, h]

theorem execPowerOn_kept {s : State} (h : s.Kept c q p) : Keeps c q p (execPowerOn s) := by
  simp +contextual (maxDischargeDepth := 100) only [execPowerOn, State.ite_kept, State.iteFst_kept, ite_self, implies_true,
      ite_keeps, next_keeps, answer_keeps, State.powerOn_kept, h]

theorem State.backupEnter_kept {s : State} (h : s.Kept c q p) : (State.backupEnter s).Kept c q p := by
  simp +contextual (maxDischargeDepth := 100) only [State.backupEnter, State.ite_kept, State.iteFst_kept, ite_self,
      implies_true, State.setPower_kept, State.opFlush_kept, h]

theorem execSupplyLoss_kept {s : State} (h : s.Kept c q p) (x0) : Keeps c q p (execSupplyLoss x0 s) := by
  simp +contextual (maxDischargeDepth := 100) only [execSupplyLoss, State.ite_kept, State.iteFst_kept, ite_self, implies_true,
      ite_keeps, next_keeps, answer_keeps, State.setPower_kept, State.backupEnter_kept, State.powerOff_kept, h]

theorem execVbkpLoss_kept {s : State} (h : s.Kept c q p) : Keeps c q p (execVbkpLoss s) := by
  simp +contextual (maxDischargeDepth := 100) only [execVbkpLoss, State.ite_kept, State.iteFst_kept, ite_self, implies_true,
      ite_keeps, next_keeps, answer_keeps, State.loseA_kept, State.setPower_kept, State.powerOff_kept, h]

theorem execDomainDClear_kept {s : State} (h : s.Kept c q p) : Keeps c q p (execDomainDClear s) := by
  simp +contextual (maxDischargeDepth := 100) only [execDomainDClear, State.ite_kept, State.iteFst_kept, ite_self,
      implies_true, ite_keeps, next_keeps, answer_keeps, State.clearD_kept, State.setPower_kept, h]

theorem State.release_kept {s : State} (h : s.Kept c q p) (x1 x2 x3 x4) : (State.release s x1 x2 x3 x4).Kept c q p := by
  have h1 : ({ s with regs := Sparse.erase s.regs Reg.RT_ID, straps := x1 } : State).Kept c q p :=
    h.tables rfl rfl (fun hc => Sparse.rising_filter _ _ (h.regs hc)) h.dram
  have h2 := fun a b => State.wrN_kept (State.wrN_kept (State.put_kept (State.put_kept (State.setCounter_kept h1 a b 0)
      Reg.RST_CAUSE 7 4
    ((State.setCounter { s with regs := Sparse.erase s.regs Reg.RT_ID, straps := x1 } a b 0).get Reg.RST_CAUSE 3 0))
        Reg.RST_CAUSE 3 0 x4)
    Reg.DRAM_CFG (x2 * 65536 + x2 * 1024 * 31 / 32)) Reg.DRAM_STAT 1
  unfold State.release
  refine State.when_kept (State.when_kept (State.when_kept (State.crumbFind_kept (State.put_kept (State.setBit_kept
    (State.setPower_kept (h2 _ _) _) _ _ _) _ _ _ _)) _ _ ?_) _ _ ?_) _ _ ?_
  · exact fun t ht => State.raise_kept (State.put_kept ht _ _ _ _) _ _
  · exact fun t ht => State.each_kept ht _ _ fun u d hu => State.pageFault_kept hu _ _
  · exact fun t ht => State.pageFault_kept ht _ _

theorem execDomainDRelease_kept {s : State} (h : s.Kept c q p) (x0 x1 x2 x3) : Keeps c q p (execDomainDRelease x0 x1 x2 x3 s)
    := by
  unfold execDomainDRelease
  repeat' first
    | (simp +contextual (maxDischargeDepth := 100) only [State.ite_kept, State.iteFst_kept, ite_self, implies_true, ite_keeps,
        next_keeps, answer_keeps, State.rom_kept, State.release_kept, h]; done)
    | split

theorem State.backupWake_kept {s : State} (h : s.Kept c q p) (x1) : (State.backupWake s x1).Kept c q p := by
  simp +contextual (maxDischargeDepth := 100) only [State.backupWake, State.ite_kept, State.iteFst_kept, ite_self,
      implies_true, State.wrN_kept, State.setPower_kept, h]

theorem execBackupWakeN_kept {s : State} (h : s.Kept c q p) : Keeps c q p (execBackupWakeN s) := by
  simp +contextual (maxDischargeDepth := 100) only [execBackupWakeN, State.ite_kept, State.iteFst_kept, ite_self,
      implies_true, ite_keeps, next_keeps, answer_keeps, State.backupWake_kept, h]

theorem execBackupTioWake_kept {s : State} (h : s.Kept c q p) : Keeps c q p (execBackupTioWake s) := by
  simp +contextual (maxDischargeDepth := 100) only [execBackupTioWake, State.ite_kept, State.iteFst_kept, ite_self,
      implies_true, ite_keeps, next_keeps, answer_keeps, State.backupWake_kept, h]

theorem execBkAlarm_kept {s : State} (h : s.Kept c q p) : Keeps c q p (execBkAlarm s) := by
  simp +contextual (maxDischargeDepth := 100) only [execBkAlarm, State.ite_kept, State.iteFst_kept, ite_self, implies_true,
      ite_keeps, next_keeps, answer_keeps, State.backupWake_kept, h]

theorem State.backupRequest_kept {s : State} (h : s.Kept c q p) (x1) : (State.backupRequest s x1).Kept c q p := by
  simp +contextual (maxDischargeDepth := 100) only [State.backupRequest, State.each_kept, State.when_kept, State.ite_kept,
      State.iteFst_kept, ite_self, implies_true, State.raise_kept, State.sleepAbort_kept, State.blStop_kept,
      State.backupEnter_kept, h]

theorem execBackupRequest_kept {s : State} (h : s.Kept c q p) (x0) : Keeps c q p (execBackupRequest x0 s) := by
  simp +contextual (maxDischargeDepth := 100) only [execBackupRequest, State.ite_kept, State.iteFst_kept, ite_self,
      implies_true, ite_keeps, next_keeps, answer_keeps, State.backupRequest_kept, h]

theorem State.pwrState_kept {s : State} (h : s.Kept c q p) (x1) : (State.pwrState s x1).Kept c q p := by
  simp +contextual (maxDischargeDepth := 100) only [State.pwrState, State.ite_kept, State.iteFst_kept, ite_self, implies_true,
      State.raise_kept, State.wrN_kept, h]

theorem execDozeEntry_kept {s : State} (h : s.Kept c q p) : Keeps c q p (execDozeEntry s) := by
  simp +contextual (maxDischargeDepth := 100) only [execDozeEntry, State.ite_kept, State.iteFst_kept, ite_self, implies_true,
      ite_keeps, next_keeps, answer_keeps, State.pwrState_kept, h]

theorem execDozeExit_kept {s : State} (h : s.Kept c q p) : Keeps c q p (execDozeExit s) := by
  simp +contextual (maxDischargeDepth := 100) only [execDozeExit, State.ite_kept, State.iteFst_kept, ite_self, implies_true,
      ite_keeps, next_keeps, answer_keeps, State.pwrState_kept, h]

theorem State.featherEnter_kept {s : State} (h : s.Kept c q p) : (State.featherEnter s).Kept c q p := by
  simp +contextual (maxDischargeDepth := 100) only [State.featherEnter, State.each_kept, State.ite_kept, State.iteFst_kept,
      ite_self, implies_true, State.setPower_kept, State.count_kept, State.pwrState_kept, State.serSleep_kept,
      State.canSleep_kept, State.convertersDown_kept, State.ethDown_kept, State.setBit_kept, h]

theorem execFeatherEntry_kept {s : State} (h : s.Kept c q p) : Keeps c q p (execFeatherEntry s) := by
  simp +contextual (maxDischargeDepth := 100) only [execFeatherEntry, State.ite_kept, State.iteFst_kept, ite_self,
      implies_true, ite_keeps, next_keeps, answer_keeps, State.featherEnter_kept, State.raise_kept, State.setPower_kept, h]

theorem State.featherLeave_kept {s : State} (h : s.Kept c q p) : (State.featherLeave s).Kept c q p := by
  simp +contextual (maxDischargeDepth := 100) only [State.featherLeave, State.each_kept, State.when_kept, State.upd_kept,
      State.updDma_kept, State.ite_kept, State.iteFst_kept, ite_self, implies_true, State.setPower_kept, State.put_kept,
      State.pwrState_kept, State.setBit_kept, State.modDie_kept, State.canWakeUp_kept, State.genRecord_kept, h]

theorem execFeatherExit_kept {s : State} (h : s.Kept c q p) : Keeps c q p (execFeatherExit s) := by
  simp +contextual (maxDischargeDepth := 100) only [execFeatherExit, State.ite_kept, State.iteFst_kept, ite_self,
      implies_true, ite_keeps, next_keeps, answer_keeps, State.featherLeave_kept, h]

theorem State.measureInvalid_kept {s : State} (h : s.Kept c q p) (x1) : (State.measureInvalid s x1).Kept c q p := by
  simp +contextual (maxDischargeDepth := 100) only [State.measureInvalid, State.ite_kept, State.iteFst_kept, ite_self,
      implies_true, State.raise_kept, State.ovenStop_kept, State.modDie_kept, h]

theorem execMeasureSupplyInvalid_kept {s : State} (h : s.Kept c q p) (x0) : Keeps c q p (execMeasureSupplyInvalid x0 s) := by
  simp +contextual (maxDischargeDepth := 100) only [execMeasureSupplyInvalid, State.ite_kept, State.iteFst_kept, ite_self,
      implies_true, ite_keeps, next_keeps, answer_keeps, State.measureInvalid_kept, h]

theorem execMeasureSupplyValid_kept {s : State} (h : s.Kept c q p) (x0) : Keeps c q p (execMeasureSupplyValid x0 s) := by
  simp +contextual (maxDischargeDepth := 100) only [execMeasureSupplyValid, State.ite_kept, State.iteFst_kept, ite_self,
      implies_true, ite_keeps, next_keeps, answer_keeps, State.ovenStart_kept, State.modDie_kept, h]

theorem State.extest_kept {s : State} (h : s.Kept c q p) : (State.extest s).Kept c q p := by
  simp +contextual (maxDischargeDepth := 100) only [State.extest, State.each_kept, State.ite_kept, State.iteFst_kept,
      ite_self, implies_true, State.stageLoss_kept, State.setLst_kept, State.blFail_kept, State.ethDown_kept, State.portFall_kept,
      h]

theorem execJtagExtest_kept {s : State} (h : s.Kept c q p) : Keeps c q p (execJtagExtest s) := by
  simp +contextual (maxDischargeDepth := 100) only [execJtagExtest, State.ite_kept, State.iteFst_kept, ite_self, implies_true,
      ite_keeps, next_keeps, answer_keeps, State.extest_kept, h]

theorem State.pairFail_kept {s : State} (h : s.Kept c q p) (x1) : (State.pairFail s x1).Kept c q p := by
  simp +contextual (maxDischargeDepth := 100) only [State.pairFail, State.ite_kept, State.iteFst_kept, ite_self, implies_true,
      State.setPower_kept, State.raise_kept, h]

theorem execMgmtPairFail_kept {s : State} (h : s.Kept c q p) (x0) : Keeps c q p (execMgmtPairFail x0 s) := by
  simp +contextual (maxDischargeDepth := 100) only [execMgmtPairFail, State.ite_kept, State.iteFst_kept, ite_self,
      implies_true, ite_keeps, next_keeps, answer_keeps, State.pairFail_kept, State.injStep_kept, h]

theorem State.scrub_kept {s : State} (h : s.Kept c q p) (x1 x2) : (State.scrub s x1 x2).Kept c q p := by
  simp +contextual (maxDischargeDepth := 100) only [State.scrub, State.each_kept, State.when_kept, State.ite_kept,
      State.iteFst_kept, ite_self, implies_true, State.raise_kept, State.count_kept, State.wr64_kept, h]

theorem execDramScrub_kept {s : State} (h : s.Kept c q p) (x0 x1) : Keeps c q p (execDramScrub x0 x1 s) := by
  simp +contextual (maxDischargeDepth := 100) only [execDramScrub, State.ite_kept, State.iteFst_kept, ite_self, implies_true,
      ite_keeps, next_keeps, answer_keeps, State.scrub_kept, h]

end Sys2Proof.Machine
end

