-- ==== Sys2Proof/Laws/KeptH.lean ====
section
/-!
SUPPORT. What the operations of these files of the model keep: Page, MsgBridge, RegWrite, Inbound, QueueEngine.
-/
namespace Sys2Proof.Machine
set_option linter.all false
variable {c : Prop} {q : List Instr} {p : Part}

theorem State.verifySlots_kept {s : State} (h : s.Kept c q p) : (State.verifySlots s).Kept c q p := by
  simp +contextual (maxDischargeDepth := 100) only [State.verifySlots, State.each_kept, State.ite_kept, State.iteFst_kept,
      ite_self, implies_true, State.raise_kept, State.setSlot_kept, h]

theorem State.pageStart_kept {s : State} (h : s.Kept c q p) (x : Nat) : (s.pageStart x).Kept c q p := by
  unfold State.pageStart
  have h3 : ({ s with loopFrom := s.now, strokes := 0 } : State).Kept c q p := State.upd_kept h ..
  simp only [State.ite_kept, State.modDie_kept h, h3, State.verifySlots_kept h, State.crewStart_kept h,
      State.stageStartRec_kept h,
    State.stageStart_kept h, State.put_kept h, State.slotsPassed_kept h, State.blStart_kept h, State.routingStart_kept h,
    State.tunFollow_kept h, State.canStart_kept h, State.setCvu_kept h, h, ite_self]

theorem State.wcplSend_kept {s : State} (h : s.Kept c q p) (x1 x2 x3) : (State.wcplSend s x1 x2 x3).Kept c q p := by
  simp +contextual (maxDischargeDepth := 100) only [State.wcplSend, State.ite_kept, State.iteFst_kept, ite_self, implies_true,
      State.fabricSend_kept, h]

theorem State.inboundStop_kept {s : State} (h : s.Kept c q p) : (State.inboundStop s).Kept c q p := by
  simp +contextual (maxDischargeDepth := 100) only [State.inboundStop, State.each_kept, State.ite_kept, State.iteFst_kept,
      ite_self, implies_true, State.setBrg_kept, State.wcplSend_kept, h]

theorem State.pageLeave_kept {s : State} (h : s.Kept c q p) (x : Nat) : (s.pageLeave x).Kept c q p := by
  unfold State.pageLeave
  have h6 : (({ s with mbIn := [] } : State).count Reg.MB_CNT 31 16 s.mbIn.length).Kept c q p :=
    State.count_kept (State.upd_kept h ..) _ _ _ _
  have hA : (s.each ((List.range 12).filter s.hasPort) State.ethDown).Kept c q p :=
    State.each_kept h _ _ fun t n ht => State.ethDown_kept ht _
  simp only [State.ite_kept, State.modDie_kept h, State.calStop_kept h, State.stopTrends_kept h, State.stageStop_kept h,
    State.servoFree_kept h, State.blStop_kept h, State.inboundStop_kept h, State.tunFollow_kept h, State.nsStop_kept h,
    State.cvuDiscard_kept h, State.portFall_kept h, State.routingStop_kept h, State.portFlush_kept h, h, h6, hA, ite_self]

theorem State.cancelTrans_kept {s : State} (h : s.Kept c q p) : (State.cancelTrans s).Kept c q p := by
  simp +contextual (maxDischargeDepth := 100) only [State.cancelTrans, State.each_kept, State.ite_kept, State.iteFst_kept,
      ite_self, implies_true, State.modCrew_kept, State.slotState_kept, State.clearNext_kept, h]

theorem State.redStop_kept {s : State} (h : s.Kept c q p) : (State.redStop s).Kept c q p := by
  simp +contextual (maxDischargeDepth := 100) only [State.redStop, State.each_kept, State.ite_kept, State.iteFst_kept,
      ite_self, implies_true, State.redFinish_kept, h]

theorem State.locksLost_kept {s : State} (h : s.Kept c q p) : (State.locksLost s).Kept c q p := by
  simp +contextual (maxDischargeDepth := 100) only [State.locksLost, State.ite_kept, State.iteFst_kept, ite_self,
      implies_true, State.put_kept, State.setBrg_kept, h]

theorem State.locksGone_kept {s : State} (h : s.Kept c q p) : (State.locksGone s).Kept c q p := by
  simp +contextual (maxDischargeDepth := 100) only [State.locksGone, State.ite_kept, State.iteFst_kept, ite_self,
      implies_true, State.locksLost_kept, State.unlockWins_kept, h]

theorem State.keyStop_kept {s : State} (h : s.Kept c q p) : (State.keyStop s).Kept c q p := by
  unfold State.keyStop
  repeat' first
    | (simp +contextual (maxDischargeDepth := 100) only [State.ite_kept, State.iteFst_kept, ite_self, implies_true,
        State.keyFinish_kept, h]; done)
    | split

theorem State.pageStopped_kept {s : State} (h : s.Kept c q p) (x : Nat) : (s.pageStopped x).Kept c q p := by
  unfold State.pageStopped
  have hA : (s.each ((List.range 22).filter s.hasPort) State.flushPort).Kept c q p :=
    State.each_kept h _ _ fun t n ht => State.flushPort_kept ht _
  have hs := State.safeAll_kept h (s.dieChannels (x - 0x010)) 39
  have hd := fun l f => State.each_kept hs l (fun (s : State) k => s.modMeas k f) fun t k ht => State.modMeas_kept ht _ _
  have h1 := fun l f d g => State.modDie_kept (hd l f) d g
  simp only [State.ite_kept, h1, State.stopMoves_kept h, State.loopCut_kept (State.stopMoves_kept h _), State.truncSweeps_kept h,
    State.cancelTrans_kept h, State.redStop_kept h, State.stageStopped_kept h, State.locksGone_kept h, State.canStop_kept h,
    State.serStop_kept h, State.keyStop_kept h, h, hA, ite_self]

theorem State.pageFall_kept {s : State} (h : s.Kept c q p) (x1 x2) : (State.pageFall s x1 x2).Kept c q p := by
  simp +contextual (maxDischargeDepth := 100) only [State.pageFall, State.ite_kept, State.iteFst_kept, ite_self, implies_true,
      State.measFault_kept, State.pageFault_kept, State.blFail_kept, State.pageStopped_kept, State.pageLeave_kept, h]

theorem State.pgCommand_kept {s : State} (h : s.Kept c q p) (x1 x2 x3) (h3 : ∀ (t : State), t.Kept c q p → (x3 t).Kept c q p)
    : (State.pgCommand s x1 x2 x3).Kept c q p := by
  simp +contextual (maxDischargeDepth := 100) only [State.pgCommand, State.ite_kept, State.iteFst_kept, ite_self,
      implies_true, State.raise_kept, State.fieldQueue_kept, h, h3]

theorem State.pgRun_kept {s : State} (h : s.Kept c q p) (x1) : (State.pgRun s x1).Kept c q p := by
  simp +contextual (maxDischargeDepth := 100) only [State.pgRun, State.ite_kept, State.iteFst_kept, ite_self, implies_true,
      State.raise_kept, State.pgCommand_kept, State.setPg_kept, h]

theorem State.pgStop_kept {s : State} (h : s.Kept c q p) (x1) : (State.pgStop s x1).Kept c q p := by
  simp +contextual (maxDischargeDepth := 100) only [State.pgStop, State.upd_kept, State.updDma_kept, State.ite_kept,
      State.iteFst_kept, ite_self, implies_true, State.pgCommand_kept, State.pageLeave_kept, State.setPg_kept, State.raise_kept,
      h]

theorem State.clearTables_kept {s : State} (h : s.Kept c q p) (x1) : (State.clearTables s x1).Kept c q p := by
  simp +contextual (maxDischargeDepth := 100) only [State.clearTables, State.upd_kept, State.updDma_kept, State.ite_kept,
      State.iteFst_kept, ite_self, implies_true, State.countFree_kept, State.setBrg_kept, State.setMacs_kept, State.setSw_kept,
      State.keySrst_kept, State.cvuReset_kept, h]

theorem State.pgClear_kept {s : State} (h : s.Kept c q p) (x1) : (State.pgClear s x1).Kept c q p := by
  simp +contextual (maxDischargeDepth := 100) only [State.pgClear, State.ite_kept, State.iteFst_kept, ite_self, implies_true,
      State.clearTables_kept, State.clearDom_kept, State.fieldQueue_kept, State.raise_kept, State.setPg_kept, h]

theorem State.fieldClearCmd_kept {s : State} (h : s.Kept c q p) (x1) : (State.fieldClearCmd s x1).Kept c q p := by
  simp +contextual (maxDischargeDepth := 100) only [State.fieldClearCmd, State.each_kept, State.ite_kept, State.iteFst_kept,
      ite_self, implies_true, State.setDoCmd_kept, State.lsCmdSet_kept, h]

theorem State.pgSrst_kept {s : State} (h : s.Kept c q p) (x1) : (State.pgSrst s x1).Kept c q p := by
  simp +contextual (maxDischargeDepth := 100) only [State.pgSrst, State.when_kept, State.ite_kept, State.iteFst_kept,
      ite_self, implies_true, State.pgCommand_kept, State.pgClear_kept, State.raise_kept, State.fieldClearCmd_kept, h]

theorem execPgRun_kept {s : State} (h : s.Kept c q p) (x0) : Keeps c q p (execPgRun x0 s) := by
  simp +contextual (maxDischargeDepth := 100) only [execPgRun, State.ite_kept, State.iteFst_kept, ite_self, implies_true,
      ite_keeps, next_keeps, answer_keeps, State.pgRun_kept, h]

theorem execPgStop_kept {s : State} (h : s.Kept c q p) (x0) : Keeps c q p (execPgStop x0 s) := by
  simp +contextual (maxDischargeDepth := 100) only [execPgStop, State.ite_kept, State.iteFst_kept, ite_self, implies_true,
      ite_keeps, next_keeps, answer_keeps, State.pgStop_kept, h]

theorem execPgSrst_kept {s : State} (h : s.Kept c q p) (x0) : Keeps c q p (execPgSrst x0 s) := by
  simp +contextual (maxDischargeDepth := 100) only [execPgSrst, State.ite_kept, State.iteFst_kept, ite_self, implies_true,
      ite_keeps, next_keeps, answer_keeps, State.pgSrst_kept, h]

theorem State.startFail_kept {s : State} (h : s.Kept c q p) (x1) : (State.startFail s x1).Kept c q p := by
  simp +contextual (maxDischargeDepth := 100) only [State.startFail, State.when_kept, State.ite_kept, State.iteFst_kept,
      ite_self, implies_true, State.put_kept, State.raise_kept, State.setPg_kept, h]

theorem State.startDone_kept {s : State} (h : s.Kept c q p) (x1 x2) : (State.startDone s x1 x2).Kept c q p := by
  simp +contextual (maxDischargeDepth := 100) only [State.startDone, State.upd_kept, State.updDma_kept, State.ite_kept,
      State.iteFst_kept, ite_self, implies_true, State.pageFault_kept, State.startFail_kept, State.setPg_kept,
      State.pageStart_kept, State.raise_kept, h]

theorem State.stopDone_kept {s : State} (h : s.Kept c q p) (x1) : (State.stopDone s x1).Kept c q p := by
  simp +contextual (maxDischargeDepth := 100) only [State.stopDone, State.ite_kept, State.iteFst_kept, ite_self, implies_true,
      State.raise_kept, State.setPg_kept, State.pageStopped_kept, h]

theorem State.pgEnd_kept {s : State} (h : s.Kept c q p) (x1 x2 x3 x4) (h3 : ∀ (t : State), t.Kept c q p → (x3 t).Kept c q p)
    (h4 : ∀ (t : State), t.Kept c q p → (x4 t).Kept c q p) : (State.pgEnd s x1 x2 x3 x4).Kept c q p := by
  simp +contextual (maxDischargeDepth := 100) only [State.pgEnd, State.ite_kept, State.iteFst_kept, ite_self, implies_true,
      State.onField_kept, State.regWrFollow_kept, h, h3, h4]

theorem execPgStartDone_kept {s : State} (h : s.Kept c q p) (x0 x1) : Keeps c q p (execPgStartDone x0 x1 s) := by
  simp +contextual (maxDischargeDepth := 100) only [execPgStartDone, State.ite_kept, State.iteFst_kept, ite_self,
      implies_true, ite_keeps, next_keeps, answer_keeps, State.pgEnd_kept, State.startDone_kept, State.fieldStart_kept, h]

theorem execPgStopDone_kept {s : State} (h : s.Kept c q p) (x0) : Keeps c q p (execPgStopDone x0 s) := by
  simp +contextual (maxDischargeDepth := 100) only [execPgStopDone, State.ite_kept, State.iteFst_kept, ite_self, implies_true,
      ite_keeps, next_keeps, answer_keeps, State.pgEnd_kept, State.stopDone_kept, State.fieldSettle_kept, State.fEvent_kept,
      State.fsetPg_kept, h]

theorem execStartTimeout_kept {s : State} (h : s.Kept c q p) (x0) : Keeps c q p (execStartTimeout x0 s) := by
  simp +contextual (maxDischargeDepth := 100) only [execStartTimeout, State.upd_kept, State.updDma_kept, State.ite_kept,
      State.iteFst_kept, ite_self, implies_true, ite_keeps, next_keeps, answer_keeps, State.pgEnd_kept, State.pageFault_kept,
      State.fieldFault_kept, h]

theorem execStopTimeout_kept {s : State} (h : s.Kept c q p) (x0) : Keeps c q p (execStopTimeout x0 s) := by
  simp +contextual (maxDischargeDepth := 100) only [execStopTimeout, State.ite_kept, State.iteFst_kept, ite_self,
      implies_true, ite_keeps, next_keeps, answer_keeps, State.pgEnd_kept, State.pageFall_kept, State.fieldFault_kept, h]

theorem State.pairStall_kept {s : State} (h : s.Kept c q p) (x1) : (State.pairStall s x1).Kept c q p := by
  simp +contextual (maxDischargeDepth := 100) only [State.pairStall, State.when_kept, State.ite_kept, State.iteFst_kept,
      ite_self, implies_true, State.retirePair_kept, State.replacePairs_kept, State.lanesOut_kept, h]

theorem State.stalled_kept {s : State} (h : s.Kept c q p) (x1 x2) : (State.stalled s x1 x2).Kept c q p := by
  simp +contextual (maxDischargeDepth := 100) only [State.stalled, State.when_kept, State.ite_kept, State.iteFst_kept,
      ite_self, implies_true, State.pairFail_kept, State.injStep_kept, State.pairStall_kept, State.onField_kept,
      State.fieldFault_kept, State.pageFall_kept, h]

theorem execStallDetected_kept {s : State} (h : s.Kept c q p) (x0 x1) : Keeps c q p (execStallDetected x0 x1 s) := by
  simp +contextual (maxDischargeDepth := 100) only [execStallDetected, State.ite_kept, State.iteFst_kept, ite_self,
      implies_true, ite_keeps, next_keeps, answer_keeps, State.stalled_kept, h]

theorem State.evset_kept {s : State} (h : s.Kept c q p) (x1 x2) : (State.evset s x1 x2).Kept c q p := by
  simp +contextual (maxDischargeDepth := 100) only [State.evset, State.when_kept, State.ite_kept, State.iteFst_kept, ite_self,
      implies_true, State.raiseBits_kept, State.fieldQueue_kept, h]

theorem execPgEvsetWrite_kept {s : State} (h : s.Kept c q p) (x0 x1) : Keeps c q p (execPgEvsetWrite x0 x1 s) := by
  simp +contextual (maxDischargeDepth := 100) only [execPgEvsetWrite, State.ite_kept, State.iteFst_kept, ite_self,
      implies_true, ite_keeps, next_keeps, answer_keeps, State.evset_kept, h]

theorem State.pgLock_kept {s : State} (h : s.Kept c q p) (x1) : (State.pgLock s x1).Kept c q p := by
  simp +contextual (maxDischargeDepth := 100) only [State.pgLock, State.ite_kept, State.iteFst_kept, ite_self, implies_true,
      State.setBit_kept, h]

theorem execPgLockSet_kept {s : State} (h : s.Kept c q p) (x0) : Keeps c q p (execPgLockSet x0 s) := by
  simp +contextual (maxDischargeDepth := 100) only [execPgLockSet, State.ite_kept, State.iteFst_kept, ite_self, implies_true,
      ite_keeps, next_keeps, answer_keeps, State.pgLock_kept, h]

theorem State.mbDrop_kept {s : State} (h : s.Kept c q p) (x1) : (State.mbDrop s x1).Kept c q p := by
  simp +contextual (maxDischargeDepth := 100) only [State.mbDrop, State.ite_kept, State.iteFst_kept, ite_self, implies_true,
      State.raise_kept, State.count_kept, h]

theorem State.mbSeat_kept {s : State} (h : s.Kept c q p) (x1 x2 x3 x4) : (State.mbSeat s x1 x2 x3 x4).Kept c q p := by
  unfold State.mbSeat
  dsimp only
  repeat' first
    | (simp +contextual (maxDischargeDepth := 100) only [State.each_kept, State.ite_kept, State.iteFst_kept, ite_self,
        implies_true, State.eqOverflow_kept, State.mbDrop_kept, State.eqPush_kept, State.eqMsix_kept, h]; done)
    | split

theorem State.mbCan_kept {s : State} (h : s.Kept c q p) (x1 x2 x3) : (State.mbCan s x1 x2 x3).Kept c q p := by
  simp +contextual (maxDischargeDepth := 100) only [State.mbCan, State.upd_kept, State.updDma_kept, State.ite_kept,
      State.iteFst_kept, ite_self, implies_true, State.mbDrop_kept, State.canQueue_kept, h]

theorem State.mbFabric_kept {s : State} (h : s.Kept c q p) (x1 x2 x3) : (State.mbFabric s x1 x2 x3).Kept c q p := by
  simp +contextual (maxDischargeDepth := 100) only [State.mbFabric, State.ite_kept, State.iteFst_kept, ite_self, implies_true,
      State.mbDrop_kept, State.logRerr_kept, State.fabricSend_kept, h]

theorem State.mbStep_kept {s : State} (h : s.Kept c q p) (x1 x2) : (State.mbStep s x1 x2).Kept c q p := by
  simp +contextual (maxDischargeDepth := 100) only [State.mbStep, State.each_kept, State.ite_kept, State.iteFst_kept,
      ite_self, implies_true, State.mbDrop_kept, State.stepMessage_kept, h]

theorem State.mbDeliver_kept {s : State} (h : s.Kept c q p) (x1 x2) : (State.mbDeliver s x1 x2).Kept c q p := by
  unfold State.mbDeliver
  repeat' first
    | (simp +contextual (maxDischargeDepth := 100) only [State.ite_kept, State.iteFst_kept, ite_self, implies_true,
        State.mbSeat_kept, State.mbFabric_kept, State.mbCan_kept, State.mbStep_kept, h]; done)
    | split

theorem State.mbMatch_kept {s : State} (h : s.Kept c q p) (x1 x2) : (State.mbMatch s x1 x2).Kept c q p := by
  simp +contextual (maxDischargeDepth := 100) only [State.mbMatch, State.each_kept, State.when_kept, State.ite_kept,
      State.iteFst_kept, ite_self, implies_true, State.raise_kept, State.count_kept, State.mbSeat_kept, State.put_kept,
      State.mbDeliver_kept, h]

theorem State.messageMatch_kept {s : State} (h : s.Kept c q p) (x1) : (State.messageMatch s x1).Kept c q p := by
  unfold State.messageMatch
  repeat' first
    | (simp +contextual (maxDischargeDepth := 100) only [State.upd_kept, State.updDma_kept, State.ite_kept, State.iteFst_kept,
        ite_self, implies_true, State.injStep_kept, State.pageFall_kept, State.mbMatch_kept, h]; done)
    | split

theorem execMessageMatch_kept {s : State} (h : s.Kept c q p) (x0) : Keeps c q p (execMessageMatch x0 s) := by
  simp +contextual (maxDischargeDepth := 100) only [execMessageMatch, State.ite_kept, State.iteFst_kept, ite_self,
      implies_true, ite_keeps, next_keeps, answer_keeps, State.messageMatch_kept, h]

theorem State.mbDone_kept {s : State} (h : s.Kept c q p) (x1) : (State.mbDone s x1).Kept c q p := by
  simp +contextual (maxDischargeDepth := 100) only [State.mbDone, State.ite_kept, State.iteFst_kept, ite_self, implies_true,
      State.raise_kept, State.wrN_kept, h]

theorem State.mbOp_kept {s : State} (h : s.Kept c q p) (x1) (h1 : ∀ (t : State), t.Kept c q p → (x1 t).Kept c q p) :
    (State.mbOp s x1).Kept c q p := by
  simp +contextual (maxDischargeDepth := 100) only [State.mbOp, State.ite_kept, State.iteFst_kept, ite_self, implies_true,
      State.raise_kept, h, h1]

theorem State.mbWrite_kept {s : State} (h : s.Kept c q p) : (State.mbWrite s).Kept c q p := by
  simp +contextual (maxDischargeDepth := 100) only [State.mbWrite, State.ite_kept, State.iteFst_kept, ite_self, implies_true,
      State.mbDone_kept, State.setBrg_kept, h]

theorem State.mbRead_kept {s : State} (h : s.Kept c q p) : (State.mbRead s).Kept c q p := by
  simp +contextual (maxDischargeDepth := 100) only [State.mbRead, State.wr_kept, State.each_kept, State.ite_kept,
      State.iteFst_kept, ite_self, implies_true, State.mbDone_kept, h]

theorem execMbTableNop_kept {s : State} (h : s.Kept c q p) : Keeps c q p (execMbTableNop s) := by
  simp +contextual (maxDischargeDepth := 100) only [execMbTableNop, State.ite_kept, State.iteFst_kept, ite_self, implies_true,
      ite_keeps, next_keeps, answer_keeps, State.mbOp_kept, State.mbDone_kept, h]

theorem execMbTableWrite_kept {s : State} (h : s.Kept c q p) : Keeps c q p (execMbTableWrite s) := by
  simp +contextual (maxDischargeDepth := 100) only [execMbTableWrite, State.ite_kept, State.iteFst_kept, ite_self,
      implies_true, ite_keeps, next_keeps, answer_keeps, State.mbOp_kept, State.mbWrite_kept, h]

theorem execMbTableRead_kept {s : State} (h : s.Kept c q p) : Keeps c q p (execMbTableRead s) := by
  simp +contextual (maxDischargeDepth := 100) only [execMbTableRead, State.ite_kept, State.iteFst_kept, ite_self,
      implies_true, ite_keeps, next_keeps, answer_keeps, State.mbOp_kept, State.mbRead_kept, h]

theorem execMbTableReservedOp_kept {s : State} (h : s.Kept c q p) : Keeps c q p (execMbTableReservedOp s) := by
  simp +contextual (maxDischargeDepth := 100) only [execMbTableReservedOp, State.ite_kept, State.iteFst_kept, ite_self,
      implies_true, ite_keeps, next_keeps, answer_keeps, State.mbOp_kept, State.mbDone_kept, h]

theorem State.did_kept {s : State} (h : s.Kept c q p) (o : Answer) (ho : Keeps c q p o) : (s.did o).Kept c q p := by
  unfold State.did
  split
  · exact ho _ rfl
  · exact h

theorem State.regStore_kept {s : State} (h : s.Kept c q p) (x1 x2 x3) : (State.regStore s x1 x2 x3).Kept c q p := by
  simp +contextual (maxDischargeDepth := 100) only [State.regStore, State.wr_kept, State.when_kept, State.ite_kept,
      State.iteFst_kept, ite_self, implies_true, State.raise_kept, h]

theorem State.keepRwq_kept {s : State} (h : s.Kept c q p) (x1 x2) (h2 : ∀ (t : State), t.Kept c q p → (x2 t).Kept c q p) :
    (State.keepRwq s x1 x2).Kept c q p := by
  simp +contextual (maxDischargeDepth := 100) only [State.keepRwq, State.ite_kept, State.iteFst_kept, ite_self, implies_true,
      State.raise_kept, h, h2]

theorem State.headWrite_kept {s : State} (h : s.Kept c q p) (x1 x2 x3 x4) : (State.headWrite s x1 x2 x3 x4).Kept c q p := by
  simp +contextual (maxDischargeDepth := 100) only [State.headWrite, State.when_kept, State.ite_kept, State.iteFst_kept,
      ite_self, implies_true, State.pgSrst_kept, State.pgStop_kept, State.pgRun_kept, State.setEvents_kept, State.fieldQueue_kept,
      State.evset_kept, State.setInjPassed_kept, State.regStore_kept, State.injWrite_kept, State.pgLock_kept, h]

theorem State.seatWrite_kept {s : State} (h : s.Kept c q p) (x1 x2 x3 x4) : (State.seatWrite s x1 x2 x3 x4).Kept c q p := by
  simp +contextual (maxDischargeDepth := 100) only [State.seatWrite, State.ite_kept, State.iteFst_kept, ite_self,
      implies_true, State.sqDoorbell_kept, State.cqDoorbell_kept, State.eqDoorbell_kept, State.ringConsumed_kept,
      State.regStore_kept, h]

theorem State.fieldStore_kept {s : State} (h : s.Kept c q p) (x1 x2 x3) : (State.fieldStore s x1 x2 x3).Kept c q p := by
  simp +contextual (maxDischargeDepth := 100) only [State.fieldStore, State.wr_kept, State.when_kept, State.ite_kept,
      State.iteFst_kept, ite_self, implies_true, State.raise_kept, State.fieldQueue_kept, h]

theorem State.lsWrite_kept {s : State} (h : s.Kept c q p) (x1 x2 x3 x4) : (State.lsWrite s x1 x2 x3 x4).Kept c q p := by
  unfold State.lsWrite
  dsimp only
  split
  · exact State.did_kept h _ (execLsCmdWrite_kept h _ _ _)
  · split
    · split
      · exact State.did_kept h _ (execLsClr_kept h _ _)
      · exact h
    · exact State.fieldStore_kept h _ _ _

theorem State.fieldRegWrite_kept {s : State} (h : s.Kept c q p) (x1 x2 x3 x4) : (State.fieldRegWrite s x1 x2 x3 x4).Kept c q p
    := by
  simp +contextual (maxDischargeDepth := 100) only [State.fieldRegWrite, State.when_kept, State.ite_kept, State.iteFst_kept,
      ite_self, implies_true, State.did_kept, execFlResume_kept, execFlForce_kept, execFlFrst_kept, execDoSetWrite_kept,
      execDoClrWrite_kept, execDoFltClear_kept, execZtRelease_kept, execZtTest_kept, State.lsWrite_kept, State.fieldStore_kept, h]

theorem State.authGo_kept {s : State} (h : s.Kept c q p) : (State.authGo s).Kept c q p := by
  unfold State.authGo
  dsimp only
  repeat' first
    | (simp +contextual (maxDischargeDepth := 100) only [State.upd_kept, State.updDma_kept, State.ite_kept, State.iteFst_kept,
        ite_self, implies_true, State.did_kept, execAuthChallenge_kept, execAuthInjArm_kept, execAuthInjDisarm_kept,
        execAuthDebugUnlock_kept, execAuthDebugLock_kept, execAuthSvnCommit_kept, execAuthOwnerSet_kept, State.mbxRun_kept,
        executeBody_kept, State.authFail_kept, refuse_kept, h]; done)
    | split

theorem State.mbxGo_kept {s : State} (h : s.Kept c q p) : (State.mbxGo s).Kept c q p := by
  unfold State.mbxGo
  repeat' first
    | (simp +contextual (maxDischargeDepth := 100) only [State.upd_kept, State.updDma_kept, State.ite_kept, State.iteFst_kept,
        ite_self, implies_true, State.useFree_kept, State.did_kept, execMbxNop_kept, execSeatOpen_kept, execSeatClose_kept,
        execSeatReset_kept, execSeatShare_kept, execSeatBind_kept, execSeatLost_kept, execQueueSet_kept, execQueueDel_kept,
        execRingSet_kept, execRingDel_kept, execGrant_kept, execRevoke_kept, execXlateSet_kept, execXlateInv_kept,
        execSeatInfo_kept, State.authGo_kept, execRecInfo_kept, execRecErase_kept, execRecWrite_kept, execRecVerify_kept,
        execRecSelect_kept, execRecRestart_kept, execMbxBadOp_kept, h]; done)
    | split

theorem State.calGo_kept {s : State} (h : s.Kept c q p) (x1 x2) : (State.calGo s x1 x2).Kept c q p := by
  unfold State.calGo
  repeat' first
    | (simp +contextual (maxDischargeDepth := 100) only [State.ite_kept, State.iteFst_kept, ite_self, implies_true,
        State.did_kept, execCalNop_kept, execCalConnect_kept, execCalMeasure_kept, execCalRelease_kept, execCalRead_kept,
        execCalCommit_kept, execCalRestoreFactory_kept, execCalReadFactory_kept, execCalReservedOp_kept, h]; done)
    | split

theorem State.crewGo_kept {s : State} (h : s.Kept c q p) (x1 x2) : (State.crewGo s x1 x2).Kept c q p := by
  unfold State.crewGo
  repeat' first
    | (simp +contextual (maxDischargeDepth := 100) only [State.ite_kept, State.iteFst_kept, ite_self, implies_true,
        State.did_kept, execCrewNop_kept, execCrewJoin_kept, execCrewSetmask_kept, execCrewSeal_kept, execCrewOpen_kept,
        execCrewLeave_kept, execCrewTrans_kept, execCrewReduce_kept, execCrewGrade_kept, execCrewInfo_kept,
        execCrewReservedOp_kept, h]; done)
    | split

theorem State.macGo_kept {s : State} (h : s.Kept c q p) (x1) : (State.macGo s x1).Kept c q p := by
  unfold State.macGo
  repeat' first
    | (simp +contextual (maxDischargeDepth := 100) only [State.ite_kept, State.iteFst_kept, ite_self, implies_true,
        State.did_kept, execMacAdd_kept, execMacDel_kept, execMacLookup_kept, execMacFlushPort_kept, execMacFlushAll_kept,
        execMacRead_kept, State.tableOp_kept, State.macDone_kept, h]; done)
    | split

theorem State.mtrGo_kept {s : State} (h : s.Kept c q p) (x1 x2) : (State.mtrGo s x1 x2).Kept c q p := by
  unfold State.mtrGo
  repeat' first
    | (simp +contextual (maxDischargeDepth := 100) only [State.ite_kept, State.iteFst_kept, ite_self, implies_true,
        State.did_kept, execMtrAlloc_kept, execMtrFree_kept, execMtrWrite_kept, execMtrRead_kept, State.tableOp_kept,
        State.mtrDone_kept, h]; done)
    | split

theorem State.keyGo_kept {s : State} (h : s.Kept c q p) (x1) : (State.keyGo s x1).Kept c q p := by
  unfold State.keyGo
  repeat' first
    | (simp +contextual (maxDischargeDepth := 100) only [State.ite_kept, State.iteFst_kept, ite_self, implies_true,
        State.did_kept, execKeyNop_kept, execKeyGenerate_kept, execKeyDerive_kept, execKeyLoad_kept, execKeyExport_kept,
        execKeyCommit_kept, execKeyDiscard_kept, execKeyInvalidate_kept, execKeyRestore_kept, execKeyLoadPub_kept,
        execKeyReservedOp_kept, h]; done)
    | split

theorem State.cryJobGo_kept {s : State} (h : s.Kept c q p) : (State.cryJobGo s).Kept c q p := by
  unfold State.cryJobGo
  repeat' first
    | (simp +contextual (maxDischargeDepth := 100) only [State.ite_kept, State.iteFst_kept, ite_self, implies_true,
        State.did_kept, execCrySha512_kept, execCryHmac512_kept, execCryGcmEnc_kept, execCryGcmDec_kept, execCryKw_kept,
        execCryKwu_kept, execCryPssSign_kept, execCryPssVerify_kept, execCryBadOp_kept, h]; done)
    | split

theorem State.attGo_kept {s : State} (h : s.Kept c q p) (x1) : (State.attGo s x1).Kept c q p := by
  unfold State.attGo
  repeat' first
    | (simp +contextual (maxDischargeDepth := 100) only [State.ite_kept, State.iteFst_kept, ite_self, implies_true,
        State.did_kept, execAttNop_kept, execAttReport_kept, execAttCert_kept, execAttExtend_kept, h]; done)
    | split

theorem State.coreWrite_kept {s : State} (h : s.Kept c q p) (x1 x2 x3) : (State.coreWrite s x1 x2 x3).Kept c q p := by
  simp +contextual (maxDischargeDepth := 100) only [State.coreWrite, State.when_kept, State.ite_kept, State.iteFst_kept,
      ite_self, implies_true, State.slackClear_kept, State.backupRequest_kept, State.did_kept, execRstMgmtrst_kept,
      execRstDevrst_kept, execLeapWrite_kept, execLeapRead_kept, execLeapClear_kept, execCrumbAreaWrite_kept, State.regStore_kept,
      h]

theorem State.measWrite_kept {s : State} (h : s.Kept c q p) (x1 x2 x3) : (State.measWrite s x1 x2 x3).Kept c q p := by
  have hr := State.regStore_kept h x1 x2 x3
  unfold State.measWrite
  dsimp only
  split
  · exact State.calGo_kept h _ _
  · split
    · split
      · exact State.ovenStart_kept hr _
      · exact State.ovenStop_kept hr _
    · split
      · exact State.did_kept hr _ (execOdrWrite_kept hr _ _)
      · exact hr

theorem State.chanWrite_kept {s : State} (h : s.Kept c q p) (x1 x2 x3 x4 x5) : (State.chanWrite s x1 x2 x3 x4 x5).Kept c q p := by
  simp +contextual (maxDischargeDepth := 100) only [State.chanWrite, State.each_kept, State.ite_kept, State.iteFst_kept,
      ite_self, implies_true, State.issueCmd_kept, State.regStore_kept, h]

theorem State.engineWrite_kept {s : State} (h : s.Kept c q p) (x1 x2 x3) : (State.engineWrite s x1 x2 x3).Kept c q p := by
  have hk : ∀ f : State → State, (∀ t : State, t.Kept c q p → (f t).Kept c q p) → (s.keepRwq 0x037 f).Kept c q p :=
    fun f hf => State.keepRwq_kept h _ f hf
  have hc : ∀ d : State → List (Nat × Crit), (s.keepRwq 0x037 fun s => { s with crits := d s }).Kept c q p :=
    fun d => hk _ fun t ht => ht.congr rfl rfl rfl rfl
  have hr : ∀ d : State → List (Nat × Word), (s.keepRwq 0x037 fun s => { s with ranksrc := d s }).Kept c q p :=
    fun d => hk _ fun t ht => ht.congr rfl rfl rfl rfl
  have hg := State.did_kept h (execGainCommit x3 s) (execGainCommit_kept h _)
  have ha := State.did_kept h (execAccSelGo (x3.fld 7 0) s) (execAccSelGo_kept h _)
  unfold State.engineWrite
  simp only [State.ite_kept, ite_self, hg, ha, hc, hr, State.put_kept h, State.progWritten_kept h, State.eisBegin_kept h,
    State.crewGo_kept h, State.regStore_kept h]

theorem State.timeWrite_kept {s : State} (h : s.Kept c q p) (x1 x2 x3 x4) : (State.timeWrite s x1 x2 x3 x4).Kept c q p := by
  unfold State.timeWrite
  repeat' first
    | (simp +contextual (maxDischargeDepth := 100) only [State.ite_kept, State.iteFst_kept, ite_self, implies_true,
        State.did_kept, execTbIncLoWrite_kept, execTbIncHiWrite_kept, execTbStepGo_kept, execTbOfsInWrite_kept, State.schOp_kept,
        State.catDone_kept, State.catOp_kept, State.raise_kept, State.regStore_kept, h]; done)
    | split

theorem State.bridgeWrite_kept {s : State} (h : s.Kept c q p) (x1 x2 x3) : (State.bridgeWrite s x1 x2 x3).Kept c q p := by
  unfold State.bridgeWrite
  dsimp only
  repeat' first
    | (simp +contextual (maxDischargeDepth := 100) only [State.when_kept, State.upd_kept, State.updDma_kept, State.ite_kept,
        State.iteFst_kept, ite_self, implies_true, State.keepRwq_kept, State.did_kept, execRtFence_kept, State.voteWrite_kept,
        State.wakeRequest_kept, execWindowCommit_kept, execInboundCommit_kept, State.winLock_kept, execSigTxWrite_kept,
        execMbTableNop_kept, execMbTableWrite_kept, execMbTableRead_kept, execMbTableReservedOp_kept, State.regStore_kept, h];
        done)
    | split

theorem State.switchWrite_kept {s : State} (h : s.Kept c q p) (x1 x2 x3) : (State.switchWrite s x1 x2 x3).Kept c q p := by
  simp +contextual (maxDischargeDepth := 100) only [State.switchWrite, State.when_kept, State.ite_kept, State.iteFst_kept,
      ite_self, implies_true, State.macGo_kept, State.did_kept, execVlanApply_kept, execVlanRead_kept, State.mtrGo_kept,
      State.regStore_kept, State.ethDown_kept, h]

theorem State.busWrite_kept {s : State} (h : s.Kept c q p) (x1 x2 x3) : (State.busWrite s x1 x2 x3).Kept c q p := by
  simp +contextual (maxDischargeDepth := 100) only [State.busWrite, State.ite_kept, State.iteFst_kept, ite_self, implies_true,
      State.did_kept, execNsConfirm_kept, execSerTxdWrite_kept, State.regStore_kept, h]

theorem State.secWrite_kept {s : State} (h : s.Kept c q p) (x1 x2 x3) : (State.secWrite s x1 x2 x3).Kept c q p := by
  simp +contextual (maxDischargeDepth := 100) only [State.secWrite, State.ite_kept, State.iteFst_kept, ite_self, implies_true,
      State.keyGo_kept, State.cryJobGo_kept, State.attGo_kept, State.regStore_kept, h]

theorem State.cvuWrite_kept {s : State} (h : s.Kept c q p) (x1 x2 x3) : (State.cvuWrite s x1 x2 x3).Kept c q p := by
  unfold State.cvuWrite
  dsimp only
  split
  · refine State.when_kept (State.when_kept (State.when_kept h _ _ ?_) _ _ ?_) _ _ ?_
    · exact fun t ht => State.did_kept ht _ (execCvuStart_kept ht _)
    · exact fun t ht => State.did_kept ht _ (execCvuEnd_kept ht _)
    · exact fun t ht => State.did_kept ht _ (execCvuRelease_kept ht _)
  · split
    · exact State.did_kept h _ (execCvuDin1_kept h _ _)
    · split
      · exact State.did_kept h _ (execCvuDin2_kept h _ _)
      · split
        · exact State.did_kept h _ (execCvuDin4_kept h _ _)
        · exact State.regStore_kept h _ _ _

theorem State.kept_of_ite {b : Prop} [Decidable b] {s t : State} (h1 : s.Kept c q p) (h2 : t.Kept c q p) : (if b then s else
    t).Kept c q p := by
  split
  · exact h1
  · exact h2

theorem State.blockWrite_kept {s : State} (h : s.Kept c q p) (x1 x2 x3 x4 x5) : (State.blockWrite s x1 x2 x3 x4 x5).Kept c q p
    := by
  unfold State.blockWrite
  dsimp only
  refine State.kept_of_ite (State.coreWrite_kept h _ _ _) ?_
  refine State.kept_of_ite (State.measWrite_kept h _ _ _) ?_
  refine State.kept_of_ite (State.chanWrite_kept h _ _ _ _ _) ?_
  refine State.kept_of_ite (State.engineWrite_kept h _ _ _) ?_
  refine State.kept_of_ite (State.kept_of_ite (State.did_kept h _ (execMreqWrite_kept h _ _)) (State.regStore_kept h _ _ _)) ?_
  refine State.kept_of_ite (State.timeWrite_kept h _ _ _ _) ?_
  refine State.kept_of_ite (State.bridgeWrite_kept h _ _ _) ?_
  refine State.kept_of_ite (State.kept_of_ite (State.mbxGo_kept h) h) ?_
  refine State.kept_of_ite (State.kept_of_ite (State.did_kept h _ (execSmuResumeRetry_kept h _)) (State.kept_of_ite
      (State.did_kept h _ (execSmuResumeAbort_kept h _)) h)) ?_
  refine State.kept_of_ite (State.switchWrite_kept h _ _ _) ?_
  refine State.kept_of_ite (State.busWrite_kept h _ _ _) ?_
  refine State.kept_of_ite (State.fieldRegWrite_kept h _ _ _ _) ?_
  refine State.kept_of_ite (State.secWrite_kept h _ _ _) ?_
  refine State.kept_of_ite (State.cvuWrite_kept h _ _ _) ?_
  exact State.regStore_kept h _ _ _

theorem State.regWriteAs_kept {s : State} (h : s.Kept c q p) (x1 x2 x3 x4) : (State.regWriteAs s x1 x2 x3 x4).Kept c q p := by
  unfold State.regWriteAs
  repeat' first
    | (simp +contextual (maxDischargeDepth := 100) only [State.ite_kept, State.iteFst_kept, ite_self, implies_true,
        State.seatWrite_kept, State.headWrite_kept, State.blockWrite_kept, h]; done)
    | split

theorem State.regWrite_kept {s : State} (h : s.Kept c q p) (x1 x2) : (State.regWrite s x1 x2).Kept c q p := by
  simp +contextual (maxDischargeDepth := 100) only [State.regWrite, State.ite_kept, State.iteFst_kept, ite_self, implies_true,
      State.regWriteAs_kept, h]

theorem State.misaligned_kept {s : State} (h : s.Kept c q p) (x1) : (State.misaligned s x1).Kept c q p := by
  simp +contextual (maxDischargeDepth := 100) only [State.misaligned, State.when_kept, State.ite_kept, State.iteFst_kept,
      ite_self, implies_true, State.raise_kept, State.count_kept, h]

theorem execRegisterWrite_kept {s : State} (h : s.Kept c q p) (x0 x1) : Keeps c q p (execRegisterWrite x0 x1 s) := by
  simp +contextual (maxDischargeDepth := 100) only [execRegisterWrite, State.ite_kept, State.iteFst_kept, ite_self,
      implies_true, ite_keeps, next_keeps, answer_keeps, State.misaligned_kept, State.regWrite_kept, h]

theorem State.readActs_kept {s : State} (h : s.Kept c q p) (x1) : (State.readActs s x1).Kept c q p := by
  unfold State.readActs
  repeat' first
    | (simp +contextual (maxDischargeDepth := 100) only [State.ite_kept, State.iteFst_kept, ite_self, implies_true,
        State.did_kept, execTbSecLoRead_kept, execRerrLogRead_kept, execWerrLogRead_kept, execFaultLogRead_kept,
        execInjLogRead_kept, execLifeWinRead_kept, State.lifeReadEcc_kept, execSerRxdRead_kept, execSerRxfrRead_kept,
        execCatFifoRead_kept, h]; done)
    | split

theorem State.readAfter_kept {s : State} (h : s.Kept c q p) (x1) : (State.readAfter s x1).Kept c q p := by
  unfold State.readAfter
  repeat' first
    | (simp +contextual (maxDischargeDepth := 100) only [State.when_kept, State.ite_kept, State.iteFst_kept, ite_self,
        implies_true, State.useFree_kept, State.keyBufRead_kept, State.put_kept, State.fput_kept, h]; done)
    | split

theorem State.regRead_kept {s : State} (h : s.Kept c q p) (x1) : (State.regRead s x1).1.Kept c q p := by
  simp +contextual (maxDischargeDepth := 100) only [State.regRead, State.ite_kept, State.iteFst_kept, ite_self, implies_true,
      State.readActs_kept, State.readAfter_kept, h]

theorem State.sqeRead_kept {s : State} (h : s.Kept c q p) (x1 x2 x3 x4) : (State.sqeRead s x1 x2 x3 x4).Kept c q p := by
  unfold State.sqeRead
  repeat' first
    | (simp +contextual (maxDischargeDepth := 100) only [State.ite_kept, State.iteFst_kept, ite_self, implies_true,
        State.complete_kept, State.regRead_kept, h]; done)
    | split

theorem State.sqeWrite_kept {s : State} (h : s.Kept c q p) (x1 x2 x3 x4) : (State.sqeWrite s x1 x2 x3 x4).Kept c q p := by
  unfold State.sqeWrite
  repeat' first
    | (simp +contextual (maxDischargeDepth := 100) only [State.ite_kept, State.iteFst_kept, ite_self, implies_true,
        State.complete_kept, State.regWriteAs_kept, State.regWrFollow_kept, h]; done)
    | split

theorem execSqeRegRd_kept {s : State} (h : s.Kept c q p) (x0 x1 x2) : Keeps c q p (execSqeRegRd x0 x1 x2 s) := by
  unfold execSqeRegRd
  repeat' first
    | (simp +contextual (maxDischargeDepth := 100) only [State.ite_kept, State.iteFst_kept, ite_self, implies_true, ite_keeps,
        next_keeps, answer_keeps, State.sqe_kept, State.sqeRead_kept, h]; done)
    | split

theorem execSqeRegWr_kept {s : State} (h : s.Kept c q p) (x0 x1 x2) : Keeps c q p (execSqeRegWr x0 x1 x2 s) := by
  simp +contextual (maxDischargeDepth := 100) only [execSqeRegWr, State.ite_kept, State.iteFst_kept, ite_self, implies_true,
      ite_keeps, next_keeps, answer_keeps, State.regWrFollow_kept, State.sqe_kept, State.sqeWrite_kept, h]

theorem State.ctrlAccess_kept {s : State} (h : s.Kept c q p) (x1) : (State.ctrlAccess s x1).1.Kept c q p := by
  have key : ∀ (l : List Nat) (x : State × List Byte), x.1.Kept c q p → ((l.foldl (fun (x : State × List Byte) a =>
      let y := x.1.regRead a; (y.1, x.2 ++ leBytes 4 y.2.toNat)) x).1).Kept c q p := by
    intro l
    induction l with
    | nil => exact fun _ hx => hx
    | cons a l ih => exact fun x hx => ih _ (State.regRead_kept hx _)
  unfold State.ctrlAccess
  split
  · exact State.raise_kept h _ _
  · dsimp only
    split
    · exact State.each_kept h _ _ fun t a ht => State.regWrite_kept ht _ _
    · exact key _ _ h

theorem State.inboundServe_kept {s : State} (h : s.Kept c q p) (x1) : (State.inboundServe s x1).Kept c q p := by
  unfold State.inboundServe
  dsimp only
  repeat' first
    | (simp +contextual (maxDischargeDepth := 100) only [State.dramWrite_kept, State.ite_kept, State.iteFst_kept, ite_self,
        implies_true, State.wcplSend_kept, State.dramRead_kept, State.ctrlAccess_kept, h]; done)
    | split

theorem State.lockBroken_kept {s : State} (h : s.Kept c q p) (x1) : (State.lockBroken s x1).Kept c q p := by
  simp +contextual (maxDischargeDepth := 100) only [State.lockBroken, State.ite_kept, State.iteFst_kept, ite_self,
      implies_true, State.wcplSend_kept, State.setBrg_kept, h]

theorem State.inboundPump_kept {s : State} (h : s.Kept c q p) : (State.inboundPump s).Kept c q p := by
  simp +contextual (maxDischargeDepth := 100) only [State.inboundPump, State.each_kept, State.ite_kept, State.iteFst_kept,
      ite_self, implies_true, State.inboundServe_kept, State.setBrg_kept, h]

theorem State.lockShow_kept {s : State} (h : s.Kept c q p) : (State.lockShow s).Kept c q p := by
  simp +contextual (maxDischargeDepth := 100) only [State.lockShow, State.ite_kept, State.iteFst_kept, ite_self, implies_true,
      State.setBit_kept, h]

theorem State.lockGrant_kept {s : State} (h : s.Kept c q p) (x1) : (State.lockGrant s x1).Kept c q p := by
  simp +contextual (maxDischargeDepth := 100) only [State.lockGrant, State.ite_kept, State.iteFst_kept, ite_self,
      implies_true, State.setBrg_kept, State.wcplSend_kept, State.put_kept, State.lockShow_kept, h]

theorem State.lockFree_kept {s : State} (h : s.Kept c q p) (x1) : (State.lockFree s x1).Kept c q p := by
  unfold State.lockFree
  dsimp only
  repeat' first
    | (simp +contextual (maxDischargeDepth := 100) only [State.ite_kept, State.iteFst_kept, ite_self, implies_true,
        State.lockShow_kept, State.setBrg_kept, State.inboundPump_kept, State.lockGrant_kept, h]; done)
    | split

theorem State.queuesFail_kept {s : State} (h : s.Kept c q p) : (State.queuesFail s).Kept c q p := by
  simp +contextual (maxDischargeDepth := 100) only [State.queuesFail, State.each_kept, State.ite_kept, State.iteFst_kept,
      ite_self, implies_true, State.setBrg_kept, State.wcplSend_kept, State.setWinAccs_kept, State.winFail_kept,
      State.lockResult_kept, h]

theorem State.inboundArrive_kept {s : State} (h : s.Kept c q p) (x1 x2) (h2 : ∀ (t : State), t.Kept c q p → (x2 t).Kept c q p)
    : (State.inboundArrive s x1 x2).Kept c q p := by
  simp +contextual (maxDischargeDepth := 100) only [State.inboundArrive, State.ite_kept, State.iteFst_kept, ite_self,
      implies_true, State.wcplSend_kept, State.injStep_kept, State.pageFall_kept, State.queuesFail_kept, h, h2]

theorem State.inbound_kept {s : State} (h : s.Kept c q p) (x1) : (State.inbound s x1).Kept c q p := by
  simp +contextual (maxDischargeDepth := 100) only [State.inbound, State.ite_kept, State.iteFst_kept, ite_self, implies_true,
      State.inboundArrive_kept, State.raise_kept, State.wcplSend_kept, State.lockBroken_kept, State.setBrg_kept,
      State.inboundServe_kept, h]

theorem execInboundRequest_kept {s : State} (h : s.Kept c q p) (x0 x1 x2 x3) : Keeps c q p (execInboundRequest x0 x1 x2 x3 s)
    := by
  simp +contextual (maxDischargeDepth := 100) only [execInboundRequest, State.ite_kept, State.iteFst_kept, ite_self,
      implies_true, ite_keeps, next_keeps, answer_keeps, State.inbound_kept, h]

theorem State.lockRequest_kept {s : State} (h : s.Kept c q p) (x1) : (State.lockRequest s x1).Kept c q p := by
  simp +contextual (maxDischargeDepth := 100) only [State.lockRequest, State.ite_kept, State.iteFst_kept, ite_self,
      implies_true, State.inboundArrive_kept, State.lockFree_kept, State.wcplSend_kept, State.lockBroken_kept,
      State.lockGrant_kept, State.setBrg_kept, h]

theorem execLockRequestRx_kept {s : State} (h : s.Kept c q p) (x0 x1 x2 x3) : Keeps c q p (execLockRequestRx x0 x1 x2 x3 s) := by
  simp +contextual (maxDischargeDepth := 100) only [execLockRequestRx, State.ite_kept, State.iteFst_kept, ite_self,
      implies_true, ite_keeps, next_keeps, answer_keeps, State.lockRequest_kept, h]

theorem State.lockExpire_kept {s : State} (h : s.Kept c q p) (x1) : (State.lockExpire s x1).Kept c q p := by
  unfold State.lockExpire
  repeat' first
    | (simp +contextual (maxDischargeDepth := 100) only [State.ite_kept, State.iteFst_kept, ite_self, implies_true,
        State.lockFree_kept, State.setBrg_kept, h]; done)
    | split

theorem execLockHoldTimeout_kept {s : State} (h : s.Kept c q p) (x0) : Keeps c q p (execLockHoldTimeout x0 s) := by
  simp +contextual (maxDischargeDepth := 100) only [execLockHoldTimeout, State.ite_kept, State.iteFst_kept, ite_self,
      implies_true, ite_keeps, next_keeps, answer_keeps, State.lockExpire_kept, h]

theorem State.msixGo_kept {s : State} (h : s.Kept c q p) (x1 x2) : (State.msixGo s x1 x2).Kept c q p := by
  simp +contextual (maxDischargeDepth := 100) only [State.msixGo, State.ite_kept, State.iteFst_kept, ite_self, implies_true,
      State.setMsix_kept, State.send_kept, h]

theorem State.queueStep_kept {s : State} (h : s.Kept c q p) (i kept w) : (s.queueStep i kept w).1.Kept c q p := by
  have hm : ∀ t : State, t.Kept c q p → ∀ v : Option Nat, (v.elim t fun n => t.msixGo i n).Kept c q p := by
    intro t ht v
    cases v with
    | none => exact ht
    | some n => exact State.msixGo_kept ht _ _
  have hx := State.useFree_kept (State.translateBy_kept h (Config.hostWord s.free) i w.addr true)
  unfold State.queueStep
  dsimp only
  repeat' split
  · exact h
  · exact hm _ h _
  · exact h
  · exact State.putSeatBit_kept (State.smuFault_kept hx _ _ _) _ _ _ _
  · exact hm _ (State.xlatWrite_kept hx _ _ _) _

theorem State.queueSeat_kept {s : State} (h : s.Kept c q p) (i : Nat) : (s.queueSeat i).Kept c q p := by
  have key : ∀ (l : List QWrite) (x : State × List QWrite), x.1.Kept c q p →
      (l.foldl (fun (x : State × List QWrite) w => x.1.queueStep i x.2 w) x).1.Kept c q p := by
    intro l
    induction l with
    | nil => exact fun _ hx => hx
    | cons w l ih => exact fun x hx => ih _ (State.queueStep_kept hx _ _ _)
  unfold State.queueSeat
  split
  · exact h
  · have h0 := State.modSeat_kept h i fun t => { t with qout := [] }
    exact State.modSeat_kept (key _ (_, []) h0) _ _

theorem State.idle_kept {s : State} (h : s.Kept c q p) : (State.idle s).Kept c q p := by
  simp +contextual (maxDischargeDepth := 100) only [State.idle, State.each_kept, State.ite_kept, State.iteFst_kept, ite_self,
      implies_true, State.tick_kept, State.queueSeat_kept, h]

end Sys2Proof.Machine
end

