-- ==== Sys2Proof/Tests/Slice0.lean ====
section
/-!
SUPPORT. Tests: ill-formed terms that the checks refuse, examples that the manual works out, and, for each statement, states and
operands that meet its hypotheses.
-/
namespace Sys2Proof.Tests
open Sys2Proof Sys2Proof.Machine

/-- Reset with the pages of a list RUNNING. -/
def runs (l : List Nat) : State := State.reset.each l fun s p => s.setPg p 3

/-- Reset with a page in a state. -/
def pgAt (p n : Nat) : State := State.reset.setPg p n

/-- A state with registers written. -/
def holds (s : State) (l : List (Nat × Word)) : State := s.each l fun s e => s.wr e.1 e.2

/-- Reset with domain D held cleared. -/
def heldState : State := { State.reset with power := { cause := some 1, held := true } }

/-- Reset with a reset triggered. -/
def haltState : State := { State.reset with power := { cause := some 2 } }

/-- Reset in the Feather state. -/
def featherState : State := State.reset.wr Reg.PWR_STATE 2

/-- Reset with a seat in a state. -/
def seatAt (i n : Nat) : State := State.reset.put (Reg.ST_STAT i) 2 0 n

/-! ### Witnesses of the hypotheses of the statements, in their order -/

theorem witness_StepExecutesTheFrontCommand :
    (State.reset.withPending [.baseStrobe]).pending = [.baseStrobe] ∧ State.reset.pending = [] := by decide

theorem witness_PageCommandsFollowTheTable :
    (∀ p ∈ [0x010, 0x0F9], p < 256 ∧ State.reset.has p = true ∧ pageLife p = true ∧ fieldPage p = false ∧
      State.reset.power.held = false ∧ State.reset.easyHeld p = false ∧ ∀ n, n < 5 → (pgAt p (n + 1)).pg p = n + 1 ∧
      p ∉ (pgAt p (n + 1)).stopAsked ∧ (pgAt p (n + 1)).has p = true ∧ (pgAt p (n + 1)).easyHeld p = false) ∧
    (State.reset.has 0x000 = true ∧ pageLife 0x000 = false ∧ State.reset.easyHeld 0x000 = false) ∧
    (State.reset.has 0x0FF = false ∧ fieldPage 0x0FF = false ∧ State.reset.easyHeld 0x0FF = false) := by decide

theorem witness_PageStartsAndStopsEnd :
    (State.reset.has 0x010 = true ∧ pageLife 0x010 = true ∧ fieldPage 0x010 = false ∧ (pgAt 0x010 2).pg 0x010 = 2 ∧
      (pgAt 0x010 4).pg 0x010 = 4 ∧ (pgAt 0x010 4).stopHeld 0x010 = false) ∧
    ((holds (pgAt 0x030 2) [(Reg.LOOP_CFG, 33)]).pg 0x030 = 2 ∧ checksStore 0x030 = false ∧
      (holds (pgAt 0x030 2) [(Reg.LOOP_CFG, 33)]).startOk 0x030 = false) ∧
    ((pgAt 0x035 2).startOk 0x035 = true ∧ 0x035 ∈ ({ pgAt 0x035 2 with stopAsked := [0x035] } : State).stopAsked ∧ checksStore 0x035 = false) ∧
    ((pgAt 0x010 3).bit (Reg.PG_INJARM 0x010) 0 = false ∧ (pgAt 0x010 3).pg 0x010 = 3 ∧ (pgAt 0x010 3).power.held = false) := by decide

theorem witness_HeaderAndSlackWrites :
    (State.reset.power.held = false ∧ State.reset.has 0x0F9 = true ∧ fieldPage 0x0F9 = false ∧ State.reset.has 0x0FF = false) ∧
    (0x0FFFFF < 0x100000 ∧ 0x0FFFFF % 4 ≠ 0 ∧ 0x4FFFFC < 0x500000 ∧ 0x4FFFFC % 4 = 0 ∧ State.reset.isReg 0x4FFFFC = false) ∧
    ((0x101 : Word).getLsbD 8 = true ∧ (0x001 : Word).getLsbD 8 = false) := by decide

theorem witness_PageControlTakesTheHighestBit :
    State.reset.power.held = false ∧ State.reset.has 0 = true ∧ State.reset.has 0x0F9 = true ∧ (7 : Word).getLsbD 2 = true ∧
    (3 : Word).getLsbD 2 = false ∧ (3 : Word).getLsbD 1 = true ∧ (1 : Word).getLsbD 1 = false ∧ (1 : Word).getLsbD 0 = true ∧
    (8 : Word).getLsbD 0 = false := by decide

/-- Reset with the governor enabled at a code, its bounds 20 and 60, RAISE 100 and LOWER 200. -/
def govAt (code slack run : Nat) : State :=
  { holds State.reset [(Reg.PWR_GOV_CTRL, 0x003C1401), (Reg.PWR_GOV_THR, 0x00C80064), (Reg.PWR_GOV_STAT, BitVec.ofNat 32 code)] with
    winSlack := slack, lowRun := run }

theorem witness_GovernorEvaluatesTheWindow :
    (govAt 20 99 0).halted = false ∧ (govAt 20 99 0).bit Reg.PWR_GOV_CTRL 0 = true ∧ (govAt 20 99 0).vidMin = 20 ∧
    (govAt 20 99 0).vidMax = 60 ∧ (govAt 20 99 0).winSlack < (govAt 20 99 0).get Reg.PWR_GOV_THR 15 0 ∧
    (govAt 20 99 0).get Reg.PWR_GOV_STAT 6 0 = 20 ∧ (govAt 60 99 0).get Reg.PWR_GOV_STAT 6 0 = 60 ∧
    (govAt 21 201 63).get Reg.PWR_GOV_THR 31 16 < (govAt 21 201 63).winSlack ∧
    ¬ (govAt 21 100 63).get Reg.PWR_GOV_THR 31 16 < (govAt 21 100 63).winSlack ∧
    ¬ (govAt 21 100 63).winSlack < (govAt 21 100 63).get Reg.PWR_GOV_THR 15 0 := by decide

/-- Reset with die A RUNNING and a frame of it awaited. -/
def dieWaits : State := (runs [0x010]).modDie 0 fun d => { d with waiting := true }

theorem witness_MeasurementCommands :
    (wfSamples [{ j := 127, v := -8388608, i := 8388607 }] = true ∧ State.reset.halted = false ∧ (dieWaits.die 0).waiting = true ∧
      dieWaits.bit (Reg.PG_INJARM 0x010) 0 = false ∧ (State.reset.die 1).waiting = false ∧ dieWaits.hasCh 255 = true ∧
      (dieWaits.wr (mcfg 0) 0).delivers 0 = true ∧ (dieWaits.wr (mcfg 0) 0).bit (mcfg 0) 18 = false) ∧
    (State.reset.hasDie 1 = true ∧ (State.reset.die 1).powered = true ∧
      (State.reset.wr (Reg.MEAS_OVEN_CTRL 0) 1).ovenRuns 0 = true ∧
      (holds State.reset [(Reg.MEAS_OVEN_CTRL 0, 1), (Reg.MEAS_OVEN_STAT 0, 2)]).ovenRuns 0 = true ∧
      (holds State.reset [(Reg.MEAS_OVEN_CTRL 0, 1), (Reg.MEAS_OVEN_STAT 0, 2)]).get (Reg.MEAS_OVEN_STAT 0) 2 0 = 2) ∧
    (dieWaits.bit (mcfg 0) 19 = true ∧ (holds dieWaits [(mcfg 0, 0x00080000), (Reg.MEAS_SOC_CFG 0, 1)]).socDue 0 = true ∧
      dieWaits.bit (mstat 0) 5 = false) ∧
    (((State.reset.modMeas 255 fun m => { m with soc := some { start := 0 } }).chMeas 255).soc = some { start := 0 }) := by decide

theorem witness_CalibrationCommands :
    (State.reset.has 0x013 = true ∧ (State.reset.wr (Reg.CAL_STAT 1) 1).bit (Reg.CAL_STAT 1) 0 = true ∧
      State.reset.bit (Reg.CAL_STAT 1) 0 = false ∧ State.reset.running 0x013 = false ∧ (runs [0x013]).running 0x013 = true) ∧
    ((holds (runs [0x012]) [(Reg.CAL_STAT 0, 0x00800000)]).bit (Reg.CAL_STAT 0) 23 = true ∧
      (holds (runs [0x012]) [(Reg.CAL_STAT 0, 0x00800000)]).bit (Reg.CAL_STAT 0) 0 = false ∧
      (holds (runs [0x012]) [(Reg.CAL_STAT 0, 0x00800000)]).running 0x012 = true) ∧
    State.reset.hasCh (State.reset.calChan 0) = true ∧ State.reset.hasCh (State.reset.calChan 1) = true ∧
    ((State.reset.modDie 0 fun d => { d with cal := .settling }).die 0).cal = .settling := by decide

theorem witness_LoopEngineCommands :
    (runs [0x030]).halted = false ∧ State.reset.atBoundary = false ∧ (State.reset.ctl 255).unserved = false ∧
    State.reset.has 0x030 = true ∧ State.reset.bit Reg.LOOP_ACC_SEL 31 = false ∧
    (State.reset.wr Reg.LOOP_ACC_SEL 0x800000FF).bit Reg.LOOP_ACC_SEL 31 = true ∧ State.reset.hasCh 255 = true ∧
    (State.reset.wr (Reg.CH_STAT 0) 2).chRuns 0 = true ∧
    ((State.reset.wr (Reg.CH_STAT 0) 2).modCtl 0 fun x => { x with ending := true }).rampDone 0 = true := by decide

/-- Reset with the pages that channel 0 depends on RUNNING, and the channel in a state. -/
def chanAt (n : Nat) : State := holds (runs [0x010, 0x012, 0x020, 0x030, 0x031, 0x040]) [(Reg.CH_STAT 0, BitVec.ofNat 32 n)]

theorem witness_ChannelCommands :
    State.reset.hasCh 255 = true ∧ State.reset.mayCommand 255 63 = false ∧ State.reset.mayCommand 255 0 = true ∧
    ({ State.reset with part := .yk1281 }).hasCh 255 = false ∧ (chanAt 0).chState 0 = 0 ∧ (chanAt 0).armCheck 0 ≠ 0 ∧
    (chanAt 1).chState 0 = 1 ∧ (chanAt 1).opGuard 0 ((chanAt 1).chLive 0) = none ∧ (chanAt 5).chState 0 = 5 ∧
    (chanAt 6).chState 0 = 6 := by decide

theorem witness_ChannelOperationsTakeEffect :
    (chanAt 1).opGuard 0 ((chanAt 1).chState 0 == 1) = none ∧
    (chanAt 2).opGuard 0 ((chanAt 2).chState 0 == 2 && !((chanAt 2).ctl 0).ending) = none ∧ (chanAt 0).chState 0 ≠ 5 ∧
    (chanAt 0).chState 0 ≠ 6 := by decide

/-- Reset with page 0x031 in a state and a program operation under way. -/
def progOpAt (n op : Nat) : State := { pgAt 0x031 n with progOp := some { op := op, slot := 1023, seat := 0 } }

theorem witness_ProgramOperations :
    State.reset.has 0x031 = true ∧ (State.reset.wr Reg.STEP_PSTAT 1).bit Reg.STEP_PSTAT 0 = true ∧
    State.reset.bit Reg.STEP_PSTAT 0 = false ∧ State.reset.progOp = none ∧
    (∀ n, n < 5 → (progOpAt (n + 1) 15).pg 0x031 = n + 1 ∧ (progOpAt (n + 1) 15).progOp = some { op := 15, slot := 1023, seat := 0 }) := by
  decide

/-- Reset with slot 1023 in a state of the directory. -/
def slotAt (n refs len : Nat) : State := { State.reset with slots := [(1023, { state := n, refs := refs, len := len })] }

theorem witness_ProgramSlotsRefuse :
    ((slotAt 0 0 0).slot 1023).state ≠ 1 ∧ ((slotAt 1 0 0).slot 1023).state ≠ 0 ∧ ((slotAt 2 1 0).slot 1023).refs ≠ 0 ∧
    ((slotAt 3 1 0).slot 1023).state = 3 ∧ ((slotAt 1 0 5).slot 1023).len ≤ 5 := by decide

/-- Reset with a sweep-table operation on table 15 under way. -/
def eisOpAt (op state : Nat) : State := { State.reset with eisOp := some (op, 15), sweeps := [(15, { state := state })] }

theorem witness_SweepTableOperations :
    State.reset.has 0x034 = true ∧ (State.reset.wr Reg.EIS_TSTAT 1).bit Reg.EIS_TSTAT 0 = true ∧
    State.reset.bit Reg.EIS_TSTAT 0 = false ∧ (pgAt 0x034 2).settled 0x034 = false ∧ State.reset.settled 0x034 = true ∧
    State.reset.eisOp = none ∧ ((eisOpAt 1 2).sweep 15).state ≠ 1 ∧ ((eisOpAt 1 2).sweep 15).refs = 0 ∧
    ((eisOpAt 2 2).sweep 15).state ≠ 1 ∧ ((eisOpAt 5 1).sweep 15).state ≠ 0 := by decide

theorem witness_ImpedanceAndRestTrends :
    (State.reset.eis 255).done = [] ∧ (runs [0x034]).running 0x034 = true ∧
    (((runs [0x034]).modEis 255 fun e => { e with done := [{}] }).eis 255).done = [{}] ∧
    (runs [0x034]).bit (Reg.PG_INJARM 0x034) 0 = false ∧ (runs [0x035]).hasCh 255 = true ∧ (runs [0x035]).running 0x035 = true ∧
    ((runs [0x035]).trend 255).active = false ∧ ((runs [0x035]).trend 255).turn (runs [0x035]).now = (runs [0x035]).trend 255 ∧
    featherState.feather = true ∧ featherState.hasDie 1 = true ∧
    ((featherState.setPg 0x035 3).modTrend 255 fun t => { t with active := true }).trendChannels 1 ≠ [] := by decide

/-- Reset with page 0x036 RUNNING and entry 63 in a state: crew 5, coordinated by a device. -/
def crewAt (n coord : Nat) : State := { runs [0x036] with crews := [(63, { state := n, id := 5, coord := coord })] }

theorem witness_CrewOperations :
    State.reset.has 0x036 = true ∧ (State.reset.wr Reg.CREW_STAT 1).bit Reg.CREW_STAT 0 = true ∧
    State.reset.bit Reg.CREW_STAT 0 = false ∧ State.reset.running 0x036 = false ∧ (crewAt 1 0).running 0x036 = true ∧
    (crewAt 1 0).bit Reg.CREW_STAT 0 = false ∧ ((crewAt 1 0).crew 63).state = 1 ∧
    ((crewAt 1 0).wr (Reg.CREW_MASK 7) 0x80000000).maskRegs.all (crewAt 1 0).hasCh = true ∧
    ((crewAt 1 0).crew 63).coord = (crewAt 1 0).devId ∧ ((crewAt 1 511).crew 63).coord ≠ (crewAt 1 511).devId ∧
    ((crewAt 2 0).crew 63).state = 2 ∧ ((crewAt 2 0).crew 63).arrived = [] ∧ ((crewAt 2 0).crew 63).trans = [] ∧
    (crewAt 2 0).redPending 63 = false ∧ ((crewAt 0 0).crew 63).state ≠ 2 ∧
    (({ State.reset with crews := [(63, { state := 1, sealing := true })] }).crew 63).sealing = true := by decide

theorem witness_CrewMessages :
    transOp 8 = true ∧ transOp 2 = true ∧ (crewAt 2 1).has 0x036 = true ∧ ((crewAt 2 1).crew 63).state = 2 ∧
    ((crewAt 2 1).crew 63).coord ≠ (crewAt 2 1).devId ∧ ((crewAt 2 1).crew 63).lost = false ∧ (crewAt 2 1).slp = 0 ∧
    (crewAt 2 1).fab.quietTo ≤ (crewAt 2 1).now ∧
    (({ State.reset with crews := [(63, { lost := true })] }).crew 63).lost = true ∧ (crewAt 2 1).readyOf 5 = [63] ∧
    ((crewAt 2 1).readyOf 5).all (fun e => ((crewAt 2 1).crew e).gen != 1) = true ∧ (crewAt 2 1).running 0x036 = true ∧
    ((crewAt 2 0).readyOf 5).any (fun e => ((crewAt 2 0).crew e).coord == (crewAt 2 0).devId) = true ∧
    State.reset.running 0x036 = false ∧ (runs [0x036]).running 0x036 = true ∧ (runs [0x036]).halted = false ∧
    State.reset.strobeIdx % 64 = 0 ∧ (State.reset.wr Reg.TB_NS 16000).strobeIdx % 64 ≠ 0 := by decide

/-- Reset with reduction context 7 in a state, its mark at the present instant. -/
def redAt (n : Nat) : State := { runs [0x036] with reds := [(7, { state := n })] }

theorem witness_ReductionsAndRings :
    ((redAt 1).red 7).state = 1 ∧ ((redAt 1).red 7).mark * markNs ≤ (redAt 1).now ∧
    State.reset.now < (({ State.reset with reds := [(7, { state := 1, mark := 1 })] }).red 7).mark * markNs ∧
    ((redAt 3).red 7).state ≠ 2 ∧ ((redAt 2).red 7).state = 2 ∧ ((redAt 2).crew ((redAt 2).red 7).entry).coord = (redAt 2).devId ∧
    ((redAt 2).red 7).grade = none ∧ ((redAt 2).red 7).todo = [] ∧ (redAt 2).has 0x037 = true ∧ ((redAt 1).red 7).state ≠ 3 ∧
    (({ redAt 2 with reds := [(7, { state := 2, todo := [(4, 2)] })] }).red 7).todo ≠ [] ∧
    (({ redAt 2 with coords := [(0, { devs := [{ dev := 1, count := 1 }] })] }).modRed 7 fun x =>
      { x with contrib := x.contrib.filter (fun (y : Nat × List (Nat × Int)) => y.1 != 511) ++ [(511, [])] }).redComplete 7 = false ∧
    (seatAt 63 1).doorbells 63 = true ∧ ((seatAt 63 1).ring 63 3).prod = 0 := by decide

/-- Reset with stage link 15 RUNNING in an `LSTATE`. -/
def linkAt (n : Nat) : State := holds (runs [0x04F]) [(Reg.SL_STAT 15, BitVec.ofNat 32 n)]

theorem witness_StageLinks :
    (linkAt 3).halted = false ∧ (linkAt 3).hasLink 15 = true ∧ State.reset.pg 0x04F = 1 ∧ (linkAt 3).pg 0x04F = 3 ∧
    (linkAt 3).lstate 15 = 3 ∧ (linkAt 3).bit (Reg.PG_INJARM 0x001) 0 = false ∧ (linkAt 3).linkRuns 15 = true ∧
    (((linkAt 3).modLink 15 fun l => { l with waiting := true }).link 15).waiting = true ∧
    ((linkAt 3).modLink 15 fun l => { l with waiting := true }).linkRuns 15 = true ∧ ((linkAt 3).link 15).waiting = false ∧
    (linkAt 1).linkRuns 15 = true ∧ (linkAt 1).lstate 15 ≠ 3 ∧ (linkAt 5).linkRuns 15 = true ∧ (linkAt 5).lstate 15 = 5 ∧
    (linkAt 4).running 0x04F = true ∧ (linkAt 4).lstate 15 = 4 ∧ ((linkAt 4).link 15).reread = false ∧
    (∀ m ∈ ((linkAt 4).link 15).flight, m.wait < 4) ∧
    ((((linkAt 4).modLink 15 fun l => { l with flight := [{ op := 2, arg := 0, wait := 4, tries := 2 }] }).link 15).flight.find?
      (fun m => decide (4 ≤ m.wait)) = some { op := 2, arg := 0, wait := 4, tries := 2 }) ∧
    (State.reset.wr (Reg.SL_MRSP 15) 1).bit (Reg.SL_MRSP 15) 0 = true ∧ State.reset.bit (Reg.SL_MRSP 15) 0 = false ∧
    (0x0001 : Word).fld 7 0 ≠ 2 ∧ (0x1002 : Word).fld 7 0 = 2 ∧ (0x1002 : Word).fld 15 8 ≤ 16 ∧ (linkAt 2).running 0x04F = true ∧
    (linkAt 2).lstate 15 = 2 ∧ State.reset.running 0x067 = false ∧ (runs [0x067]).running 0x067 = true ∧
    (runs [0x067]).bit (Reg.PG_INJARM 0x067) 0 = false := by decide

/-- Reset with the timebase RUNNING in a mode: 0 free, 1 disciplined by one source, 2 by another. -/
def tbAt (mode : Nat) : State := holds (runs [0x050, 0x052, 0x053]) [(Reg.TB_CFG, BitVec.ofNat 32 mode)]

theorem witness_TimebaseWrites :
    (tbAt 1).tbServes = true ∧ (tbAt 0).tbServes = false ∧ incOk (4 * 2 ^ 32) = true ∧ incOk (3 * 2 ^ 32) = false ∧
    (4 : Word).fld 7 0 * 2 ^ 32 + State.reset.incStage.toNat = 4 * 2 ^ 32 ∧ (0 : Word).getLsbD 0 = false ∧
    stepOk 1 (-1) = false ∧ stepOk (-1) (-999999999) = true ∧ State.reset.stepRefused 1 = false ∧ State.reset.stepPend = none ∧
    (({ State.reset.wr Reg.TB_NS 8000 with stepPend := some (1, 0) }).now = 8000 ∧ (State.reset.wr Reg.TB_NS 8000).crossed 8000 = true) ∧ State.reset.running 0x052 = false ∧
    (holds (tbAt 1) [(Reg.TB_CFG, 0x11)]).servoTakes 1 = true ∧ State.reset.servoTakes 1 = false := by decide

theorem witness_ReferencesAndAlarms :
    State.reset.bit (Reg.PG_INJARM 0x050) 0 = false ∧ State.reset.get Reg.TB_STAT 4 4 = 0 ∧
    (State.reset.wr Reg.TB_REF 0).bit Reg.TB_REF 1 = false ∧ (-10000 : Int).natAbs ≤ 10000 ∧
    (State.reset.setBit Reg.TB_STAT 7 false).bit Reg.TB_STAT 7 = false ∧ State.reset.running 0x053 = false ∧
    State.reset.servoTakes 3 = false ∧ (tbAt 0).running 0x053 = true ∧ (tbAt 0).servoTakes 3 = false ∧
    (tbAt 0).tbServes = false ∧ (holds (tbAt 1) [(Reg.TB_STAT, 2)]).get Reg.TB_STAT 2 0 = 2 ∧
    (holds (tbAt 1) [(Reg.TB_STAT, 2)]).tbServes = true ∧ (holds (tbAt 1) [(Reg.TB_STAT, 2)]).running 0x050 = true ∧
    State.reset.rd64 Reg.TB_BK_ALARM_LO Reg.TB_BK_ALARM_HI = 0 ∧
    (holds State.reset [(Reg.TB_BK_ALARM_LO, 9), (Reg.TB_BK_SEC_LO, 9)]).rd64 Reg.TB_BK_SEC_LO Reg.TB_BK_SEC_HI =
      (holds State.reset [(Reg.TB_BK_ALARM_LO, 9), (Reg.TB_BK_SEC_LO, 9)]).rd64 Reg.TB_BK_ALARM_LO Reg.TB_BK_ALARM_HI ∧
    State.reset.power.held = false := by decide

/-- Reset with schedule slot 31 in a state, owned by a seat, its page RUNNING. -/
def schAt (n owner : Nat) : State := (runs [0x052, 0x053]).put (Reg.SCH_USTAT 31) 1 0 n |>.put (Reg.SCH_CTRL 31) 13 8 owner

theorem witness_SlotsAndCatchUnits :
    (State.reset.schCrew 31 = false ∧ (schAt 1 0).schState 31 = 1 ∧ (schAt 2 0).schState 31 = 2 ∧ (schAt 3 0).schState 31 = 3 ∧
      (State.reset.put (Reg.SCH_USTAT 31) 1 0 1).running 0x052 = false ∧ (schAt 1 0).running 0x052 = true ∧
      (schAt 1 0).schBad 31 = false ∧ (schAt 1 0).schCrew 31 = false ∧ (schAt 1 0).schOwner 31 ≠ 63) ∧
    (State.reset.catMay 15 63 = true ∧ ((runs [0x053]).put (Reg.CAT_USTAT 15) 1 0 1).catState 15 = 1 ∧
      ((runs [0x053]).put (Reg.CAT_USTAT 15) 1 0 1).catMay 15 0 = true ∧
      (State.reset.wr (Reg.CAT_CFG 15) 39).get (Reg.CAT_CFG 15) 5 0 ≤ 39 ∧
      ((runs [0x053]).put (Reg.CAT_USTAT 15) 1 0 1).catMay 15 63 = false ∧ State.reset.catFifoOf 15 = [] ∧
      ({ State.reset with catFifo := [(15, [(1, 2, true)])] }).catFifoOf 15 = [(1, 2, true)]) ∧
    ((schAt 2 0).halted = false ∧ ((schAt 2 0).schNext 31).1 ≤ (schAt 2 0).now ∧ (schAt 2 0).now ≤ ((schAt 2 0).schNext 31).1 + 4 ∧
      (schAt 2 0).bit (Reg.PG_INJARM 0x001) 0 = false ∧ (schAt 2 0).schMnbl 31 = false ∧ State.reset.schState 31 ≠ 2 ∧
      (schAt 2 0).now < (({ schAt 2 0 with slotNext := [(31, (5, false))] }).schNext 31).1) := by decide

/-- Reset with Bruil link 7 RUNNING in an `LSTATE`, the device's identifier 0 valid. -/
def brAt (n : Nat) : State := holds (runs [0x067, 0x068]) [(Reg.BL_STAT 7, BitVec.ofNat 32 n), (Reg.RT_ID, 0x200)]

/-- A flit of zeros with a right, and with a wrong, CRC. -/
def goodFlit : List Byte := List.replicate 60 0 ++ leBytes 4 (crc32c (List.replicate 60 0)).toNat
def badFlit : List Byte := List.replicate 60 0 ++ leBytes 4 ((crc32c (List.replicate 60 0)).toNat + 1)

theorem witness_BruilLinks :
    State.reset.running 0x067 = false ∧ (brAt 1).running 0x067 = true ∧ (brAt 1).lst 7 = 1 ∧
    (brAt 1).bit (Reg.PG_INJARM 0x067) 0 = false ∧ (brAt 5).lst 7 = 5 ∧ (brAt 2).lst 7 = 2 ∧ (brAt 2).idValid = true ∧
    ({ id := some 1 } : Peer).id.isSome = true ∧ (brAt 4).lst 7 = 4 ∧ ((brAt 5).bl 7).unack = [] ∧
    (((brAt 5).modBl 7 fun b => { b with peer := some { id := some 1 } }).bl 7).peer = some { id := some 1 } ∧
    (((brAt 3).modBl 7 fun b => { b with unack := [(0, 1, { dst := 0, src := 0, cls := 0, load := .abort })] }).bl 7).unack ≠ [] ∧
    (brAt 3).lst 7 = 3 ∧ goodFlit.length = 64 ∧ badFlit.length = 64 := by decide

set_option maxRecDepth 20000 in
theorem witness_BruilLinks_flits :
    crc32c (goodFlit.take 60) = BitVec.ofNat 32 (le32At goodFlit 60) ∧
    crc32c (badFlit.take 60) ≠ BitVec.ofNat 32 (le32At badFlit 60) := by decide

/-- An identity is refused by its serial number, and one of another device can be accepted. -/
theorem witness_BruilLinks_refusal :
    (brAt 2).refusal 7 { id := some 1, serial := Config.serial } = some 4 ∧
    ((brAt 2).put Reg.RT_LDIR 23 21 7).refusal 7 { id := some 1, dir := 7, serial := Config.serial + 1 } = none := by
  constructor
  · simp [State.refusal]
  · simp only [State.refusal, show Config.serial + 1 ≠ Config.serial by omega, if_false]
    decide

/-- A packet to a device. -/
def packetTo (dst : Nat) : Packet := { dst := dst, src := 511, cls := 6, eseq := 65535, load := .abort }

/-- Reset in a row of two devices, the other one at the +x link 0. -/
def rowOfTwo : State := holds (runs [0x060, 0x068]) [(Reg.RTG_CFG, 0x100), (Reg.RT_ID, 0x200), (Reg.RT_LDIR, 0x00FFFFF9), (Reg.BL_STAT 0, 3)]

theorem witness_FabricPackets :
    State.reset.running 0x068 = false ∧ State.reset.devId = 0 ∧ (brAt 3).running 0x068 = true ∧ 1 ≠ (brAt 3).devId ∧
    Sparse.find? (brAt 3).fab.topo 1 ≠ some (7, [0]) ∧
    Sparse.find? ({ (brAt 3).fab with topo := [(1, (7, [0]))] }).topo 1 = some (7, [0]) ∧ (brAt 2).lst 7 ≠ 3 ∧
    (brAt 3).lst 7 = 3 ∧ (brAt 3).bit (Reg.PG_INJARM 0x068) 0 = false ∧ (packetTo 0).dst = (brAt 3).devId ∧
    (packetTo 1).dst ≠ (brAt 3).devId ∧ ((brAt 3).forward (packetTo 1) ((brAt 3).linkDir 7)).isNone = true ∧
    (rowOfTwo.forward (packetTo 1) 7).isSome = true ∧ (brAt 3).fab.gapHeld = [] := by decide

/-- Reset with page 0x068 RUNNING and a fence of the firmware that needs an acknowledgement of device 1. -/
def fenced : State := { runs [0x068] with fab := { fences := [{ init := 0, kind := .rt, need := [(1, 5)] }] } }

theorem witness_FencesAndReturns :
    (runs [0x068]).running 0x068 = true ∧ State.reset.running 0x068 = false ∧
    Sparse.find? ({ rowOfTwo with fab := { onAlt := [(1, 0)] } } : State).fab.onAlt 1 = some 0 ∧
    (upOnly rowOfTwo (rowOfTwo.primaryLink 1)).isSome = true ∧ (rowOfTwo.wr Reg.TB_NS 20000).now = 20000 ∧
    Sparse.find? State.reset.fab.onAlt 511 = none ∧ (1 : Word).getLsbD 0 = true ∧ (0 : Word).getLsbD 0 = false ∧
    State.reset.fenceOf 64 = none ∧ fenced.fenceOf 0 = some { init := 0, kind := .rt, need := [(1, 5)] } ∧
    [(1, 5)].any (fun x => !fenced.ackedPast 0 x) = true ∧
    [(1, 5)].all (({ fenced with fab := { fenced.fab with acked := [(128, 5)] } } : State).ackedPast 0) = true ∧
    State.reset.lst 7 ≠ 3 ∧ (brAt 3).lst 7 = 3 ∧ State.reset.fab.rerrLog = [] ∧
    ({ State.reset with fab := { rerrLog := [(65535, 64, 5, 511, 2 ^ 64 - 1)] } } : State).fab.rerrLog = [(65535, 64, 5, 511, 2 ^ 64 - 1)] := by decide

/-- Reset with page 0x068 RUNNING and a sleep state. -/
def slpAt (n id : Nat) : State := ((runs [0x068]).setSlp n).wr Reg.RT_ID (BitVec.ofNat 32 (0x200 + id))

theorem witness_SleepAndWake :
    State.reset.running 0x068 = false ∧ (slpAt 0 0).running 0x068 = true ∧ (slpAt 0 0).sleepLeader = true ∧
    (slpAt 1 1).sleepLeader = false ∧ (slpAt 1 1).slp = 1 ∧ (slpAt 1 1).now < 1 * markPeriod ∧ 0 * markPeriod ≤ (slpAt 1 1).now ∧
    (slpAt 0 0).slp = 0 ∧ (slpAt 2 1).slp = 2 ∧ (slpAt 2 1).sleepLeader = false ∧
    (slpAt 2 1).now < (slpAt 2 1).sleepC + markPeriod ∧
    ((slpAt 2 1).wr Reg.TB_SEC_LO 1).sleepC + markPeriod ≤ ((slpAt 2 1).wr Reg.TB_SEC_LO 1).now ∧ (slpAt 3 1).slp = 3 ∧
    (slpAt 3 1).feather = false ∧ (slpAt 0 0).feather = false ∧ (brAt 5).lst 7 ≠ 6 ∧ (brAt 6).lst 7 = 6 := by decide

/-- Reset with window 63 applied for seat 0, enabled, on a target, page 0x069 RUNNING. -/
def winState (cfg tgt : Word) : State := { runs [0x068, 0x069] with brg := { wins := [(63, { cfg := cfg, tgt := tgt })] } }

/-- An access of 4 bytes at the start of window 63, sent with tag 9. -/
def winAcc : WinAcc := { port := 1, init := 0, off := 0, req := { win := 63, size := 4 }, tag := 9, sent := true }

theorem witness_WindowAccesses :
    wfWin 2 (.firmware 63 0) 4 = true ∧ wfWin 1 (.seat 63 0xFFFC) 4 = true ∧ State.reset.winOf (.seat 63 0xFFFC) = none ∧
    (winState 1 0x1000).winOf (.seat 0 0x8FFC) = some (63, 0xFFC) ∧ (winState 3 0).winOf (.firmware 63 0) = some (63, 0) ∧
    ((winState 3 0).win 63).isReg = true ∧ 0xFFC % 64 + 4 ≤ 64 ∧ State.reset.running 0x069 = false ∧
    ({ winState 1 0x1000 with brg := { wins := [(63, { cfg := 1 })], winAccs := [(63, [winAcc])] } }).winAccs 63 = [winAcc] ∧
    winAcc.sent = true ∧ winAcc.tag = 9 ∧ (winState 1 0).winAccs 63 = [] ∧ (winState 1 0).brg.lockOps = [] := by decide

/-- Reset with page 0x069 RUNNING and an entry that admits every source and initiator to 2^31 bytes of a space. -/
def open0 (space : Word) : State := { runs [0x068, 0x069] with brg := { filters := [(31, (0xC0020200, 0x1F00 ||| space, 0))] } }

theorem witness_InboundRequests :
    wfInbound 511 127 65535 { win := 63, space := 1, addr := 0, size := 64 } = true ∧ State.reset.running 0x069 = false ∧
    (open0 0).running 0x069 = true ∧ (open0 0).bit (Reg.PG_INJARM 0x069) 0 = false ∧ closedPage (0x0D0010 / 0x1000) = true ∧
    (runs [0x069]).brg.filters = [] ∧ closedPage (0x000010 / 0x1000) = false ∧ (open0 0).admits 511 127 0 true 0x10 4 = true ∧
    (open0 1).admits 511 127 1 false 0x10 64 = true ∧ (open0 1).brg.lockLost = [] ∧
    (open0 1).lockedOut { src := 5, init := 0, tag := 0, req := { win := 1, space := 1 } } = false ∧
    ({ open0 1 with brg := { (open0 1).brg with locks := [(1, (6, 1))] } } : State).lockedOut
      { src := 5, init := 0, tag := 0, req := { win := 1, space := 1 } } = true ∧
    (State.reset.wr Reg.DRAM_CFG 0x00021F00).dramHas 0x1000 64 = true ∧ 0x100000 < 0x0FFFFF + 4 := by decide

theorem witness_LocksAndCommits :
    ((open0 1).bit (Reg.PG_INJARM 0x069) 0 = false ∧ (open0 1).locksAt 5 = false ∧ 511 > (open0 1).devId ∧
      ((winState 0x41 0x1005).wr (Reg.WIN_STAT 63) 4).locksAt 5 = true ∧ Sparse.find? (open0 1).brg.locks 1 = none ∧
      Sparse.find? ({ (open0 1).brg with locks := [(1, (6, 1))] } : Bridges).locks 1 = some (6, 1) ∧
      (winState 1 0).running 0x069 = true ∧ ((winState 1 0).win 63).lockOk = false ∧ ((winState 0x41 0x1005).win 63).lockOk = true ∧
      ((winState 0x41 0x1005).wr (Reg.WIN_STAT 63) 4).bit (Reg.WIN_STAT 63) 2 = true ∧
      (winState 0x41 0x1005).bit (Reg.WIN_STAT 63) 2 = false ∧ (winState 0x41 0x1005).canReach 5 = false) ∧
    ((0x100 : Word).getLsbD 8 = true ∧ (0x03F : Word).getLsbD 8 = false ∧ (State.reset.wr Reg.WB_CSTAT 1).bit Reg.WB_CSTAT 0 = true ∧
      State.reset.bit Reg.WB_CSTAT 0 = false ∧ State.reset.brg.winCommit = none ∧ (State.reset.winWritten 63).en = false ∧
      (holds State.reset [(Reg.WIN_CFG 63, 1), (Reg.WIN_TGT 63, 0x1000)]).winAccs 63 = [] ∧
      ((holds State.reset [(Reg.WIN_CFG 63, 1), (Reg.WIN_TGT 63, 0x1000)]).winWritten 63).en = true ∧
      ((holds State.reset [(Reg.WIN_CFG 63, 1), (Reg.WIN_TGT 63, 0x1000)]).winWritten 63).badArg = false ∧
      (holds State.reset [(Reg.WIN_CFG 63, 1), (Reg.WIN_TGT 63, 0x1000)]).frameConflict 63
        ((holds State.reset [(Reg.WIN_CFG 63, 1), (Reg.WIN_TGT 63, 0x1000)]).winWritten 63) = false ∧
      ((holds State.reset [(Reg.WIN_CFG 63, 3), (Reg.WIN_TGT 63, 0x1000)]).winWritten 63).badArg = true ∧
      State.reset.brg.inCommit = none ∧ State.reset.entryBusy 31 = false ∧
      ({ open0 1 with brg := { (open0 1).brg with inWait := [{ src := 5, init := 0, tag := 0, req := { win := 1, space := 1, size := 4 } }] } } :
        State).entryBusy 31 = true) := by decide

/-- A state with a message that has reached the message bridge. -/
def mailIn : State := { State.reset with mbIn := [(.can 3 false, 5, [], 0)] }

/-- A state with an interrupt message that waits for nothing. -/
def sigIn : State := { State.reset with brg := { State.reset.brg with sigs := [(0, 5, 6, [], 0)] } }

theorem witness_MessagesAndTheTable :
    (State.reset.brg.sigs.all fun m => State.reset.writeOpen m.1 m.2.1 m.2.2.2.2) = true ∧
    (sigIn.brg.sigs.find? fun m => !sigIn.writeOpen m.1 m.2.1 m.2.2.2.2).isSome = true ∧ State.reset.mbIn = [] ∧
    mailIn.mbIn = [(.can 3 false, 5, [], 0)] ∧ mailIn.bit (Reg.PG_INJARM 0x06A) 0 = false ∧ mailIn.brg.mbTable = [] ∧
    (mailIn.wr Reg.MB_CFG 0x100).bit Reg.MB_CFG 0 = false ∧ (pgAt 0x06A 5).settled 0x06A = false ∧ State.reset.settled 0x06A = true ∧
    (State.reset.wr Reg.MB_TSTAT 1).bit Reg.MB_TSTAT 0 = true ∧ State.reset.bit Reg.MB_TSTAT 0 = false ∧
    mbReserved ((List.range 8).map fun w => (State.reset.wr (Reg.MB_TW 7) 1).rd (Reg.MB_TW w)) = true ∧
    mbReserved ((List.range 8).map fun w => State.reset.rd (Reg.MB_TW w)) = false ∧
    State.reset.mbAbsent ((List.range 8).map fun w => State.reset.rd (Reg.MB_TW w)) = false ∧
    mbReserved [0, 0, 0, 4, 0x00010008, 0, 0, 0] = false ∧
    ({ State.reset with part := .yk1281 }).mbAbsent [0, 0, 0, 4, 0x00010008, 0, 0, 0] = true ∧ State.reset.brg.elog = [] := by decide

/-- Reset with seat 63 ACTIVE and its queues of 4 entries set up. -/
def queued : State :=
  (seatAt 63 1).modSeat 63 fun x =>
    { x with sqs := [(7, { depth := 4, base := 0, cq := 7 })], cqs := [(7, { depth := 4, base := 0, vec := 0 })]
             eq := some { depth := 4, base := 0, vec := 0 } }

theorem witness_DoorbellsAndRounds :
    State.reset.doorbells 63 = false ∧ queued.doorbells 63 = true ∧ queued.sqUp 63 0 = none ∧ queued.cqOf 63 0 = none ∧
    ((seatAt 63 1).seat 63).eq = none ∧ queued.sqUp 63 7 = some { depth := 4, base := 0, cq := 7 } ∧ 4 ≤ 4 % 65536 ∧
    around 4 (queued.sqTail 63 7) (3 % 65536) ≤ around 4 (queued.sqTail 63 7) (queued.sqHead 63 7 + 4 - 1) ∧
    around 4 ((queued.wr (Reg.SA_SQ_TAIL 63 7) 3).sqTail 63 7) ((queued.wr (Reg.SA_SQ_TAIL 63 7) 3).sqHead 63 7 + 4 - 1) <
      around 4 ((queued.wr (Reg.SA_SQ_TAIL 63 7) 3).sqTail 63 7) (0 % 65536) ∧ (queued.cqOf 63 7).isSome = true ∧
    (queued.seat 63).eq.isSome = true ∧ State.reset.roundOver = true ∧ State.reset.halted = false ∧ haltState.halted = true ∧
    ((queued.wr (Reg.SA_SQ_TAIL 63 7) 3).modSeat 63 fun x => { x with credit := 1 }).roundOver = false := by decide

/-- A submission entry of an opcode and CID 65535 with some bytes after its head. -/
def entry (opc : Nat) (rest : List Byte) : List Byte :=
  [BitVec.ofNat 8 opc, 0, 0xFF, 0xFF, 0, 0, 0, 0] ++ rest ++ List.replicate (56 - rest.length) 0

/-- Seat 63 with an entry started in queue 7. -/
def started (b : List Byte) : State :=
  (runs [0x031]).modSeat 63 fun x => { x with started := [{ q := 7, cid := 65535, bytes := b }] }

/-- Seat 63 with an entry to fetch in queue 7: work, credit, bypass translation, and the seat map unit RUNNING. -/
def fetching : State :=
  let s := holds (runs [0x098]) [(Reg.ST_STAT 63, 0x00FF01), (Reg.SA_SQ_TAIL 63 7, 1), (Reg.PCIE_LSTAT 0, 1)]
  let s := s.modSeat 63 fun x =>
    { x with sqs := [(7, { depth := 4, base := 0, cq := 7 })], cqs := [(7, { depth := 4, base := 0, vec := 0 })], credit := 5 }
  s.setDma { s.dma with roots := [(63, { bypass := true })] }

theorem witness_SubmissionEntries :
    ((entry 0 []).length = 64 ∧ State.reset.sqUp 63 7 = none ∧ queued.mayFetch 63 7 { depth := 4, base := 0, cq := 7 } (entry 0 []) = false ∧
      fetching.sqUp 63 7 = some { depth := 4, base := 0, cq := 7 } ∧
      fetching.mayFetch 63 7 { depth := 4, base := 0, cq := 7 } (entry 0 []) = true ∧
      (fetching.translate [] 63 (0 + 64 * fetching.sqHead 63 7) false).2.code = 0 ∧
      (fetching.entryBytes (fetching.translate [] 63 0 false).2 (entry 0 [])).2 = some (entry 0 [])) ∧
    (State.reset.nextSqe 63 7 65535 = none ∧
      (started (entry 0 [])).nextSqe 63 7 65535 = some { q := 7, cid := 65535, bytes := entry 0 [] } ∧ 10 ≤ opcOf (entry 10 []) ∧
      badHead (0 :: 4 :: (entry 0 []).drop 2) = true ∧ badHead (entry 9 []) = false ∧ opcOf (entry 9 []) = 9) ∧
    (byteAt (entry 1 [0, 0, 0, 0, 15]) 12 < 16 ∧ le16At (entry 2 [0xFF, 3, 15]) 8 = 1023 ∧ byteAt (entry 2 [0xFF, 3, 15]) 10 < 16 ∧
      (started (entry 2 [])).progOp = none ∧ (started (entry 2 [])).has 0x031 = true ∧
      byteAt (entry 4 [0xFF, 1, 0, 0, 64]) 12 ≤ 64 ∧ le16At (entry 4 [0xFF, 1, 0, 0, 64]) 8 / 512 % 64 = 0 ∧
      byteAt (entry 6 [63, 2]) 8 < 64 ∧ byteAt (entry 6 [63, 2]) 9 = 2 ∧ badDesc (entry 7 []) = false) ∧
    (sqeReg (entry 8 []) = some 0 ∧ State.reset.copyHeld 0 = false ∧
      State.reset.maskRefused 63 [0] ≠ 0 ∧ State.reset.maskRefused 63 [] = 0 ∧ State.reset.startedOf 63 7 65535 = none ∧
      (started (entry 0 [])).startedOf 63 7 65535 = some { q := 7, cid := 65535, bytes := entry 0 [] } ∧
      (byteAt (0 :: 2 :: (entry 0 []).drop 2) 1).testBit 1 = true) := by decide

/-- An entry whose page field names no page of the CTRL window. -/
theorem witness_SubmissionEntries_bad_register : sqeReg (entry 8 [0xFF, 0xFF, 0xFF, 0xFF, 0xFF, 0xFF]) = none := by decide

/-- Seat 63 with no binding, and with one under way to port 1. -/
def binding : State := State.reset.modSeat 63 fun x => { x with binding := some 1 }

/-- An engine that holds a chunk of seat 63. -/
def carried (c : Chunk) : State := { State.reset with dma := { engines := [(7, c)] } }

theorem witness_PortsAndSeats :
    (State.reset.wr (Reg.PCIE_LSTAT 1) 1).portUp 1 = true ∧ State.reset.portUp 1 = false ∧ (pgAt 0x0F9 5).running 0x0F9 = false ∧
    (runs [0x0F8, 0x0F9]).running 0x0F9 = true ∧ State.reset.easy = false ∧ (State.reset.wr Reg.BOOT_STAT 4).easy = true ∧
    State.reset.seatPort 0 = 0 ∧ State.reset.seatState 0 ≠ 3 ∧ ((State.reset.setSeatState 0 3).seatState 0 = 3) ∧
    (seatAt 63 2).seatState 63 = 2 ∧ ((seatAt 63 2).wr (Reg.ST_LOSTTO 63) 1).rd (Reg.ST_LOSTTO 63) ≠ 0 ∧
    (seatAt 63 3).seatState 63 = 3 ∧ (seatAt 63 1).seatState 63 ≠ 3 ∧ (State.reset.seat 63).binding = none ∧
    (binding.seat 63).binding = some 1 ∧ binding.enginesOf 63 = [] ∧
    (carried { x := 0, seat := 63, len := 4, port := 0 }).enginesOf 63 ≠ [] := by decide

/-- Reset with a mailbox command under way. -/
def mbxAt (r : Option (Nat × List Word)) : State := { State.reset with mbx := some { op := 15, seat := 63, result := r } }

theorem witness_MailboxCommands :
    (State.reset.wr Reg.COX_STAT 1).bit Reg.COX_STAT 0 = true ∧ State.reset.bit Reg.COX_STAT 0 = false ∧
    (State.reset.wr Reg.BOOT_STAT 4).easy = true ∧ (State.reset.wr Reg.BOOT_STAT 4).bit Reg.COX_STAT 0 = false ∧
    State.reset.easy = false ∧ ((State.reset.wr (Reg.COX_ARG 0) 0x10000).arg 0).fld 31 16 ≠ 0 ∧ (State.reset.arg 0).fld 31 16 = 0 ∧
    State.reset.mbx = none ∧ (mbxAt none).mbx = some { op := 15, seat := 63, result := none } ∧
    (mbxAt (some (255, [7]))).mbx = some { op := 15, seat := 63, result := some (255, [7]) } := by decide

/-- Reset with the words of a mailbox command. -/
def args (l : List (Nat × Word)) : State := holds (seatAt 63 1) (l.map fun e => (Reg.COX_ARG e.1, e.2))

theorem witness_SeatOperations :
    (seatAt 63 1).seatState 63 ≠ 0 ∧ State.reset.seatState 63 = 0 ∧ (seatAt 63 3).seatState 63 = 3 ∧ ((seatAt 63 3).arg 1).fld 31 1 = 0 ∧
    ((args []).arg 1).fld 31 8 = 0 ∧ ((args []).arg 1).fld 7 0 = 0 ∧ ((args [(1, 255)]).arg 1).fld 7 0 ≠ 0 ∧
    (args []).liveSeat 63 = 0 ∧ ((args []).arg 1).fld 31 1 = 0 ∧ (args []).portUp (((args []).arg 1).fld 0 0) = false ∧
    ((args []).arg 1).fld 7 1 = 0 ∧ ((args []).arg 1).fld 31 16 = 0 ∧
    (State.reset.wr (Reg.PCIE_LSTAT 0) 1).portUp ((State.reset.arg 1).fld 0 0) = true ∧
    badQueueWord ((args [(1, 0x71)]).arg 1) = false ∧ (args []).argAddr 3 % 4096 = 0 ∧ ((args []).arg 5).fld 31 3 = 0 ∧
    goodDepth ((args []).arg 2).toNat = false ∧ goodDepth ((args [(2, 65536)]).arg 2).toNat = true ∧
    (queued.queueUp 63 1 7 = true ∧ queued.liveSeat 63 = 0) ∧ (args []).queueUp 63 1 7 = false ∧
    ((args [(1, 0x71)]).arg 1).fld 1 0 ≠ 0 ∧ (args []).named 63 = none ∧
    (args [(1, 2), (2, 0x8000)]).named 63 = some ⟨2, [15]⟩ ∧ (args []).resourceAt 2 15 = true ∧
    ({ State.reset with part := .yk1281 }).resourceAt 1 255 = false ∧
    ({ seatAt 62 1 with owners := [(2 * 256 + 15, (62, false))] } : State).heldBy 63 2 15 = true := by decide

/-- Reset with engine 7 and the seat map unit RUNNING, seat 63 with work and credit, and a transfer of it. -/
def transfer (k : XferKind) : State :=
  let s := (holds (runs [0x097, 0x098, 0x038]) [(Reg.DMA_CFG 7, 3), (Reg.ST_STAT 63, 0x00FF01), (Reg.PCIE_LSTAT 0, 1)]).modSeat 63 fun x =>
    { x with credit := 5, rings := [(3, { state := 1, depth := 64 })] }
  s.setDma { s.dma with xfers := [(9, { seat := 63, kind := k })] }

/-- A chunk of transfer 9. -/
def chunk (d : Option (List Byte)) : Chunk := { x := 9, seat := 63, len := 4, port := 0, data := d, want := 4 }

theorem witness_EnginesAndTranslation :
    State.reset.xfer? 9 = none ∧ haltState.halted = true ∧ (transfer (.desc 7 0)).halted = false ∧
    (transfer (.desc 7 0)).xfer? 9 = some { seat := 63, kind := .desc 7 0 } ∧
    (transfer (.desc 7 0)).mayCarry 7 { seat := 63, kind := .desc 7 0 } = true ∧
    (transfer (.desc 7 0)).mayCarry 0 { seat := 63, kind := .desc 7 0 } = false ∧
    (transfer (.record 3)).mayCarry 7 { seat := 63, kind := .record 3 } = true ∧
    (transfer (.desc 7 0)).bit (Reg.PG_INJARM 0x098) 0 = false ∧ State.reset.engine? 7 = none ∧
    (carried (chunk none)).engine? 7 = some (chunk none) ∧ (chunk none).want = [1, 2, 3, (4 : Byte)].length ∧
    (carried (chunk (some []))).engine? 7 = some (chunk (some [])) ∧ State.reset.bit (Reg.PG_INJARM 0x097) 0 = false ∧
    State.reset.mbx = none ∧ (mbxAt none).enginesOf 63 = [] ∧ (runs [0x098]).running 0x098 = true ∧
    State.reset.running 0x098 = false ∧ State.reset.dma.smuLog = [] := by decide

theorem witness_DeviceMemoryAndFlash :
    State.reset.bit (Reg.PG_INJARM 0x0F0) 0 = false ∧ Memory.wf State.reset.dma.dram = true ∧ State.reset.badBank = false ∧
    (State.reset.wr (Reg.COX_ARG 1) 2).badBank = true ∧ (State.reset.wr (Reg.COX_ARG 1) 1).ownBank 1 = false ∧
    State.reset.ownBank 0 = true ∧ (State.reset.arg 5).toNat < 256 := by decide

/-- Reset with the words of a REC_WRITE of 256 bytes at offset 256 of bank B, and pages of the flash written. -/
def flashState (l : List Nat) : State :=
  { holds State.reset [(Reg.COX_ARG 1, 1), (Reg.COX_ARG 2, 256), (Reg.COX_ARG 5, 256)] with flashPages := l }

set_option maxRecDepth 20000 in
theorem witness_DeviceMemoryAndFlash_write :
    (flashState []).badBank = false ∧ (flashState []).argBank = 1 ∧ (flashState []).ownBank 1 = false ∧
    ((flashState []).arg 2).toNat = 256 ∧ ((flashState []).arg 5).toNat = 256 ∧ 256 + 256 ≤ bankSize ∧ (List.replicate 256 (0 : Byte)).length = 256 ∧
    (∃ p ∈ (flashState [131073]).flashPages, (1 * bankSize + 256) / 256 ≤ p ∧ p < (1 * bankSize + 256) / 256 + 256 / 256) ∧
    (∀ p ∈ (flashState [131072, 131074]).flashPages, p < (1 * bankSize + 256) / 256 ∨ (1 * bankSize + 256) / 256 + 256 / 256 ≤ p) := by
  decide

/-- Reset with Ethernet port 11 in a state, `EN` set, page 0x0A0 RUNNING. -/
def ethAt (n : Nat) : State := (holds (runs [0x0A0]) [(Reg.PORT_CFG 11, 0x05F20001)]).put (Reg.PORT_STAT 11) 1 0 n

set_option maxRecDepth 20000 in
theorem witness_SwitchPorts :
    State.reset.portUsable 11 = false ∧ (ethAt 2).hasPort 11 = true ∧ (ethAt 2).portUsable 11 = true ∧
    (ethAt 2).bit (Reg.PG_INJARM 0x0A0) 0 = false ∧ State.reset.running 0x0A8 = false ∧ frameLen (List.replicate 59 0) < 64 ∧
    ({ State.reset with part := .yk2560 }).part.hasSwitch = false ∧ State.reset.part.hasSwitch = true ∧ haltState.halted = true ∧
    State.reset.halted = false ∧ (State.reset.sw.tunAsm.all fun x => !(x.tun == 7 && x.frame == 0)) = true ∧
    ([({ tun := 7, frame := 0 } : TunAsm)].any fun x => x.tun == 7 && x.frame == 0) = true ∧ (ethAt 2).hasEth 11 = true ∧
    ({ State.reset with part := .yk2560 }).hasEth 2 = false ∧ (ethAt 2).ethState 11 = 2 ∧ (ethAt 1).ethState 11 = 1 ∧
    (ethAt 1).ethEnabled 11 = true ∧ State.reset.ethEnabled 11 = false ∧ (ethAt 0).ethState 11 = 0 ∧ (ethAt 0).ethEnabled 11 = true := by
  and_intros <;> decide

/-- An entry for MAC 5 in VLAN 1, static or learned at second 0. -/
def macEnt (static : Bool) : MacEnt := { mac := 5, vid := 1, mask := 1, static := static }

/-- Reset with that entry, the key registers naming it, and an ageing time of 300 s. -/
def macState (static : Bool) : State :=
  { holds State.reset [(Reg.MAC_KEY_LO, 5), (Reg.MAC_KEY_HI, 0x00010000), (Reg.SW_CFG, 300)] with sw := { macs := [macEnt static] } }

theorem witness_MacAndVlanTables :
    State.reset.has 0x0A2 = true ∧ (pgAt 0x0A2 4).settled 0x0A2 = false ∧ ({ State.reset with part := .yk2560 }).has 0x0A2 = false ∧
    State.reset.settled 0x0A2 = true ∧ goodVid State.reset.keyVid = false ∧ goodVid (macState false).keyVid = true ∧
    goodVid 4094 = true ∧ goodVid 4095 = false ∧ State.reset.macFind 5 1 = none ∧ State.reset.sw.macs.length < 16384 ∧
    (macState false).macFind (macState false).keyMac (macState false).keyVid = some (macEnt false) ∧ (macEnt false).mask < 2 ^ 22 ∧
    (macState true).macFind 5 1 = some (macEnt true) ∧
    (macState false).get Reg.SW_CFG 15 0 = 300 ∧ (macState false).tbSec < 0 + 300 ∧
    300 ≤ ((macState false).wr Reg.TB_SEC_LO 300).tbSec ∧ State.reset.has 0x0A3 = true ∧ State.reset.settled 0x0A3 = true ∧
    goodVid ((State.reset.wr Reg.VLAN_VSEL 4094).get Reg.VLAN_VSEL 11 0) = true ∧
    goodVid ((State.reset.wr Reg.VLAN_VSEL 0).get Reg.VLAN_VSEL 11 0) = false := by decide

/-- A full table of MAC entries. -/
theorem witness_MacAndVlanTables_full :
    16384 ≤ ({ State.reset with sw := { macs := List.replicate 16384 (macEnt true) } } : State).sw.macs.length :=
  Nat.le_of_eq List.length_replicate.symm

/-- Reset with meter 4095 allocated. -/
def meterState : State := { State.reset with sw := { meters := [(4095, { used := true })] } }

theorem witness_MeterOperations :
    State.reset.has 0x0A4 = true ∧ (pgAt 0x0A4 2).settled 0x0A4 = false ∧ State.reset.settled 0x0A4 = true ∧
    (State.reset.meter 0).used = false ∧ (meterState.meter 4095).used = true ∧
    ({ meterState with sw := { meterState.sw with macs := [{ macEnt true with mtr := 0x8FFF }] } } : State).meterNamed 4095 = true ∧
    (meterState.sw.macs = []) ∧ (holds meterState [(Reg.MTR_CIR, 2)]).rd Reg.MTR_PIR = 0 ∧
    (holds meterState [(Reg.MTR_CBS, 1521)]).get Reg.MTR_CBS 23 0 < 1522 ∧
    1522 ≤ (holds meterState [(Reg.MTR_CBS, 1522)]).get Reg.MTR_CBS 23 0 ∧
    1522 ≤ (holds meterState [(Reg.MTR_PBS, 1522)]).get Reg.MTR_PBS 23 0 := by decide

theorem find_map {α : Type} (x : α) (l : List Nat) (j : Nat) (h : j ∈ l) : Sparse.find? (l.map fun k => (k, x)) j = some x := by
  induction l with
  | nil => cases h
  | cons k l ih =>
    simp only [List.map_cons, Sparse.find?]
    split
    · rfl
    · rename_i hk
      rcases List.mem_cons.mp h with e | e
      · exact absurd e.symm hk
      · exact ih e

/-- Every meter in use. -/
theorem witness_MeterOperations_full : ∀ j, j < 4096 →
    (({ State.reset with sw := { meters := (List.range 4096).map fun k => (k, { used := true }) } } : State).meter j).used = true := by
  intro j hj
  simp only [State.meter, Sparse.get]
  rw [find_map _ _ _ (List.mem_range.mpr hj)]
  rfl

/-- A classical frame, and reset with CAN port 3 RUNNING and a queue. -/
def canFrame : CanFrame := { id := 5, data := [1] }
def canState (q : List CanFrame) : State := (runs [0x0B3, 0x06A]).modCan 3 fun c => { c with queue := q }

theorem witness_CanTraffic :
    wfCanFrame canFrame = true ∧ wfCanFrame { canFrame with id := 2 ^ 29 - 1, ide := true } = true ∧ State.reset.canLive 3 = false ∧
    ((State.reset.modCan 3 fun c => { c with sending := some canFrame }).can 3).sending = some canFrame ∧
    (State.reset.modCan 3 fun c => { c with sending := some canFrame }).canLive 3 = false ∧
    (State.reset.modCan 3 fun c => { c with sending := some canFrame }).running 0x0B3 = false ∧
    (canState []).canLive 3 = true ∧ (canState []).rec' 3 ≤ 127 ∧ (canState []).bit (Reg.CAN_CFG 3) 2 = false ∧
    (canState []).running 0x06A = true ∧ (canState []).halted = false ∧ ((canState []).can 3).sending = none ∧
    (canState []).bit (Reg.CAN_CFG 3) 4 = false ∧ ((canState [canFrame]).can 3).queue = [canFrame] ∧
    (canState [canFrame]).canLive 3 = true ∧ (canState [canFrame]).bit (Reg.PG_INJARM 0x0B3) 0 = false ∧
    (((canState []).modCan 3 fun c => { c with sending := some canFrame }).can 3).sending = some canFrame ∧
    ((canState []).modCan 3 fun c => { c with sending := some canFrame }).canLive 3 = true ∧
    (canState []).bit (Reg.CAN_CFG 3) 3 = false ∧ (canState []).canState 3 = 0 ∧ (canState []).tec 3 + 8 ≤ 255 ∧
    255 < ((canState []).put (Reg.CAN_ECNT 3) 7 0 248).tec 3 + 8 ∧
    ((canState []).put (Reg.CAN_ECNT 3) 7 0 248).canLive 3 = true ∧
    ((canState []).modCan 3 fun c => { c with busOff := true, recovering := true }).canState 3 = 2 ∧
    (State.reset.canState 3 = 3) := by decide

/-- The Feather state with page 0x0B8 RUNNING and port 3 armed with a configuration, and a filter for identifier 5. -/
def canArmed (cfg : Word) : State :=
  ((runs [0x0B8]).wr Reg.PWR_STATE 2).modCan 3 fun c => { c with armed := some (cfg, [0x80000005, 0x1FFFFFFF, 0, 0, 0, 0, 0, 0, 0, 0]) }

theorem witness_CanWakes :
    featherState.feather = true ∧ State.reset.feather = false ∧ State.reset.wakeCfg 3 = none ∧
    ((canArmed 1).wakeCfg 3).isSome = true ∧ (1 : Word).fld 1 0 = 1 ∧ (2 : Word).fld 1 0 = 2 ∧ canFrame.fdf = false ∧
    filterMatches [0x80000005, 0x1FFFFFFF, 0, 0, 0] canFrame = true ∧ filterMatches [0, 0, 0, 0, 0] canFrame = false ∧
    ((canArmed 2).can 3).fec < 31 ∧ (((canArmed 6).modCan 3 fun c => { c with fec := 31 }).can 3).fec = 31 ∧ (6 : Word).getLsbD 2 = true ∧
    ((canArmed 2).can 3).window = none ∧ (((canArmed 2).modCan 3 fun c => { c with window := some 0 }).can 3).window.isSome = true ∧
    (((canArmed 2).modCan 3 fun c => { c with window := some 0 }).wakeCfg 3).isSome = true ∧ State.reset.awake = none ∧
    (runs [0x0B8]).running 0x0B8 = true ∧ State.reset.running 0x0B8 = false ∧
    ({ runs [0x0B8] with awake := some 0 } : State).awake.isSome = true ∧ ((runs [0x0B8]).wr Reg.NS_CFG 0x10000).bit Reg.NS_CFG 16 = true ∧
    ((runs [0x0B8]).wr Reg.NS_CFG 0).bit Reg.NS_CFG 16 = false := by decide

/-- Reset with TIA-485 port 3 RUNNING. -/
def serState (x : Ser) : State := { runs [0x0B7] with sers := [(3, x)] }

theorem witness_SerialPorts :
    State.reset.running 0x0B7 = false ∧ (serState {}).running 0x0B7 = true ∧ ((serState {}).ser 3).txHeld < 4096 ∧
    (0x0FFFF : Word).getLsbD 16 = false ∧ (0x1FFFF : Word).getLsbD 16 = true ∧ ((serState {}).ser 3).closed = [] ∧
    ((serState { closed := [[1]] }).ser 3).closed = [[1]] ∧ (serState {}).serLive 3 = true ∧ (serState {}).halted = false ∧
    ((serState {}).ser 3).sending = none ∧ ((serState { sending := some [1] }).ser 3).sending = some [1] ∧
    State.reset.serLive 3 = false ∧ (serState { sending := some [1] }).serLive 3 = true ∧ ((serState {}).ser 3).rx.length < 4095 ∧
    ((serState {}).ser 3).cur = none ∧ ((serState { rx := [(65, true, true, true)] }).ser 3).rx = [(65, true, true, true)] ∧
    ((serState {}).ser 3).descs = [] ∧ ((serState { descs := [(1, true, true, 7)] }).ser 3).descs = [(1, true, true, 7)] := by decide

/-- A port that holds 4,096 characters to send. -/
theorem witness_SerialPorts_full : 4096 ≤ ({ opened := List.replicate 4096 0 } : Ser).txHeld := by
  have h := List.length_replicate (n := 4096) (a := 0)
  unfold Ser.txHeld
  dsimp only
  omega

/-- Reset with page 0x0C0 RUNNING and its copy loaded. -/
def fieldState : State := { runs [0x0C0] with fc := { loaded := true } }

/-- A downstream and an upstream frame under way. -/
def fieldBusy : State :=
  { fieldState with fc := { fieldState.fc with down := some { seq := 1, pg := 3, doCmd := 0, lsCmd := 0, mask := 0 }
                                               up := some { echo := 1, regs := [], edges := [], fired := 0, events := [], lost := 0, freset := false, pg := 3 } } }

theorem witness_FieldFrames :
    State.reset.fieldSends = false ∧ State.reset.fc.loaded = false ∧ fieldState.fieldSends = true ∧
    fieldState.bit (Reg.PG_INJARM 0x001) 0 = false ∧ State.reset.fc.down = none ∧ fieldBusy.fc.down.isSome = true ∧
    fieldBusy.bit (Reg.PG_INJARM 0x0C0) 0 = false ∧ fieldBusy.field.alive = true ∧
    ({ fieldBusy with field := { alive := false } } : State).field.alive = false ∧ State.reset.fc.up = none ∧
    fieldBusy.fc.up.isSome = true ∧ (State.reset.setBit Reg.FL_STAT 8 true).bit Reg.FL_STAT 8 = true ∧
    State.reset.running 0x0C0 = false ∧ fieldState.running 0x0C0 = true ∧ (State.reset.wr Reg.BOOT_STAT 4).bit Reg.BOOT_STAT 2 = true ∧
    State.reset.bit Reg.BOOT_STAT 2 = false ∧ State.reset.fc.echoRun < 16 ∧
    16 ≤ ({ fieldState with fc := { fieldState.fc with echoRun := 16 } } : State).fc.echoRun := by decide

theorem witness_FieldInputsAndOutputs :
    ({ State.reset with field := { alive := false } } : State).field.alive = false ∧ State.reset.field.alive = true ∧
    State.reset.bit (Reg.PG_INJARM 0x0C0) 0 = false ∧ State.reset.railUv 2 = false ∧
    ({ State.reset with field := { uv := [0, 1, 2] } } : State).railUv 2 = true ∧ State.reset.bit (Reg.PG_INJARM 0x0C1) 0 = false ∧
    (false != (State.reset.frd (Reg.DI_CFG 31)).getLsbD 18) = State.reset.fbit Reg.DI_LEVEL 31 ∧
    State.reset.bit (Reg.PG_INJARM 0x0C2) 0 = false ∧
    ({ State.reset with field := { doAuto := 0x8000 } } : State).field.doAuto.testBit 15 = true ∧
    ({ State.reset with field := { doAuto := 0x7FFF } } : State).field.doAuto.testBit 15 = false := by decide

/-- Reset with load switch 15 in a state. -/
def lsState (d : LsDyn) : State := State.reset.setLs 15 d

theorem witness_LoadSwitches :
    State.reset.commands 63 2 15 = false ∧ State.reset.commands 0 2 15 = true ∧ State.reset.fc.lsCmd < 65536 ∧
    ({ State.reset with owners := [(2 * 256 + 15, (63, false))] } : State).commands 63 2 15 = true ∧
    ({ State.reset with field := { alive := false } } : State).field.alive = false ∧ (lsState {}).field.alive = true ∧
    ((lsState {}).lsDyn 15).on = false ∧ ((lsState { on := true }).lsDyn 15).on = true ∧
    (lsState {}).bit (Reg.PG_INJARM 0x0C4) 0 = false ∧ ((lsState { on := true, limiting := true }).lsDyn 15).limiting = true ∧
    ((lsState {}).lsDyn 15).prot ≠ 4 ∧ ((lsState { prot := 4 }).lsDyn 15).prot = 4 ∧ (lsState { prot := 4 }).railUv 0 = false ∧
    (lsState { prot := 4 }).railUv 1 = false ∧ ((lsState { prot := 4 }).lsDyn 15).wait = false ∧
    ((lsState { prot := 4, wait := true }).lsDyn 15).wait = true ∧ ((lsState {}).lsDyn 15).rcfg.getLsbD 8 = true := by decide


/-- Reset with the key store RUNNING and key slots filled. -/
def keyState (l : List (Nat × KeySlot)) (op : Option KeyOp) : State := { runs [0x0D0] with key := { keys := l, keyOp := op } }

/-- Every key slot from 8 to 63 holds a key. -/
def fullKeys : List (Nat × KeySlot) := ((List.range 64).filter (8 ≤ ·)).map fun n => (n, { cur := some { typ := 1, usage := 1 } })

theorem witness_KeyCommands :
    (State.reset.setBit Reg.KEY_STAT 0 true).bit Reg.KEY_STAT 0 = true ∧ State.reset.bit Reg.KEY_STAT 0 = false ∧
    State.reset.running 0x0D0 = false ∧ (keyState [] none).running 0x0D0 = true ∧ (keyState [] none).bit Reg.KEY_STAT 0 = false ∧
    ((keyState [] none).keySlot 63).pend = none ∧ ((keyState [] none).keySlot 7).cur = none ∧
    ((keyState [(8, { pend := some { typ := 1, usage := 1 } })] none).keySlot 8).pend.isSome = true ∧
    ((keyState [(8, { cur := some { typ := 1, usage := 1 } })] none).keySlot 9).cur = none ∧
    (∀ j, j < 9 → 8 ≤ j → ((keyState [(8, { cur := some { typ := 1, usage := 1 } })] none).keySlot j).cur.isSome = true) ∧
    (keyState [] none).key.keyOp = none ∧
    (keyState [] (some { op := 1, slot := 63, status := some 255 })).key.keyOp = some { op := 1, slot := 63, status := some 255 } ∧
    (keyState [] (some { op := 5, slot := 8, status := none })).key.keyOp = some { op := 5, slot := 8, status := none } ∧
    1 ∈ ({ State.reset with compacting := [1] } : State).compacting ∧ State.reset.power.held = false ∧ State.reset.power.backup = false ∧
    heldState.power.held = true := by decide

theorem witness_KeyCommands_full : ∀ j, j < 64 → 8 ≤ j → ((keyState fullKeys none).keySlot j).cur.isSome = true := by decide

theorem witness_CryptoAndAttestation :
    (State.reset.setBit Reg.CRY_STAT 0 true).bit Reg.CRY_STAT 0 = true ∧ State.reset.bit Reg.CRY_STAT 0 = false ∧
    State.reset.running 0x0D1 = false ∧ (runs [0x0D1]).running 0x0D1 = true ∧ (runs [0x0D1]).bit Reg.CRY_STAT 0 = false ∧
    State.reset.key.cryJob = none ∧ ({ State.reset with key := { cryJob := some { status := 255 } } } : State).key.cryJob = some { status := 255 } ∧
    State.reset.bit (Reg.PG_INJARM 0x0D1) 0 = false ∧ (State.reset.setBit Reg.ATT_STAT 0 true).bit Reg.ATT_STAT 0 = true ∧
    State.reset.bit Reg.ATT_STAT 0 = false ∧ State.reset.running 0x0D2 = false ∧ (runs [0x0D2]).running 0x0D2 = true ∧
    (runs [0x0D2]).bit Reg.ATT_STAT 0 = false ∧ State.reset.key.attBusy = false ∧
    ({ State.reset with key := { attBusy := true } } : State).key.attBusy = true := by decide

theorem witness_AuthenticatedOperations :
    (State.reset.setBit Reg.COX_STAT 0 true).bit Reg.COX_STAT 0 = true ∧ State.reset.bit Reg.COX_STAT 0 = false ∧
    (State.reset.arg 0).fld 31 16 = 0 ∧ 3 ≤ ({ State.reset with key := { authFails := 3 } } : State).key.authFails ∧
    ({ State.reset with key := { authShut := true } } : State).key.authShut = true ∧ State.reset.key.authShut = false := by decide

theorem witness_CheckValueUnits :
    State.reset.running 0x0E7 = false ∧ (runs [0x0E7]).running (0x0E0 + 7) = true ∧ (State.reset.cvu 7).isOpen = false ∧
    (({ State.reset with cvus := [(7, { isOpen := true })] } : State).cvu 7).isOpen = true := by decide

/-- Reset with the global arm set for a time. -/
def armedState : State := { State.reset.wr Reg.INJ_STAT 1 with injEnd := some 100 }

theorem witness_InjectionCommands :
    ({ State.reset with part := .yk0001 } : State).has 0x040 = false ∧ State.reset.has 0x001 = true ∧
    (1 : Word).getLsbD 0 = true ∧ (2 : Word).getLsbD 0 = false ∧ State.reset.bit Reg.INJ_STAT 0 = false ∧ armedState.bit Reg.INJ_STAT 0 = true ∧
    (armedState.wr (Reg.PG_INJSEL 0x001) 0x310).get (Reg.PG_INJSEL 0x001) 7 0 ≠ 0 ∧
    (armedState.wr (Reg.PG_INJSEL 0x001) 0x310).injListed 0x001
      ((armedState.wr (Reg.PG_INJSEL 0x001) 0x310).get (Reg.PG_INJSEL 0x001) 7 0)
      ((armedState.wr (Reg.PG_INJSEL 0x001) 0x310).get (Reg.PG_INJSEL 0x001) 15 8) = true ∧
    State.reset.injEnd = none ∧ armedState.injEnd.isSome = true ∧ State.reset.injLog = [] ∧
    ({ State.reset with injLog := [(1, 2)] } : State).injLog = (1, 2) :: [] := by decide

/-- Reset in, or on its way to, Backup. -/
def backupState (p : Power) : State := { State.reset with power := { p with backup := true } }

theorem witness_PowerAndResets :
    (backupState {}).power.backup = true ∧ State.reset.power.backup = false ∧ outlives 0x300100 = false ∧ outlives Reg.TB_BK_ALARM_LO = true ∧
    Reg.TB_BK_ALARM_LO ∉ [Reg.RST_CNT, Reg.LIFE_LASTSEC_LO, Reg.LIFE_LASTSEC_HI] ∧ haltState.halted = true ∧ State.reset.halted = false ∧
    State.reset.done = false ∧ State.reset.easy = false ∧ (State.reset.wr Reg.BOOT_STAT 2).done = true ∧ (State.reset.wr Reg.BOOT_STAT 4).easy = true ∧
    (0 : Word).fld 31 16 ≠ 0xC10D ∧ (0xC10D0003 : Word).fld 31 16 = 0xC10D ∧ (0xC10D0003 : Word).getLsbD 0 = true ∧ (0xC10D0003 : Word).getLsbD 1 = true ∧
    (0xC10D0000 : Word).getLsbD 0 = false ∧ (0xC10D0000 : Word).getLsbD 1 = false ∧ State.reset.power.cause = none ∧
    haltState.power.cause ≠ none ∧ haltState.power.held = false ∧ heldState.power.held = true ∧ heldState.power.cause = some 1 ∧
    heldState.supplied = true ∧ ({ State.reset with power := { supply := 0 } } : State).supplied = false ∧
    State.reset.bit (Reg.PG_INJARM 0x002) 0 = false ∧ State.reset.power.restart = none ∧
    ({ State.reset with power := { restart := some 1 } } : State).power.restart ≠ none ∧ State.reset.power.recDue = false ∧
    ({ State.reset with power := { recDue := true } } : State).power.recDue = true := by decide

/-- Backup, domain D cleared and no reset under way, with wake sources enabled. -/
def sleepState : State := (backupState { held := true }).wr Reg.PWR_BKCFG 3

/-- Reset with every link down, the sleep vote set and Feather enabled. -/
def drowsyState : State := holds { State.reset with links := [] } [(Reg.RT_SLP_CTRL, 1), (Reg.PWR_CTRL, 2)]

set_option maxRecDepth 20000 in
theorem witness_PowerStates :
    haltState.halted = true ∧ (0xBAC00001 : Word).getLsbD 0 = true ∧ (0xBAC00000 : Word).getLsbD 0 = false ∧ State.reset.halted = false ∧
    State.reset.backupOk 1 = false ∧ State.reset.backupOk 0xBAC00001 = true ∧ State.reset.slp ≠ 2 ∧ State.reset.power.backup = false ∧
    sleepState.power.backup = true ∧ sleepState.power.held = true ∧ sleepState.power.cause = none ∧ sleepState.bit Reg.PWR_BKCFG 0 = true ∧
    sleepState.bit Reg.PWR_BKCFG 1 = true ∧ (State.reset.wr Reg.PWR_BKCFG 0).bit Reg.PWR_BKCFG 0 = false ∧ (State.reset.wr Reg.PWR_BKCFG 0).bit Reg.PWR_BKCFG 1 = false ∧
    State.reset.get Reg.PWR_STATE 1 0 = 0 ∧ (State.reset.wr Reg.PWR_CTRL 1).bit Reg.PWR_CTRL 0 = true ∧ (State.reset.wr Reg.PWR_CTRL 1).bit Reg.COX_STAT 0 = false ∧
    (State.reset.wr Reg.PWR_CTRL 0).bit Reg.PWR_CTRL 0 = false ∧ (State.reset.wr Reg.PWR_STATE 1).get Reg.PWR_STATE 1 0 = 1 ∧
    State.reset.feather = false ∧ featherState.feather = true ∧ State.reset.mayFeather = false ∧ drowsyState.mayFeather = true ∧
    drowsyState.pwrBlock = 0 ∧ (drowsyState.wr Reg.PWR_CTRL 0).pwrBlock ≠ 0 ∧
    (drowsyState.wr Reg.PWR_CTRL 0).power.blocked ≠ (drowsyState.wr Reg.PWR_CTRL 0).pwrBlock ∧
    ({ drowsyState.wr Reg.PWR_CTRL 0 with power := { blocked := 1 } } : State).power.blocked = (drowsyState.wr Reg.PWR_CTRL 0).pwrBlock ∧
    (State.reset.wr Reg.PWR_STATE 6).feather = true ∧ (State.reset.wr Reg.PWR_STATE 6).halted = false ∧ (State.reset.wr Reg.PWR_STATE 6).bit Reg.PWR_STATE 2 = true ∧
    (State.reset.wr Reg.BOOT_STAT 4).easy = true ∧ State.reset.hasDie 1 = true ∧
    ({ State.reset with part := .yk1281 } : State).hasDie 1 = false ∧
    State.reset.bit (Reg.PG_INJARM 0x000) 0 = false ∧ State.reset.power.pair = 0 ∧ (1 - 0) ∉ State.reset.power.failed := by decide

theorem witness_LifeStore :
    haltState.halted = true ∧ featherState.feather = true ∧ State.reset.halted = false ∧ State.reset.feather = false ∧
    (State.reset.wr Reg.DRAM_SCRUB 24).get Reg.DRAM_SCRUB 7 0 ≠ 0 ∧ (State.reset.wr Reg.DRAM_SCRUB 0).get Reg.DRAM_SCRUB 7 0 = 0 ∧ 1 ∉ State.reset.compacting ∧
    1 ∈ ({ State.reset with compacting := [1] } : State).compacting ∧ heldState.power.held = true ∧ State.reset.power.held = false ∧
    State.reset.bit Reg.TB_STAT 8 = false ∧ State.reset.bit (Reg.PG_INJARM 0x004) 0 = false ∧
    64 ≤ (State.reset.wr Reg.LIFE_SEL 64).lifeIdx ∧ State.reset.lifeIdx = 0 ∧
    (State.reset.wr Reg.LIFE_LEAP_OFS 0x80000000).bit Reg.LIFE_LEAP_OFS 31 = true ∧
    0 < ({ State.reset.wr Reg.LIFE_SEL 63 with leaps := [(62, (5, 37))] } : State).lifeIdx ∧
    Sparse.find? ({ State.reset.wr Reg.LIFE_SEL 63 with leaps := [(62, (5, 37))] } : State).leaps (63 - 1) = some (5, 37) ∧
    ({ State.reset.wr Reg.LIFE_SEL 63 with leaps := [(62, (5, 37))] } : State).rd64 Reg.LIFE_LEAP_SEC_LO Reg.LIFE_LEAP_SEC_HI ≤ 5 ∧
    Sparse.find? State.reset.leaps State.reset.lifeIdx = none ∧
    Sparse.find? ({ State.reset with leaps := [(0, (5, 37))] } : State).leaps 0 = some (5, 37) := by decide

/-- Reset with a command that waits. -/
def waiting (i : Instr) : State := { State.reset with pending := [i] }

theorem witness_EveryCommandCompletes : (Instr.pgRun 255).wellFormed = true := by decide

theorem witness_StepsKeepTheQueueReady : (waiting (.pgRun 255)).ready = true ∧ State.reset.ready = true := by decide

theorem witness_StepsKeepTheCanonicalForm : (waiting (.pgEvsetWrite 0x030 0)).canonical = true ∧
    ∃ t : State, step (waiting (.pgEvsetWrite 0x030 0)) = .next t := ⟨by decide, _, rfl⟩

/-! ### Examples that the manual works out -/

set_option maxRecDepth 20000 in
/-- R535: CRC-8 with polynomial 1DH, initial value FFH and final XOR FFH of the ASCII bytes "123456789" is 4BH. -/
theorem test_check_value :
    (([0x31, 0x32, 0x33, 0x34, 0x35, 0x36, 0x37, 0x38, 0x39] : List Byte).foldl (crcByte 8 0x1D false) 0xFF) ^^^ 0xFF = 0x4B := by
  decide

/-- The calibration example: KV is 109,976,905. -/
theorem test_gain_coefficient : roundDiv (45000120 * 2 ^ 32) 1757405740 = 109976905 := by decide

/-- The trend example and the grading example: slope −7,998 nV/h (R211), and a z of −614 (R234). -/
theorem test_slope_fit :
    (({ n := 6, sx := 33, sxx := 199, sy := -120000, sxy := -799970, syy := 3519530000, w := 60 } : Trend).fit.slope) = -7998 := by
  decide

theorem test_z_score : zScore { count := 32, sum := -763981000, sumSq := 18239712811281250 } (-23912000) = -614 := by decide

/-- R6: the part number and the capability word of a YK-1281. -/
theorem test_part_number :
    ({ State.reset with part := .yk1281 } : State).readReg Reg.DEV_PARTNUM = 0x1FD31281 ∧
    ({ State.reset with part := .yk1281 } : State).readReg Reg.DEV_CAPS = 0xDFFF00FF := by decide

/-! ### Ill-formed terms -/

set_option maxRecDepth 20000 in
theorem test_ill_formed_1 : ([
    .pgRun 256,
    .registerWrite 0x500000 0,
    .measureFrameRx 2 true [],
    .measureFrameRx 0 true [{ j := 128, v := 0, i := 0 }],
    .measureFrameRx 0 true [{ j := 0, v := 8388608, i := 0 }],
    .measureFrameRx 0 true [{ j := 0, v := -8388609, i := 0 }],
    .measureFrameRx 0 true [{ j := 0, v := 0, i := 8388608 }],
    .measureFrameRx 0 true [{ j := 0, v := 0, i := -8388609 }],
    .tsConversionDone 256 0,
    .tsConversionDone 0 (2 ^ 22),
    .odrWrite 0 65536,
    .refCrossCheck 2 true true 0 0,
    .refCrossCheck 0 true true (2 ^ 31) 0,
    .refCrossCheck 0 true true (-(2 ^ 31) - 1) 0,
    .calNop 2,
    .calReservedOp 0 7,
    .calReservedOp 0 16,
    .chNop 256 0,
    .chNop 0 64,
    .chReservedOp 0 0 8,
    .chReservedOp 0 0 16,
    .rampToIdle 256,
    .progNop 1024,
    .progReservedOp 0 7,
    .progReservedOp 0 16,
    .eisTableNop 16,
    .eisTableReservedOp 0 5,
    .eisTableReservedOp 0 16,
    .crewNop 64,
    .crewReservedOp 0 9,
    .crewReservedOp 0 16,
    .crewHeartbeatRx 4096,
    .crewArrivalRx 0 512 0 0 0,
    .crewTransRx 0 7 0,
    .reductionMark 8,
    .reductionContribRx 0 512 [],
    .ringConsumerWrite 64 0 0,
    .ringConsumerWrite 0 4 0,
    .ringConsumerWrite 0 0 (2 ^ 32),
    .stageFrameLaunch 16 true 0] : List Instr).all (fun i => !i.wellFormed) = true := by decide

set_option maxRecDepth 20000 in
theorem test_ill_formed_2 : ([
    .stageFrameLaunch 0 true 65536,
    .telemetryRx 0 true (List.replicate 85 0) 0,
    .serdesUnlock 0x03F,
    .serdesUnlock 0x050,
    .serdesUnlock 0x05F,
    .serdesUnlock 0x068,
    .refEdgeLoss 2,
    .refFreqCheck 0 2,
    .schNop 32 0,
    .schNop 0 64,
    .schReservedOp 0 0 4,
    .schReservedOp 0 0 16,
    .slotFire 32 true 0 (0, 0, 0),
    .catNop 16 0,
    .catNop 0 64,
    .catFifoRead 16,
    .bruilFlitRx 8 (List.replicate 64 0),
    .bruilFlitRx 0 (List.replicate 63 0),
    .linkStateAnnounceRx 512 0 [],
    .linkStateAnnounceRx 0 0 [512],
    .bruilPacketRx 0 { dst := 0, src := 512, cls := 0, load := .abort },
    .bruilPacketRx 0 { dst := 512, src := 0, cls := 0, load := .abort },
    .bruilPacketRx 0 { dst := 0, src := 0, cls := 7, load := .abort },
    .bruilPacketRx 0 { dst := 0, src := 0, cls := 0, eseq := 65536, load := .abort },
    .seqGapTimeout 512 0,
    .seqGapTimeout 0 7,
    .perrRx 512 0 none none,
    .perrRx 0 65 none none,
    .routeReturn 512,
    .fenceComplete 65,
    .timeFlitRx 8 true 0 0 none 0,
    .timeFlitRx 0 true 0 0 none 16,
    .sleepVoteRx 512 true,
    .wakeRequest 0,
    .wakeRequest 9,
    .wakeBeaconRx 0 512,
    .windowRead 3 (.firmware 0 0) 1,
    .windowRead 0 (.firmware 0 0) 0,
    .windowRead 0 (.firmware 64 0) 1,
    .windowRead 0 (.seat 64 0x8000) 1] : List Instr).all (fun i => !i.wellFormed) = true := by decide

set_option maxRecDepth 20000 in
theorem test_ill_formed_3 : ([
    .windowRead 0 (.seat 0 0x7FFF) 1,
    .windowRead 0 (.seat 0 0xFFFD) 4,
    .windowWrite 0 (.seat 0 0x8000) [],
    .windowCompletionRx 64 0 0 [],
    .windowCompletionRx 0 0 7 [],
    .windowCompletionRx 0 0 22 [],
    .windowTimeout 64 true,
    .inboundRequest 512 0 0 { win := 0, size := 4 },
    .inboundRequest 0 128 0 { win := 0, size := 4 },
    .inboundRequest 0 0 65536 { win := 0, size := 4 },
    .inboundRequest 0 0 0 { win := 64, size := 4 },
    .inboundRequest 0 0 0 { win := 0, space := 2, size := 4 },
    .inboundRequest 0 0 0 { win := 0, addr := 2 ^ 64, size := 4 },
    .inboundRequest 0 0 0 { win := 0, size := 65 },
    .inboundRequest 0 0 0 { win := 0, size := 0 },
    .inboundRequest 0 0 0 { win := 0, kind := 1, size := 4 },
    .inboundRequest 0 0 0 { win := 0, write := true, size := 4 },
    .lockRequestRx 0 0 0 { win := 0 },
    .lockRequestRx 0 0 0 { win := 0, kind := 3 },
    .wbLock 64,
    .lockHoldTimeout 2,
    .sqDoorbell 64 0 0,
    .sqDoorbell 0 8 0,
    .eqDoorbell 0 (2 ^ 32),
    .sqEntryFetch 64 0 (List.replicate 64 0) [],
    .sqEntryFetch 0 8 (List.replicate 64 0) [],
    .sqEntryFetch 0 0 [] [],
    .sqeNop 64 0 0,
    .sqeNop 0 8 0,
    .sqeNop 0 0 65536,
    .sqeProg 0 0 0 [],
    .sqeMsgTx 0 0 0 [],
    .portDown 2 true,
    .pcieLinkUp 2 1 1,
    .pcieLinkUp 0 0 1,
    .pcieLinkUp 0 5 1,
    .pcieLinkUp 0 1 0,
    .pcieLinkUp 0 1 16,
    .seatResetDone 64,
    .pcieCompletionTimeout 2 none] : List Instr).all (fun i => !i.wellFormed) = true := by decide

set_option maxRecDepth 20000 in
theorem test_ill_formed_4 : ([
    .pcieCompletionTimeout 0 (some 8),
    .msixUnmask 0 512,
    .dmaChunkStart 8 0 [],
    .dmaReadCompletion 8 none,
    .dmaReadCompletion 0 (some (List.replicate 257 0)),
    .ethFrameRx 12 (List.replicate 14 0) true 0,
    .ethFrameRx 0 (List.replicate 13 0) true 0,
    .egressTransmit 22 0,
    .tunnelSegmentRx 8 0 0 true [] 0,
    .tunnelSegmentRx 0 0 0 true (List.replicate 257 0) 0,
    .tunnelReassemblyTimeout 8 0,
    .ethLinkDown 12,
    .mtrFree 4096,
    .snicPoll 64 true (List.replicate 16 0) [] [],
    .snicPoll 0 true [] [] [],
    .canTxStart 4,
    .canFrameRx 0 { id := 2 ^ 11 } 0,
    .canFrameRx 0 { id := 2 ^ 29, ide := true } 0,
    .canFrameRx 0 { id := 0, data := List.replicate 9 0 } 0,
    .canFrameRx 0 { id := 0, fdf := true, data := List.replicate 65 0 } 0,
    .canFrameRx 0 { id := 0, fdf := true, rtr := true } 0,
    .canTxDone 0 3,
    .canBusError 0 4 true true,
    .serIdleGap 4,
    .serCharRx 0 512 true true 0,
    .railUndervoltage 3,
    .diEdgeAccepted 32 true 0,
    .doOvertemp 16,
    .doSetWrite 64 0,
    .lsClr 0 64,
    .keyNop 64 true true,
    .keyReservedOp 0 9,
    .keyReservedOp 0 16,
    .glazeCycle [64],
    .cvuEnd 8,
    .injArmWrite 256 0,
    .stallDetected 256 0,
    .stallDetected 0 256,
    .supplyLoss 5,
    .domainDRelease 512 2 0 []] : List Instr).all (fun i => !i.wellFormed) = true := by decide

set_option maxRecDepth 20000 in
theorem test_ill_formed_5 : ([
    .domainDRelease 0 1 0 [],
    .domainDRelease 0 17 0 [],
    .domainDRelease 0 2 3 [],
    .domainDRelease 0 2 0 [2],
    .mgmtPairFail 2,
    .journalCompactionStart 2,
    .crumbAreaWrite Reg.LIFE_SEL 0] : List Instr).all (fun i => !i.wellFormed) = true := by decide

/-- What is turned away is not executed. -/
theorem test_ill_formed_stops : exec (.pgRun 256) State.reset = .fault .illFormed ∧ exec (.supplyLoss 5) State.reset = .fault .illFormed ∧
    exec (.chArm 0 64) State.reset = .fault .illFormed := ⟨rfl, rfl, rfl⟩

theorem witness_IllFormedCommandsStop : (Instr.pgRun 256).wellFormed = false := by decide

end Sys2Proof.Tests
end

section
/-!
PROOF. Fields of a word bit by bit, and what the frame of events leaves of them.
-/
namespace Sys2Proof.Machine

/-- A bit of a word whose field [hi:lo] was replaced: from the new value inside the field, from the word outside it. -/
theorem Word.getLsbD_setFld (w : Word) (hi lo v i : Nat) (hhi : hi < 32) (hlo : lo ≤ hi) :
    (w.setFld hi lo v).getLsbD i = if lo ≤ i ∧ i ≤ hi then v.testBit (i - lo) else w.getLsbD i := by
  have hlow : w.toNat % 2 ^ lo < 2 ^ lo := Nat.mod_lt _ (Nat.pow_pos (by omega))
  have hfld : v % 2 ^ (hi + 1 - lo) < 2 ^ (hi + 1 - lo) := Nat.mod_lt _ (Nat.pow_pos (by omega))
  have hsplit : w.toNat / 2 ^ (hi + 1) * 2 ^ (hi + 1) + v % 2 ^ (hi + 1 - lo) * 2 ^ lo + w.toNat % 2 ^ lo =
      2 ^ lo * (2 ^ (hi + 1 - lo) * (w.toNat / 2 ^ (hi + 1)) + v % 2 ^ (hi + 1 - lo)) + w.toNat % 2 ^ lo := by
    rw [Nat.mul_add, ← Nat.mul_assoc, ← Nat.pow_add, Nat.add_sub_cancel' (by omega : lo ≤ hi + 1),
      Nat.mul_comm (2 ^ (hi + 1)), Nat.mul_comm (2 ^ lo)]
  have hw : 32 ≤ i → w.getLsbD i = false := w.getLsbD_of_ge i
  unfold Word.setFld
  rw [BitVec.getLsbD_ofNat, hsplit, Nat.testBit_two_pow_mul_add _ hlow, Nat.testBit_two_pow_mul_add _ hfld,
    Nat.testBit_mod_two_pow, Nat.testBit_mod_two_pow, Nat.testBit_div_two_pow]
  rcases Nat.lt_or_ge i lo with hi1 | hi1
  · simp [hi1, show i < 32 by omega, show ¬ lo ≤ i by omega, BitVec.testBit_toNat]
  · rcases Nat.lt_or_ge hi i with hi2 | hi2
    · have hpos : i - lo - (hi + 1 - lo) + (hi + 1) = i := by omega
      by_cases h32 : i < 32
      · simp [show ¬ i < lo by omega, show ¬ i - lo < hi + 1 - lo by omega, show ¬ i ≤ hi by omega, hpos, h32,
          BitVec.testBit_toNat]
      · simp [h32, hw (by omega), show ¬ i ≤ hi by omega]
    · simp [show ¬ i < lo by omega, show i - lo < hi + 1 - lo by omega, hi1, hi2, show i < 32 by omega]

/-- A bit of a field is the bit of the word at its place. -/
theorem Word.testBit_fld (w : Word) (hi lo i : Nat) :
    (w.fld hi lo).testBit i = (decide (i < hi + 1 - lo) && w.getLsbD (i + lo)) := by
  rw [Word.fld, Nat.testBit_mod_two_pow, Nat.testBit_div_two_pow, BitVec.testBit_toNat]

/-- A field below the one that is written reads as before. -/
theorem Word.fld_setFld_below (w : Word) (hi lo v hi' lo' : Nat) (hhi : hi < 32) (hlo : lo ≤ hi) (hbelow : hi' < lo) :
    (w.setFld hi lo v).fld hi' lo' = w.fld hi' lo' := by
  refine Nat.eq_of_testBit_eq fun i => ?_
  rw [Word.testBit_fld, Word.testBit_fld, Word.getLsbD_setFld w hi lo v _ hhi hlo]
  by_cases hin : i < hi' + 1 - lo'
  · rw [if_neg (by omega)]
  · simp [hin]

theorem State.get_put_below (s : State) (a hi lo v hi' lo' : Nat) (hhi : hi < 32) (hlo : lo ≤ hi) (hbelow : hi' < lo) :
    (s.put a hi lo v).get a hi' lo' = s.get a hi' lo' := by
  rw [State.get, State.rd_put_same, Word.fld_setFld_below _ hi lo v hi' lo' hhi hlo hbelow, State.get]

theorem State.get_setBit_below (s : State) (a i hi' lo' : Nat) (b : Bool) (hi : i < 32) (hbelow : hi' < i) :
    (s.setBit a i b).get a hi' lo' = s.get a hi' lo' :=
  s.get_put_below a i i b.toNat hi' lo' hi (Nat.le_refl i) hbelow

theorem State.bit_setBit_same (s : State) (a i : Nat) (b : Bool) (hi : i < 32) : (s.setBit a i b).bit a i = b := by
  rw [State.bit, State.setBit_eq, State.rd_put_same, Word.getLsbD_setFld _ i i _ _ hi (Nat.le_refl i)]
  cases b <;> simp

theorem EventFrame.get {R : Nat → Bool} {s t : State} (h : EventFrame R s t) (a hi lo : Nat) (ha : R a = false) :
    t.get a hi lo = s.get a hi lo := by
  rw [State.get, h.rd a ha, State.get]

theorem EventFrame.bit {R : Nat → Bool} {s t : State} (h : EventFrame R s t) (a i : Nat) (ha : R a = false) :
    t.bit a i = s.bit a i := by
  rw [State.bit, h.rd a ha, State.bit]

/-- An event raised at a present page stands in `PG_EVRAW` (R53). -/
theorem State.bit_raise_same (s : State) (p b : Nat) (hp : p < 256) (hb : b < 32) (hhas : s.has p = true) :
    (s.raise p b).bit (Reg.PG_EVRAW p) b = true := by
  rw [State.bit, s.rd_raise_raw p b hp hhas, BitVec.getLsbD_or, BitVec.getLsbD_ofNat, Nat.testBit_two_pow_self]
  simp [hb]

end Sys2Proof.Machine
end

section
/-!
PROOF. A write of `PG_CTRL` (R51), up to the statement PageControlTakesTheHighestBit.
-/
namespace Sys2Proof.Machine

theorem PG_CTRL_lt (p : Nat) (h : p < 256) : Reg.PG_CTRL p < 0x100000 := by
  unfold Reg.PG_CTRL
  omega

@[simp] theorem PG_CTRL_div (p : Nat) : Reg.PG_CTRL p / 0x1000 = p := by
  unfold Reg.PG_CTRL
  omega

@[simp] theorem PG_CTRL_mod (p : Nat) : Reg.PG_CTRL p % 0x1000 = 0x00C := by
  unfold Reg.PG_CTRL
  omega

theorem PG_CTRL_aligned (p : Nat) : Reg.PG_CTRL p % 4 = 0 := by
  unfold Reg.PG_CTRL
  omega

/-- The header has a row for `PG_CTRL` (R50). -/
theorem regRow_PG_CTRL (p : Nat) (h : p < 256) : ∃ r, regRow (Reg.PG_CTRL p) = some r := by
  have hrow : (RegMap.header.find? fun r => rowHit r 0x00C).isSome = true := by decide
  obtain ⟨r, hr⟩ := Option.isSome_iff_exists.mp hrow
  exact ⟨r, by simpa [regRow, PG_CTRL_lt p h] using hr⟩

/-- `PG_CTRL` is never a register of an absent unit (R11). -/
theorem State.absentUnit_PG_CTRL (s : State) (p : Nat) : s.absentUnit (Reg.PG_CTRL p) = false := by
  have htc : Reg.PG_CTRL p ≠ Reg.PTP_TC := fun e => by
    have hmod := congrArg (· % 0x1000) e
    rw [PG_CTRL_mod] at hmod
    exact absurd hmod (by decide)
  simp [State.absentUnit, htc]

theorem State.isReg_PG_CTRL (s : State) (p : Nat) (h : p < 256) (hhas : s.has p = true) : s.isReg (Reg.PG_CTRL p) = true := by
  obtain ⟨r, hr⟩ := regRow_PG_CTRL p h
  simp [State.isReg, PG_CTRL_aligned, hr, hhas, State.absentUnit_PG_CTRL]

/-- A write of `PG_CTRL` runs the command of the highest of its bits SRST, STOP and RUN, and none without them. -/
theorem execRegisterWrite_PG_CTRL (s : State) (p : Nat) (v : Word) (h : p < 256) (hheld : s.power.held = false)
    (hhas : s.has p = true) :
    execRegisterWrite (Reg.PG_CTRL p) v s = .next
      (if v.getLsbD 2 then s.pgSrst p else if v.getLsbD 1 then s.pgStop p else if v.getLsbD 0 then s.pgRun p else s) := by
  obtain ⟨r, hr⟩ := regRow_PG_CTRL p h
  have hlt := PG_CTRL_lt p h
  have hwrite : s.regWrite (Reg.PG_CTRL p) v = s.headWrite r p 0x00C v := by
    have hhead : 0x00C < 0x40 := by decide
    simp only [State.regWrite, State.regWriteAs, s.isReg_PG_CTRL p h hhas, hheld, hr, Nat.not_le.mpr hlt, PG_CTRL_mod,
      PG_CTRL_div, hhead, Bool.not_true, Bool.or_self, Bool.false_eq_true, ↓reduceIte]
  rw [execRegisterWrite, answer, if_pos (decide_eq_true (by omega)), PG_CTRL_aligned, hwrite]
  rfl

theorem exec_registerWrite (a : Nat) (v : Word) (s : State) : exec (.registerWrite a v) s = execRegisterWrite a v s := rfl

/-- Settles O6: the write reaches the header of the page, which tests SRST, then STOP, then RUN. -/
theorem pageControlTakesTheHighestBit : Obligations.PageControlTakesTheHighestBit := by
  unfold Obligations.PageControlTakesTheHighestBit
  intro s p v hp hheld hhas
  rw [exec_registerWrite, execRegisterWrite_PG_CTRL s p v hp hheld hhas]
  refine ⟨fun hsrst => ?_, fun hsrst hstop => ?_, fun hsrst hstop hrun => ?_, fun hsrst hstop hrun => ?_⟩
  · simp only [hsrst, ↓reduceIte]
  · simp only [hsrst, hstop, Bool.false_eq_true, ↓reduceIte]
  · simp only [hsrst, hstop, hrun, Bool.false_eq_true, ↓reduceIte]
  · simp only [hsrst, hstop, hrun, Bool.false_eq_true, ↓reduceIte]

end Sys2Proof.Machine
end

section
/-!
PROOF. The governor at the end of a window (R35 to R40), up to the statement GovernorEvaluatesTheWindow.
-/
namespace Sys2Proof.Machine

/-- The smallest slack of the window is below RAISE (R37). -/
def State.slackLow (s : State) : Bool := decide (s.winSlack < s.get Reg.PWR_GOV_THR 15 0)

/-- The window asks for a higher code: its slack is short, or a class missed (R37). -/
def State.raiseDue (s : State) : Bool := s.slackLow || s.winMiss

/-- The windows in a row, this one counted, whose slack stayed above LOWER (R37). -/
def State.ampleRun (s : State) : Nat := if s.get Reg.PWR_GOV_THR 31 16 < s.winSlack then s.lowRun + 1 else 0

/-- The state after a window of short slack raised SLACK_LOW (R40). -/
def State.slackNoted (s : State) : State := s.when s.slackLow fun s => s.raise 0x001 8

/-- `VID_NOW`. -/
def State.vidNow (s : State) : Nat := s.get Reg.PWR_GOV_STAT 6 0

/-- A code held inside the range of the governor (R37). -/
def State.vidClamp (s : State) (v : Nat) : Nat := min s.vidMax (max s.vidMin v)

/-! ### Registers that events leave -/

theorem slackNoted_frame (s : State) : EventFrame eventReg s s.slackNoted :=
  EventFrame.when _ (EventFrame.refl s) (EventFrame.raise s 0x001 8 (by decide))

theorem EventFrame.vidNow {s t : State} (h : EventFrame eventReg s t) : t.vidNow = s.vidNow :=
  h.get Reg.PWR_GOV_STAT 6 0 (by decide)

theorem EventFrame.vidMin {s t : State} (h : EventFrame eventReg s t) : t.vidMin = s.vidMin := by
  simp [State.vidMin, State.feather, h.get Reg.PWR_GOV_CTRL 14 8 (by decide), h.get Reg.PWR_STATE 1 0 (by decide)]

theorem EventFrame.vidMax {s t : State} (h : EventFrame eventReg s t) : t.vidMax = s.vidMax := by
  simp [State.vidMax, h.get Reg.PWR_GOV_CTRL 22 16 (by decide)]

theorem EventFrame.vidClamp {s t : State} (h : EventFrame eventReg s t) (v : Nat) : t.vidClamp v = s.vidClamp v := by
  simp [State.vidClamp, h.vidMin, h.vidMax]

/-! ### The code that is driven -/

theorem State.vidMax_le (s : State) : s.vidMax ≤ 70 := Nat.min_le_left _ _

/-- The code driven is the one asked for, held inside the range; it fits its field, as no code is above 70 (R35). -/
@[simp] theorem State.vidNow_setVid (s : State) (v : Nat) : (s.setVid v).vidNow = s.vidClamp v := by
  have hfits : s.vidClamp v < 128 := Nat.lt_of_le_of_lt (Nat.le_trans (Nat.min_le_left _ _) s.vidMax_le) (by decide)
  have hput : (s.setVid v).vidNow = (s.put Reg.PWR_GOV_STAT 6 0 (s.vidClamp v)).vidNow :=
    State.get_put_below _ Reg.PWR_GOV_STAT 14 8 _ 6 0 (by decide) (by decide) (by decide)
  rw [hput, State.vidNow, State.get_put_same _ _ _ _ _ (by decide) (by decide)]
  exact Nat.mod_eq_of_lt hfits

@[simp] theorem State.lowRun_setVid (s : State) (v : Nat) : (s.setVid v).lowRun = s.lowRun := rfl

/-- The state with the count of ample windows set. -/
def State.withLowRun (s : State) (n : Nat) : State := { s with lowRun := n }

@[simp] theorem State.lowRun_withLowRun (s : State) (n : Nat) : (s.withLowRun n).lowRun = n := rfl
@[simp] theorem State.vidClamp_withLowRun (s : State) (n v : Nat) : (s.withLowRun n).vidClamp v = s.vidClamp v := rfl

/-- A code at the upper bound is driven and flagged in `GOV_AT_MAX`, as register bit and as event (R37, R40). -/
def State.driveAtMax (s : State) (v : Nat) : State := ((s.setVid v).setBit Reg.PWR_GOV_STAT 16 true).raise 0x001 9

theorem driveAtMax_frame (s : State) (v : Nat) :
    EventFrame eventReg ((s.setVid v).setBit Reg.PWR_GOV_STAT 16 true) (s.driveAtMax v) :=
  EventFrame.raise _ 0x001 9 (by decide)

@[simp] theorem State.vidNow_driveAtMax (s : State) (v : Nat) : (s.driveAtMax v).vidNow = s.vidClamp v := by
  rw [(driveAtMax_frame s v).vidNow, State.vidNow, State.get_setBit_below _ _ _ _ _ _ (by decide) (by decide)]
  exact s.vidNow_setVid v

theorem State.atMax_driveAtMax (s : State) (v : Nat) : (s.driveAtMax v).bit Reg.PWR_GOV_STAT 16 = true := by
  rw [(driveAtMax_frame s v).bit _ _ (by decide)]
  exact State.bit_setBit_same _ _ _ _ (by decide)

/-- Every part has the power page (R9). -/
theorem has_powerPage (s : State) : s.has 0x001 = true := by
  unfold State.has
  cases s.part <;> decide

theorem State.event_driveAtMax (s : State) (v : Nat) : (s.driveAtMax v).bit (Reg.PG_EVRAW 0x001) 9 = true :=
  State.bit_raise_same _ 0x001 9 (by decide) (by decide) (has_powerPage _)

/-! ### The window -/

/-- What the enabled governor does at the end of a window, by its four cases. -/
theorem State.govern_eq (s : State) :
    s.govern =
      if s.raiseDue then
        if s.vidMax ≤ s.vidNow then (s.slackNoted.withLowRun s.ampleRun).driveAtMax s.vidNow
        else (s.slackNoted.withLowRun s.ampleRun).setVid (s.vidNow + 1)
      else if 64 ≤ s.ampleRun then (s.slackNoted.withLowRun 0).setVid (s.vidNow - 1)
      else (s.slackNoted.withLowRun s.ampleRun).setVid s.vidNow := by
  rw [← (slackNoted_frame s).vidMax, State.raiseDue, ← (slackNoted_frame s).winMiss]
  rfl

/-- The code that a window asks for (R37). -/
def State.vidNext (s : State) : Nat :=
  if s.raiseDue then if s.vidMax ≤ s.vidNow then s.vidNow else s.vidNow + 1
  else if 64 ≤ s.ampleRun then s.vidNow - 1
  else s.vidNow

/-- The governor drives the code that the window asks for, held inside the range. -/
theorem State.vidNow_govern (s : State) : s.govern.vidNow = s.vidClamp s.vidNext := by
  have hclamp := (slackNoted_frame s).vidClamp
  rw [s.govern_eq, State.vidNext]
  split
  · split
    · rw [State.vidNow_driveAtMax, State.vidClamp_withLowRun, hclamp]
    · rw [State.vidNow_setVid, State.vidClamp_withLowRun, hclamp]
  · split
    · rw [State.vidNow_setVid, State.vidClamp_withLowRun, hclamp]
    · rw [State.vidNow_setVid, State.vidClamp_withLowRun, hclamp]

/-- The count of ample windows restarts when it has lowered the code (R37). -/
theorem State.lowRun_govern (s : State) (hdue : s.raiseDue = false) :
    s.govern.lowRun = if 64 ≤ s.ampleRun then 0 else s.ampleRun := by
  rw [s.govern_eq, if_neg (Bool.eq_false_iff.mp hdue)]
  split
  · rw [State.lowRun_setVid, State.lowRun_withLowRun]
  · rw [State.lowRun_setVid, State.lowRun_withLowRun]

theorem State.vidClamp_of_mem (s : State) (v : Nat) (hmin : s.vidMin ≤ v) (hmax : v ≤ s.vidMax) : s.vidClamp v = v := by
  rw [State.vidClamp, Nat.max_eq_right hmin, Nat.min_eq_right hmax]

theorem State.vidClamp_of_ge (s : State) (v : Nat) (hmax : s.vidMax ≤ v) : s.vidClamp v = s.vidMax :=
  Nat.min_eq_left (Nat.le_trans hmax (Nat.le_max_right _ _))

/-- The code never leaves its range (R37). -/
theorem State.govern_in_range (s : State) (hrange : s.vidMin ≤ s.vidMax) :
    s.vidMin ≤ s.govern.vidNow ∧ s.govern.vidNow ≤ s.vidMax := by
  rw [s.vidNow_govern]
  exact ⟨Nat.le_min.mpr ⟨hrange, Nat.le_max_left _ _⟩, Nat.min_le_left _ _⟩

theorem State.govern_raises (s : State) (hdue : s.raiseDue = true) (hmax : s.vidNow < s.vidMax)
    (hmin : s.vidMin ≤ s.vidNow + 1) : s.govern.vidNow = s.vidNow + 1 := by
  rw [s.vidNow_govern, State.vidNext, if_pos hdue, if_neg (Nat.not_le.mpr hmax), s.vidClamp_of_mem _ hmin hmax]

theorem State.govern_at_max (s : State) (hdue : s.raiseDue = true) (hmax : s.vidMax ≤ s.vidNow) :
    s.govern.vidNow = s.vidMax ∧ s.govern.bit Reg.PWR_GOV_STAT 16 = true ∧
      s.govern.bit (Reg.PG_EVRAW 0x001) 9 = true := by
  refine ⟨?_, ?_, ?_⟩
  · rw [s.vidNow_govern, State.vidNext, if_pos hdue, if_pos hmax, s.vidClamp_of_ge _ hmax]
  · rw [s.govern_eq, if_pos hdue, if_pos hmax, State.atMax_driveAtMax]
  · rw [s.govern_eq, if_pos hdue, if_pos hmax, State.event_driveAtMax]

theorem State.govern_lowers (s : State) (hdue : s.raiseDue = false) (hrun : 64 ≤ s.ampleRun) (hmin : s.vidMin < s.vidNow)
    (hmax : s.vidNow ≤ s.vidMax) : s.govern.vidNow = s.vidNow - 1 ∧ s.govern.lowRun = 0 := by
  refine ⟨?_, ?_⟩
  · rw [s.vidNow_govern, State.vidNext, if_neg (Bool.eq_false_iff.mp hdue), if_pos hrun]
    exact s.vidClamp_of_mem _ (Nat.le_sub_one_of_lt hmin) (Nat.le_trans (Nat.sub_le _ _) hmax)
  · rw [s.lowRun_govern hdue, if_pos hrun]

theorem State.govern_holds (s : State) (hdue : s.raiseDue = false) (hrun : s.ampleRun < 64) (hmin : s.vidMin ≤ s.vidNow)
    (hmax : s.vidNow ≤ s.vidMax) : s.govern.vidNow = s.vidNow ∧ s.govern.lowRun = s.ampleRun := by
  refine ⟨?_, ?_⟩
  · rw [s.vidNow_govern, State.vidNext, if_neg (Bool.eq_false_iff.mp hdue), if_neg (Nat.not_le.mpr hrun)]
    exact s.vidClamp_of_mem _ hmin hmax
  · rw [s.lowRun_govern hdue, if_neg (Nat.not_le.mpr hrun)]

/-- The enabled governor closes the window, and the next window begins. -/
theorem exec_governorWindow (s : State) (hhalted : s.halted = false) (hen : s.bit Reg.PWR_GOV_CTRL 0 = true) :
    exec .governorWindow s = .next { s.govern with winSlack := 65535, winMiss := false } := by
  have hexec : exec .governorWindow s = .next (if s.halted then s else s.windowEnd) := rfl
  rw [hexec, hhalted, State.windowEnd, if_pos hen]
  rfl

/-- Settles O7: the window drives the code it asks for, held inside the range, in each of its four cases. -/
theorem governorEvaluatesTheWindow : Obligations.GovernorEvaluatesTheWindow := by
  unfold Obligations.GovernorEvaluatesTheWindow
  intro s hhalted hen hrange
  obtain ⟨hlow, hhigh⟩ := s.govern_in_range hrange
  exact ⟨_, exec_governorWindow s hhalted hen, hlow, hhigh, s.govern_raises, s.govern_at_max, s.govern_lowers,
    s.govern_holds, rfl, rfl⟩

end Sys2Proof.Machine
end

section
/-!
PROOF. Power states (R557 to R564, R571, R79, R520, R43), up to the statement PowerStates.
-/
namespace Sys2Proof.Machine

@[simp] theorem State.rd_setPower (s : State) (q : Power) (a : Nat) : (s.setPower q).rd a = s.rd a := rfl
@[simp] theorem State.power_setPower (s : State) (q : Power) : (s.setPower q).power = q := rfl

theorem State.held_of_not_halted {s : State} (hhalted : s.halted = false) : s.power.held = false :=
  (Bool.or_eq_false_iff.mp hhalted).right

theorem State.halted_of_cause {s : State} {c : Nat} (hcause : s.power.cause = some c) : s.halted = true := by
  rw [State.halted, hcause, Option.isSome_some, Bool.true_or]

/-! ### Backup (R561 to R564) -/

theorem State.backupOk_iff (s : State) (v : Word) :
    s.backupOk v = true ↔ v.fld 31 16 = 0xBAC0 ∧ s.get Reg.PWR_STATE 1 0 < 2 ∧
      ∀ k ∈ s.channels, s.chState k = 0 ∨ s.chState k = 5 ∨ s.chState k = 6 := by
  simp only [State.backupOk, Bool.and_eq_true, Bool.or_eq_true, beq_iff_eq, decide_eq_true_eq, List.all_eq_true, and_assoc,
    or_assoc]

theorem exec_backupRequest (s : State) (v : Word) : exec (.backupRequest v) s = .next (s.backupRequest v) := rfl

theorem exec_backupRequest_halted (s : State) (v : Word) (hhalted : s.halted = true) :
    exec (.backupRequest v) s = .next s := by
  rw [exec_backupRequest, State.backupRequest, hhalted, Bool.true_or, if_pos rfl]

/-- A request whose `GO` is set, outside a reset, is checked. -/
theorem State.backupRequest_go (s : State) (v : Word) (hhalted : s.halted = false) (hgo : v.getLsbD 0 = true) :
    s.backupRequest v =
      if s.backupOk v then
        (s.when (s.slp == 2) fun s =>
          s.sleepAbort.each (List.range 8) fun s n => s.when (s.linkUp n) fun s => s.blStop n).backupEnter
      else s.raise 0x001 12 := by
  rw [State.backupRequest, hhalted, hgo]
  cases s.backupOk v <;> rfl

theorem exec_backupRequest_refused (s : State) (v : Word) (hhalted : s.halted = false) (hgo : v.getLsbD 0 = true)
    (hok : s.backupOk v = false) : exec (.backupRequest v) s = .next (s.raise 0x001 12) := by
  rw [exec_backupRequest, s.backupRequest_go v hhalted hgo, hok, if_neg Bool.false_ne_true]

/-- Without a pending sleep agreement nothing aborts before the entry (R564). -/
theorem exec_backupRequest_accepted (s : State) (v : Word) (hhalted : s.halted = false) (hgo : v.getLsbD 0 = true)
    (hok : s.backupOk v = true) (hslp : s.slp ≠ 2) : exec (.backupRequest v) s = .next s.backupEnter := by
  rw [exec_backupRequest, s.backupRequest_go v hhalted hgo, if_pos hok, State.when, beq_false_of_ne hslp,
    if_neg Bool.false_ne_true]

/-- Entry from a running device: the reset starts with the cause of Backup (R562). -/
theorem State.power_backupEnter (s : State) (hbackup : s.power.backup = false) (hheld : s.power.held = false) :
    s.backupEnter.power.backup = true ∧ s.backupEnter.power.cause = some 7 := by
  have henter : s.backupEnter = s.opFlush.setPower { s.opFlush.power with
      backup := true, cause := some 7, wake := none
      records := ((7, s.opFlush.tbSec, s.opFlush.fails) :: s.opFlush.power.records).take 64 } := by
    rw [State.backupEnter, hbackup, hheld]
    rfl
  rw [henter]
  exact ⟨rfl, rfl⟩

/-- A source that wakes a device held in Backup is its cause of release (R563). -/
theorem State.backupWake_held (s : State) (code : Nat) (hbackup : s.power.backup = true) (hheld : s.power.held = true)
    (hcause : s.power.cause = none) :
    s.backupWake code = (s.wrN Reg.PWR_BKWAKE (code + 2 ^ 31)).setPower { s.power with cause := some 7 } := by
  simp only [State.backupWake, hbackup, hheld, hcause, Option.isSome_none, Bool.not_true, Bool.and_false, Bool.or_self,
    Bool.false_eq_true, ↓reduceIte]

theorem State.backupWake_leaves (s : State) (code : Nat) (hbackup : s.power.backup = true) (hheld : s.power.held = true)
    (hcause : s.power.cause = none) :
    (s.backupWake code).rd Reg.PWR_BKWAKE = BitVec.ofNat 32 (code + 2 ^ 31) ∧
      (s.backupWake code).power.cause = some 7 ∧ s.keepsRegs (s.backupWake code) [Reg.PWR_BKWAKE] := by
  rw [s.backupWake_held code hbackup hheld hcause]
  refine ⟨?_, rfl, fun a ha => ?_⟩
  · rw [State.rd_setPower, State.wrN_eq, State.rd_wr_same]
  · rw [State.rd_setPower, State.rd_wrN_ne _ _ _ _ (List.ne_of_not_mem_cons ha)]

theorem State.backupWake_outside (s : State) (code : Nat) (hbackup : s.power.backup = false) : s.backupWake code = s := by
  rw [State.backupWake, hbackup]
  rfl

theorem exec_backupWakeN (s : State) :
    exec .backupWakeN s = .next (if s.bit Reg.PWR_BKCFG 0 then s.backupWake 1 else s) := rfl

theorem exec_backupTioWake (s : State) :
    exec .backupTioWake s = .next (if s.bit Reg.PWR_BKCFG 1 then s.backupWake 2 else s) := rfl

theorem exec_backupWakeN_disabled (s : State) (hcfg : s.bit Reg.PWR_BKCFG 0 = false) : exec .backupWakeN s = .next s := by
  rw [exec_backupWakeN, hcfg, if_neg Bool.false_ne_true]

theorem exec_backupTioWake_disabled (s : State) (hcfg : s.bit Reg.PWR_BKCFG 1 = false) :
    exec .backupTioWake s = .next s := by
  rw [exec_backupTioWake, hcfg, if_neg Bool.false_ne_true]

theorem exec_backupWakes_outside (s : State) (hbackup : s.power.backup = false) :
    exec .backupWakeN s = .next s ∧ exec .backupTioWake s = .next s := by
  rw [exec_backupWakeN, exec_backupTioWake, s.backupWake_outside 1 hbackup, s.backupWake_outside 2 hbackup, ite_self,
    ite_self]
  exact ⟨rfl, rfl⟩

/-- Both balls, each by its code (R563). -/
theorem exec_backupWakes_leave (s : State) (hbackup : s.power.backup = true) (hheld : s.power.held = true)
    (hcause : s.power.cause = none) :
    ∀ x ∈ [(Instr.backupWakeN, 0, 1), (.backupTioWake, 1, 2)], s.bit Reg.PWR_BKCFG x.2.1 = true →
      Answers (exec x.1 s) fun t => t.rd Reg.PWR_BKWAKE = BitVec.ofNat 32 (x.2.2 + 2 ^ 31) ∧ t.power.cause = some 7 ∧
        s.keepsRegs t [Reg.PWR_BKWAKE] := by
  refine List.forall_mem_cons.mpr ⟨fun hcfg => ⟨_, ?_, s.backupWake_leaves 1 hbackup hheld hcause⟩,
    List.forall_mem_singleton.mpr fun hcfg => ⟨_, ?_, s.backupWake_leaves 2 hbackup hheld hcause⟩⟩
  · rw [exec_backupWakeN, if_pos hcfg]
  · rw [exec_backupTioWake, if_pos hcfg]

/-! ### Doze (R557) -/

/-- A change of the power state that raises STATE_CHG. -/
theorem State.pwrState_spec (s : State) (n : Nat) :
    (s.pwrState n).rd Reg.PWR_STATE = BitVec.ofNat 32 n ∧ (s.pwrState n).bit (Reg.PG_EVRAW 0x001) 10 = true := by
  refine ⟨?_, State.bit_raise_same _ 0x001 10 (by decide) (by decide) (has_powerPage _)⟩
  rw [State.pwrState, State.rd_raise _ _ _ _ (by decide) (by decide), State.wrN_eq, State.rd_wr_same]

/-- Doze is entered from Run, with `DOZE_EN` set and the management cores idle. -/
def State.mayDoze (s : State) : Bool :=
  !s.halted && s.get Reg.PWR_STATE 1 0 == 0 && s.bit Reg.PWR_CTRL 0 && !s.bit Reg.COX_STAT 0

theorem exec_dozeEntry (s : State) : exec .dozeEntry s = .next (if s.mayDoze then s.pwrState 1 else s) := rfl

theorem exec_dozeExit (s : State) :
    exec .dozeExit s = .next (if !s.halted && s.get Reg.PWR_STATE 1 0 == 1 then s.pwrState 0 else s) := rfl

theorem exec_dozeEntry_allowed (s : State) (hhalted : s.halted = false) (hrun : s.get Reg.PWR_STATE 1 0 = 0)
    (hen : s.bit Reg.PWR_CTRL 0 = true) (hidle : s.bit Reg.COX_STAT 0 = false) :
    exec .dozeEntry s = .next (s.pwrState 1) := by
  have hdoze : s.mayDoze = true := by simp [State.mayDoze, hhalted, hrun, hen, hidle]
  rw [exec_dozeEntry, if_pos hdoze]

theorem exec_dozeEntry_refused (s : State)
    (hbar : s.get Reg.PWR_STATE 1 0 ≠ 0 ∨ s.bit Reg.PWR_CTRL 0 = false ∨ s.bit Reg.COX_STAT 0 = true) :
    exec .dozeEntry s = .next s := by
  have hdoze : s.mayDoze = false := by
    rcases hbar with hrun | hen | hidle
    · simp [State.mayDoze, hrun]
    · simp [State.mayDoze, hen]
    · simp [State.mayDoze, hidle]
  rw [exec_dozeEntry, hdoze, if_neg Bool.false_ne_true]

theorem exec_dozeExit_inDoze (s : State) (hhalted : s.halted = false) (hdoze : s.get Reg.PWR_STATE 1 0 = 1) :
    exec .dozeExit s = .next (s.pwrState 0) := by
  rw [exec_dozeExit, hhalted, hdoze]
  rfl

theorem exec_dozeExit_outside (s : State) (hdoze : s.get Reg.PWR_STATE 1 0 ≠ 1) : exec .dozeExit s = .next s := by
  rw [exec_dozeExit, beq_false_of_ne hdoze, Bool.and_false, if_neg Bool.false_ne_true]

/-! ### Feather (R558 to R560) -/

/-- The state after a blocked attempt to enter Feather: its conditions are noted, and FEATHER_BLOCKED is raised. -/
def State.blockNoted (s : State) : State := (s.setPower { s.power with blocked := s.pwrBlock }).raise 0x001 11

theorem exec_featherEntry (s : State) :
    exec .featherEntry s = .next
      (if s.halted || s.feather || !s.mayFeather then s
      else if s.pwrBlock = 0 then s.featherEnter
      else if s.power.blocked = s.pwrBlock then s
      else s.blockNoted) := rfl

theorem exec_featherEntry_barred (s : State) (hbar : s.halted = true ∨ s.feather = true ∨ s.mayFeather = false) :
    exec .featherEntry s = .next s := by
  have hcond : (s.halted || s.feather || !s.mayFeather) = true := by
    rcases hbar with hhalted | hfeather | hmay
    · rw [hhalted, Bool.true_or, Bool.true_or]
    · rw [hfeather, Bool.or_true, Bool.true_or]
    · rw [hmay, Bool.not_false, Bool.or_true]
  rw [exec_featherEntry, if_pos hcond]

/-- A device that may sleep goes by its conditions. -/
theorem exec_featherEntry_asked (s : State) (hhalted : s.halted = false) (hfeather : s.feather = false)
    (hmay : s.mayFeather = true) :
    exec .featherEntry s = .next
      (if s.pwrBlock = 0 then s.featherEnter else if s.power.blocked = s.pwrBlock then s else s.blockNoted) := by
  rw [exec_featherEntry, hhalted, hfeather, hmay]
  rfl

theorem State.blockNoted_spec (s : State) :
    s.blockNoted.power.blocked = s.pwrBlock ∧ s.blockNoted.bit (Reg.PG_EVRAW 0x001) 11 = true ∧
      s.blockNoted.get Reg.PWR_STATE 1 0 = s.get Reg.PWR_STATE 1 0 := by
  have hframe : EventFrame eventReg (s.setPower { s.power with blocked := s.pwrBlock }) s.blockNoted :=
    EventFrame.raise _ 0x001 11 (by decide)
  refine ⟨by rw [hframe.power, State.power_setPower], ?_, hframe.get Reg.PWR_STATE 1 0 (by decide)⟩
  exact State.bit_raise_same _ 0x001 11 (by decide) (by decide) (has_powerPage _)

theorem exec_featherCheckWindow (s : State) : exec .featherCheckWindow s = .next s.checkWindow := rfl

theorem exec_featherExit (s : State) :
    exec .featherExit s =
      .next (if !s.halted && s.feather && s.bit Reg.PWR_STATE 2 then s.featherLeave else s) := rfl

theorem exec_featherCheckWindow_outside (s : State) (hfeather : s.feather = false) :
    exec .featherCheckWindow s = .next s := by
  rw [exec_featherCheckWindow, State.checkWindow, hfeather, Bool.not_false, if_pos rfl]

theorem exec_featherCheckWindow_inside (s : State) (hfeather : s.feather = true) :
    exec .featherCheckWindow s = .next
      (s.each ((List.range 2).filter fun d => s.hasDie d && !(s.checkChannels d).isEmpty) fun s d =>
        s.modDie d fun x => { x with converters := true, checkEnd := some (s.now + 10000000000) }) := by
  rw [exec_featherCheckWindow, State.checkWindow, hfeather, Bool.not_true, if_neg Bool.false_ne_true]

theorem exec_featherExit_outside (s : State) (hfeather : s.feather = false) : exec .featherExit s = .next s := by
  rw [exec_featherExit, hfeather, Bool.and_false, Bool.false_and, if_neg Bool.false_ne_true]

theorem exec_featherExit_requested (s : State) (hfeather : s.feather = true) (hhalted : s.halted = false)
    (hwake : s.bit Reg.PWR_STATE 2 = true) : exec .featherExit s = .next s.featherLeave := by
  rw [exec_featherExit, hfeather, hhalted, hwake]
  rfl

/-! ### The announcement (R571), supplies (R79), EXTEST (R520) and core pairs (R43) -/

theorem exec_easyAnnounce (s : State) :
    exec .easyAnnounce s = .next (if s.easy && !s.halted then s.send (.ethFrame 0 s.announcement true) else s) := rfl

theorem exec_easyAnnounce_sent (s : State) (heasy : s.easy = true) (hhalted : s.halted = false) :
    exec .easyAnnounce s = .next (s.send (.ethFrame 0 s.announcement true)) := by
  rw [exec_easyAnnounce, heasy, hhalted]
  rfl

theorem exec_easyAnnounce_silent (s : State) (hbar : s.easy = false ∨ s.halted = true) :
    exec .easyAnnounce s = .next s := by
  have hcond : (s.easy && !s.halted) = false := by
    rcases hbar with heasy | hhalted
    · rw [heasy, Bool.false_and]
    · rw [hhalted, Bool.not_true, Bool.and_false]
  rw [exec_easyAnnounce, hcond, if_neg Bool.false_ne_true]

theorem exec_measureSupplyInvalid (s : State) (d : Nat) (hd : d < 2) :
    exec (.measureSupplyInvalid d) s = .next (s.measureInvalid d) := if_pos (decide_eq_true hd)

theorem exec_measureSupplyValid (s : State) (d : Nat) (hd : d < 2) :
    exec (.measureSupplyValid d) s =
      .next (if s.hasDie d then (s.modDie d fun x => { x with powered := true }).ovenStart d else s) :=
  if_pos (decide_eq_true hd)

theorem exec_measureSupplies_absent (s : State) (d : Nat) (hd : d < 2) (hdie : s.hasDie d = false) :
    exec (.measureSupplyInvalid d) s = .next s ∧ exec (.measureSupplyValid d) s = .next s := by
  rw [exec_measureSupplyInvalid s d hd, exec_measureSupplyValid s d hd, State.measureInvalid, hdie]
  exact ⟨rfl, rfl⟩

theorem exec_measureSupplies_present (s : State) (d : Nat) (hd : d < 2) (hdie : s.hasDie d = true) :
    exec (.measureSupplyInvalid d) s = .next (((s.modDie d fun x => { x with powered := false }).ovenStop d).raise 0x001 13) ∧
      exec (.measureSupplyValid d) s = .next ((s.modDie d fun x => { x with powered := true }).ovenStart d) := by
  rw [exec_measureSupplyInvalid s d hd, exec_measureSupplyValid s d hd, State.measureInvalid, hdie]
  exact ⟨rfl, rfl⟩

theorem exec_jtagExtest (s : State) :
    exec .jtagExtest s = .next (if s.get Reg.KEY_DEBUG 1 0 = 0 then s else s.extest) := rfl

theorem State.injStep_of_disarmed (s : State) (p point sub : Nat) (harm : s.bit (Reg.PG_INJARM p) 0 = false) :
    s.injStep p point sub = s := by
  have hdisarmed : s.injArmed p point sub = false := by
    rw [State.injArmed, harm, Bool.and_false, Bool.false_and, Bool.false_and, Bool.false_and]
  rw [State.injStep, hdisarmed, Bool.not_false, if_pos rfl]

/-- Without an armed injection the failure alone has an effect. -/
theorem exec_mgmtPairFail_disarmed (s : State) (p : Nat) (hp : p < 2) (harm : s.bit (Reg.PG_INJARM 0x000) 0 = false) :
    exec (.mgmtPairFail p) s = .next (s.pairFail p) := by
  have hexec : exec (.mgmtPairFail p) s = .next (((s.injStep 0x000 0x10 p).injStep 0x000 0x11 p).pairFail p) :=
    if_pos (decide_eq_true hp)
  rw [hexec, s.injStep_of_disarmed 0x000 0x10 p harm, s.injStep_of_disarmed 0x000 0x11 p harm]

/-- The pairs marked failed once `p` has failed. -/
def Power.failedWith (q : Power) (p : Nat) : List Nat := if q.failed.contains p then q.failed else p :: q.failed

theorem Power.mem_failedWith (q : Power) (p : Nat) : p ∈ q.failedWith p := by
  unfold Power.failedWith
  split
  next hmem => exact List.contains_iff_mem.mp hmem
  next => exact List.mem_cons_self

/-- The active pair hands over to a standby pair that has not failed (R43, log 55). -/
theorem State.pairFail_active (s : State) (p : Nat) (hpair : s.power.pair = p) (hstandby : (1 - p) ∉ s.power.failed) :
    s.pairFail p = s.setPower { s.power with pair := 1 - p, failed := s.power.failedWith p } := by
  have hfree : s.power.failed.contains (1 - p) = false :=
    Bool.eq_false_iff.mpr fun hmem => hstandby (List.contains_iff_mem.mp hmem)
  simp only [State.pairFail, hpair, hfree, Bool.false_eq_true, ↓reduceIte]
  rfl

/-- Settles O54: each power instruction by the guard that its rule states, then the effect of the guarded step. -/
theorem powerStates : Obligations.PowerStates := by
  unfold Obligations.PowerStates
  intro s v d p hd hp
  refine ⟨exec_backupRequest_halted s v, exec_backupRequest_refused s v, fun hhalted hgo hok hslp hbackup => ?_,
    s.backupOk_iff v, exec_backupWakes_leave s, exec_backupWakeN_disabled s, exec_backupTioWake_disabled s,
    exec_backupWakes_outside s,
    fun hhalted hrun hen hidle => ⟨_, exec_dozeEntry_allowed s hhalted hrun hen hidle, s.pwrState_spec 1⟩,
    exec_dozeEntry_refused s, fun hhalted hdoze => ⟨_, exec_dozeExit_inDoze s hhalted hdoze, s.pwrState_spec 0⟩,
    exec_dozeExit_outside s, exec_featherEntry_barred s, fun hhalted hfeather hmay => ?_,
    fun hfeather => ⟨exec_featherCheckWindow_outside s hfeather, exec_featherExit_outside s hfeather⟩,
    exec_featherCheckWindow_inside s, exec_featherExit_requested s,
    fun heasy hhalted => ⟨_, exec_easyAnnounce_sent s heasy hhalted, rfl, rfl⟩, exec_easyAnnounce_silent s,
    exec_measureSupplies_absent s d hd, exec_measureSupplies_present s d hd, fun hdebug => ?_, fun hdebug => ?_,
    fun harm hpair hstandby => ?_⟩
  · obtain ⟨hentered, hcause⟩ := s.power_backupEnter hbackup (State.held_of_not_halted hhalted)
    exact ⟨_, exec_backupRequest_accepted s v hhalted hgo hok hslp, hentered, hcause, State.halted_of_cause hcause⟩
  · rw [exec_featherEntry_asked s hhalted hfeather hmay]
    refine ⟨fun hblock => by rw [if_pos hblock], fun hblock hnoted => by rw [if_neg hblock, if_pos hnoted],
      fun hblock hnew => ⟨_, by rw [if_neg hblock, if_neg hnew], s.blockNoted_spec⟩⟩
  · rw [exec_jtagExtest, if_pos hdebug]
  · rw [exec_jtagExtest, if_neg hdebug]
  · refine ⟨_, exec_mgmtPairFail_disarmed s p hp harm, ?_⟩
    rw [s.pairFail_active p hpair hstandby]
    exact ⟨rfl, s.power.mem_failedWith p, rfl⟩

end Sys2Proof.Machine
end

section
/-!
PROOF. What holds of every command and every step, up to the statements EveryCommandCompletes, IllFormedCommandsStop,
StepsKeepTheQueueReady, StepsKeepTheCanonicalForm, ResetIsReadyAndCanonical and StepExecutesTheFrontCommand.
-/
namespace Sys2Proof.Machine

/-- Every meaning answers one next state where the command is well formed, and `illFormed` elsewhere (log 5). -/
theorem exec_eq_answer (i : Instr) (s : State) : ∃ t, exec i s = answer i.wellFormed t := by
  cases i <;> exact ⟨_, rfl⟩

theorem exec_answers (i : Instr) (s : State) (hwf : i.wellFormed = true) : ∃ t, exec i s = .next t := by
  obtain ⟨t, ht⟩ := exec_eq_answer i s
  exact ⟨t, by rw [ht, answer, if_pos hwf]⟩

theorem exec_illFormed (i : Instr) (s : State) (hwf : i.wellFormed = false) : exec i s = .fault .illFormed := by
  obtain ⟨t, ht⟩ := exec_eq_answer i s
  rw [ht, answer, if_neg (Bool.eq_false_iff.mp hwf)]

variable {c : Prop} {q : List Instr} {p : Part}

/-- Every meaning keeps the commands that wait, the part and the canonical form: each by its own law. -/
theorem exec_keeps {s : State} (i : Instr) (h : s.Kept c q p) : Keeps c q p (exec i s) :=
  match i with
  | .pgRun p => execPgRun_kept h p
  | .pgStop p => execPgStop_kept h p
  | .pgSrst p => execPgSrst_kept h p
  | .pgStartDone p envOk => execPgStartDone_kept h p envOk
  | .pgStopDone p => execPgStopDone_kept h p
  | .startTimeout p => execStartTimeout_kept h p
  | .stopTimeout p => execStopTimeout_kept h p
  | .pgEvsetWrite p v => execPgEvsetWrite_kept h p v
  | .pgLockSet p => execPgLockSet_kept h p
  | .registerWrite addr v => execRegisterWrite_kept h addr v
  | .badAccess => execBadAccess_kept h
  | .governorWindow => execGovernorWindow_kept h
  | .slackClr v => execSlackClr_kept h v
  | .baseStrobe => execBaseStrobe_kept h
  | .measureFrameRx d good samples => execMeasureFrameRx_kept h d good samples
  | .measureFrameDeadline d => execMeasureFrameDeadline_kept h d
  | .tsConversionDone k rho => execTsConversionDone_kept h k rho
  | .odrWrite k odr => execOdrWrite_kept h k odr
  | .ovenRegulated d => execOvenRegulated_kept h d
  | .ovenDegraded d => execOvenDegraded_kept h d
  | .ovenFault d => execOvenFault_kept h d
  | .refCrossCheck d ok1 ok2 diff ratio => execRefCrossCheck_kept h d ok1 ok2 diff ratio
  | .senseOpenCheckStart k => execSenseOpenCheckStart_kept h k
  | .senseOpenCheckDone k => execSenseOpenCheckDone_kept h k
  | .calNop d => execCalNop_kept h d
  | .calConnect d => execCalConnect_kept h d
  | .calConnectSettled d => execCalConnectSettled_kept h d
  | .calMeasure d => execCalMeasure_kept h d
  | .calMeasureDone d => execCalMeasureDone_kept h d
  | .calRelease d => execCalRelease_kept h d
  | .calRead d => execCalRead_kept h d
  | .calCommit d => execCalCommit_kept h d
  | .calRestoreFactory d => execCalRestoreFactory_kept h d
  | .calJournalDone d ok => execCalJournalDone_kept h d ok
  | .calReadFactory d => execCalReadFactory_kept h d
  | .calReservedOp d op => execCalReservedOp_kept h d op
  | .strokeBoundary env => execStrokeBoundary_kept h env
  | .strokeDeadline => execStrokeDeadline_kept h
  | .gainCommit v => execGainCommit_kept h v
  | .accSelGo k => execAccSelGo_kept h k
  | .accLatch => execAccLatch_kept h
  | .chNop k seat => execChNop_kept h k seat
  | .chArm k seat => execChArm_kept h k seat
  | .chStart k seat => execChStart_kept h k seat
  | .chPause k seat => execChPause_kept h k seat
  | .chResume k seat => execChResume_kept h k seat
  | .chStop k seat => execChStop_kept h k seat
  | .chSafe k seat => execChSafe_kept h k seat
  | .chClear k seat => execChClear_kept h k seat
  | .chHold k seat => execChHold_kept h k seat
  | .chReservedOp k seat op => execChReservedOp_kept h k seat op
  | .rampToIdle k => execRampToIdle_kept h k
  | .progNop slot => execProgNop_kept h slot
  | .progDefine slot => execProgDefine_kept h slot
  | .progUndefine slot => execProgUndefine_kept h slot
  | .progOpen slot => execProgOpen_kept h slot
  | .progWrite slot => execProgWrite_kept h slot
  | .progRead slot readBad => execProgRead_kept h slot readBad
  | .progSeal slot => execProgSeal_kept h slot
  | .progInfo slot => execProgInfo_kept h slot
  | .progReservedOp slot op => execProgReservedOp_kept h slot op
  | .progOpComplete => execProgOpComplete_kept h
  | .eisTableNop t => execEisTableNop_kept h t
  | .eisTableOpen t => execEisTableOpen_kept h t
  | .eisTableWrite t => execEisTableWrite_kept h t
  | .eisTableRead t => execEisTableRead_kept h t
  | .eisTableSeal t => execEisTableSeal_kept h t
  | .eisTableClear t => execEisTableClear_kept h t
  | .eisTableReservedOp t op => execEisTableReservedOp_kept h t op
  | .eisTableOpComplete => execEisTableOpComplete_kept h
  | .eisPointResult k => execEisPointResult_kept h k
  | .restTrendWake k => execRestTrendWake_kept h k
  | .trendConverterPowerUp d => execTrendConverterPowerUp_kept h d
  | .crewNop e => execCrewNop_kept h e
  | .crewJoin e => execCrewJoin_kept h e
  | .crewSetmask e => execCrewSetmask_kept h e
  | .crewSeal e => execCrewSeal_kept h e
  | .crewSealAck e gen => execCrewSealAck_kept h e gen
  | .crewSealTimeout e => execCrewSealTimeout_kept h e
  | .crewOpen e => execCrewOpen_kept h e
  | .crewLeave e => execCrewLeave_kept h e
  | .crewTrans e => execCrewTrans_kept h e
  | .crewReduce e => execCrewReduce_kept h e
  | .crewGrade e => execCrewGrade_kept h e
  | .crewInfo e => execCrewInfo_kept h e
  | .crewReservedOp e op => execCrewReservedOp_kept h e op
  | .crewHeartbeatRx crew => execCrewHeartbeatRx_kept h crew
  | .coordHeartbeatTimeout e => execCoordHeartbeatTimeout_kept h e
  | .crewArrivalRx crew dev gen arrived withdrawn => execCrewArrivalRx_kept h crew dev gen arrived withdrawn
  | .crewReleaseRx crew gen mark => execCrewReleaseRx_kept h crew gen mark
  | .crewTransRx crew op mark => execCrewTransRx_kept h crew op mark
  | .reductionMark c => execReductionMark_kept h c
  | .reductionContribRx c dev vals => execReductionContribRx_kept h c dev vals
  | .reductionDeadline c => execReductionDeadline_kept h c
  | .reductionResultRx c r => execReductionResultRx_kept h c r
  | .reductionRankRx c ranks => execReductionRankRx_kept h c ranks
  | .ringConsumerWrite seat r v => execRingConsumerWrite_kept h seat r v
  | .crewMark => execCrewMark_kept h
  | .crewRegistrationRx crew dev count => execCrewRegistrationRx_kept h crew dev count
  | .coordHeartbeatSend => execCoordHeartbeatSend_kept h
  | .stageFrameLaunch n ready slack => execStageFrameLaunch_kept h n ready slack
  | .telemetryRx n clean bytes rtt => execTelemetryRx_kept h n clean bytes rtt
  | .telemetryDeadline n => execTelemetryDeadline_kept h n
  | .stageRxSignalLoss n => execStageRxSignalLoss_kept h n
  | .stageLostTimeout n => execStageLostTimeout_kept h n
  | .descReread n => execDescReread_kept h n
  | .mopRetry n => execMopRetry_kept h n
  | .mreqWrite n v => execMreqWrite_kept h n v
  | .serdesUnlock p => execSerdesUnlock_kept h p
  | .tbIncLoWrite v => execTbIncLoWrite_kept h v
  | .tbIncHiWrite v => execTbIncHiWrite_kept h v
  | .tbSecLoRead => execTbSecLoRead_kept h
  | .tbStepGo v => execTbStepGo_kept h v
  | .stepTick => execStepTick_kept h
  | .tbOfsInWrite v => execTbOfsInWrite_kept h v
  | .tioInEdge rise => execTioInEdge_kept h rise
  | .servoHoldoverTimeout => execServoHoldoverTimeout_kept h
  | .refEdgeLoss r => execRefEdgeLoss_kept h r
  | .refFreqCheck diff worse => execRefFreqCheck_kept h diff worse
  | .refReturn r => execRefReturn_kept h r
  | .pllUnlock => execPllUnlock_kept h
  | .schNop slot seat => execSchNop_kept h slot seat
  | .schAlloc slot seat => execSchAlloc_kept h slot seat
  | .schArm slot seat => execSchArm_kept h slot seat
  | .schDisarm slot seat => execSchDisarm_kept h slot seat
  | .schFree slot seat => execSchFree_kept h slot seat
  | .schReservedOp slot seat op => execSchReservedOp_kept h slot seat op
  | .slotFire slot ready slack offs => execSlotFire_kept h slot ready slack offs
  | .tioPulseEnd slot => execTioPulseEnd_kept h slot
  | .catNop u seat => execCatNop_kept h u seat
  | .catAlloc u seat => execCatAlloc_kept h u seat
  | .catArm u seat => execCatArm_kept h u seat
  | .catDisarm u seat => execCatDisarm_kept h u seat
  | .catFree u seat => execCatFree_kept h u seat
  | .catFifoRead u => execCatFifoRead_kept h u
  | .bkAlarm => execBkAlarm_kept h
  | .wholeSecond => execWholeSecond_kept h
  | .bruilFlitRx n bytes => execBruilFlitRx_kept h n bytes
  | .bruilAckTimeout n => execBruilAckTimeout_kept h n
  | .bruilSignalLoss n => execBruilSignalLoss_kept h n
  | .departRx n => execDepartRx_kept h n
  | .bruilIdentRx n p => execBruilIdentRx_kept h n p
  | .bruilFailedRetrain n => execBruilFailedRetrain_kept h n
  | .bruilExclRecheck n => execBruilExclRecheck_kept h n
  | .linkStateAnnounceRx dev serial nbrs => execLinkStateAnnounceRx_kept h dev serial nbrs
  | .bruilPacketRx n p => execBruilPacketRx_kept h n p
  | .seqGapTimeout src cls => execSeqGapTimeout_kept h src cls
  | .perrAckSend => execPerrAckSend_kept h
  | .perrRx dev init upTo err => execPerrRx_kept h dev init upTo err
  | .routeReturn dst => execRouteReturn_kept h dst
  | .rtFence v => execRtFence_kept h v
  | .fenceComplete init => execFenceComplete_kept h init
  | .fenceTimeout init => execFenceTimeout_kept h init
  | .timeFlitRx n good aL lP aP depth => execTimeFlitRx_kept h n good aL lP aP depth
  | .sleepVoteWrite on => execSleepVoteWrite_kept h on
  | .sleepVoteRx dev on => execSleepVoteRx_kept h dev on
  | .sleepAgreeRx mark => execSleepAgreeRx_kept h mark
  | .sleepAbortRx dev => execSleepAbortRx_kept h dev
  | .sleepInstant => execSleepInstant_kept h
  | .wakeRequest src => execWakeRequest_kept h src
  | .slpWakeWrite => execSlpWakeWrite_kept h
  | .wakeBeaconRx n dev => execWakeBeaconRx_kept h n dev
  | .rerrLogRead => execRerrLogRead_kept h
  | .windowRead port a size => execWindowRead_kept h port a size
  | .windowWrite port a data => execWindowWrite_kept h port a data
  | .windowCompletionRx w tag code data => execWindowCompletionRx_kept h w tag code data
  | .windowTimeout w busy => execWindowTimeout_kept h w busy
  | .inboundRequest src init tag r => execInboundRequest_kept h src init tag r
  | .wbLock w => execWbLock_kept h w
  | .wbUnlock w => execWbUnlock_kept h w
  | .lockRequestRx src init tag r => execLockRequestRx_kept h src init tag r
  | .lockHoldTimeout space => execLockHoldTimeout_kept h space
  | .sigTxWrite v => execSigTxWrite_kept h v
  | .messageRelease => execMessageRelease_kept h
  | .windowCommit v => execWindowCommit_kept h v
  | .windowCommitApply timeout => execWindowCommitApply_kept h timeout
  | .inboundCommit v => execInboundCommit_kept h v
  | .inboundCommitApply timeout => execInboundCommitApply_kept h timeout
  | .messageMatch lat => execMessageMatch_kept h lat
  | .mbTableNop => execMbTableNop_kept h
  | .mbTableWrite => execMbTableWrite_kept h
  | .mbTableRead => execMbTableRead_kept h
  | .mbTableReservedOp => execMbTableReservedOp_kept h
  | .werrLogRead => execWerrLogRead_kept h
  | .sqDoorbell seat q v => execSqDoorbell_kept h seat q v
  | .cqDoorbell seat q v => execCqDoorbell_kept h seat q v
  | .eqDoorbell seat v => execEqDoorbell_kept h seat v
  | .arbRoundStart => execArbRoundStart_kept h
  | .sqEntryFetch seat q e host => execSqEntryFetch_kept h seat q e host
  | .sqeNop seat q cid => execSqeNop_kept h seat q cid
  | .sqeChanCmd seat q cid => execSqeChanCmd_kept h seat q cid
  | .sqeProg seat q cid buf => execSqeProg_kept h seat q cid buf
  | .sqeStepMsg seat q cid => execSqeStepMsg_kept h seat q cid
  | .sqeMsgTx seat q cid data => execSqeMsgTx_kept h seat q cid data
  | .sqeFence seat q cid => execSqeFence_kept h seat q cid
  | .sqeWinLock seat q cid => execSqeWinLock_kept h seat q cid
  | .sqeRegRd seat q cid => execSqeRegRd_kept h seat q cid
  | .sqeRegWr seat q cid => execSqeRegWr_kept h seat q cid
  | .sqeBadOpc seat q cid => execSqeBadOpc_kept h seat q cid
  | .portDown p d3 => execPortDown_kept h p d3
  | .pcieFlr p => execPcieFlr_kept h p
  | .pcieLinkUp p rate width => execPcieLinkUp_kept h p rate width
  | .seatLostTimeout seat => execSeatLostTimeout_kept h seat
  | .mbxNop => execMbxNop_kept h
  | .seatOpen => execSeatOpen_kept h
  | .seatClose => execSeatClose_kept h
  | .seatReset => execSeatReset_kept h
  | .seatResetDone seat => execSeatResetDone_kept h seat
  | .seatShare => execSeatShare_kept h
  | .seatBind => execSeatBind_kept h
  | .seatBindDone seat => execSeatBindDone_kept h seat
  | .seatLost => execSeatLost_kept h
  | .queueSet => execQueueSet_kept h
  | .queueDel => execQueueDel_kept h
  | .ringSet => execRingSet_kept h
  | .ringDel => execRingDel_kept h
  | .grant => execGrant_kept h
  | .revoke => execRevoke_kept h
  | .seatInfo => execSeatInfo_kept h
  | .mbxBadOp => execMbxBadOp_kept h
  | .mbxCommandDone => execMbxCommandDone_kept h
  | .pcieCompletionTimeout p e => execPcieCompletionTimeout_kept h p e
  | .msixUnmask p v => execMsixUnmask_kept h p v
  | .sqeDma seat q cid => execSqeDma_kept h seat q cid
  | .dmaChunkStart e x host => execDmaChunkStart_kept h e x host
  | .dmaReadCompletion e data => execDmaReadCompletion_kept h e data
  | .dmaChunkComplete e => execDmaChunkComplete_kept h e
  | .seatResetChunkDeadline seat => execSeatResetChunkDeadline_kept h seat
  | .xlateSet => execXlateSet_kept h
  | .xlateSetDone => execXlateSetDone_kept h
  | .xlateInv => execXlateInv_kept h
  | .xlateInvDone => execXlateInvDone_kept h
  | .smuResumeRetry seat => execSmuResumeRetry_kept h seat
  | .smuResumeAbort seat => execSmuResumeAbort_kept h seat
  | .faultLogRead => execFaultLogRead_kept h
  | .ethFrameRx p bytes fcsOk ts => execEthFrameRx_kept h p bytes fcsOk ts
  | .egressTransmit p ts => execEgressTransmit_kept h p ts
  | .tunnelSegmentRx t frame seg last data ts => execTunnelSegmentRx_kept h t frame seg last data ts
  | .tunnelReassemblyTimeout t frame => execTunnelReassemblyTimeout_kept h t frame
  | .ethLinkDown p => execEthLinkDown_kept h p
  | .ethFlushDone p ready => execEthFlushDone_kept h p ready
  | .ethLinkUp p => execEthLinkUp_kept h p
  | .macAgeOut mac vid => execMacAgeOut_kept h mac vid
  | .macAdd => execMacAdd_kept h
  | .macDel => execMacDel_kept h
  | .macLookup => execMacLookup_kept h
  | .macFlushPort => execMacFlushPort_kept h
  | .macFlushAll => execMacFlushAll_kept h
  | .macRead => execMacRead_kept h
  | .vlanApply => execVlanApply_kept h
  | .vlanRead => execVlanRead_kept h
  | .mtrAlloc => execMtrAlloc_kept h
  | .mtrFree m => execMtrFree_kept h m
  | .mtrWrite m => execMtrWrite_kept h m
  | .mtrRead m => execMtrRead_kept h m
  | .portTsArm p v => execPortTsArm_kept h p v
  | .snicPoll seat rx desc buf host => execSnicPoll_kept h seat rx desc buf host
  | .canFrameRx c f sof => execCanFrameRx_kept h c f sof
  | .canTxStart c => execCanTxStart_kept h c
  | .canTxDone c how => execCanTxDone_kept h c how
  | .canBusError c kind tx heavy => execCanBusError_kept h c kind tx heavy
  | .canBusoffRecovered c => execCanBusoffRecovered_kept h c
  | .txdDominant c => execTxdDominant_kept h c
  | .canResume c => execCanResume_kept h c
  | .canWupDetected c => execCanWupDetected_kept h c
  | .canWakeFrameMatch c f sof => execCanWakeFrameMatch_kept h c f sof
  | .canWakeFrameError c sof => execCanWakeFrameError_kept h c sof
  | .canConfirmWindowExpiry c => execCanConfirmWindowExpiry_kept h c
  | .awakeTimerExpiry => execAwakeTimerExpiry_kept h
  | .nsConfirm => execNsConfirm_kept h
  | .serTxdWrite u v => execSerTxdWrite_kept h u v
  | .serFrameTxStart u => execSerFrameTxStart_kept h u
  | .serFrameTxDone u => execSerFrameTxDone_kept h u
  | .serCharRx u ch perr ferr ns => execSerCharRx_kept h u ch perr ferr ns
  | .serIdleGap u => execSerIdleGap_kept h u
  | .serRxdRead u => execSerRxdRead_kept h u
  | .serRxfrRead u => execSerRxfrRead_kept h u
  | .fieldDownstreamLaunch ready slack => execFieldDownstreamLaunch_kept h ready slack
  | .fieldDownstreamRx good => execFieldDownstreamRx_kept h good
  | .fieldUpstreamLaunch m => execFieldUpstreamLaunch_kept h m
  | .fieldUpstreamRx => execFieldUpstreamRx_kept h
  | .fieldUpstreamMissing crcBad => execFieldUpstreamMissing_kept h crcBad
  | .barrierFail => execBarrierFail_kept h
  | .fieldWatchdogExpiry => execFieldWatchdogExpiry_kept h
  | .flResume => execFlResume_kept h
  | .flForce => execFlForce_kept h
  | .flFrst => execFlFrst_kept h
  | .railUndervoltage r => execRailUndervoltage_kept h r
  | .railRecovered r => execRailRecovered_kept h r
  | .outputStaggerSlot n => execOutputStaggerSlot_kept h n
  | .fv24Loss => execFv24Loss_kept h
  | .fv24Return => execFv24Return_kept h
  | .diEdgeAccepted n raw ns => execDiEdgeAccepted_kept h n raw ns
  | .doOvertemp n => execDoOvertemp_kept h n
  | .doAutoRestart n => execDoAutoRestart_kept h n
  | .doSetWrite seat v => execDoSetWrite_kept h seat v
  | .doClrWrite seat v => execDoClrWrite_kept h seat v
  | .doFltClear seat v => execDoFltClear_kept h seat v
  | .lsCmdWrite n seat on => execLsCmdWrite_kept h n seat on
  | .lsClr n seat => execLsClr_kept h n seat
  | .lsLimiting n on => execLsLimiting_kept h n on
  | .lsOvercurrent n => execLsOvercurrent_kept h n
  | .lsShort n => execLsShort_kept h n
  | .lsRetry n => execLsRetry_kept h n
  | .lsInrushEnd n => execLsInrushEnd_kept h n
  | .lsRleftReload n => execLsRleftReload_kept h n
  | .lsThermal n mj => execLsThermal_kept h n mj
  | .lsDiagCheck n openLoad toSupply backfeed => execLsDiagCheck_kept h n openLoad toSupply backfeed
  | .lsumUpdate mean => execLsumUpdate_kept h mean
  | .ztRelease v => execZtRelease_kept h v
  | .ztTest v => execZtTest_kept h v
  | .keyNop slot any pend => execKeyNop_kept h slot any pend
  | .keyGenerate slot any pend => execKeyGenerate_kept h slot any pend
  | .keyDerive slot any pend => execKeyDerive_kept h slot any pend
  | .keyLoad slot any pend => execKeyLoad_kept h slot any pend
  | .keyExport slot any pend => execKeyExport_kept h slot any pend
  | .keyCommit slot any pend => execKeyCommit_kept h slot any pend
  | .keyDiscard slot any pend => execKeyDiscard_kept h slot any pend
  | .keyInvalidate slot any pend => execKeyInvalidate_kept h slot any pend
  | .keyRestore slot any pend => execKeyRestore_kept h slot any pend
  | .keyLoadPub slot any pend => execKeyLoadPub_kept h slot any pend
  | .keyReservedOp slot op => execKeyReservedOp_kept h slot op
  | .keyCmdComplete ok => execKeyCmdComplete_kept h ok
  | .glazeCycle bad => execGlazeCycle_kept h bad
  | .crySha512 => execCrySha512_kept h
  | .cryHmac512 => execCryHmac512_kept h
  | .cryGcmEnc => execCryGcmEnc_kept h
  | .cryGcmDec => execCryGcmDec_kept h
  | .cryKw => execCryKw_kept h
  | .cryKwu => execCryKwu_kept h
  | .cryPssSign => execCryPssSign_kept h
  | .cryPssVerify => execCryPssVerify_kept h
  | .cryBadOp => execCryBadOp_kept h
  | .cryJobDone => execCryJobDone_kept h
  | .attNop => execAttNop_kept h
  | .attReport => execAttReport_kept h
  | .attReportDone => execAttReportDone_kept h
  | .attCert => execAttCert_kept h
  | .attExtend => execAttExtend_kept h
  | .authChallenge => execAuthChallenge_kept h
  | .authInjArm tok => execAuthInjArm_kept h tok
  | .authInjDisarm tok => execAuthInjDisarm_kept h tok
  | .authDebugUnlock tok => execAuthDebugUnlock_kept h tok
  | .authDebugLock tok => execAuthDebugLock_kept h tok
  | .authSvnCommit tok ok => execAuthSvnCommit_kept h tok ok
  | .authOwnerSet tok => execAuthOwnerSet_kept h tok
  | .authNonceExpiry => execAuthNonceExpiry_kept h
  | .authThrottleExpiry => execAuthThrottleExpiry_kept h
  | .cvuStart u => execCvuStart_kept h u
  | .cvuDin1 u v => execCvuDin1_kept h u v
  | .cvuDin2 u v => execCvuDin2_kept h u v
  | .cvuDin4 u v => execCvuDin4_kept h u v
  | .cvuEnd u => execCvuEnd_kept h u
  | .cvuRelease u => execCvuRelease_kept h u
  | .injArmWrite p v => execInjArmWrite_kept h p v
  | .injArmExpiry => execInjArmExpiry_kept h
  | .injLogRead => execInjLogRead_kept h
  | .stallDetected p sub => execStallDetected_kept h p sub
  | .powerOn => execPowerOn_kept h
  | .supplyLoss bit => execSupplyLoss_kept h bit
  | .vbkpLoss => execVbkpLoss_kept h
  | .resetNLow => execResetNLow_kept h
  | .rstDevrst v => execRstDevrst_kept h v
  | .rstMgmtrst v => execRstMgmtrst_kept h v
  | .domainDClear => execDomainDClear_kept h
  | .domainDRelease straps fitted life readBad => execDomainDRelease_kept h straps fitted life readBad
  | .bootComplete => execBootComplete_kept h
  | .bootTimerExpiry => execBootTimerExpiry_kept h
  | .bootHashFail => execBootHashFail_kept h
  | .mgmtWatchdogExpiry => execMgmtWatchdogExpiry_kept h
  | .watchdogReset => execWatchdogReset_kept h
  | .firmwareReset => execFirmwareReset_kept h
  | .backupRequest v => execBackupRequest_kept h v
  | .backupWakeN => execBackupWakeN_kept h
  | .backupTioWake => execBackupTioWake_kept h
  | .dozeEntry => execDozeEntry_kept h
  | .dozeExit => execDozeExit_kept h
  | .featherEntry => execFeatherEntry_kept h
  | .featherCheckWindow => execFeatherCheckWindow_kept h
  | .featherExit => execFeatherExit_kept h
  | .easyAnnounce => execEasyAnnounce_kept h
  | .recInfo => execRecInfo_kept h
  | .recErase => execRecErase_kept h
  | .recWrite data => execRecWrite_kept h data
  | .recVerify readOk => execRecVerify_kept h readOk
  | .recSelect readOk => execRecSelect_kept h readOk
  | .recRestart readOk => execRecRestart_kept h readOk
  | .measureSupplyInvalid d => execMeasureSupplyInvalid_kept h d
  | .measureSupplyValid d => execMeasureSupplyValid_kept h d
  | .jtagExtest => execJtagExtest_kept h
  | .mgmtPairFail p => execMgmtPairFail_kept h p
  | .dramScrub corr uncorr => execDramScrub_kept h corr uncorr
  | .fatalError code => execFatalError_kept h code
  | .journalCompactionStart j => execJournalCompactionStart_kept h j
  | .journalCompactionEnd j => execJournalCompactionEnd_kept h j
  | .lifeTotalsFlush => execLifeTotalsFlush_kept h
  | .lifeHourlyFlush => execLifeHourlyFlush_kept h
  | .lifeScrub corr uncorr => execLifeScrub_kept h corr uncorr
  | .leapWrite => execLeapWrite_kept h
  | .leapRead => execLeapRead_kept h
  | .leapClear => execLeapClear_kept h
  | .crumbAreaWrite addr v => execCrumbAreaWrite_kept h addr v
  | .lifeWinRead => execLifeWinRead_kept h

theorem State.kept_self (s : State) (hc : c → s.canonical = true) : s.Kept c s.pending s.part := ⟨rfl, rfl, hc⟩

/-- Where no canonical form is asked for, every state keeps its own queue and part. -/
theorem State.kept_plain (s : State) : s.Kept False s.pending s.part := s.kept_self False.elim

theorem step_cons (s : State) (i : Instr) (rest : List Instr) (hq : s.pending = i :: rest) :
    step s = exec i (s.withPending rest) := by
  rw [step, hq]

theorem step_nil (s : State) (hq : s.pending = []) : step s = .next s.idle := by
  rw [step, hq]

/-- Settles O1: the two cases of the queue. -/
theorem stepExecutesTheFrontCommand : Obligations.StepExecutesTheFrontCommand := by
  unfold Obligations.StepExecutesTheFrontCommand
  exact fun s i rest => ⟨step_cons s i rest, step_nil s⟩

/-- Settles O57: the fault of every meaning outside the commands of the manual. -/
theorem illFormedCommandsStop : Obligations.IllFormedCommandsStop := by
  unfold Obligations.IllFormedCommandsStop
  exact exec_illFormed

/-- Settles O56: the answer of a command is a next state, and every meaning keeps queue and part. -/
theorem everyCommandCompletes : Obligations.EveryCommandCompletes := by
  unfold Obligations.EveryCommandCompletes
  intro i s hwf
  obtain ⟨t, ht⟩ := exec_answers i s hwf
  have hkept := exec_keeps i s.kept_plain t ht
  exact ⟨t, ht, hkept.pending, hkept.part⟩

/-- Settles O58: the front command is one of the manual's, and neither it nor a tick of the clock touches the others. -/
theorem stepsKeepTheQueueReady : Obligations.StepsKeepTheQueueReady := by
  unfold Obligations.StepsKeepTheQueueReady
  intro s hready
  cases hq : s.pending with
  | nil =>
    have hidle : s.idle.pending = [] := (State.idle_kept s.kept_plain).pending.trans hq
    exact ⟨s.idle, step_nil s hq, by rw [State.ready, hidle]; rfl, hidle⟩
  | cons i rest =>
    rw [State.ready, hq, List.all_cons, Bool.and_eq_true] at hready
    obtain ⟨hfront, hrest⟩ := hready
    obtain ⟨t, ht⟩ := exec_answers i (s.withPending rest) hfront
    have hpending : t.pending = rest := (exec_keeps i (s.withPending rest).kept_plain t ht).pending
    exact ⟨t, (step_cons s i rest hq).trans ht, by rw [State.ready, hpending]; exact hrest, hpending⟩

/-- Settles O60: a step is one meaning or one tick of the clock, and each keeps the canonical form. -/
theorem stepsKeepTheCanonicalForm : Obligations.StepsKeepTheCanonicalForm := by
  unfold Obligations.StepsKeepTheCanonicalForm
  intro s t hcanon hstep
  cases hq : s.pending with
  | nil =>
    have hidle : s.idle = t := Host.Outcome.next.inj ((step_nil s hq).symm.trans hstep)
    exact hidle ▸ (State.idle_kept (s.kept_self (c := True) fun _ => hcanon)).canon trivial
  | cons i rest =>
    rw [step_cons s i rest hq] at hstep
    exact (exec_keeps i ((s.withPending rest).kept_self (c := True) fun _ => hcanon) t hstep).canon trivial

/-- Settles O59: no command waits at reset, and both tables are empty. -/
theorem resetIsReadyAndCanonical : Obligations.ResetIsReadyAndCanonical := by
  unfold Obligations.ResetIsReadyAndCanonical
  exact ⟨rfl, rfl⟩

end Sys2Proof.Machine
end

section
/-!
PROOF. Answers, fields of a word, registers after the plain updates, the registers that two states share, and what raising an
event leaves.
-/
namespace Sys2Proof.Machine

/-! ### Answers -/

theorem answers_next {P : State → Prop} {t : State} (h : P t) : Answers (.next t) P := ⟨t, rfl, h⟩

theorem answers_eq {P : State → Prop} {o : Answer} {t : State} (ho : o = .next t) (h : P t) : Answers o P := ⟨t, ho, h⟩

theorem answer_next {b : Bool} (hb : b = true) (t : State) : answer b t = .next t := if_pos hb

/-- The answer of a command that is in range, its next state known. -/
theorem answer_eq {b : Bool} {t u : State} (hb : b = true) (ht : t = u) : answer b t = .next u := by rw [answer_next hb, ht]

/-! ### Fields of a word -/

theorem Word.fld_ofNat (v hi lo : Nat) :
    Word.fld (BitVec.ofNat 32 v) hi lo = v % 2 ^ 32 / 2 ^ lo % 2 ^ (hi + 1 - lo) := by
  rw [Word.fld, BitVec.toNat_ofNat]

/-- A field of one bit. -/
theorem Word.fld_bit (w : Word) (i : Nat) : w.fld i i = (w.getLsbD i).toNat := by
  rw [Word.fld, ← BitVec.testBit_toNat, Nat.toNat_testBit, Nat.add_sub_cancel_left, Nat.pow_one]

/-- A field above the one that is written reads as before. -/
theorem Word.fld_setFld_above (w : Word) (hi lo v hi' lo' : Nat) (hhi : hi < 32) (hlo : lo ≤ hi) (habove : hi < lo') :
    (w.setFld hi lo v).fld hi' lo' = w.fld hi' lo' := by
  refine Nat.eq_of_testBit_eq fun i => ?_
  rw [Word.testBit_fld, Word.testBit_fld, Word.getLsbD_setFld w hi lo v _ hhi hlo, if_neg (by omega)]

/-! ### Registers -/

section
variable (s : State) (a b hi lo v : Nat)

@[simp] theorem State.rd_wrN_same : (s.wrN a v).rd a = BitVec.ofNat 32 v := s.rd_wr_same a _

theorem State.get_wr_ne (w : Word) (h : b ≠ a) : (s.wr a w).get b hi lo = s.get b hi lo := by
  rw [State.get, s.rd_wr_ne a b w h, State.get]

theorem State.bit_wr_ne (w : Word) (i : Nat) (h : b ≠ a) : (s.wr a w).bit b i = s.bit b i := by
  rw [State.bit, s.rd_wr_ne a b w h, State.bit]

theorem State.get_put_ne (hi' lo' : Nat) (h : b ≠ a) : (s.put a hi lo v).get b hi' lo' = s.get b hi' lo' :=
  s.get_wr_ne a b hi' lo' _ h

theorem State.bit_put_ne (i : Nat) (h : b ≠ a) : (s.put a hi lo v).bit b i = s.bit b i := s.bit_wr_ne a b _ i h

theorem State.get_put_above (hi' lo' : Nat) (hhi : hi < 32) (hlo : lo ≤ hi) (habove : hi < lo') :
    (s.put a hi lo v).get a hi' lo' = s.get a hi' lo' := by
  rw [State.get, State.rd_put_same, Word.fld_setFld_above _ hi lo v hi' lo' hhi hlo habove, State.get]

theorem State.bit_put_same (i : Nat) (hhi : hi < 32) (hlo : lo ≤ hi) :
    (s.put a hi lo v).bit a i = if lo ≤ i ∧ i ≤ hi then v.testBit (i - lo) else s.bit a i := by
  rw [State.bit, State.rd_put_same, Word.getLsbD_setFld _ hi lo v i hhi hlo, State.bit]

theorem State.bit_put_out (i : Nat) (hhi : hi < 32) (hlo : lo ≤ hi) (hout : i < lo ∨ hi < i) :
    (s.put a hi lo v).bit a i = s.bit a i := by
  rw [s.bit_put_same a hi lo v i hhi hlo, if_neg (by omega)]

theorem State.get_setBit_ne (i : Nat) (x : Bool) (h : b ≠ a) : (s.setBit a i x).get b hi lo = s.get b hi lo :=
  s.get_put_ne a b i i _ hi lo h

theorem State.bit_setBit_ne (i j : Nat) (x : Bool) (h : b ≠ a) : (s.setBit a i x).bit b j = s.bit b j :=
  s.bit_put_ne a b i i _ j h

theorem State.bit_setBit_other (i j : Nat) (x : Bool) (hi : i < 32) (hj : j ≠ i) : (s.setBit a i x).bit a j = s.bit a j :=
  s.bit_put_out a i i _ j hi (Nat.le_refl i) (by omega)

theorem State.get_setBit_above (i hi' lo' : Nat) (x : Bool) (hi : i < 32) (habove : i < lo') :
    (s.setBit a i x).get a hi' lo' = s.get a hi' lo' :=
  s.get_put_above a i i _ hi' lo' hi (Nat.le_refl i) habove

/-- A counter field goes up and saturates. -/
theorem State.get_count_same (n : Nat) (hhi : hi < 32) (hlo : lo ≤ hi) :
    (s.count a hi lo n).get a hi lo = min (s.get a hi lo + n) (2 ^ (hi + 1 - lo) - 1) := by
  have hpos : 0 < 2 ^ (hi + 1 - lo) := Nat.pow_pos (by omega)
  rw [State.count_eq, State.get_put_same _ _ _ _ _ hhi hlo]
  exact Nat.mod_eq_of_lt (by omega)

theorem State.get_count_ne (n hi' lo' : Nat) (h : b ≠ a) : (s.count a hi lo n).get b hi' lo' = s.get b hi' lo' :=
  s.get_put_ne a b hi lo _ hi' lo' h

theorem State.bit_count_ne (n i : Nat) (h : b ≠ a) : (s.count a hi lo n).bit b i = s.bit b i :=
  s.bit_put_ne a b hi lo _ i h

theorem State.get_wrN_same (hv : v < 2 ^ 32) : (s.wrN a v).get a hi lo = v / 2 ^ lo % 2 ^ (hi + 1 - lo) := by
  rw [State.get, s.rd_wrN_same, Word.fld_ofNat, Nat.mod_eq_of_lt hv]

theorem State.get_wrN_ne (hi' lo' : Nat) (h : b ≠ a) : (s.wrN a v).get b hi' lo' = s.get b hi' lo' :=
  s.get_wr_ne a b hi' lo' _ h

theorem State.bit_wrN_ne (i : Nat) (h : b ≠ a) : (s.wrN a v).bit b i = s.bit b i := s.bit_wr_ne a b _ i h

end

/-- What both words of a 64-bit register read after a write of it. -/
theorem State.rd64_wr64_same (s : State) (lo hi v : Nat) (h : lo ≠ hi) : (s.wr64 lo hi v).rd64 lo hi = v % 2 ^ 64 := by
  rw [State.rd64, State.wr64_eq, State.rd_wrN_ne _ _ _ _ h, State.rd_wrN_same, State.rd_wrN_same, BitVec.toNat_ofNat,
    BitVec.toNat_ofNat]
  omega

theorem State.rd_wr64_ne (s : State) (lo hi v a : Nat) (h1 : a ≠ lo) (h2 : a ≠ hi) : (s.wr64 lo hi v).rd a = s.rd a := by
  rw [State.wr64_eq, State.rd_wrN_ne _ _ _ _ h2, State.rd_wrN_ne _ _ _ _ h1]

theorem State.rd64_congr {s t : State} {lo hi : Nat} (hlo : t.rd lo = s.rd lo) (hhi : t.rd hi = s.rd hi) :
    t.rd64 lo hi = s.rd64 lo hi := by
  rw [State.rd64, State.rd64, hlo, hhi]

/-- The number that a field holds fits it. -/
theorem State.get_lt (s : State) (a hi lo : Nat) : s.get a hi lo < 2 ^ (hi + 1 - lo) := fld_lt _ hi lo

/-! ### The pages of the part after the plain updates -/

section
variable (s : State) (a hi lo v q : Nat)

@[simp] theorem State.has_wr (w : Word) : (s.wr a w).has q = s.has q := rfl
@[simp] theorem State.has_put : (s.put a hi lo v).has q = s.has q := rfl
@[simp] theorem State.has_count (n : Nat) : (s.count a hi lo n).has q = s.has q := rfl
@[simp] theorem State.has_setBit (i : Nat) (x : Bool) : (s.setBit a i x).has q = s.has q := rfl
@[simp] theorem State.has_wrN : (s.wrN a v).has q = s.has q := rfl
@[simp] theorem State.has_wr64 : (s.wr64 lo hi v).has q = s.has q := rfl
@[simp] theorem State.has_setPg (p : Nat) : (s.setPg p v).has q = s.has q := rfl

end

/-! ### The registers that two states share -/

section
variable {s t : State} {l : List Nat}

theorem State.keepsRegs.refl (s : State) (l : List Nat) : s.keepsRegs s l := fun _ _ => rfl

theorem State.keepsRegs.wr (h : s.keepsRegs t l) (a : Nat) (v : Word) (ha : a ∈ l) : s.keepsRegs (t.wr a v) l := fun b hb =>
  (t.rd_wr_ne a b v fun e => hb (e ▸ ha)).trans (h b hb)

theorem State.keepsRegs.put (h : s.keepsRegs t l) (a hi lo v : Nat) (ha : a ∈ l) : s.keepsRegs (t.put a hi lo v) l :=
  h.wr a _ ha

theorem State.keepsRegs.count (h : s.keepsRegs t l) (a hi lo n : Nat) (ha : a ∈ l) : s.keepsRegs (t.count a hi lo n) l :=
  h.wr a _ ha

theorem State.keepsRegs.setBit (h : s.keepsRegs t l) (a i : Nat) (x : Bool) (ha : a ∈ l) :
    s.keepsRegs (t.setBit a i x) l := h.wr a _ ha

theorem State.keepsRegs.wrN (h : s.keepsRegs t l) (a v : Nat) (ha : a ∈ l) : s.keepsRegs (t.wrN a v) l := h.wr a _ ha

theorem State.keepsRegs.wr64 (h : s.keepsRegs t l) (lo hi v : Nat) (hlo : lo ∈ l) (hhi : hi ∈ l) :
    s.keepsRegs (t.wr64 lo hi v) l := (h.wrN lo v hlo).wrN hi _ hhi

/-- A change beside the registers. -/
theorem State.keepsRegs.same {u : State} (h : s.keepsRegs t l) (hrd : ∀ a, u.rd a = t.rd a) : s.keepsRegs u l :=
  fun a ha => (hrd a).trans (h a ha)

end

/-! ### Events -/

/-- Raising leaves everything that is neither a register nor a seat, whatever the page. -/
theorem raiseBits_frame (s : State) (p : Nat) (bits : Word) : EventFrame (fun _ => true) s (s.raiseBits p bits) := by
  unfold State.raiseBits
  split
  · exact ((EventFrame.wr s _ _ rfl).trans (EventFrame.wr _ _ _ rfl)).trans
      (EventFrame.each _ _ (fun t _ => (EventFrame.route t p).mono fun _ _ => rfl) _)
  · exact EventFrame.refl s

theorem raise_frame (s : State) (p b : Nat) : EventFrame (fun _ => true) s (s.raise p b) := raiseBits_frame s p _

section
variable (s : State) (p b a : Nat) (hp : p < 256) (ha : eventReg a = false)
include hp ha

theorem State.get_raise (hi lo : Nat) : (s.raise p b).get a hi lo = s.get a hi lo := (EventFrame.raise s p b hp).get a hi lo ha

theorem State.bit_raise (i : Nat) : (s.raise p b).bit a i = s.bit a i := (EventFrame.raise s p b hp).bit a i ha

end

theorem State.rd64_raise (s : State) (p b lo hi : Nat) (hp : p < 256) (hlo : eventReg lo = false) (hhi : eventReg hi = false) :
    (s.raise p b).rd64 lo hi = s.rd64 lo hi :=
  State.rd64_congr (s.rd_raise p b lo hp hlo) (s.rd_raise p b hi hp hhi)

/-- A bit of the raw events of a present page after one more event of it. -/
theorem State.bit_raise_raw (s : State) (p b i : Nat) (hp : p < 256) (hhas : s.has p = true) :
    (s.raise p b).bit (Reg.PG_EVRAW p) i = (s.bit (Reg.PG_EVRAW p) i || decide (i < 32) && decide (b = i)) := by
  rw [State.bit, s.rd_raise_raw p b hp hhas, BitVec.getLsbD_or, BitVec.getLsbD_ofNat, Nat.testBit_two_pow, State.bit]

/-- An event of an absent page changes nothing (R8). -/
theorem State.raise_absent (s : State) (p b : Nat) (hhas : s.has p = false) : s.raise p b = s := by
  rw [State.raise, State.raiseBits, hhas, if_neg Bool.false_ne_true]

@[simp] theorem State.has_raise (s : State) (p b q : Nat) : (s.raise p b).has q = s.has q := by
  rw [State.has, (raise_frame s p b).part, State.has]

end Sys2Proof.Machine
end

section
/-!
PROOF. The header of a page and its life cycle (R50 to R61), up to the statements ResetLeavesPagesStopped,
PageCommandsFollowTheTable and PageStartsAndStopsEnd.
-/
namespace Sys2Proof.Machine

/-! ### Addresses of the header -/

/-- Header registers but the raw events, the mask and offset 0x01C are no registers of events. -/
theorem eventReg_header (p o : Nat) (ho : o < 0x40) (hev : o ≠ 0x014 ∧ o ≠ 0x018 ∧ o ≠ 0x01C) :
    eventReg (p * 0x1000 + o) = false := by
  have hlast : Reg.EVT_LAST % 0x1000 = 0x044 := by decide
  have hdrop : Reg.EVT_DROP % 0x1000 = 0x040 := by decide
  refine Bool.or_eq_false_iff.mpr ⟨decide_eq_false ?_, decide_eq_false ?_⟩
  · omega
  · omega

theorem eventReg_PG_STAT (p : Nat) : eventReg (Reg.PG_STAT p) = false :=
  eventReg_header p 0x010 (by decide) (by decide)

theorem eventReg_PG_FAULT (p : Nat) : eventReg (Reg.PG_FAULT p) = false :=
  eventReg_header p 0x02c (by decide) (by decide)

theorem eventReg_PG_FCNT (p : Nat) : eventReg (Reg.PG_FCNT p) = false :=
  eventReg_header p 0x030 (by decide) (by decide)

/-- Two offsets of a header are two registers. -/
theorem header_ne (p o o' : Nat) (h : o ≠ o') : p * 0x1000 + o ≠ p * 0x1000 + o' := fun e => h (Nat.add_left_cancel e)

theorem PG_FAULT_ne_STAT (p : Nat) : Reg.PG_FAULT p ≠ Reg.PG_STAT p := header_ne p _ _ (by decide)
theorem PG_FCNT_ne_STAT (p : Nat) : Reg.PG_FCNT p ≠ Reg.PG_STAT p := header_ne p _ _ (by decide)
theorem PG_FCNT_ne_FAULT (p : Nat) : Reg.PG_FCNT p ≠ Reg.PG_FAULT p := header_ne p _ _ (by decide)
theorem PG_EVRAW_ne_STAT (p : Nat) : Reg.PG_EVRAW p ≠ Reg.PG_STAT p := header_ne p _ _ (by decide)

/-! ### Reset -/

/-- What a header register from offset 4 on takes as its reset value (R50). -/
theorem resetValue_header (part : Part) (straps p o : Nat) (hp : p < 256) (ho : o < 0x40) (h0 : o ≠ 0) :
    resetValue part straps (p * 0x1000 + o) =
      if !part.hasPage p then 0
      else if o = 0x010 then (if pageLife p then 1 else 3)
      else ((RegMap.header.find? fun r => rowHit r o).map fun r => r.reset).getD 0 := by
  have hdiv : (p * 0x1000 + o) / 0x1000 = p := by omega
  have hmod : (p * 0x1000 + o) % 0x1000 = o := by omega
  have hlt : p * 0x1000 + o < 0x100000 := by omega
  have hout : ∀ b, 0x40 ≤ b % 0x1000 → ¬ p * 0x1000 + o = b := fun b hb e => by omega
  have hrow : regRow (p * 0x1000 + o) = RegMap.header.find? fun r => rowHit r o := by
    rw [regRow, if_pos hlt, hmod, if_pos ho]
  rw [resetValue, hdiv, hmod, hrow, if_neg (hout Reg.DEV_PARTNUM (by decide)), if_neg (hout Reg.DEV_CAPS (by decide)),
    if_neg (hout Reg.DEV_CAPSX (by decide)), if_neg (hout (Reg.ST_STAT 0) (by decide)), if_neg (hout Reg.RT_ID (by decide)),
    if_neg (hout Reg.PTP_TC (by decide))]
  simp only [hlt, h0, decide_true, decide_eq_true_eq, Bool.true_and, hout (Reg.CAL_VSRC 0) (by decide),
    hout (Reg.CAL_VSRC 1) (by decide), hout (Reg.CAL_ISRC 0) (by decide), hout (Reg.CAL_ISRC 1) (by decide),
    hout (Reg.CAL_RREF10K 0) (by decide), hout (Reg.CAL_RREF10K 1) (by decide), hout (Reg.CAL_RREF1K 0) (by decide),
    hout (Reg.CAL_RREF1K 1) (by decide), hout Reg.KEY_FUSE (by decide), decide_false, Bool.and_false, Bool.or_self,
    Bool.false_eq_true, ↓reduceIte]
  cases RegMap.header.find? fun r => rowHit r o <;> rfl

theorem rd_reset (a : Nat) : State.reset.rd a = resetValue .yk2561 0 a := rfl

/-- A header register without a reset value of its own reads 0 at reset. -/
theorem rd_reset_header (p o : Nat) (hp : p < 256) (ho : o < 0x40) (h0 : o ≠ 0) (hstat : o ≠ 0x010)
    (hrow : ((RegMap.header.find? fun r => rowHit r o).map fun r => r.reset).getD 0 = 0) :
    State.reset.rd (p * 0x1000 + o) = 0 := by
  rw [rd_reset, resetValue_header _ _ p o hp ho h0, if_neg hstat, hrow, ite_self]

theorem pg_reset (p : Nat) (hp : p < 256) :
    State.reset.pg p = if State.reset.has p then (if pageLife p then 1 else 3) else 0 := by
  have hstat : State.reset.rd (Reg.PG_STAT p) = if !State.reset.has p then 0 else if pageLife p then 1 else 3 :=
    resetValue_header _ _ p 0x010 hp (by decide) (by decide)
  rw [State.pg, State.get, hstat]
  cases State.reset.has p
  · simp [Word.fld]
  · cases pageLife p <;> simp [Word.fld]

/-- Settles O2: the queue and the list of what has left are empty, and each header register reads its reset value. -/
theorem resetLeavesPagesStopped : Obligations.ResetLeavesPagesStopped := by
  unfold Obligations.ResetLeavesPagesStopped
  refine ⟨rfl, rfl, fun p hp => ⟨pg_reset p hp, ?_, ?_, ?_⟩⟩
  · exact rd_reset_header p 0x014 hp (by decide) (by decide) (by decide) (by decide)
  · exact rd_reset_header p 0x018 hp (by decide) (by decide) (by decide) (by decide)
  · exact rd_reset_header p 0x030 hp (by decide) (by decide) (by decide) (by decide)

/-! ### The state of a page -/

@[simp] theorem State.pg_setPg (s : State) (p st : Nat) : (s.setPg p st).pg p = st % 8 :=
  s.get_put_same (Reg.PG_STAT p) 2 0 st (by decide) (by decide)

theorem State.keepsRegs_setPg (s : State) (p st : Nat) : s.keepsRegs (s.setPg p st) [Reg.PG_STAT p] :=
  (State.keepsRegs.refl s _).put _ _ _ _ List.mem_cons_self

@[simp] theorem State.pg_raise (s : State) (p b q : Nat) (hp : p < 256) : (s.raise p b).pg q = s.pg q :=
  s.get_raise p b _ hp (eventReg_PG_STAT q) 2 0

/-! ### RUN and STOP (R51, R58) -/

theorem fieldPage_life (p : Nat) (h : fieldPage p = true) : pageLife p = true := by
  have hmem : p ∈ [0x0C1, 0x0C2, 0x0C3, 0x0C4, 0x0C5] := by
    simp only [fieldPage, Bool.and_eq_true, decide_eq_true_eq] at h
    simp only [List.mem_cons, List.not_mem_nil, or_false]
    omega
  have hall : ∀ q ∈ [0x0C1, 0x0C2, 0x0C3, 0x0C4, 0x0C5], pageLife q = true := by decide
  exact hall p hmem

theorem exec_pgRun (s : State) (p : Nat) (hp : p < 256) : exec (.pgRun p) s = .next (s.pgRun p) :=
  answer_next (decide_eq_true hp) _

theorem exec_pgStop (s : State) (p : Nat) (hp : p < 256) : exec (.pgStop p) s = .next (s.pgStop p) :=
  answer_next (decide_eq_true hp) _

theorem exec_pgSrst (s : State) (p : Nat) (hp : p < 256) : exec (.pgSrst p) s = .next (s.pgSrst p) :=
  answer_next (decide_eq_true hp) _

/-- A command reaches a page whose life cycle the core holds. -/
theorem State.pgCommand_core (s : State) (p : Nat) (v : Word) (f : State → State) (hheld : s.power.held = false)
    (hhas : s.has p = true) (hlife : pageLife p = true) (hfield : fieldPage p = false) : s.pgCommand p v f = f s := by
  simp only [State.pgCommand, hheld, hhas, hlife, hfield, Bool.not_true, Bool.or_self, Bool.false_eq_true, ↓reduceIte]

theorem State.pgCommand_lifeless (s : State) (p : Nat) (v : Word) (f : State → State) (hheld : s.power.held = false)
    (hhas : s.has p = true) (hlife : pageLife p = false) : s.pgCommand p v f = s.raise p 1 := by
  simp only [State.pgCommand, hheld, hhas, hlife, Bool.not_true, Bool.not_false, Bool.or_self, Bool.false_eq_true, ↓reduceIte]

theorem State.pgCommand_absent (s : State) (p : Nat) (v : Word) (f : State → State) (hhas : s.has p = false) :
    s.pgCommand p v f = s := by
  rw [State.pgCommand, hhas, Bool.not_false, Bool.or_true, if_pos rfl]

theorem State.pgRun_free (s : State) (p : Nat) (heasy : s.easyHeld p = false) :
    s.pgRun p = s.pgCommand p 1 fun s => if s.pg p = 1 then s.setPg p 2 else s.raise p 1 := by
  rw [State.pgRun, heasy, Bool.false_and, if_neg Bool.false_ne_true]

theorem State.pgSrst_core (s : State) (p : Nat) (hfield : fieldPage p = false) :
    s.pgSrst p = s.pgCommand p 4 fun s => if s.pg p = 1 || s.pg p = 5 then s.pgClear p else s.raise p 1 := by
  rw [State.pgSrst, hfield, Bool.false_and, State.when, if_neg Bool.false_ne_true]

/-- The three commands where they do not reach a life cycle: all are one `pgCommand`. -/
theorem exec_pgCommands_eq (s t : State) (p : Nat) (hp : p < 256) (heasy : s.easyHeld p = false)
    (hfield : fieldPage p = false) (ht : ∀ v f, s.pgCommand p v f = t) :
    ∀ c ∈ [Instr.pgRun p, Instr.pgStop p, Instr.pgSrst p], exec c s = .next t := by
  intro c hc
  simp only [List.mem_cons, List.not_mem_nil, or_false] at hc
  rcases hc with rfl | rfl | rfl
  · rw [exec_pgRun s p hp, s.pgRun_free p heasy, ht]
  · rw [exec_pgStop s p hp, State.pgStop, ht]
  · rw [exec_pgSrst s p hp, s.pgSrst_core p hfield, ht]

/-- What the commands do to a page with a life cycle that the core holds. -/
theorem exec_pgRun_core (s : State) (p : Nat) (hp : p < 256) (hhas : s.has p = true) (hlife : pageLife p = true)
    (hfield : fieldPage p = false) (hheld : s.power.held = false) (heasy : s.easyHeld p = false) :
    exec (.pgRun p) s = .next (if s.pg p = 1 then s.setPg p 2 else s.raise p 1) := by
  rw [exec_pgRun s p hp, s.pgRun_free p heasy, s.pgCommand_core p 1 _ hheld hhas hlife hfield]

theorem exec_pgStop_core (s : State) (p : Nat) (hp : p < 256) (hhas : s.has p = true) (hlife : pageLife p = true)
    (hfield : fieldPage p = false) (hheld : s.power.held = false) :
    exec (.pgStop p) s = .next
      (if s.pg p = 3 then (s.setPg p 4).pageLeave p
      else if s.pg p = 5 then s.setPg p 4
      else if s.pg p = 2 && !s.stopAsked.contains p then { s with stopAsked := p :: s.stopAsked }
      else s.raise p 1) := by
  rw [exec_pgStop s p hp, State.pgStop, s.pgCommand_core p 2 _ hheld hhas hlife hfield]

theorem exec_pgSrst_core (s : State) (p : Nat) (hp : p < 256) (hhas : s.has p = true) (hlife : pageLife p = true)
    (hfield : fieldPage p = false) (hheld : s.power.held = false) :
    exec (.pgSrst p) s = .next (if s.pg p = 1 || s.pg p = 5 then s.pgClear p else s.raise p 1) := by
  rw [exec_pgSrst s p hp, s.pgSrst_core p hfield, s.pgCommand_core p 4 _ hheld hhas hlife hfield]

/-! ### SRST: the registers of domain K (R23, R58) -/

theorem Sparse.find?_filter_false {α : Type} (m : List (Nat × α)) (f : Nat × α → Bool) (a : Nat)
    (h : ∀ v, f (a, v) = false) : Sparse.find? (m.filter f) a = none := by
  induction m with
  | nil => rfl
  | cons e m ih =>
    obtain ⟨k, v⟩ := e
    cases hf : f (k, v) with
    | false => rw [List.filter_cons_of_neg (by simp [hf])]; exact ih
    | true =>
      have hk : ¬ k = a := fun e => by rw [e, h v] at hf; exact Bool.noConfusion hf
      rw [List.filter_cons_of_pos hf, Sparse.find?, if_neg hk]
      exact ih

theorem Sparse.find?_filter_true {α : Type} (m : List (Nat × α)) (f : Nat × α → Bool) (a : Nat)
    (h : ∀ v, f (a, v) = true) : Sparse.find? (m.filter f) a = Sparse.find? m a := by
  induction m with
  | nil => rfl
  | cons e m ih =>
    obtain ⟨k, v⟩ := e
    rcases Decidable.em (k = a) with rfl | hk
    · rw [List.filter_cons_of_pos (h v), Sparse.find?, Sparse.find?, if_pos rfl, if_pos rfl]
    · cases hf : f (k, v) with
      | false => rw [List.filter_cons_of_neg (by simp [hf]), Sparse.find?, if_neg hk, ih]
      | true => rw [List.filter_cons_of_pos hf, Sparse.find?, Sparse.find?, if_neg hk, if_neg hk, ih]

/-- A register of the domain that is cleared takes its reset value, every other is kept. -/
theorem State.rd_clearDom (s : State) (p a : Nat) (dm : Dom) :
    (s.clearDom p dm).rd a = if a / 0x1000 = p ∧ domOf a = some dm then resetValue s.part s.straps a else s.rd a := by
  show (Sparse.find? (s.regs.filter _) a).getD _ = _
  split
  next h => rw [Sparse.find?_filter_false _ _ a fun v => by simp [h]]; rfl
  next h =>
    rw [Sparse.find?_filter_true _ _ a fun v => by simpa [-not_and, Decidable.not_and_iff_not_or_not] using h]
    rfl

theorem Reg.KEY_BUF_dom (w : Nat) (hw : w < 512) : domOf (Reg.KEY_BUF w) = some .d := by
  have hlt : Reg.KEY_BUF w < 0x100000 := by unfold Reg.KEY_BUF; omega
  have hmod : Reg.KEY_BUF w % 0x1000 = 0x800 + 4 * w := by unfold Reg.KEY_BUF; omega
  have hdiv : Reg.KEY_BUF w / 0x1000 = 0x0D0 := by unfold Reg.KEY_BUF; omega
  have hpage : pageRow 0x0D0 = some ⟨0x0d0, 1, true, RegMap.rows0d0⟩ := by decide
  rw [domOf, regRow, if_pos hlt, hmod, if_neg (by omega), hdiv, hpage]
  simp only [RegMap.rows0d0, List.find?_cons, rowHit]
  simp [show ∀ n, n < 0x800 → ¬ 0x800 + 4 * w < n from fun n hn => by omega, show 2048 + 4 * w < 2048 + 2048 by omega]

theorem State.rd_each_wr_ne {α : Type} (l : List α) (f : α → Nat) (v : Word) (a : Nat) (h : ∀ x ∈ l, a ≠ f x) (s : State) :
    (s.each l fun s x => s.wr (f x) v).rd a = s.rd a := by
  induction l generalizing s with
  | nil => rfl
  | cons x l ih =>
    exact (ih (fun y hy => h y (List.mem_cons_of_mem x hy)) _).trans (s.rd_wr_ne _ a v (h x List.mem_cons_self))

theorem resetValue_STEP_FREE (part : Part) (straps : Nat) (hhas : part.hasPage 0x031 = true) :
    resetValue part straps Reg.STEP_FREE = 65536 := by
  cases part
  · rfl
  · rfl
  · rfl
  · exact absurd hhas (by decide)

/-- The tables of a page leave its registers of domain K at their reset values. -/
theorem State.rd_clearTables (s : State) (p a : Nat) (hhas : s.has p = true) (hk : domOf a = some .k)
    (hreset : s.rd a = resetValue s.part s.straps a) : (s.clearTables p).rd a = resetValue s.part s.straps a := by
  unfold State.clearTables
  split
  next h031 =>
    rw [State.countFree, State.wrN_eq, State.rd_wr]
    split
    next hfree => rw [hfree, resetValue_STEP_FREE _ _ (h031 ▸ hhas)]; rfl
    next => exact hreset
  split
  · exact hreset
  split
  · exact hreset
  split
  · exact hreset
  split
  · exact hreset
  split
  · have hne : a ≠ Reg.MAC_COUNT := fun e => absurd (e ▸ hk : domOf Reg.MAC_COUNT = some .k) (by decide)
    exact (State.rd_wrN_ne _ _ _ _ hne).trans hreset
  split
  · exact hreset
  split
  · refine (State.rd_each_wr_ne _ _ _ _ (fun w hw e => ?_) _).trans hreset
    have hdom := Reg.KEY_BUF_dom w (List.mem_range.mp hw)
    rw [← e, hk] at hdom
    exact absurd hdom (by decide)
  split
  · rw [State.cvuReset, State.rd_clearDom]
    split
    · rfl
    · exact hreset
  · exact hreset

theorem domOf_header (p o : Nat) (hp : p < 256) (ho : o < 0x40) :
    domOf (p * 0x1000 + o) = (RegMap.header.find? fun r => rowHit r o).map fun r => r.dom := by
  have hmod : (p * 0x1000 + o) % 0x1000 = o := by omega
  rw [domOf, regRow, if_pos (by omega), hmod, if_pos ho]

/-- SRST up to the change of the page's state: domain K and the tables of the page are cleared, and domain F of page 0x0C0. -/
def State.domainCleared (s : State) (p : Nat) : State :=
  let t := (s.clearDom p .k).clearTables p
  if p = 0x0C0 then (t.clearDom p .f).fieldQueue (Reg.PG_CTRL 0x0C0) 4 else t

theorem State.pgClear_eq (s : State) (p : Nat) : s.pgClear p = ((s.domainCleared p).setPg p 1).raise p 2 := rfl

theorem State.rd_domainCleared (s : State) (p a : Nat) (hhas : s.has p = true) (hpage : a / 0x1000 = p)
    (hk : domOf a = some .k) : (s.domainCleared p).rd a = resetValue s.part s.straps a := by
  have htables : ((s.clearDom p .k).clearTables p).rd a = resetValue s.part s.straps a :=
    (s.clearDom p .k).rd_clearTables p a hhas hk (by rw [State.rd_clearDom, if_pos ⟨hpage, hk⟩]; rfl)
  unfold State.domainCleared
  split
  · refine (State.rd_clearDom _ _ _ _).trans ?_
    rw [if_neg (by rw [hk]; simp)]
    exact htables
  · exact htables

theorem State.has_domainCleared (s : State) (p q : Nat) : (s.domainCleared p).has q = s.has q := by
  have hpart : ((s.clearDom p .k).clearTables p).part = s.part :=
    (State.clearTables_kept (s.clearDom p .k).kept_plain p).part
  unfold State.domainCleared
  split
  · exact congrArg (Part.hasPage · q) hpart
  · exact congrArg (Part.hasPage · q) hpart

theorem rd_PG_STAT_cleared (s : State) (p : Nat) (hp : p < 256) (hhas : s.has p = true) (hlife : pageLife p = true) :
    (s.domainCleared p).rd (Reg.PG_STAT p) = 1 ∧ resetValue s.part s.straps (Reg.PG_STAT p) = 1 := by
  have hvalue : resetValue s.part s.straps (Reg.PG_STAT p) = 1 := by
    have hheader := resetValue_header s.part s.straps p 0x010 hp (by decide) (by decide)
    rw [show s.part.hasPage p = true from hhas, hlife] at hheader
    exact hheader
  refine ⟨?_, hvalue⟩
  rw [s.rd_domainCleared p (Reg.PG_STAT p) hhas (by unfold Reg.PG_STAT; omega) (domOf_header p 0x010 hp (by decide)), hvalue]

/-- SRST leaves every register of domain K at its reset value, but for the event it raises (R58). -/
theorem State.rd_pgClear (s : State) (p a : Nat) (hp : p < 256) (hhas : s.has p = true) (hlife : pageLife p = true)
    (hpage : a / 0x1000 = p) (hk : domOf a = some .k) (hraw : a ≠ Reg.PG_EVRAW p) :
    (s.pgClear p).rd a = resetValue s.part s.straps a := by
  obtain ⟨hstat, hvalue⟩ := rd_PG_STAT_cleared s p hp hhas hlife
  have hbefore : ((s.domainCleared p).setPg p 1).rd a = resetValue s.part s.straps a := by
    rcases Decidable.em (a = Reg.PG_STAT p) with rfl | hne
    · rw [State.setPg, State.rd_put_same, hstat, hvalue]
      decide
    · rw [State.setPg, State.rd_put_ne _ _ _ _ _ _ hne, s.rd_domainCleared p a hhas hpage hk]
  have hhas' : ((s.domainCleared p).setPg p 1).has p = true := by
    rw [State.has_setPg, s.has_domainCleared p p, hhas]
  rw [s.pgClear_eq p]
  rcases Decidable.em (a = Reg.PG_EVMASK p) with rfl | hmask
  · rw [State.raise, State.rd_raiseBits_mask _ _ _ hp hhas', hbefore]
  · have hlast : a ≠ Reg.EVT_LAST := fun e => absurd (e ▸ hk : domOf Reg.EVT_LAST = some .k) (by decide)
    have hdrop : a ≠ Reg.EVT_DROP := fun e => absurd (e ▸ hk : domOf Reg.EVT_DROP = some .k) (by decide)
    have hseats : ∀ q ∈ [0x081, 0x082, 0x083, 0x084], p ≠ q := fun q hq e => by
      have hnone : ∀ q ∈ [0x081, 0x082, 0x083, 0x084], pageLife q = false := by decide
      rw [e, hnone q hq] at hlife
      exact Bool.noConfusion hlife
    have hev : eventReg a = false := by
      simp only [List.forall_mem_cons, List.not_mem_nil, false_implies, implies_true, and_true] at hseats
      refine Bool.or_eq_false_iff.mpr ⟨decide_eq_false ?_, decide_eq_false ?_⟩
      · omega
      · unfold Reg.PG_EVRAW at hraw
        unfold Reg.PG_EVMASK at hmask
        omega
    rw [State.rd_raise _ _ _ _ hp hev, hbefore]

/-- SRST ends in STOPPED, its event the only one that stands (R58). -/
theorem State.pgClear_stopped (s : State) (p : Nat) (hp : p < 256) (hhas : s.has p = true) :
    (s.pgClear p).pg p = 1 ∧ (s.pgClear p).rd (Reg.PG_EVRAW p) = 4 := by
  have hhas' : ((s.domainCleared p).setPg p 1).has p = true := by
    rw [State.has_setPg, s.has_domainCleared p p, hhas]
  have hraw : (s.domainCleared p).rd (Reg.PG_EVRAW p) = 0 := by
    rw [s.rd_domainCleared p (Reg.PG_EVRAW p) hhas (by unfold Reg.PG_EVRAW; omega) (domOf_header p 0x014 hp (by decide))]
    exact (resetValue_header s.part s.straps p 0x014 hp (by decide) (by decide)).trans (ite_self _)
  rw [s.pgClear_eq p]
  refine ⟨by rw [State.pg_raise _ _ _ _ hp, State.pg_setPg], ?_⟩
  rw [State.rd_raise_raw _ _ _ hp hhas', State.setPg, State.rd_put_ne _ _ _ _ _ _ (PG_EVRAW_ne_STAT p), hraw]
  rfl

/-- Settles O3: RUN, STOP and SRST by the state of the page, and the pages without a life cycle. -/
theorem pageCommandsFollowTheTable : Obligations.PageCommandsFollowTheTable := by
  unfold Obligations.PageCommandsFollowTheTable
  refine ⟨fun s p hp hhas hlife hfield hheld heasy => ?_, fun s p hp hheld heasy => ⟨fun hhas hlife => ?_, fun hhas hfield => ?_⟩⟩
  · rw [exec_pgRun_core s p hp hhas hlife hfield hheld heasy, exec_pgStop_core s p hp hhas hlife hfield hheld,
      exec_pgSrst_core s p hp hhas hlife hfield hheld]
    refine ⟨fun h => ?_, fun h => ?_, fun h => ?_, fun h => ?_, fun h hask => ?_, fun h => ?_, fun h => ?_, fun h => ?_⟩
    · rw [if_pos h]
      exact answers_next ⟨s.pg_setPg p 2, s.keepsRegs_setPg p 2⟩
    · rw [if_neg h]
    · rw [if_pos h]
    · rw [if_neg (by omega), if_pos h]
      exact answers_next ⟨s.pg_setPg p 4, s.keepsRegs_setPg p 4⟩
    · rw [if_neg (by omega), if_neg (by omega), if_pos (by simp [h, hask])]
      exact answers_next ⟨h, List.mem_cons_self, rfl⟩
    · rw [if_neg (by omega), if_neg (by omega), if_neg (by simp; omega)]
    · rw [if_pos (by simpa using h)]
      obtain ⟨hpg, hraw⟩ := s.pgClear_stopped p hp hhas
      exact answers_next ⟨hpg, hraw, fun a hpage hk hne => s.rd_pgClear p a hp hhas hlife hpage hk hne⟩
    · rw [if_neg (by simp; omega)]
  · have hfield : fieldPage p = false := Bool.eq_false_iff.mpr fun h => by
      rw [fieldPage_life p h] at hlife
      exact Bool.noConfusion hlife
    exact ⟨exec_pgCommands_eq s _ p hp heasy hfield fun v f => s.pgCommand_lifeless p v f hheld hhas hlife,
      s.bit_raise_same p 1 hp (by decide) hhas, s.pg_raise p 1 p hp⟩
  · exact exec_pgCommands_eq s s p hp heasy hfield fun v f => s.pgCommand_absent p v f hhas

end Sys2Proof.Machine
end

section
/-!
PROOF. The ends of STARTING and STOPPING (R59, R60), stall detectors (R536), and writes of header registers and slack trackers
(R48, R50, R39), up to the statements PageStartsAndStopsEnd and HeaderAndSlackWrites.
-/
namespace Sys2Proof.Machine

/-! ### A page that fails -/

theorem Word.fld_all (w : Word) : w.fld 31 0 = w.toNat := by
  rw [Word.fld, Nat.pow_zero, Nat.div_one]
  exact Nat.mod_eq_of_lt w.isLt

/-- The fault code of a failed start: CONFIG_INVALID where none stands (R55, R59). -/
def State.startFault (s : State) (p : Nat) : State :=
  s.when (s.get (Reg.PG_FAULT p) 15 0 == 0) fun s => s.put (Reg.PG_FAULT p) 15 0 3

theorem State.startFail_eq (s : State) (p : Nat) : s.startFail p = ((s.startFault p).setPg p 1).raise p 3 := rfl

theorem State.get_startFault (s : State) (p : Nat) :
    (s.startFault p).get (Reg.PG_FAULT p) 15 0 =
      if s.get (Reg.PG_FAULT p) 15 0 = 0 then 3 else s.get (Reg.PG_FAULT p) 15 0 := by
  rcases Decidable.em (s.get (Reg.PG_FAULT p) 15 0 = 0) with h | h
  · rw [State.startFault, h, if_pos rfl]
    exact s.get_put_same (Reg.PG_FAULT p) 15 0 3 (by decide) (by decide)
  · rw [State.startFault, if_neg h, State.when, if_neg (by simpa using h)]

theorem State.rd_startFault (s : State) (p a : Nat) (h : a ≠ Reg.PG_FAULT p) : (s.startFault p).rd a = s.rd a := by
  unfold State.startFault State.when
  split
  · exact s.rd_put_ne _ _ _ _ _ h
  · rfl

theorem State.has_startFault (s : State) (p q : Nat) : (s.startFault p).has q = s.has q := by
  unfold State.startFault State.when
  split <;> rfl

/-- A failed start goes back to STOPPED and raises START_FAIL; it is no page fault (R59). -/
theorem State.startFail_spec (s : State) (p : Nat) (hp : p < 256) (hhas : s.has p = true) :
    (s.startFail p).pg p = 1 ∧ (s.startFail p).bit (Reg.PG_EVRAW p) 3 = true ∧
      (s.startFail p).get (Reg.PG_FAULT p) 15 0 =
        (if s.get (Reg.PG_FAULT p) 15 0 = 0 then 3 else s.get (Reg.PG_FAULT p) 15 0) ∧
      (s.startFail p).rd (Reg.PG_FCNT p) = s.rd (Reg.PG_FCNT p) := by
  rw [s.startFail_eq p]
  refine ⟨?_, State.bit_raise_same _ p 3 hp (by decide) ?_, ?_, ?_⟩
  · rw [State.pg_raise _ _ _ _ hp, State.pg_setPg]
  · rw [State.has_setPg, s.has_startFault p p, hhas]
  · rw [State.get_raise _ _ _ _ hp (eventReg_PG_FAULT p), State.setPg,
      State.get_put_ne _ _ _ _ _ _ _ _ (PG_FAULT_ne_STAT p), s.get_startFault p]
  · rw [State.rd_raise _ _ _ _ hp (eventReg_PG_FCNT p), State.setPg, State.rd_put_ne _ _ _ _ _ _ (PG_FCNT_ne_STAT p),
      s.rd_startFault p _ (PG_FCNT_ne_FAULT p)]

/-- The fault code that a page fault leaves: an older one stays, but for CONFIG_INVALID (R55). -/
def State.faultNoted (s : State) (p code : Nat) : State :=
  s.when (s.get (Reg.PG_FAULT p) 15 0 == 0 || s.get (Reg.PG_FAULT p) 15 0 == 3) fun s => s.put (Reg.PG_FAULT p) 15 0 code

theorem State.pageFault_eq (s : State) (p code : Nat) (hhas : s.has p = true) (hlife : pageLife p = true) :
    s.pageFault p code = (((s.faultNoted p code).count (Reg.PG_FCNT p) 31 0).setPg p 5).raise p 4 := by
  rw [State.pageFault, hhas, hlife, Bool.and_self, if_pos rfl]
  rfl

theorem State.get_faultNoted (s : State) (p code : Nat) (hcode : code < 65536) :
    (s.faultNoted p code).get (Reg.PG_FAULT p) 15 0 =
      if s.get (Reg.PG_FAULT p) 15 0 = 0 ∨ s.get (Reg.PG_FAULT p) 15 0 = 3 then code else s.get (Reg.PG_FAULT p) 15 0 := by
  rcases Decidable.em (s.get (Reg.PG_FAULT p) 15 0 = 0 ∨ s.get (Reg.PG_FAULT p) 15 0 = 3) with h | h
  · rw [if_pos h, State.faultNoted, State.when, if_pos (by simpa using h),
      State.get_put_same _ _ _ _ _ (by decide) (by decide)]
    exact Nat.mod_eq_of_lt hcode
  · rw [if_neg h, State.faultNoted, State.when, if_neg (by simpa using h)]

theorem State.rd_faultNoted (s : State) (p code a : Nat) (h : a ≠ Reg.PG_FAULT p) : (s.faultNoted p code).rd a = s.rd a := by
  unfold State.faultNoted State.when
  split
  · exact s.rd_put_ne _ _ _ _ _ h
  · rfl

theorem State.has_faultNoted (s : State) (p code q : Nat) : (s.faultNoted p code).has q = s.has q := by
  unfold State.faultNoted State.when
  split <;> rfl

/-- A page fault: FAULTED with its event, its code and its count (R55, R60). -/
theorem State.pageFault_spec (s : State) (p code : Nat) (hp : p < 256) (hcode : code < 65536) (hhas : s.has p = true)
    (hlife : pageLife p = true) :
    (s.pageFault p code).pg p = 5 ∧ (s.pageFault p code).bit (Reg.PG_EVRAW p) 4 = true ∧
      (s.pageFault p code).get (Reg.PG_FAULT p) 15 0 =
        (if s.get (Reg.PG_FAULT p) 15 0 = 0 ∨ s.get (Reg.PG_FAULT p) 15 0 = 3 then code
          else s.get (Reg.PG_FAULT p) 15 0) ∧
      ((s.pageFault p code).rd (Reg.PG_FCNT p)).toNat = min ((s.rd (Reg.PG_FCNT p)).toNat + 1) (2 ^ 32 - 1) := by
  rw [s.pageFault_eq p code hhas hlife]
  refine ⟨?_, State.bit_raise_same _ p 4 hp (by decide) ?_, ?_, ?_⟩
  · rw [State.pg_raise _ _ _ _ hp, State.pg_setPg]
  · rw [State.has_setPg, State.has_count, s.has_faultNoted p code p, hhas]
  · rw [State.get_raise _ _ _ _ hp (eventReg_PG_FAULT p), State.setPg,
      State.get_put_ne _ _ _ _ _ _ _ _ (PG_FAULT_ne_STAT p), State.get_count_ne _ _ _ _ _ _ _ _ (PG_FCNT_ne_FAULT p).symm,
      s.get_faultNoted p code hcode]
  · have hcount := State.get_count_same (s.faultNoted p code) (Reg.PG_FCNT p) 31 0 1 (by decide) (by decide)
    rw [State.get, Word.fld_all, State.get, Word.fld_all, s.rd_faultNoted p code _ (PG_FCNT_ne_FAULT p)] at hcount
    rw [State.rd_raise _ _ _ _ hp (eventReg_PG_FCNT p), State.setPg, State.rd_put_ne _ _ _ _ _ _ (PG_FCNT_ne_STAT p), hcount]

/-! ### The ends of STARTING and STOPPING -/

theorem State.pgEnd_core (s : State) (p st : Nat) (core die : State → State) (hhas : s.has p = true)
    (hlife : pageLife p = true) (hfield : fieldPage p = false) (hheld : s.power.held = false) (hst : s.pg p = st) :
    s.pgEnd p st core die = (core s).regWrFollow := by
  simp only [State.pgEnd, hhas, hlife, hfield, hheld, hst, Bool.not_true, Bool.or_self, Bool.false_eq_true, ↓reduceIte]

/-- The request to stop that a page had while STARTING is used up. -/
def State.unasked (s : State) (p : Nat) : State := { s with stopAsked := s.stopAsked.filter fun q => q != p }

/-- A start of a page whose check looks at registers alone. -/
theorem State.startDone_plain (s : State) (p : Nat) (env : Bool) (hstore : checksStore p = false) :
    s.startDone p env =
      if !(s.unasked p).startOk p then (s.unasked p).startFail p
      else if s.stopAsked.contains p then (s.unasked p).setPg p 4
      else (((s.unasked p).setPg p 3).raise p 2).pageStart p := by
  rw [State.startDone, hstore]
  rfl

/-- The check of a start does not look at the requests to stop. -/
theorem State.startOk_unasked (s : State) (p q : Nat) : (s.unasked p).startOk q = s.startOk q := rfl

theorem State.startDone_fails (s : State) (p : Nat) (env : Bool) (hstore : checksStore p = false) (hok : s.startOk p = false) :
    s.startDone p env = (s.unasked p).startFail p := by
  rw [s.startDone_plain p env hstore, State.startOk_unasked, hok, Bool.not_false, if_pos rfl]

theorem State.startDone_stops (s : State) (p : Nat) (env : Bool) (hstore : checksStore p = false) (hok : s.startOk p = true)
    (hask : p ∈ s.stopAsked) : s.startDone p env = (s.unasked p).setPg p 4 := by
  rw [s.startDone_plain p env hstore, State.startOk_unasked, hok, Bool.not_true, if_neg Bool.false_ne_true,
    if_pos (List.contains_iff_mem.mpr hask)]

/-- A stall of a page that is not stopped, no point armed: the page falls (R536). -/
theorem State.stalled_falls (s : State) (p sub : Nat) (hhas : s.has p = true) (hlife : pageLife p = true)
    (hfield : fieldPage p = false) (hheld : s.power.held = false) (hloop : p ≠ 0x030) (hdev : p ≠ 0)
    (harm : s.bit (Reg.PG_INJARM p) 0 = false) (hlow : 2 ≤ s.pg p) (hhigh : s.pg p ≤ 4) :
    s.stalled p sub = s.pageFall p 4 := by
  simp only [State.stalled, hhas, hlife, hfield, hheld, hloop, hdev, s.injStep_of_disarmed p _ _ harm, hlow, hhigh,
    Bool.not_true, Bool.or_self, Bool.and_self, Bool.false_eq_true, decide_true, ↓reduceIte]

/-- Settles O4: each end by the state that it leaves, failed starts and time-outs by what a page fault is. -/
theorem pageStartsAndStopsEnd : Obligations.PageStartsAndStopsEnd := by
  unfold Obligations.PageStartsAndStopsEnd
  intro s p sub env hp hsub hhas hlife hfield hheld
  have hwf : wfPage p = true := decide_eq_true hp
  refine ⟨fun hst => ?_, fun _ hstore hok => ?_, fun _ hstore hok hask => ?_, fun hst hwait => ?_, fun hst => ?_, fun hst => ?_,
    fun hloop hdev harm hlow hhigh => ?_⟩
  · exact answer_eq hwf (s.pgEnd_core p 2 _ _ hhas hlife hfield hheld hst)
  · rw [s.startDone_fails p env hstore hok]
    exact (s.unasked p).startFail_spec p hp hhas
  · rw [s.startDone_stops p env hstore hok hask, State.pg_setPg]
  · refine answer_eq hwf ((s.pgEnd_core p 4 _ _ hhas hlife hfield hheld hst).trans ?_)
    rw [State.stopDone, hwait, if_neg Bool.false_ne_true]
  · exact answers_eq (answer_eq hwf (s.pgEnd_core p 2 _ _ hhas hlife hfield hheld hst))
      ⟨_, rfl, (s.unasked p).pageFault_spec p 2 hp (by decide) hhas hlife⟩
  · exact answer_eq hwf (s.pgEnd_core p 4 _ _ hhas hlife hfield hheld hst)
  · exact answer_eq (by rw [hwf, decide_eq_true hsub, Bool.and_self])
      (s.stalled_falls p sub hhas hlife hfield hheld hloop hdev harm hlow hhigh)

/-! ### `PG_EVSET` and `PG_LOCK` (R50, R53, R54) -/

/-- Every part has page 0x000 (R9). -/
theorem has_devicePage (s : State) : s.has 0x000 = true := by
  unfold State.has
  cases s.part <;> decide

theorem State.evset_core (s : State) (p : Nat) (v : Word) (hhas : s.has p = true) (hheld : s.power.held = false)
    (hlink : p ≠ 0x0C0) (hfield : fieldPage p = false) : s.evset p v = s.raiseBits p (v &&& eventMask p) := by
  simp [State.evset, State.when, hhas, hheld, hfield, hlink]

theorem State.evset_absent (s : State) (p : Nat) (v : Word) (hhas : s.has p = false) : s.evset p v = s := by
  rw [State.evset, hhas, Bool.not_false, Bool.true_or, if_pos rfl]

theorem State.pgLock_core (s : State) (p : Nat) (hhas : s.has p = true) (hheld : s.power.held = false) :
    s.pgLock p = s.setBit (Reg.PG_LOCK p) 0 true := by
  rw [State.pgLock, hhas, hheld, Bool.not_false, Bool.and_self, if_pos rfl]

theorem execRegisterWrite_misaligned (s : State) (a : Nat) (v : Word) (hlt : a < 0x100000) (hodd : a % 4 ≠ 0) :
    execRegisterWrite a v s = .next (s.raise 0 8) := by
  refine answer_eq (decide_eq_true (Nat.lt_trans hlt (by decide))) ?_
  rw [if_pos hodd, State.misaligned, decide_eq_false (Nat.not_le.mpr hlt), Bool.false_and, State.when,
    if_neg Bool.false_ne_true]

theorem execRegisterWrite_noRegister (s : State) (a : Nat) (v : Word) (hlt : a < 0x500000) (haligned : a % 4 = 0)
    (hreg : s.isReg a = false) : execRegisterWrite a v s = .next s := by
  refine answer_eq (decide_eq_true hlt) ?_
  rw [if_neg (fun h => h haligned), State.regWrite, State.regWriteAs, hreg, Bool.not_false, Bool.true_or, if_pos rfl]

/-! ### Slack trackers (R39) -/

/-- The trackers that a write names restart. -/
def State.slackRestart (s : State) (v : Word) : State :=
  s.each ((List.range 4).filter fun i => v.getLsbD i) fun s i => s.wr (Reg.PWR_SLACK i) 0x0000FFFF

theorem State.slackClear_eq (s : State) (v : Word) :
    s.slackClear v = (s.slackRestart v).when (v.getLsbD 8) fun s =>
      s.put Reg.PWR_GOV_STAT 14 8 (s.get Reg.PWR_GOV_STAT 6 0) := rfl

/-- A register after the same word has been written to some of the registers of an array. -/
theorem State.rd_each_wr (l : List Nat) (f : Nat → Nat) (w : Word) (a : Nat) (s : State) :
    (s.each l fun s i => s.wr (f i) w).rd a = if a ∈ l.map f then w else s.rd a := by
  induction l generalizing s with
  | nil => rfl
  | cons i l ih =>
    refine (ih _).trans ?_
    rw [State.rd_wr]
    by_cases hi : a = f i
    · simp [hi]
    · simp [hi]

theorem State.rd_slackRestart (s : State) (v : Word) (i : Nat) (hi : i < 4) :
    (s.slackRestart v).rd (Reg.PWR_SLACK i) = if v.getLsbD i then 0x0000FFFF else s.rd (Reg.PWR_SLACK i) := by
  have hmem : Reg.PWR_SLACK i ∈ ((List.range 4).filter fun i => v.getLsbD i).map Reg.PWR_SLACK ↔ v.getLsbD i = true := by
    simp only [List.mem_map, List.mem_filter, List.mem_range]
    constructor
    · rintro ⟨j, ⟨_, hj⟩, he⟩
      have : j = i := by unfold Reg.PWR_SLACK at he; omega
      exact this ▸ hj
    · exact fun h => ⟨i, ⟨hi, h⟩, rfl⟩
  rw [State.slackRestart, State.rd_each_wr]
  simp only [hmem]

theorem State.keepsRegs_slackRestart (s : State) (v : Word) :
    s.keepsRegs (s.slackRestart v) [Reg.PWR_SLACK 0, Reg.PWR_SLACK 1, Reg.PWR_SLACK 2, Reg.PWR_SLACK 3] := by
  intro a ha
  refine s.rd_each_wr_ne _ _ _ a (fun i hi e => ha ?_)
  have hi4 : i = 0 ∨ i = 1 ∨ i = 2 ∨ i = 3 := by
    have := List.mem_range.mp (List.mem_filter.mp hi).1
    omega
  rcases hi4 with rfl | rfl | rfl | rfl <;> simp [e]

theorem PWR_SLACK_ne_GOV_STAT (i : Nat) (hi : i < 4) : Reg.PWR_SLACK i ≠ Reg.PWR_GOV_STAT := by
  have : Reg.PWR_GOV_STAT = 0x1048 := by decide
  unfold Reg.PWR_SLACK
  omega

/-- What `PWR.SLACK_CLR` does: the trackers, then the peak code, nothing else. -/
theorem State.slackClear_spec (s : State) (v : Word) :
    (∀ i, i < 4 → (s.slackClear v).rd (Reg.PWR_SLACK i) = if v.getLsbD i then 0x0000FFFF else s.rd (Reg.PWR_SLACK i)) ∧
      (v.getLsbD 8 = true → (s.slackClear v).get Reg.PWR_GOV_STAT 14 8 = s.get Reg.PWR_GOV_STAT 6 0) ∧
      (v.getLsbD 8 = false → (s.slackClear v).rd Reg.PWR_GOV_STAT = s.rd Reg.PWR_GOV_STAT) ∧
      s.keepsRegs (s.slackClear v)
        [Reg.PWR_SLACK 0, Reg.PWR_SLACK 1, Reg.PWR_SLACK 2, Reg.PWR_SLACK 3, Reg.PWR_GOV_STAT] := by
  have hkept := s.keepsRegs_slackRestart v
  have hstat : (s.slackRestart v).rd Reg.PWR_GOV_STAT = s.rd Reg.PWR_GOV_STAT := hkept _ (by decide)
  rw [s.slackClear_eq v, State.when]
  refine ⟨fun i hi => ?_, fun h8 => ?_, fun h8 => ?_, fun a ha => ?_⟩
  · rw [← s.rd_slackRestart v i hi]
    split
    · exact State.rd_put_ne _ _ _ _ _ _ (PWR_SLACK_ne_GOV_STAT i hi)
    · rfl
  · rw [if_pos h8, State.get_put_same _ _ _ _ _ (by decide) (by decide), State.get, hstat]
    exact Nat.mod_eq_of_lt (fld_lt _ 6 0)
  · rw [h8, if_neg Bool.false_ne_true, hstat]
  · simp only [List.mem_cons, List.not_mem_nil, or_false, not_or] at ha
    obtain ⟨h0, h1, h2, h3, hgov⟩ := ha
    have hslack : (s.slackRestart v).rd a = s.rd a := hkept a (by simp [h0, h1, h2, h3])
    split
    · rw [State.rd_put_ne _ _ _ _ _ _ hgov, hslack]
    · exact hslack

/-- Settles O5: header writes by what they raise or set, and the trackers one by one. -/
theorem headerAndSlackWrites : Obligations.HeaderAndSlackWrites := by
  unfold Obligations.HeaderAndSlackWrites
  refine ⟨fun s p a v hp hheld => ?_, fun s v => answers_next (s.slackClear_spec v)⟩
  have hwf : wfPage p = true := decide_eq_true hp
  refine ⟨fun hhas hlink hfield => ?_, fun hhas => ?_, fun hhas => ?_, ?_, execRegisterWrite_misaligned s a v,
    execRegisterWrite_noRegister s a v⟩
  · exact answers_eq (answer_eq hwf (s.evset_core p v hhas hheld hlink hfield))
      ⟨s.rd_raiseBits_raw p _ hp hhas, s.rd_raiseBits_mask p _ hp hhas⟩
  · exact answers_eq (answer_eq hwf (s.pgLock_core p hhas hheld))
      ⟨s.bit_setBit_same _ _ _ (by decide), (State.keepsRegs.refl s _).setBit _ _ _ List.mem_cons_self⟩
  · exact answers_eq (answer_eq hwf (s.evset_absent p v hhas)) rfl
  · exact answers_next (s.bit_raise_same 0 8 (by decide) (by decide) (has_devicePage s))

end Sys2Proof.Machine
end

section
/-!
PROOF. Calibration commands (R90 to R96, R110), up to the statement CalibrationCommands.
-/
namespace Sys2Proof.Machine

/-- Block registers below the SEAT window are no registers of events, but those of the event router and of the seat tables. -/
theorem eventReg_block (a : Nat) (hoff : 0x40 ≤ a % 0x1000) (hlt : a < 0x100000) (hrouter : a / 0x1000 ≠ 0x006)
    (hseats : a < 0x081000 ∨ 0x085000 ≤ a) : eventReg a = false := by
  have hlast : Reg.EVT_LAST / 0x1000 = 0x006 := by decide
  have hdrop : Reg.EVT_DROP / 0x1000 = 0x006 := by decide
  refine Bool.or_eq_false_iff.mpr ⟨decide_eq_false ?_, decide_eq_false ?_⟩
  · omega
  · omega

/-- Registers of a calibration page. -/
theorem eventReg_cal (d o : Nat) (hd : d < 2) (ho : 0x40 ≤ o) (ho' : o < 0x1000) :
    eventReg ((0x012 + d) * 0x1000 + o) = false :=
  eventReg_block _ (by omega) (by omega) (by omega) (by omega)

theorem eventReg_CAL_STAT (d : Nat) (hd : d < 2) : eventReg (Reg.CAL_STAT d) = false :=
  eventReg_cal d 0x048 hd (by decide) (by decide)

/-! ### A command that completes -/

theorem State.rd_modDie (s : State) (d : Nat) (f : Die → Die) (a : Nat) : (s.modDie d f).rd a = s.rd a := rfl

theorem State.die_modDie (s : State) (d : Nat) (f : Die → Die) : (s.modDie d f).die d = f (s.die d) := by
  rw [State.modDie, State.die, Sparse.get_insert_same]

/-- The state of a completing command before its event. -/
def State.calShown (s : State) (d status : Nat) : State :=
  ((s.modDie d fun x => { x with cal := .idle }).setBit (Reg.CAL_STAT d) 0 false).put (Reg.CAL_STAT d) 11 8 status

theorem State.calDone_eq (s : State) (d status : Nat) : s.calDone d status = (s.calShown d status).raise (0x012 + d) 8 := rfl

theorem State.rd_calShown (s : State) (d status a : Nat) (ha : a ≠ Reg.CAL_STAT d) : (s.calShown d status).rd a = s.rd a := by
  rw [State.calShown, State.rd_put_ne _ _ _ _ _ _ ha, State.rd_setBit_ne _ _ _ _ _ ha, State.rd_modDie]

section
variable (s : State) (d status : Nat) (hd : d < 2)
include hd

theorem State.calDone_status : (s.calDone d status).get (Reg.CAL_STAT d) 11 8 = status % 16 := by
  rw [s.calDone_eq, State.get_raise _ _ _ _ (by omega) (eventReg_CAL_STAT d hd)]
  exact State.get_put_same _ _ _ _ _ (by decide) (by decide)

theorem State.calDone_bit (i : Nat) (hi : i < 8 ∨ 11 < i) (h0 : i ≠ 0) :
    (s.calDone d status).bit (Reg.CAL_STAT d) i = s.bit (Reg.CAL_STAT d) i := by
  rw [s.calDone_eq, State.bit_raise _ _ _ _ (by omega) (eventReg_CAL_STAT d hd), State.calShown,
    State.bit_put_out _ _ _ _ _ _ (by decide) (by decide) hi, State.bit_setBit_other _ _ _ _ _ (by decide) h0]
  rfl

theorem State.calDone_idle :
    (s.calDone d status).bit (Reg.CAL_STAT d) 0 = false ∧ ((s.calDone d status).die d).cal = .idle := by
  constructor
  · rw [s.calDone_eq, State.bit_raise _ _ _ _ (by omega) (eventReg_CAL_STAT d hd), State.calShown,
      State.bit_put_out _ _ _ _ _ _ (by decide) (by decide) (by decide), State.bit_setBit_same _ _ _ _ (by decide)]
  · rw [s.calDone_eq, State.die, (raise_frame _ _ _).dies]
    exact congrArg Die.cal (s.die_modDie d fun x => { x with cal := .idle })

theorem State.calDone_event (hhas : s.has (0x012 + d) = true) :
    (s.calDone d status).bit (Reg.PG_EVRAW (0x012 + d)) 8 = true :=
  State.bit_raise_same _ _ _ (by omega) (by decide) hhas

/-- A completion leaves the other registers of its page. -/
theorem State.rd_calDone (o : Nat) (hlow : 0x40 ≤ o) (hhigh : o < 0x1000) (hstat : o ≠ 0x048) :
    (s.calDone d status).rd ((0x012 + d) * 0x1000 + o) = s.rd ((0x012 + d) * 0x1000 + o) := by
  rw [s.calDone_eq, State.rd_raise _ _ _ _ (by omega) (eventReg_cal d o hd hlow hhigh),
    s.rd_calShown d status _ (header_ne _ _ _ hstat)]

end

/-! ### The commands -/

section
variable (s : State) (d : Nat) (f : State → State)

theorem State.calCmd_busy (hhas : s.has (0x012 + d) = true) (hbusy : s.bit (Reg.CAL_STAT d) 0 = true) :
    s.calCmd d f = s.raise (0x012 + d) 9 := by
  rw [State.calCmd, hhas, hbusy, Bool.not_true, if_neg Bool.false_ne_true, if_pos rfl]

theorem State.calCmd_free (hhas : s.has (0x012 + d) = true) (hbusy : s.bit (Reg.CAL_STAT d) 0 = false) :
    s.calCmd d f = f s := by
  rw [State.calCmd, hhas, hbusy, Bool.not_true, if_neg Bool.false_ne_true, if_neg Bool.false_ne_true]

end

/-- Every command register of a busy die drops what is written (R92). -/
theorem exec_calCommands_busy (s : State) (d op : Nat) (hd : d < 2) (hop : 8 ≤ op) (hop' : op < 16)
    (hhas : s.has (0x012 + d) = true) (hbusy : s.bit (Reg.CAL_STAT d) 0 = true) :
    ∀ c ∈ [Instr.calNop d, .calConnect d, .calMeasure d, .calRelease d, .calRead d, .calCommit d, .calRestoreFactory d,
      .calReadFactory d, .calReservedOp d op], exec c s = .next (s.raise (0x012 + d) 9) := by
  have hwf : wfDie d = true := decide_eq_true hd
  have hres : (wfDie d && decide (8 ≤ op) && decide (op < 16)) = true := by simp [hwf, hop, hop']
  have hdrop : ∀ f, s.calCmd d f = s.raise (0x012 + d) 9 := fun f => s.calCmd_busy d f hhas hbusy
  simp only [List.forall_mem_cons, List.not_mem_nil, false_implies, implies_true, and_true]
  exact ⟨answer_eq hwf (hdrop _), answer_eq hwf (hdrop _), answer_eq hwf (hdrop _), answer_eq hwf (hdrop _),
    answer_eq hwf (hdrop _), answer_eq hwf (hdrop _), answer_eq hwf (hdrop _), answer_eq hwf (hdrop _),
    answer_eq hres (hdrop _)⟩

theorem State.connect_stopped (s : State) (d : Nat) (hrun : s.running (0x012 + d) = false) : s.connect d = s.calDone d 7 := by
  rw [State.connect, hrun, Bool.not_false, if_pos rfl]

theorem State.measure_stopped (s : State) (d : Nat) (hrun : s.running (0x012 + d) = false) : s.measure d = s.calDone d 7 := by
  rw [State.measure, hrun, Bool.not_false, if_pos rfl]

theorem State.calBusy_spec (s : State) (d : Nat) (c : CalOp) :
    (s.calBusy d c).bit (Reg.CAL_STAT d) 0 = true ∧ ((s.calBusy d c).die d).cal = c :=
  ⟨State.bit_setBit_same _ _ _ _ (by decide), congrArg Die.cal (s.die_modDie d fun x => { x with cal := c })⟩

theorem State.measure_starts (s : State) (d : Nat) (hrun : s.running (0x012 + d) = true)
    (hpath : s.bit (Reg.CAL_STAT d) 23 = true) :
    s.measure d = s.calBusy d (.measuring s.strobeIdx (2 ^ min 16 (s.get (Reg.CAL_ARG d) 20 16)) 0 0 0 false
      (s.get (Reg.MEAS_OVEN_STAT d) 2 0 != 2)) := by
  rw [State.measure, hrun, hpath, Bool.not_true, if_neg Bool.false_ne_true, if_neg Bool.false_ne_true]

/-- No path is connected after a release (R91). -/
theorem State.calRelease_path (s : State) (d : Nat) : (s.calRelease d).bit (Reg.CAL_STAT d) 23 = false := by
  unfold State.calRelease
  split
  next =>
    rw [State.bit_put_same _ _ _ _ _ _ (by decide) (by decide), if_pos (by decide)]
    exact Nat.zero_testBit _
  next h => exact Bool.eq_false_iff.mpr h

/-- The sequence number and the time that a read of a set shows. -/
theorem State.calDone_seqTime (s : State) (d seq time status : Nat) (hd : d < 2) :
    (((s.wrN (Reg.CAL_SEQ d) seq).wrN (Reg.CAL_TIME d) time).calDone d status).rd (Reg.CAL_SEQ d) = BitVec.ofNat 32 seq ∧
      (((s.wrN (Reg.CAL_SEQ d) seq).wrN (Reg.CAL_TIME d) time).calDone d status).rd (Reg.CAL_TIME d) =
        BitVec.ofNat 32 time := by
  constructor
  · refine (State.rd_calDone _ d status hd 0x078 (by decide) (by decide) (by decide)).trans ?_
    exact (State.rd_wrN_ne _ _ _ _ (header_ne _ 0x078 0x07c (by decide))).trans (State.rd_wrN_same _ _ _)
  · exact (State.rd_calDone _ d status hd 0x07c (by decide) (by decide) (by decide)).trans (State.rd_wrN_same _ _ _)

theorem State.calRead_present (s : State) (d : Nat) (hch : s.hasCh (s.calChan d) = true) :
    s.calRead d = (((s.setCalWindow d ((s.chMeas (s.calChan d)).coefNext.getD (s.chMeas (s.calChan d)).coef)).wrN (Reg.CAL_SEQ d)
      (s.chMeas (s.calChan d)).calSeq).wrN (Reg.CAL_TIME d) (s.chMeas (s.calChan d)).calTime).calDone d 0 := by
  rw [State.calRead, hch, Bool.not_true, if_neg Bool.false_ne_true]

theorem State.calReadFactory_present (s : State) (d : Nat) (hch : s.hasCh (s.calChan d) = true) :
    s.calReadFactory d =
      (((s.setCalWindow d (factorySet (s.calChan d))).wrN (Reg.CAL_SEQ d) 0).wrN (Reg.CAL_TIME d) 0).calDone d 0 := by
  rw [State.calReadFactory, hch, Bool.not_true, if_neg Bool.false_ne_true]

/-- Settles O9: commands of a busy die are dropped, the others complete or begin as their rows say. -/
theorem calibrationCommands : Obligations.CalibrationCommands := by
  unfold Obligations.CalibrationCommands
  intro s d op ok hd hop hop' hhas
  have hwf : wfDie d = true := decide_eq_true hd
  have hres : (wfDie d && decide (8 ≤ op) && decide (op < 16)) = true := by simp [hwf, hop, hop']
  refine ⟨exec_calCommands_busy s d op hd hop hop' hhas, fun hbusy => ?_, fun hsettling => ?_, answer_next hwf _,
    answer_next hwf _⟩
  · have hfree : ∀ f, s.calCmd d f = f s := fun f => s.calCmd_free d f hhas hbusy
    refine ⟨?_, ?_, fun hrun => ?_, fun hrun => ?_, fun hrun hpath => ?_, answer_eq hwf (hfree _), ?_, fun hch => ?_, fun hch => ?_,
      answer_eq hwf (hfree _), answer_eq hwf (hfree _)⟩
    · exact answers_eq (answer_eq hwf (hfree _)) ⟨s.calDone_status d 0 hd, s.calDone_event d 0 hd hhas⟩
    · exact answers_eq (answer_eq hres (hfree _)) (s.calDone_status d 4 hd)
    · exact answers_eq (answer_eq hwf ((hfree _).trans (s.connect_stopped d hrun))) (s.calDone_status d 7 hd)
    · exact answers_eq (answer_eq hwf ((hfree _).trans (s.measure_stopped d hrun))) (s.calDone_status d 7 hd)
    · exact answers_eq (answer_eq hwf ((hfree _).trans (s.measure_starts d hrun hpath))) (s.calBusy_spec d _)
    · exact answers_eq (answer_eq hwf (hfree _)) ⟨(s.calRelease d).calDone_status d 0 hd,
        ((s.calRelease d).calDone_bit d 0 hd 23 (by decide) (by decide)).trans (s.calRelease_path d)⟩
    · exact answers_eq (answer_eq hwf ((hfree _).trans (s.calRead_present d hch)))
        ⟨(State.calDone_seqTime _ d _ _ 0 hd).1, State.calDone_status _ d 0 hd⟩
    · obtain ⟨hseq, htime⟩ := State.calDone_seqTime (s.setCalWindow d (factorySet (s.calChan d))) d 0 0 0 hd
      exact answers_eq (answer_eq hwf ((hfree _).trans (s.calReadFactory_present d hch)))
        ⟨hseq, htime, State.calDone_status _ d 0 hd⟩
  · obtain ⟨hidle, hcal⟩ := s.calDone_idle d 0 hd
    exact answers_eq (answer_eq hwf (if_pos hsettling)) ⟨s.calDone_status d 0 hd, hidle, hcal⟩

end Sys2Proof.Machine
end

section
/-!
PROOF. What the operations of the fabric leave (R301 to R331): registers outside its pages, and all state but the fabric's own,
seats and what has been sent.
-/
namespace Sys2Proof.Machine

/-- Registers of the fabric's pages 0x060 to 0x068, and those of events. -/
def fabReg (a : Nat) : Bool := eventReg a || decide (0x060000 ≤ a ∧ a < 0x069000)

/-- Registers that a wake request may change: those of the fabric, and the power state. -/
def wakeReg (a : Nat) : Bool := fabReg a || decide (a = Reg.PWR_STATE)

/-- What operations of the fabric leave: as `EventFrame`, but for the fabric's state. -/
def FabFrame (R : Nat → Bool) (s t : State) : Prop := EventFrame R { s with fab := t.fab } t

section
variable {R : Nat → Bool} {s t u : State}

/-- Events beside a fabric held fixed. -/
theorem EventFrame.withFab (h : EventFrame R s t) (f : Fab) : EventFrame R { s with fab := f } { t with fab := f } :=
  { h with fab := rfl }

theorem FabFrame.of (h : EventFrame R s t) : FabFrame R s t := by
  rw [FabFrame, h.fab]
  exact h

theorem FabFrame.trans (h : FabFrame R s t) (g : FabFrame R t u) : FabFrame R s u :=
  EventFrame.trans (EventFrame.withFab h u.fab) g

theorem FabFrame.refl (s : State) : FabFrame R s s := FabFrame.of (EventFrame.refl s)

theorem FabFrame.setFab (s : State) (f : Fab) : FabFrame R s { s with fab := f } := EventFrame.refl _

theorem FabFrame.mono {Q : Nat → Bool} (h : FabFrame R s t) (g : ∀ a, R a = true → Q a = true) : FabFrame Q s t :=
  EventFrame.mono h g

theorem FabFrame.rd (h : FabFrame R s t) (a : Nat) (ha : R a = false) : t.rd a = s.rd a := EventFrame.rd h a ha

theorem FabFrame.get (h : FabFrame R s t) (a hi lo : Nat) (ha : R a = false) : t.get a hi lo = s.get a hi lo := by
  rw [State.get, h.rd a ha, State.get]

theorem FabFrame.bit (h : FabFrame R s t) (a i : Nat) (ha : R a = false) : t.bit a i = s.bit a i := by
  rw [State.bit, h.rd a ha, State.bit]

theorem FabFrame.wr (s : State) (b : Nat) (v : Word) (hb : R b = true) : FabFrame R s (s.wr b v) :=
  FabFrame.of (EventFrame.wr s b v hb)

theorem FabFrame.send (s : State) (o : Out) : FabFrame R s (s.send o) := FabFrame.of (EventFrame.send s o)

theorem FabFrame.when {f : State → State} (c : Bool) (h : FabFrame R s t) (g : FabFrame R t (f t)) :
    FabFrame R s (t.when c f) := by
  unfold State.when
  split
  · exact h.trans g
  · exact h

theorem FabFrame.each {α : Type} (l : List α) (f : State → α → State) (hf : ∀ s x, FabFrame R s (f s x)) (s : State) :
    FabFrame R s (s.each l f) := by
  induction l generalizing s with
  | nil => exact FabFrame.refl s
  | cons x l ih => exact (hf s x).trans (ih (f s x))

theorem FabFrame.modBl (s : State) (n : Nat) (f : BLink → BLink) : FabFrame R s (s.modBl n f) := FabFrame.setFab s _

theorem FabFrame.blEmit (s : State) (n : Nat) (p : Packet) : FabFrame R s (s.blEmit n p) :=
  (FabFrame.modBl s n _).trans (FabFrame.send _ _)

theorem FabFrame.blDrain (n k : Nat) (s : State) : FabFrame R s (s.blDrain n k) := by
  induction k generalizing s with
  | zero => exact FabFrame.refl s
  | succ k ih =>
    unfold State.blDrain
    split
    · exact FabFrame.refl s
    · split
      · exact FabFrame.refl s
      · exact ((FabFrame.modBl s n _).trans (FabFrame.blEmit _ n _)).trans (ih _)

theorem FabFrame.blSend (s : State) (n : Nat) (p : Packet) : FabFrame R s (s.blSend n p) :=
  (FabFrame.modBl s n _).trans (FabFrame.blDrain n _ _)

end

theorem fabReg_of_event (a : Nat) (h : eventReg a = true) : fabReg a = true := by rw [fabReg, h, Bool.true_or]

theorem FabFrame.raise (s : State) (p b : Nat) (hp : p < 256) : FabFrame fabReg s (s.raise p b) :=
  FabFrame.of ((EventFrame.raise s p b hp).mono fabReg_of_event)

theorem FabFrame.seatEvent (s : State) (i code : Nat) (b : List Byte) (h : i < 64) : FabFrame fabReg s (s.seatEvent i code b) :=
  FabFrame.of ((EventFrame.seatEvent s i code b h).mono fun a ha => fabReg_of_event a (by rw [eventReg, ha, Bool.true_or]))

theorem fabReg_page (a : Nat) (h : 0x060000 ≤ a ∧ a < 0x069000) : fabReg a = true := by
  rw [fabReg, decide_eq_true h, Bool.or_true]

theorem FabFrame.useAlt (s : State) (dst : Nat) : FabFrame fabReg s (s.useAlt dst) :=
  FabFrame.when _ ((FabFrame.setFab s _).trans (FabFrame.wr _ _ _ (fabReg_page Reg.RT_STAT (by decide)))) (FabFrame.raise _ _ _ (by decide))

theorem FabFrame.forward {s t : State} {p : Packet} {dir : Nat} (h : s.forward p dir = some t) : FabFrame fabReg s t := by
  unfold State.forward at h
  split at h
  · cases h
  · cases h
    exact (FabFrame.when _ (FabFrame.refl s) (FabFrame.useAlt s _)).trans (FabFrame.blSend _ _ _)

theorem FabFrame.logRerr (s : State) (tag init code dev addr : Nat) : FabFrame fabReg s (s.logRerr tag init code dev addr) := by
  have hcnt : fabReg Reg.RT_RERR_CNT = true := fabReg_page _ (by decide)
  have hlog : FabFrame fabReg s
      (let s := { s with fab := { s.fab with failedInit := if s.fab.failedInit.contains init then s.fab.failedInit else init :: s.fab.failedInit } }
       if s.fab.rerrLog.length < 64 then
        ({ s with fab := { s.fab with rerrLog := s.fab.rerrLog ++ [(tag, init, code, dev, addr)] } } : State).count Reg.RT_RERR_CNT 15 0
       else s.count Reg.RT_RERR_CNT 31 16) := by
    dsimp only
    split
    · exact (FabFrame.setFab s _).trans (FabFrame.wr _ _ _ hcnt)
    · exact (FabFrame.setFab s _).trans (FabFrame.wr _ _ _ hcnt)
  have hraise := hlog.trans (FabFrame.raise _ 0x068 10 (by decide))
  unfold State.logRerr
  dsimp only at hraise ⊢
  by_cases hinit : init < 64
  · rw [if_pos hinit]
    exact hraise.trans (FabFrame.seatEvent _ _ _ _ hinit)
  · rw [if_neg hinit]
    exact hraise

theorem FabFrame.fabricSend (s : State) (dst cls init tag : Nat) (load : Load) :
    FabFrame fabReg s (s.fabricSend dst cls init tag load) := by
  unfold State.fabricSend
  split
  · exact FabFrame.refl s
  · dsimp only
    split
    · split
      · exact FabFrame.logRerr s _ _ _ _ _
      · exact FabFrame.refl s
    next hforward =>
      split
      · exact ((FabFrame.forward hforward).trans (FabFrame.setFab _ _)).trans (FabFrame.setFab _ _)
      · exact (FabFrame.forward hforward).trans (FabFrame.setFab _ _)

theorem FabFrame.sendCrew (s : State) (dev : Nat) (m : CrewMsg) : FabFrame fabReg s (s.sendCrew dev m) :=
  FabFrame.fabricSend s _ _ _ _ _

theorem FabFrame.setSlp (s : State) (v : Nat) : FabFrame fabReg s (s.setSlp v) := FabFrame.wr s _ _ (fabReg_page Reg.RT_SLP_STAT (by decide))

theorem FabFrame.setLst (s : State) (n v : Nat) (hn : n < 8) : FabFrame fabReg s (s.setLst n v) :=
  FabFrame.wr s _ _ (fabReg_page _ (by unfold Reg.BL_STAT; omega))

theorem FabFrame.sleepLeave (s : State) : FabFrame fabReg s s.sleepLeave := by
  unfold State.sleepLeave
  split
  · exact (FabFrame.setSlp s _).trans (FabFrame.raise _ _ _ (by decide))
  · exact FabFrame.refl s

theorem FabFrame.sleepAbort (s : State) : FabFrame fabReg s s.sleepAbort := by
  unfold State.sleepAbort
  dsimp only
  split
  · exact (FabFrame.each _ _ (fun s d => FabFrame.fabricSend s _ _ _ _ _) s).trans (FabFrame.sleepLeave _)
  · exact (FabFrame.fabricSend s _ _ _ _ _).trans (FabFrame.sleepLeave _)

theorem FabFrame.startWake (s : State) (dev : Nat) (except : Option Nat) : FabFrame fabReg s (s.startWake dev except) := by
  have hlinks : ∀ (l : List Nat), (∀ n ∈ l, n < 8) → ∀ s : State, FabFrame fabReg s (s.each l fun s n =>
      ((if except = some n then s else s.send (.beacon n dev)).modBl n fun b => { b with good := 0 }).setLst n 1) := by
    intro l
    induction l with
    | nil => exact fun _ s => FabFrame.refl s
    | cons n l ih =>
      intro hl s
      have hone : FabFrame fabReg s (if except = some n then s else s.send (.beacon n dev)) := by
        split
        · exact FabFrame.refl s
        · exact FabFrame.send s _
      exact ((hone.trans (FabFrame.modBl _ n _)).trans (FabFrame.setLst _ n 1 (hl n List.mem_cons_self))).trans
        (ih (fun m hm => hl m (List.mem_cons_of_mem n hm)) _)
  have hbeacons := hlinks ((List.range 8).filter fun n => s.lst n == 6)
    (fun n hn => List.mem_range.mp (List.mem_filter.mp hn).1) s
  unfold State.startWake
  dsimp only
  split
  · exact ((hbeacons.trans (FabFrame.setFab _ _)).trans (FabFrame.setSlp _ _)).trans (FabFrame.raise _ _ _ (by decide))
  · exact (hbeacons.trans (FabFrame.setFab _ _)).trans (FabFrame.setSlp _ _)

theorem wakeReg_of_fab (a : Nat) (h : fabReg a = true) : wakeReg a = true := by rw [wakeReg, h, Bool.true_or]

theorem FabFrame.wakeLatch (s : State) (src : Nat) : FabFrame wakeReg s (s.wakeLatch src) :=
  FabFrame.when _ (FabFrame.wr s _ _ (wakeReg_of_fab _ (fabReg_page Reg.RT_WAKESRC (by decide))))
    (FabFrame.wr _ _ _ (by rw [wakeReg, decide_eq_true rfl, Bool.or_true]))

/-- What a wake request does once its source is latched, by the state of the sleep agreement (R326, R327). -/
def State.wakeAsk (s : State) : State :=
  match s.slp with
  | 1 => s.sleepAbort
  | 2 => if s.now < s.sleepC then s.sleepAbort else { s with fab := { s.fab with wakeHeld := true } }
  | 4 => s.startWake s.devId none
  | _ => s

theorem State.wakeRequest_eq (s : State) (src : Nat) : s.wakeRequest src = (s.wakeLatch src).wakeAsk := rfl

theorem FabFrame.wakeAsk (s : State) : FabFrame fabReg s s.wakeAsk := by
  unfold State.wakeAsk
  split
  · exact FabFrame.sleepAbort s
  · split
    · exact FabFrame.sleepAbort s
    · exact FabFrame.setFab s _
  · exact FabFrame.startWake s _ _
  · exact FabFrame.refl s

theorem FabFrame.wakeRequest (s : State) (src : Nat) : FabFrame wakeReg s (s.wakeRequest src) := by
  rw [s.wakeRequest_eq src]
  exact (FabFrame.wakeLatch s src).trans ((FabFrame.wakeAsk _).mono wakeReg_of_fab)

theorem FabFrame.wakeSelf (s : State) : FabFrame wakeReg s s.wakeSelf :=
  FabFrame.when _ (FabFrame.refl s) (FabFrame.wakeRequest s 1)

/-- A register outside the fabric's pages that no event changes. -/
theorem wakeReg_outside (a : Nat) (hev : eventReg a = false) (hfab : a < 0x060000 ∨ 0x069000 ≤ a) (hpwr : a ≠ Reg.PWR_STATE) :
    wakeReg a = false := by
  rw [wakeReg, fabReg, hev, decide_eq_false (by omega), decide_eq_false hpwr]
  rfl

end Sys2Proof.Machine
end

section
/-!
PROOF. Channel commands (R138 to R142, R146), up to the statements ChannelCommands and ChannelOperationsTakeEffect.
-/
namespace Sys2Proof.Machine

/-! ### What a command leaves in `CH_STAT` (R156) -/

theorem State.noteCmd_status (s : State) (k op st : Nat) :
    (s.noteCmd k op st).get (Reg.CH_STAT k) 22 20 = st % 8 ∧ (s.noteCmd k op st).get (Reg.CH_STAT k) 19 16 = op % 16 := by
  refine ⟨State.get_put_same _ _ _ _ _ (by decide) (by decide), ?_⟩
  rw [State.noteCmd, State.get_put_below _ _ _ _ _ _ _ (by decide) (by decide) (by decide)]
  exact State.get_put_same _ _ _ _ _ (by decide) (by decide)

theorem State.noteCmd_chState (s : State) (k op st : Nat) : (s.noteCmd k op st).chState k = s.chState k := by
  rw [State.chState, State.noteCmd, State.get_put_below _ _ _ _ _ _ _ (by decide) (by decide) (by decide),
    State.get_put_below _ _ _ _ _ _ _ (by decide) (by decide) (by decide), State.chState]

theorem State.keepsRegs_noteCmd (s : State) (k op st : Nat) : s.keepsRegs (s.noteCmd k op st) [Reg.CH_STAT k] :=
  ((State.keepsRegs.refl s _).put _ _ _ _ List.mem_cons_self).put _ _ _ _ List.mem_cons_self

/-! ### The service of one command -/

theorem State.chanRow_absent (s : State) (k op seat : Nat) (hch : s.hasCh k = false) : s.chanRow k op seat = s := by
  rw [State.chanRow, State.chanOp, hch, Bool.not_false, if_pos rfl]
  rfl

/-- A command that changes no step: refused, of an op that never does, or of a channel that takes no place afterwards. -/
theorem State.chanRow_plain (s t : State) (k op seat st : Nat) (hop : s.chanOp k op seat s.cmdBoundary = (t, st))
    (hquiet : st ≠ 0 ∨ op ∉ [2, 3, 4, 5, 8] ∨ t.chRuns k = false) : s.chanRow k op seat = t := by
  rw [State.chanRow, hop]
  refine if_neg fun h => ?_
  simp only [Bool.and_eq_true, decide_eq_true_eq, Bool.or_eq_true, beq_iff_eq] at h
  obtain ⟨⟨hst, hstep⟩, hruns⟩ := h
  rcases hquiet with hne | hne | hne
  · exact hne hst
  · exact hne (by simp only [List.mem_cons, List.not_mem_nil, or_false]; omega)
  · rw [hne] at hruns
    exact Bool.noConfusion hruns

theorem State.chanOp_notOwner (s : State) (k op seat b : Nat) (hch : s.hasCh k = true) (hmay : s.mayCommand k seat = false) :
    s.chanOp k op seat b = (s.noteCmd k op 3, 3) := by
  rw [State.chanOp, hch, hmay]
  rfl

/-- A seat that may command the channel has its op done; HOLD is the coxswain's. -/
theorem State.chanOp_allowed (s : State) (k op seat b : Nat) (hch : s.hasCh k = true) (hmay : s.mayCommand k seat = true)
    (hop : op ≠ 8) : s.chanOp k op seat b = ((s.opBody k op b).1.noteCmd k op (s.opBody k op b).2, (s.opBody k op b).2) := by
  rw [State.chanOp, hch, hmay, beq_false_of_ne hop]
  rfl

/-! ### The ops (R138, R140) -/

theorem State.opBody_reserved (s : State) (k op b : Nat) (hop : 9 ≤ op) : s.opBody k op b = (s, 1) := by
  match op, hop with
  | _ + 9, _ => rfl

theorem State.opArm_away (s : State) (k b : Nat) (hst : s.chState k ≠ 0) : s.opArm k b = (s, 1) := if_pos hst

theorem State.opArm_refused (s : State) (k b : Nat) (hst : s.chState k = 0) (hcheck : s.armCheck k ≠ 0) :
    s.opArm k b = (s.put (Reg.CH_FCAUSE k) 15 12 (s.armCheck k), 2) := by
  rw [State.opArm, if_neg fun h => h hst, if_pos hcheck]

theorem State.opArm_accepted (s : State) (k b : Nat) (hst : s.chState k = 0) (hcheck : s.armCheck k = 0) :
    s.opArm k b = (s.armed k b, 0) := by
  rw [State.opArm, if_neg fun h => h hst, if_neg fun h => h hcheck]

theorem State.opStart_accepted (s : State) (k b : Nat) (hguard : s.opGuard k (s.chState k == 1) = none) :
    s.opStart k b = ((s.modProg k fun p => { p with ctr := [0, 0, 0, 0] }).enterStep k 0 b false, 0) := by
  rw [State.opStart, hguard]

theorem State.opPause_accepted (s : State) (k b : Nat)
    (hguard : s.opGuard k (s.chState k == 2 && !(s.ctl k).ending) = none) : s.opPause k b = (s.freeze k b 3, 0) := by
  rw [State.opPause, hguard]

theorem State.opStop_armed (s : State) (k b : Nat) (hst : s.chState k = 1) (hguard : s.opGuard k (s.chLive k) = none) :
    s.opStop k b = (s.enterIdle k, 0) := by
  rw [State.opStop, hguard]
  exact if_pos hst

theorem State.opSafe_safe (s : State) (k b : Nat) (hst : s.chState k = 5) : s.opSafe k b = (s, 0) := by
  rw [State.opSafe, hst]
  rfl

theorem State.opSafe_faulted (s : State) (k b : Nat) (hst : s.chState k = 6) : s.opSafe k b = (s, 1) := by
  rw [State.opSafe, hst]
  rfl

theorem State.opSafe_trips (s : State) (k b : Nat) (hsafe : s.chState k ≠ 5) (hfault : s.chState k ≠ 6) :
    s.opSafe k b = (s.tripAt k 37 b, 0) := by
  unfold State.opSafe
  split
  next h => exact absurd h hfault
  next h => exact absurd h hsafe
  next => rfl

/-- Settles O12: each op past its guard. -/
theorem channelOperationsTakeEffect : Obligations.ChannelOperationsTakeEffect := by
  unfold Obligations.ChannelOperationsTakeEffect
  exact fun s k b => ⟨s.opStart_accepted k b, s.opPause_accepted k b, s.opSafe_trips k b,
    fun op => s.opBody_reserved k op b⟩

/-! ### The entry to IDLE -/

theorem CH_STAT_bounds (k : Nat) (hk : k < 256) : 0x20000 ≤ Reg.CH_STAT k ∧ Reg.CH_STAT k < 0x30000 ∧
    0x104 ≤ Reg.CH_STAT k % 0x1000 := by
  unfold Reg.CH_STAT
  omega

theorem eventReg_CH_STAT (k : Nat) (hk : k < 256) : eventReg (Reg.CH_STAT k) = false := by
  have := CH_STAT_bounds k hk
  exact eventReg_block _ (by omega) (by omega) (by omega) (by omega)

theorem wakeReg_CH_STAT (k : Nat) (hk : k < 256) : wakeReg (Reg.CH_STAT k) = false := by
  have hbounds := CH_STAT_bounds k hk
  have hpwr : Reg.PWR_STATE < 0x2000 := by decide
  exact wakeReg_outside _ (eventReg_CH_STAT k hk) (by omega) (by omega)

theorem CH_STAT_ne_group (k : Nat) : Reg.CH_STAT k ≠ Reg.CHG_STCHG (k / 16) ∧ Reg.CH_STAT k ≠ Reg.CHG_SUM (k / 16) := by
  unfold Reg.CH_STAT Reg.CHG_STCHG Reg.CHG_SUM
  omega

theorem CH_FCAUSE_ne_STAT (k : Nat) : Reg.CH_STAT k ≠ Reg.CH_FCAUSE k := by
  unfold Reg.CH_STAT Reg.CH_FCAUSE
  omega

/-- The events of a change of state, past the summary of the channel's page. -/
def State.stateNoted (s : State) (k st : Nat) : State :=
  let s := s.when (st == 0 || st == 5 || st == 6) fun s => s.withdraw k
  let s := s.raise (chPage k) 8
  let s := s.when (st == 6) fun s => s.raise (chPage k) 9
  let s := s.when (st == 5) fun s => s.raise (chPage k) 10
  s.wakeSelf.channelEvent k

theorem State.setChState_new (s : State) (k st : Nat) (hne : s.chState k ≠ st) :
    s.setChState k st = ((((s.put (Reg.CH_STAT k) 2 0 st).setBit (Reg.CHG_STCHG (k / 16)) (k % 16) true).setBit
      (Reg.CHG_SUM (k / 16)) (k % 16) (st == 6)).setBit (Reg.CHG_SUM (k / 16)) (16 + k % 16) (st == 5)).stateNoted k st := by
  rw [State.setChState, if_neg hne]
  rfl

theorem routeReg_of_event (a : Nat) (h : eventReg a = false) : routeReg a = false := (Bool.or_eq_false_iff.mp h).1

theorem State.chOwner_lt (s : State) (k : Nat) : s.chOwner k < 64 := fld_lt _ 29 24

theorem State.rd_channelEvent (s : State) (k a : Nat) (ha : eventReg a = false) : (s.channelEvent k).rd a = s.rd a := by
  unfold State.channelEvent
  dsimp only
  split
  · exact (EventFrame.postEvent s _ _ _ _ (s.chOwner_lt k)).rd a (routeReg_of_event a ha)
  · rfl

theorem State.rd_when_raise (s : State) (c : Bool) (p b a : Nat) (hp : p < 256) (ha : eventReg a = false) :
    (s.when c fun s => s.raise p b).rd a = s.rd a := by
  unfold State.when
  split
  · exact s.rd_raise p b a hp ha
  · rfl

theorem State.rd_when_withdraw (s : State) (c : Bool) (k a : Nat) : (s.when c fun s => s.withdraw k).rd a = s.rd a := by
  unfold State.when
  split <;> rfl

theorem State.rd_stateNoted (s : State) (k st a : Nat) (hk : k < 256) (ha : eventReg a = false) (hwake : wakeReg a = false) :
    (s.stateNoted k st).rd a = s.rd a := by
  have hpage : chPage k < 256 := by unfold chPage; omega
  rw [State.stateNoted, State.rd_channelEvent _ k a ha, (FabFrame.wakeSelf _).rd a hwake, State.rd_when_raise _ _ _ _ a hpage ha,
    State.rd_when_raise _ _ _ _ a hpage ha, State.rd_raise _ _ _ a hpage ha, State.rd_when_withdraw]

theorem State.chState_setChState (s : State) (k st : Nat) (hk : k < 256) (hst : st < 8) : (s.setChState k st).chState k = st := by
  rcases Decidable.em (s.chState k = st) with h | h
  · rw [State.setChState, if_pos h, h]
  · obtain ⟨hchg, hsum⟩ := CH_STAT_ne_group k
    rw [s.setChState_new k st h, State.chState, State.get, State.rd_stateNoted _ k st _ hk (eventReg_CH_STAT k hk)
      (wakeReg_CH_STAT k hk), State.rd_setBit_ne _ _ _ _ _ hsum, State.rd_setBit_ne _ _ _ _ _ hsum,
      State.rd_setBit_ne _ _ _ _ _ hchg, State.rd_put_same, Word.fld_setFld_same _ _ _ _ (by decide) (by decide)]
    exact Nat.mod_eq_of_lt hst

theorem State.rd_releaseSlot (s : State) (k a : Nat) : (s.releaseSlot k).rd a = s.rd a := by
  unfold State.releaseSlot
  split <;> rfl

theorem State.rd_modProg (s : State) (k : Nat) (f : Prog → Prog) (a : Nat) : (s.modProg k f).rd a = s.rd a := rfl
theorem State.rd_modCtl (s : State) (k : Nat) (f : Ctl → Ctl) (a : Nat) : (s.modCtl k f).rd a = s.rd a := rfl
theorem State.rd_lifeFlushCh (s : State) (k a : Nat) : (s.lifeFlushCh k).rd a = s.rd a := rfl

/-- A channel that enters IDLE is in IDLE (R138). -/
theorem State.chState_enterIdle (s : State) (k : Nat) (hk : k < 256) : (s.enterIdle k).chState k = 0 := by
  have hset := s.chState_setChState k 0 hk (by decide)
  rw [State.chState, State.get] at hset
  rw [State.enterIdle, State.chState, State.get, State.rd_modCtl, State.rd_put_same,
    Word.fld_setFld_below _ _ _ _ _ _ (by decide) (by decide) (by decide), State.rd_modProg, State.rd_releaseSlot,
    State.rd_lifeFlushCh, hset]

theorem State.chRuns_of_idle {s : State} {k : Nat} (h : s.chState k = 0) : s.chRuns k = false := by
  rw [State.chRuns, h]
  rfl

/-! ### The statement -/

/-- What the rows answer for a channel that the part lacks, and for a seat that may not command it. -/
theorem State.chanRow_refuses (s : State) (k op seat : Nat) (hop : op < 16) :
    (s.hasCh k = false → s.chanRow k op seat = s) ∧
      (s.hasCh k = true → s.mayCommand k seat = false → s.chanRow k op seat = s.noteCmd k op 3 ∧
        (s.noteCmd k op 3).get (Reg.CH_STAT k) 19 16 = op) := by
  refine ⟨s.chanRow_absent k op seat, fun hch hmay => ⟨?_, ?_⟩⟩
  · exact s.chanRow_plain _ k op seat 3 (s.chanOp_notOwner k op seat _ hch hmay) (Or.inl (by decide))
  · rw [(s.noteCmd_status k op 3).2]
    exact Nat.mod_eq_of_lt hop

/-- Every channel row is the service of one op. -/
theorem exec_channelRows (s : State) (k seat op : Nat) (hk : k < 256) (hseat : seat < 64) (hop : 9 ≤ op) (hop' : op < 16) :
    ∀ x ∈ [(Instr.chNop k seat, 0), (.chArm k seat, 1), (.chStart k seat, 2), (.chPause k seat, 3), (.chResume k seat, 4),
      (.chStop k seat, 5), (.chSafe k seat, 6), (.chClear k seat, 7), (.chHold k seat, 8), (.chReservedOp k seat op, op)],
      exec x.1 s = .next (s.chanRow k x.2 seat) ∧ x.2 < 16 := by
  have hwf : wfChan k seat = true := by simp [wfChan, hk, hseat]
  have hres : (wfChan k seat && decide (9 ≤ op) && decide (op < 16)) = true := by simp [hwf, hop, hop']
  simp only [List.forall_mem_cons, List.not_mem_nil, false_implies, implies_true, and_true]
  exact ⟨⟨answer_next hwf _, by decide⟩, ⟨answer_next hwf _, by decide⟩, ⟨answer_next hwf _, by decide⟩,
    ⟨answer_next hwf _, by decide⟩, ⟨answer_next hwf _, by decide⟩, ⟨answer_next hwf _, by decide⟩,
    ⟨answer_next hwf _, by decide⟩, ⟨answer_next hwf _, by decide⟩, ⟨answer_next hwf _, by decide⟩,
    answer_next hres _, hop'⟩

/-- Settles O11: the rows are one rule, and each op by the state it meets. -/
theorem channelCommands : Obligations.ChannelCommands := by
  unfold Obligations.ChannelCommands
  intro s k seat op hk hseat hop hop'
  have hrows := exec_channelRows s k seat op hk hseat hop hop'
  refine ⟨fun x hx => ?_, fun hch hmay => ?_⟩
  · obtain ⟨hexec, hlt⟩ := hrows x hx
    obtain ⟨habsent, hrefused⟩ := s.chanRow_refuses k x.2 seat hlt
    refine ⟨hexec, fun hch => by rw [hexec, habsent hch], fun hch hmay => ?_⟩
    obtain ⟨hrow, hcmd⟩ := hrefused hch hmay
    exact answers_eq (by rw [hexec, hrow]) ⟨hcmd, (s.noteCmd_status k x.2 3).1, s.keepsRegs_noteCmd k x.2 3⟩
  · simp only [List.forall_mem_cons, List.not_mem_nil, false_implies, implies_true, and_true] at hrows
    obtain ⟨⟨hnop, -⟩, ⟨harm, -⟩, -, -, -, ⟨hstop, -⟩, ⟨hsafe, -⟩, -, -, ⟨hres, -⟩⟩ := hrows
    have hdone : ∀ (op st : Nat) (t : State), s.opBody k op s.cmdBoundary = (t, st) → op ≠ 8 →
        (st ≠ 0 ∨ op ∉ [2, 3, 4, 5, 8] ∨ (t.noteCmd k op st).chRuns k = false) →
        s.chanRow k op seat = t.noteCmd k op st := fun op st t hbody h8 hquiet =>
      s.chanRow_plain _ k op seat st (by rw [s.chanOp_allowed k op seat _ hch hmay h8, hbody]) hquiet
    refine ⟨?_, ?_, fun hst hcheck => ?_, fun hst hcheck => ?_, fun hst => ?_, fun hst hguard => ?_, fun hst => ?_, fun hst => ?_⟩
    · exact answers_eq (by rw [hnop, hdone 0 0 s rfl (by decide) (Or.inr (Or.inl (by decide)))])
        ⟨(s.noteCmd_status k 0 0).1, s.noteCmd_chState k 0 0, s.keepsRegs_noteCmd k 0 0⟩
    · exact answers_eq (by rw [hres, hdone op 1 s (s.opBody_reserved k op _ hop) (by omega) (Or.inl (by decide))])
        ⟨(s.noteCmd_status k op 1).1, s.noteCmd_chState k op 1⟩
    · rw [harm, hdone 1 0 _ (s.opArm_accepted k _ hst hcheck) (by decide) (Or.inr (Or.inl (by decide)))]
    · refine answers_eq (by rw [harm, hdone 1 2 _ (s.opArm_refused k _ hst hcheck) (by decide) (Or.inl (by decide))])
        ⟨?_, (State.noteCmd_status _ k 1 2).1, ?_⟩
      · rw [State.noteCmd, State.get_put_ne _ _ _ _ _ _ _ _ (CH_FCAUSE_ne_STAT k).symm,
          State.get_put_ne _ _ _ _ _ _ _ _ (CH_FCAUSE_ne_STAT k).symm]
        exact State.get_put_same _ _ _ _ _ (by decide) (by decide)
      · rw [State.noteCmd_chState, State.chState, State.get_put_ne _ _ _ _ _ _ _ _ (CH_FCAUSE_ne_STAT k)]
        exact hst
    · exact answers_eq (by rw [harm, hdone 1 1 s (s.opArm_away k _ hst) (by decide) (Or.inl (by decide))])
        ⟨(s.noteCmd_status k 1 1).1, s.noteCmd_chState k 1 1⟩
    · have hidle : ((s.enterIdle k).noteCmd k 5 0).chState k = 0 :=
        (State.noteCmd_chState _ k 5 0).trans (s.chState_enterIdle k hk)
      rw [hstop, hdone 5 0 _ (s.opStop_armed k _ hst hguard) (by decide) (Or.inr (Or.inr (State.chRuns_of_idle hidle)))]
    · exact answers_eq (by rw [hsafe, hdone 6 0 s (s.opSafe_safe k _ hst) (by decide) (Or.inr (Or.inl (by decide)))])
        ⟨(s.noteCmd_status k 6 0).1, (s.noteCmd_chState k 6 0).trans hst⟩
    · exact answers_eq (by rw [hsafe, hdone 6 1 s (s.opSafe_faulted k _ hst) (by decide) (Or.inl (by decide))])
        ⟨(s.noteCmd_status k 6 1).1, (s.noteCmd_chState k 6 1).trans hst⟩

end Sys2Proof.Machine
end

section
/-!
PROOF. Program slots and their operations (R157 to R167), up to the statements ProgramOperations and ProgramSlotsRefuse.
-/
namespace Sys2Proof.Machine

theorem eventReg_STEP_PSTAT : eventReg Reg.STEP_PSTAT = false :=
  eventReg_block _ (by decide) (by decide) (by decide) (by decide)

/-! ### An operation that is written -/

section
variable (s : State) (op slot : Nat) (bad : Bool) (hhas : s.has 0x031 = true)
include hhas

theorem State.progWritten_busy (hbusy : s.bit Reg.STEP_PSTAT 0 = true) : s.progWritten op slot bad = s.raise 0x031 9 := by
  rw [State.progWritten, hhas, hbusy, Bool.not_true, if_neg Bool.false_ne_true, if_pos rfl]

/-- An accepted operation keeps its arguments and changes no slot. -/
theorem State.progWritten_free (hfree : s.bit Reg.STEP_PSTAT 0 = false) :
    (s.progWritten op slot bad).bit Reg.STEP_PSTAT 0 = true ∧ s.keepsRegs (s.progWritten op slot bad) [Reg.STEP_PSTAT] ∧
      (s.progWritten op slot bad).slots = s.slots ∧ (s.progWritten op slot bad).store = s.store ∧
      ∃ o, (s.progWritten op slot bad).progOp = some o ∧ o.op = op ∧ o.slot = slot ∧ o.seat = 0 ∧
        o.base = s.get Reg.STEP_PBASE 15 0 ∧ o.len = s.get Reg.STEP_PBASE 28 16 ∧ o.idx = s.get Reg.STEP_PIDX 11 0 ∧
        o.nstep = s.get Reg.STEP_POPT 28 16 := by
  rw [State.progWritten, hhas, hfree, Bool.not_true, if_neg Bool.false_ne_true, if_neg Bool.false_ne_true]
  refine ⟨State.bit_setBit_same _ _ _ _ (by decide), ?_, rfl, rfl, _, rfl, rfl, rfl, rfl, rfl, rfl, rfl, rfl⟩
  exact ((State.keepsRegs.refl s _).same fun _ => rfl).setBit _ _ _ List.mem_cons_self

/-- A command of `STEP.PCMD`: it is dropped while BUSY and else waits for its completion. -/
theorem exec_progWritten {c : Instr} (hexec : exec c s = .next (s.progWritten op slot bad)) :
    (s.bit Reg.STEP_PSTAT 0 = true → exec c s = .next (s.raise 0x031 9)) ∧
      (s.bit Reg.STEP_PSTAT 0 = false → Answers (exec c s) fun t =>
        t.bit Reg.STEP_PSTAT 0 = true ∧ s.keepsRegs t [Reg.STEP_PSTAT] ∧ t.slots = s.slots ∧ t.store = s.store ∧
        ∃ o, t.progOp = some o ∧ o.op = op ∧ o.slot = slot ∧ o.seat = 0 ∧ o.base = s.get Reg.STEP_PBASE 15 0 ∧
          o.len = s.get Reg.STEP_PBASE 28 16 ∧ o.idx = s.get Reg.STEP_PIDX 11 0 ∧ o.nstep = s.get Reg.STEP_POPT 28 16) :=
  ⟨fun hbusy => hexec.trans (congrArg Host.Outcome.next (s.progWritten_busy op slot bad hhas hbusy)),
    fun hfree => answers_eq hexec (s.progWritten_free op slot bad hhas hfree)⟩

end

/-! ### What an operation is refused for -/

section
variable (s : State) (o : ProgOp)

theorem State.progApply_refused {r : Nat} (hr : s.progRefusal o = r) (hne : r ≠ 0) : s.progApply o = (s, r, 0, 0) := by
  rw [State.progApply, hr, if_pos hne]

theorem State.progApply_reserved (hop : 8 ≤ o.op) : s.progApply o = (s, 5, 0, 0) :=
  s.progApply_refused o (by rw [State.progRefusal]; exact if_pos hop) (by decide)

variable (hsq : o.sq = none)
include hsq

/-- WRITE and SEAL need an OPEN slot. -/
theorem State.progRefusal_sealed (hop : o.op = 4 ∨ o.op = 6) (hst : (s.slot o.slot).state ≠ 1) : s.progRefusal o = 1 := by
  obtain h | h := hop <;> simp [State.progRefusal, hsq, h, hst]

/-- DEFINE needs an UNDEFINED slot. -/
theorem State.progRefusal_defined (hop : o.op = 1) (hst : (s.slot o.slot).state ≠ 0) : s.progRefusal o = 1 := by
  simp [State.progRefusal, hsq, hop, hst]

/-- A slot that a channel refers to is neither undefined nor opened. -/
theorem State.progRefusal_referenced (hop : o.op = 2 ∨ o.op = 3) (hst : 2 ≤ (s.slot o.slot).state)
    (hst' : (s.slot o.slot).state ≤ 3) (hrefs : (s.slot o.slot).refs ≠ 0) : s.progRefusal o = 3 := by
  have hsealed : (s.slot o.slot).state = 2 ∨ (s.slot o.slot).state = 3 := by omega
  obtain h | h := hop <;> obtain hs | hs := hsealed <;> simp [State.progRefusal, hsq, h, hs, hrefs]

/-- WRITE names an entry of its slot. -/
theorem State.progRefusal_index (hop : o.op = 4) (hst : (s.slot o.slot).state = 1) (hidx : (s.slot o.slot).len ≤ o.idx) :
    s.progRefusal o = 5 := by
  simp [State.progRefusal, hsq, hop, hst, hidx]

end

/-! ### The completion -/

/-- The completion of an operation on the register path that is not OK: `PSTAT` and the event, no slot and no entry. -/
theorem State.progEnd_refused (s : State) (o : ProgOp) (st : Nat) (hsq : o.sq = none) (hst : st ≠ 0) (hst' : st < 16) :
    (s.progEnd o st 0 0).progOp = s.progOp ∧ (s.progEnd o st 0 0).slots = s.slots ∧ (s.progEnd o st 0 0).store = s.store ∧
      (s.progEnd o st 0 0).bit Reg.STEP_PSTAT 0 = false ∧ (s.progEnd o st 0 0).get Reg.STEP_PSTAT 11 8 = st ∧
      (s.has 0x031 = true → (s.progEnd o st 0 0).bit (Reg.PG_EVRAW 0x031) 8 = true) := by
  have hend : s.progEnd o st 0 0 = (s.wrN Reg.STEP_PSTAT (256 * st)).raise 0x031 8 := by
    rw [State.progEnd, hsq]
    exact if_neg hst
  have hframe := raise_frame (s.wrN Reg.STEP_PSTAT (256 * st)) 0x031 8
  have hsmall : 256 * st < 2 ^ 32 := by omega
  rw [hend]
  refine ⟨hframe.progOp, hframe.slots, hframe.store, ?_, ?_, fun hhas => ?_⟩
  · rw [State.bit_raise _ _ _ _ (by decide) eventReg_STEP_PSTAT, State.bit, State.rd_wrN_same, BitVec.getLsbD_ofNat]
    exact (Bool.true_and _).trans (by rw [Nat.testBit_zero, decide_eq_false_iff_not]; omega)
  · rw [State.get_raise _ _ _ _ (by decide) eventReg_STEP_PSTAT, State.get_wrN_same _ _ _ _ _ hsmall]
    omega
  · exact State.bit_raise_same _ _ _ (by decide) (by decide) hhas

section
variable (s : State) (o : ProgOp) (ho : s.progOp = some o)
include ho

theorem State.progFinish_waits (hpg : s.pg 0x031 = 2 ∨ s.pg 0x031 = 4) : s.progFinish = s := by
  obtain h | h := hpg <;> simp [State.progFinish, ho, h]

/-- An operation of a FAULTED page ends STOPPED. -/
theorem State.progFinish_faulted (hpg : s.pg 0x031 = 5) : s.progFinish =
    { ({ s with progOp := none } : State).progEnd o 8 0 0 with
      free := if o.readBad then (({ s with progOp := none } : State).progEnd o 8 0 0).free + 16
        else (({ s with progOp := none } : State).progEnd o 8 0 0).free } := by
  have hflag : ({ s with progOp := none } : State).pg 0x031 = 5 := hpg
  unfold State.progFinish
  rw [ho]
  dsimp only
  rw [hpg, if_neg (by decide), hflag, if_pos rfl]

/-- An operation of a page that is settled ends with what it came to. -/
theorem State.progFinish_settled (hpg : s.pg 0x031 = 1 ∨ s.pg 0x031 = 3) (r : State × Nat × Nat × Nat)
    (hr : ({ s with progOp := none } : State).progApply o = r) : s.progFinish =
    { r.1.progEnd o r.2.1 r.2.2.1 r.2.2.2 with
      free := if o.readBad then (r.1.progEnd o r.2.1 r.2.2.1 r.2.2.2).free + 16
        else (r.1.progEnd o r.2.1 r.2.2.1 r.2.2.2).free } := by
  have hwaits : ¬ (decide (s.pg 0x031 = 2) || decide (s.pg 0x031 = 4)) = true := by
    obtain h | h := hpg <;> rw [h] <;> decide
  have hflag : ¬ ({ s with progOp := none } : State).pg 0x031 = 5 := by
    change ¬ s.pg 0x031 = 5
    omega
  unfold State.progFinish
  rw [ho]
  dsimp only
  rw [if_neg hwaits, if_neg hflag, hr]

end

/-- Settles O13: a written operation is dropped or kept with its arguments, and its completion shows its status. -/
theorem programOperations : Obligations.ProgramOperations := by
  unfold Obligations.ProgramOperations
  intro s slot op bad hslot hop hop' hhas
  have hwf : wfSlot slot = true := decide_eq_true hslot
  have hres : (wfSlot slot && decide (8 ≤ op) && decide (op < 16)) = true := by simp [hwf, hop, hop']
  refine ⟨?_, fun hnone => ?_, fun o ho hpg => ?_, fun o ho hsq hpg => ?_, fun o ho hsq hpg hres => ?_⟩
  · simp only [List.forall_mem_cons, List.not_mem_nil, false_implies, implies_true, and_true]
    exact ⟨exec_progWritten s 0 slot false hhas (answer_next hwf _), exec_progWritten s 1 slot false hhas (answer_next hwf _),
      exec_progWritten s 2 slot false hhas (answer_next hwf _), exec_progWritten s 3 slot false hhas (answer_next hwf _),
      exec_progWritten s 4 slot false hhas (answer_next hwf _), exec_progWritten s 5 slot bad hhas (answer_next hwf _),
      exec_progWritten s 6 slot false hhas (answer_next hwf _), exec_progWritten s 7 slot false hhas (answer_next hwf _),
      exec_progWritten s op slot false hhas (answer_next hres _)⟩
  · exact congrArg Host.Outcome.next (by rw [State.progFinish, hnone])
  · exact congrArg Host.Outcome.next (s.progFinish_waits o ho hpg)
  · obtain ⟨hop, hslots, -, hbusy, hstatus, hevent⟩ :=
      State.progEnd_refused { s with progOp := none } o 8 hsq (by decide) (by decide)
    exact answers_eq (congrArg Host.Outcome.next (s.progFinish_faulted o ho hpg)) ⟨hop, hbusy, hstatus, hslots, hevent hhas⟩
  · obtain ⟨-, hslots, hstore, -, hstatus, -⟩ :=
      State.progEnd_refused { s with progOp := none } o 5 hsq (by decide) (by decide)
    exact answers_eq (congrArg Host.Outcome.next (s.progFinish_settled o ho hpg _ (State.progApply_reserved _ o hres)))
      ⟨hstatus, hslots, hstore⟩

/-- Settles O14, by the refusals in the order of R161. -/
theorem programSlotsRefuse : Obligations.ProgramSlotsRefuse := by
  unfold Obligations.ProgramSlotsRefuse
  intro s o hsq
  exact ⟨fun hop hst => s.progApply_refused o (s.progRefusal_sealed o hsq hop hst) (by decide),
    fun hop hst => s.progApply_refused o (s.progRefusal_defined o hsq hop hst) (by decide),
    fun hop hst hst' hrefs => s.progApply_refused o (s.progRefusal_referenced o hsq hop hst hst' hrefs) (by decide),
    fun hop hst hidx => s.progApply_refused o (s.progRefusal_index o hsq hop hst hidx) (by decide)⟩

end Sys2Proof.Machine
end

section
/-!
PROOF. Sweep-table operations (R190 to R192), up to the statement SweepTableOperations.
-/
namespace Sys2Proof.Machine

theorem eventReg_EIS_TSTAT : eventReg Reg.EIS_TSTAT = false :=
  eventReg_block _ (by decide) (by decide) (by decide) (by decide)

/-- A write of a register leaves everything that is neither a register nor a seat. -/
theorem wrN_frame (s : State) (a v : Nat) : EventFrame (fun _ => true) s (s.wrN a v) := EventFrame.wr s a _ rfl

theorem State.sweep_setSweep (s : State) (t : Nat) (w : Sweep) : (s.setSweep t w).sweep t = w := by
  rw [State.setSweep, State.sweep, Sparse.get_insert_same]

/-! ### A completion -/

/-- The state of a completing op before its event. -/
def State.eisShown (s : State) (status errpt why : Nat) : State :=
  ({ s with eisOp := none } : State).wrN Reg.EIS_TSTAT (status * 256 + errpt * 65536 + why * 2 ^ 24)

section
variable (s : State) (status errpt why : Nat)

theorem State.eisDone_eq : s.eisDone status errpt why = (s.eisShown status errpt why).raise 0x034 8 := rfl

theorem State.sweeps_eisDone : (s.eisDone status errpt why).sweeps = s.sweeps := by
  rw [s.eisDone_eq, (raise_frame _ _ _).sweeps, State.eisShown, (wrN_frame _ _ _).sweeps]

theorem State.eisOp_eisDone : (s.eisDone status errpt why).eisOp = none := by
  rw [s.eisDone_eq, (raise_frame _ _ _).eisOp]
  rfl

theorem State.sweep_eisDone (t : Nat) : (s.eisDone status errpt why).sweep t = s.sweep t := by
  rw [State.sweep, s.sweeps_eisDone, State.sweep]

theorem State.status_eisDone (hst : status < 16) : (s.eisDone status 0 0).get Reg.EIS_TSTAT 11 8 = status := by
  have hsmall : status * 256 + 0 * 65536 + 0 * 2 ^ 24 < 2 ^ 32 := by omega
  rw [s.eisDone_eq, State.get_raise _ _ _ _ (by decide) eventReg_EIS_TSTAT, State.eisShown,
    State.get_wrN_same _ _ _ _ _ hsmall]
  omega

theorem State.event_eisDone (hhas : s.has 0x034 = true) :
    (s.eisDone status errpt why).bit (Reg.PG_EVRAW 0x034) 8 = true := by
  rw [s.eisDone_eq]
  exact State.bit_raise_same _ _ _ (by decide) (by decide) (by rw [State.eisShown, State.has_wrN]; exact hhas)

end

/-! ### An op that is written -/

section
variable (s : State) (op t : Nat) (hhas : s.has 0x034 = true)
include hhas

theorem State.eisBegin_busy (hbusy : s.bit Reg.EIS_TSTAT 0 = true) : s.eisBegin op t = s.raise 0x034 9 := by
  rw [State.eisBegin, hhas, hbusy, Bool.not_true, if_neg Bool.false_ne_true, if_pos rfl]

theorem State.eisBegin_unsettled (hfree : s.bit Reg.EIS_TSTAT 0 = false) (hset : s.settled 0x034 = false) :
    s.eisBegin op t = s.eisDone 1 0 0 := by
  rw [State.eisBegin, hhas, hfree, hset, Bool.not_true, if_neg Bool.false_ne_true, if_neg Bool.false_ne_true, Bool.not_false,
    if_pos rfl]

theorem State.eisBegin_settled (hfree : s.bit Reg.EIS_TSTAT 0 = false) (hset : s.settled 0x034 = true) :
    s.eisBegin op t = ({ s with eisOp := some (op, t) } : State).setBit Reg.EIS_TSTAT 0 true := by
  rw [State.eisBegin, hhas, hfree, hset, Bool.not_true, if_neg Bool.false_ne_true, if_neg Bool.false_ne_true,
    if_neg Bool.false_ne_true]

/-- A command of `EIS.TCMD`: dropped while BUSY, refused where the page is not settled, else begun. -/
theorem exec_eisBegin {c : Instr} (hexec : exec c s = .next (s.eisBegin op t)) :
    (s.bit Reg.EIS_TSTAT 0 = true → exec c s = .next (s.raise 0x034 9)) ∧
      (s.bit Reg.EIS_TSTAT 0 = false → s.settled 0x034 = false → Answers (exec c s) fun u => u.get Reg.EIS_TSTAT 11 8 = 1) ∧
      (s.bit Reg.EIS_TSTAT 0 = false → s.settled 0x034 = true → Answers (exec c s) fun u =>
        u.bit Reg.EIS_TSTAT 0 = true ∧ u.eisOp = some (op, t) ∧ u.sweeps = s.sweeps ∧ s.keepsRegs u [Reg.EIS_TSTAT]) := by
  refine ⟨fun hbusy => ?_, fun hfree hset => ?_, fun hfree hset => ?_⟩
  · exact hexec.trans (congrArg Host.Outcome.next (s.eisBegin_busy op t hhas hbusy))
  · exact answers_eq (hexec.trans (congrArg Host.Outcome.next (s.eisBegin_unsettled op t hhas hfree hset)))
      (s.status_eisDone 1 (by decide))
  · exact answers_eq (hexec.trans (congrArg Host.Outcome.next (s.eisBegin_settled op t hhas hfree hset)))
      ⟨State.bit_setBit_same _ _ _ _ (by decide), rfl, rfl,
        ((State.keepsRegs.refl s _).same fun _ => rfl).setBit _ _ _ List.mem_cons_self⟩

end

/-! ### The op in progress completes -/

theorem exec_eisTableOpComplete {s : State} {op t : Nat} (hop : s.eisOp = some (op, t)) :
    exec .eisTableOpComplete s = .next (s.eisTableOp op t) := by
  change Host.Outcome.next _ = _
  rw [hop]

section
variable (s : State) (t : Nat)

theorem State.eisTableOp_open (hst : (s.sweep t).state ≠ 1) (hrefs : (s.sweep t).refs = 0) :
    s.eisTableOp 1 t = (s.setSweep t { s.sweep t with state := 1 }).eisDone 0 0 0 := by
  rw [State.eisTableOp]
  exact (if_neg hst).trans (if_neg fun h => h hrefs)

theorem State.eisTableOp_write_refused (hst : (s.sweep t).state ≠ 1) : s.eisTableOp 2 t = s.eisDone 1 0 0 := by
  rw [State.eisTableOp]
  exact if_pos hst

theorem State.eisTableOp_clear (hst : (s.sweep t).state ≠ 0) (hrefs : (s.sweep t).refs = 0) :
    s.eisTableOp 5 t = (s.setSweep t {}).eisDone 0 0 0 := by
  rw [State.eisTableOp]
  exact (if_neg hst).trans (if_neg fun h => h hrefs)

end

/-- Settles O15: a written op is dropped, refused or begun, and its completion follows the table's state. -/
theorem sweepTableOperations : Obligations.SweepTableOperations := by
  unfold Obligations.SweepTableOperations
  intro s t op ht hop hop' hhas
  have hwf : decide (t < 16) = true := decide_eq_true ht
  have hres : (decide (t < 16) && decide (6 ≤ op) && decide (op < 16)) = true := by simp [ht, hop, hop']
  refine ⟨?_, fun hnone => ?_, fun ho hst hrefs => ?_, fun ho hst => ?_, fun ho hst hrefs => ?_⟩
  · simp only [List.forall_mem_cons, List.not_mem_nil, false_implies, implies_true, and_true]
    exact ⟨exec_eisBegin s 0 t hhas (answer_next hwf _), exec_eisBegin s 1 t hhas (answer_next hwf _),
      exec_eisBegin s 2 t hhas (answer_next hwf _), exec_eisBegin s 3 t hhas (answer_next hwf _),
      exec_eisBegin s 4 t hhas (answer_next hwf _), exec_eisBegin s 5 t hhas (answer_next hwf _),
      exec_eisBegin s op t hhas (answer_next hres _)⟩
  · change Host.Outcome.next _ = _
    rw [hnone]
  · refine answers_eq ((exec_eisTableOpComplete ho).trans (congrArg Host.Outcome.next (s.eisTableOp_open t hst hrefs)))
      ⟨?_, State.status_eisDone _ 0 (by decide), State.eisOp_eisDone _ 0 0 0⟩
    rw [State.sweep_eisDone, State.sweep_setSweep]
  · exact answers_eq ((exec_eisTableOpComplete ho).trans (congrArg Host.Outcome.next (s.eisTableOp_write_refused t hst)))
      ⟨s.sweeps_eisDone 1 0 0, s.status_eisDone 1 (by decide), s.event_eisDone 1 0 0 hhas⟩
  · refine answers_eq ((exec_eisTableOpComplete ho).trans (congrArg Host.Outcome.next (s.eisTableOp_clear t hst hrefs)))
      ⟨?_, State.status_eisDone _ 0 (by decide)⟩
    rw [State.sweep_eisDone, State.sweep_setSweep]

end Sys2Proof.Machine
end

section
/-!
PROOF. Crew operations (R220 to R224), up to the statement CrewOperations.
-/
namespace Sys2Proof.Machine

theorem eventReg_CREW_STAT : eventReg Reg.CREW_STAT = false :=
  eventReg_block _ (by decide) (by decide) (by decide) (by decide)

theorem put_frame (s : State) (a hi lo v : Nat) : EventFrame (fun _ => true) s (s.put a hi lo v) := EventFrame.wr s a _ rfl

theorem State.crew_modCrew (s : State) (e : Nat) (f : Crew → Crew) : (s.modCrew e f).crew e = f (s.crew e) := by
  rw [State.modCrew, State.setCrew, State.crew, Sparse.get_insert_same]

/-! ### A completion -/

/-- The state of a completing crew operation before its event. -/
def State.crewShown (s : State) (st : Nat) : State := (s.put Reg.CREW_STAT 0 0 0).put Reg.CREW_STAT 11 8 st

section
variable (s : State) (st : Nat)

theorem State.crewDone_eq : s.crewDone st = (s.crewShown st).raise 0x036 8 := rfl

theorem State.crews_crewDone : (s.crewDone st).crews = s.crews := by
  rw [s.crewDone_eq, (raise_frame _ _ _).crews, State.crewShown, (put_frame _ _ _ _ _).crews, (put_frame _ _ _ _ _).crews]

theorem State.crew_crewDone (e : Nat) : (s.crewDone st).crew e = s.crew e := by
  rw [State.crew, s.crews_crewDone, State.crew]

theorem State.status_crewDone (hst : st < 16) : (s.crewDone st).get Reg.CREW_STAT 11 8 = st := by
  rw [s.crewDone_eq, State.get_raise _ _ _ _ (by decide) eventReg_CREW_STAT, State.crewShown,
    State.get_put_same _ _ _ _ _ (by decide) (by decide)]
  exact Nat.mod_eq_of_lt hst

theorem State.event_crewDone (hhas : s.has 0x036 = true) : (s.crewDone st).bit (Reg.PG_EVRAW 0x036) 8 = true := by
  rw [s.crewDone_eq]
  exact State.bit_raise_same _ _ _ (by decide) (by decide)
    (by rw [State.crewShown, State.has_put, State.has_put]; exact hhas)

/-- A refused operation shows its status and changes no entry. -/
theorem State.crewDone_refused (hst : st < 16) :
    (s.crewDone st).get Reg.CREW_STAT 11 8 = st ∧ (s.crewDone st).crews = s.crews :=
  ⟨s.status_crewDone st hst, s.crews_crewDone st⟩

end

/-- An accepted operation on entry `e` completes OK with the entry as it leaves it. -/
theorem State.modCrew_done (s : State) (e : Nat) (f : Crew → Crew) :
    ((s.modCrew e f).crewDone 0).crew e = f (s.crew e) ∧ ((s.modCrew e f).crewDone 0).get Reg.CREW_STAT 11 8 = 0 :=
  ⟨by rw [State.crew_crewDone, State.crew_modCrew], State.status_crewDone _ 0 (by decide)⟩

/-! ### An operation that is written -/

section
variable (s : State) (f : State → State) (hhas : s.has 0x036 = true)
include hhas

theorem State.crewCmd_busy (hbusy : s.bit Reg.CREW_STAT 0 = true) : s.crewCmd f = s.raise 0x036 9 := by
  rw [State.crewCmd, hhas, hbusy, Bool.not_true, if_neg Bool.false_ne_true, if_pos rfl]

theorem State.crewCmd_stopped (hfree : s.bit Reg.CREW_STAT 0 = false) (hrun : s.running 0x036 = false) :
    s.crewCmd f = s.crewDone 10 := by
  rw [State.crewCmd, hhas, hfree, hrun, Bool.not_true, if_neg Bool.false_ne_true, if_neg Bool.false_ne_true, Bool.not_false,
    if_pos rfl]

theorem State.crewCmd_runs (hfree : s.bit Reg.CREW_STAT 0 = false) (hrun : s.running 0x036 = true) : s.crewCmd f = f s := by
  rw [State.crewCmd, hhas, hfree, hrun, Bool.not_true, if_neg Bool.false_ne_true, if_neg Bool.false_ne_true,
    if_neg Bool.false_ne_true]

/-- A command of `CREW.CMD` is dropped while BUSY and STOPPED while the page does not run. -/
theorem exec_crewCmd {c : Instr} (hexec : exec c s = .next (s.crewCmd f)) :
    (s.bit Reg.CREW_STAT 0 = true → exec c s = .next (s.raise 0x036 9)) ∧
      (s.bit Reg.CREW_STAT 0 = false → s.running 0x036 = false → Answers (exec c s) fun t =>
        t.get Reg.CREW_STAT 11 8 = 10 ∧ t.crews = s.crews) :=
  ⟨fun hbusy => hexec.trans (congrArg Host.Outcome.next (s.crewCmd_busy f hhas hbusy)),
    fun hfree hrun => answers_eq (hexec.trans (congrArg Host.Outcome.next (s.crewCmd_stopped f hhas hfree hrun)))
      (s.crewDone_refused 10 (by decide))⟩

end

/-! ### The operations -/

section
variable (s : State) (e : Nat)

theorem State.crewSetmaskOp_open (hst : (s.crew e).state = 1) (hmask : s.maskRegs.all s.hasCh = true) :
    s.crewSetmaskOp e = (s.modCrew e fun c => { c with mask := s.maskRegs }).crewDone 0 := by
  rw [State.crewSetmaskOp, if_neg (not_not_intro hst), hmask, Bool.not_true, if_neg Bool.false_ne_true]

theorem State.crewSealOp_own (hst : (s.crew e).state = 1) (hown : (s.crew e).coord = s.devId) :
    ((s.crewSealOp e).crew e).state = 2 ∧ (s.crewSealOp e).get Reg.CREW_STAT 11 8 = 0 := by
  unfold State.crewSealOp
  dsimp only
  rw [if_neg (not_not_intro hst), if_pos hown, State.crewSealed]
  obtain ⟨hcrew, hstatus⟩ := State.modCrew_done
    ((s.registerDev (s.crew e).id s.devId (some (s.crew e).mask.length)).modCrew e fun x =>
      { x with gen := ((s.registerDev (s.crew e).id s.devId (some (s.crew e).mask.length)).coord (s.crew e).id).gen }) e
    fun c => { c with state := 2, sealing := false, arrived := [], reported := (0, 0), held := [], skip := [] }
  exact ⟨congrArg Crew.state hcrew, hstatus⟩

theorem State.crewSealOp_other (hst : (s.crew e).state = 1) (hother : (s.crew e).coord ≠ s.devId) : s.crewSealOp e =
    ((s.modCrew e fun c => { c with sealing := true }).put Reg.CREW_STAT 0 0 1).sendCrew (s.crew e).coord
      (.register (s.crew e).id (s.crew e).mask.length) := by
  unfold State.crewSealOp
  dsimp only
  rw [if_neg (not_not_intro hst), if_neg hother]

theorem State.crewOpenOp_ready (hst : (s.crew e).state = 2) (harr : (s.crew e).arrived = []) (htrans : (s.crew e).trans = [])
    (hred : s.redPending e = false) :
    ((s.crewOpenOp e).crew e).state = 1 ∧ (s.crewOpenOp e).get Reg.CREW_STAT 11 8 = 0 := by
  have hidle : ¬ (!(s.crew e).arrived.isEmpty || !(s.crew e).trans.isEmpty || s.redPending e) = true := by
    rw [harr, htrans, hred]
    decide
  unfold State.crewOpenOp
  dsimp only
  rw [if_neg (not_not_intro hst), if_neg hidle]
  obtain ⟨hcrew, hstatus⟩ := State.modCrew_done (if (s.crew e).coord = s.devId then s.registerDev (s.crew e).id s.devId none
    else s.sendCrew (s.crew e).coord (.deregister (s.crew e).id)) e fun c => { c with state := 1 }
  exact ⟨congrArg Crew.state hcrew, hstatus⟩

theorem State.crewLeaveOp_open (hst : (s.crew e).state = 1) :
    ((s.crewLeaveOp e).crew e).state = 0 ∧ (s.crewLeaveOp e).get Reg.CREW_STAT 11 8 = 0 := by
  rw [State.crewLeaveOp, if_neg (not_not_intro hst)]
  refine ⟨?_, State.status_crewDone _ 0 (by decide)⟩
  rw [State.crew_crewDone, State.crew, Sparse.get, Sparse.find?_erase_same]
  rfl

theorem State.crewOpenOp_refused (hst : (s.crew e).state ≠ 2) : s.crewOpenOp e = s.crewDone 1 := by
  rw [State.crewOpenOp, if_pos hst]

theorem State.crewTransOp_refused (hst : (s.crew e).state ≠ 2) : s.crewTransOp e = s.crewDone 1 := by
  rw [State.crewTransOp, if_pos hst]

theorem State.redStart_refused (src param : Nat) (grade : Option Nat) (hst : (s.crew e).state ≠ 2) :
    s.redStart e src param grade = s.crewDone 1 := by
  rw [State.redStart, if_pos hst]

/-- The coordinator's acknowledgement makes the entry READY in the generation it names. -/
theorem State.sealAck_spec (gen : Nat) :
    let t := (s.modCrew e fun c => { c with gen := gen }).crewSealed e
    (t.crew e).state = 2 ∧ (t.crew e).sealing = false ∧ (t.crew e).gen = gen ∧ t.get Reg.CREW_STAT 11 8 = 0 := by
  obtain ⟨hcrew, hstatus⟩ := State.modCrew_done (s.modCrew e fun c => { c with gen := gen }) e
    fun c => { c with state := 2, sealing := false, arrived := [], reported := (0, 0), held := [], skip := [] }
  rw [State.crew_modCrew] at hcrew
  exact ⟨congrArg Crew.state hcrew, congrArg Crew.sealing hcrew, congrArg Crew.gen hcrew, hstatus⟩

end

/-- Settles O17: commands of a page that is busy or does not run are turned away, the others follow the state of their entry. -/
theorem crewOperations : Obligations.CrewOperations := by
  unfold Obligations.CrewOperations
  intro s e op he hop hop' hhas
  have hwf : wfEntry e = true := decide_eq_true he
  have hres : (wfEntry e && decide (10 ≤ op) && decide (op < 16)) = true := by simp [hwf, hop, hop']
  have hcmd : ∀ {c : Instr} {f : State → State}, exec c s = answer (wfEntry e) (s.crewCmd f) → exec c s = .next (s.crewCmd f) :=
    fun h => h.trans (answer_next hwf _)
  refine ⟨?_, fun hfree hrun => ?_, fun hsealing => ⟨fun gen => ?_, ?_⟩⟩
  · simp only [List.forall_mem_cons, List.not_mem_nil, false_implies, implies_true, and_true]
    exact ⟨exec_crewCmd s _ hhas (hcmd rfl), exec_crewCmd s _ hhas (hcmd rfl), exec_crewCmd s _ hhas (hcmd rfl),
      exec_crewCmd s _ hhas (hcmd rfl), exec_crewCmd s _ hhas (hcmd rfl), exec_crewCmd s _ hhas (hcmd rfl),
      exec_crewCmd s _ hhas (hcmd rfl), exec_crewCmd s _ hhas (hcmd rfl), exec_crewCmd s _ hhas (hcmd rfl),
      exec_crewCmd s _ hhas (hcmd rfl), exec_crewCmd s _ hhas (answer_next hres _)⟩
  · have hruns : ∀ {c : Instr} (f : State → State), exec c s = answer (wfEntry e) (s.crewCmd f) → exec c s = .next (f s) :=
      fun f h => h.trans (answer_eq hwf (s.crewCmd_runs f hhas hfree hrun))
    refine ⟨?_, ?_, hruns (·.crewJoinOp e) rfl, fun hst hmask => ?_, fun hst hown => ?_, fun hst hother => ?_,
      fun hst harr htrans hred => ?_, fun hst => ?_, fun hst => ?_, hruns (·.crewTransOp e) rfl,
      hruns (fun s => s.redStart e (s.get Reg.CREW_ARG0 7 0) (s.get Reg.CREW_ARG0 15 8) none) rfl,
      hruns (fun s => s.redStart e 0 0 (some (s.get Reg.CREW_ARG0 1 0))) rfl,
      hruns (·.crewInfoOp e) rfl⟩
    · exact answers_eq (hruns _ rfl) ⟨s.status_crewDone 0 (by decide), s.event_crewDone 0 hhas, s.crews_crewDone 0⟩
    · exact answers_eq (answer_eq hres (s.crewCmd_runs _ hhas hfree hrun)) (s.crewDone_refused 5 (by decide))
    · refine answers_eq ((hruns _ rfl).trans (congrArg Host.Outcome.next (s.crewSetmaskOp_open e hst hmask))) ?_
      obtain ⟨hcrew, hstatus⟩ := s.modCrew_done e fun c => { c with mask := s.maskRegs }
      exact ⟨congrArg Crew.mask hcrew, (congrArg Crew.state hcrew).trans hst, hstatus⟩
    · exact answers_eq (hruns _ rfl) (s.crewSealOp_own e hst hown)
    · exact (hruns _ rfl).trans (congrArg Host.Outcome.next (s.crewSealOp_other e hst hother))
    · exact answers_eq (hruns _ rfl) (s.crewOpenOp_ready e hst harr htrans hred)
    · exact answers_eq (hruns _ rfl) (s.crewLeaveOp_open e hst)
    · have hrefused : ∀ {c : Instr} {f : State → State}, exec c s = answer (wfEntry e) (s.crewCmd f) → f s = s.crewDone 1 →
          Answers (exec c s) fun t => t.get Reg.CREW_STAT 11 8 = 1 ∧ t.crews = s.crews := fun {c f} h hf =>
        answers_eq ((hruns f h).trans (congrArg Host.Outcome.next hf)) (s.crewDone_refused 1 (by decide))
      simp only [List.forall_mem_cons, List.not_mem_nil, false_implies, implies_true, and_true]
      exact ⟨hrefused rfl (s.crewOpenOp_refused e hst), hrefused rfl (s.crewTransOp_refused e hst),
        hrefused rfl (s.redStart_refused e _ _ _ hst), hrefused rfl (s.redStart_refused e _ _ _ hst)⟩
  · exact answers_eq (answer_eq hwf (if_pos hsealing)) (s.sealAck_spec e gen)
  · refine answers_eq (answer_eq hwf (if_pos hsealing)) ?_
    have hcrew := (State.crew_crewDone _ 7 e).trans (s.crew_modCrew e fun c => { c with sealing := false })
    exact ⟨congrArg Crew.sealing hcrew, (congrArg Crew.state hcrew).trans rfl, State.status_crewDone _ 7 (by decide)⟩

end Sys2Proof.Machine
end

section
/-!
PROOF. The timebase (R277 to R283), up to the statement TimebaseWrites.
-/
namespace Sys2Proof.Machine

/-- A page that no part lacks (R9). -/
theorem has_of_parts (s : State) (p : Nat) (h : ∀ q ∈ [Part.yk2561, .yk1281, .yk2560, .yk0001], q.hasPage p = true) :
    s.has p = true := by
  unfold State.has
  cases s.part
  · exact h _ (by decide)
  · exact h _ (by decide)
  · exact h _ (by decide)
  · exact h _ (by decide)

theorem has_timebasePage (s : State) : s.has 0x050 = true := has_of_parts s 0x050 (by decide)

theorem eventReg_TB_INC_LO : eventReg Reg.TB_INC_LO = false :=
  eventReg_block _ (by decide) (by decide) (by decide) (by decide)

theorem eventReg_TB_INC_HI : eventReg Reg.TB_INC_HI = false :=
  eventReg_block _ (by decide) (by decide) (by decide) (by decide)

/-! ### The increment (R277, R282) -/

section
variable (s : State) (v : Word)

theorem exec_tbIncLoWrite_serves (h : s.tbServes = true) : exec (.tbIncLoWrite v) s = .next (s.raise 0x050 15) :=
  congrArg Host.Outcome.next (if_pos h)

theorem exec_tbIncLoWrite_stages (h : s.tbServes = false) :
    exec (.tbIncLoWrite v) s = .next ({ s with incStage := v } : State) :=
  congrArg Host.Outcome.next (if_neg (Bool.eq_false_iff.mp h))

theorem exec_tbIncHiWrite_applies (h : s.tbServes = false) (hok : incOk (v.fld 7 0 * 2 ^ 32 + s.incStage.toNat) = true) :
    exec (.tbIncHiWrite v) s = .next (s.setInc (v.fld 7 0 * 2 ^ 32 + s.incStage.toNat)) :=
  congrArg Host.Outcome.next (if_neg (by rw [h, hok]; decide))

theorem exec_tbIncHiWrite_rejects (h : s.tbServes = false) (hbad : incOk (v.fld 7 0 * 2 ^ 32 + s.incStage.toNat) = false) :
    exec (.tbIncHiWrite v) s = .next (s.raise 0x050 15) :=
  congrArg Host.Outcome.next (if_pos (by rw [h, hbad]; decide))

/-- The increment that takes effect: the staged fraction and the written integer part. -/
theorem State.setInc_spec (i : Nat) (f : Word) (hi : i < 256) :
    (s.setInc (i * 2 ^ 32 + f.toNat)).rd Reg.TB_INC_LO = f ∧
      (s.setInc (i * 2 ^ 32 + f.toNat)).rd Reg.TB_INC_HI = BitVec.ofNat 32 i ∧
      s.keepsRegs (s.setInc (i * 2 ^ 32 + f.toNat)) [Reg.TB_INC_LO, Reg.TB_INC_HI] := by
  have hlow : f.toNat < 2 ^ 32 := f.isLt
  refine ⟨?_, ?_, ((State.keepsRegs.refl s _).wrN _ _ (by decide)).wrN _ _ (by decide)⟩
  · rw [State.setInc, State.rd_wrN_ne _ _ _ _ (by decide), State.rd_wrN_same]
    refine BitVec.eq_of_toNat_eq ?_
    rw [BitVec.toNat_ofNat]
    omega
  · rw [State.setInc, State.rd_wrN_same]
    exact congrArg (BitVec.ofNat 32) (by omega)

end

/-! ### Steps (R280, R281) -/

section
variable (s : State) (v : Word) (hgo : v.getLsbD 0 = true)
include hgo

theorem exec_tbStepGo_range (hbad : stepOk (s.rdI Reg.TB_STEP_SEC) (s.rdI Reg.TB_STEP_NS) = false) :
    exec (.tbStepGo v) s = .next (s.raise 0x050 14) := by
  refine congrArg Host.Outcome.next ?_
  rw [hgo, hbad, Bool.not_true, if_neg Bool.false_ne_true, Bool.not_false, if_pos rfl]

theorem exec_tbStepGo_requests (hok : stepOk (s.rdI Reg.TB_STEP_SEC) (s.rdI Reg.TB_STEP_NS) = true) :
    exec (.tbStepGo v) s = .next (s.requestStep (s.rdI Reg.TB_STEP_SEC * 1000000000 + s.rdI Reg.TB_STEP_NS)) := by
  refine congrArg Host.Outcome.next ?_
  rw [hgo, hok, Bool.not_true, if_neg Bool.false_ne_true, if_neg Bool.false_ne_true]

end

/-- A step that is accepted is pending, and no register but the status changes. -/
theorem State.requestStep_accepted (s : State) (d : Int) (h : s.stepRefused d = false) :
    (s.requestStep d).stepPend = some (d, s.now) ∧ (s.requestStep d).bit Reg.TB_STAT 10 = true ∧
      s.keepsRegs (s.requestStep d) [Reg.TB_STAT] := by
  rw [State.requestStep, h, if_neg Bool.false_ne_true]
  exact ⟨(put_frame _ _ _ _ _).stepPend, State.bit_setBit_same _ _ _ _ (by decide),
    ((State.keepsRegs.refl s _).same fun _ => rfl).setBit _ _ _ (by decide)⟩

theorem exec_stepTick_idle (s : State) (h : s.stepPend = none) : exec .stepTick s = .next s := by
  refine congrArg Host.Outcome.next ?_
  rw [h]

/-- The step takes place at the tick, where page 0x052 does not run and no slot is passed. -/
theorem exec_stepTick_due (s : State) (d : Int) (u : Nat) (h : s.stepPend = some (d, u)) (hdue : u + 4000 ≤ s.now)
    (htick : s.crossed 8000 = true) (hrun : s.running 0x052 = false) : exec .stepTick s = .next (s.stepAt d) := by
  refine congrArg Host.Outcome.next ?_
  rw [h]
  dsimp only
  rw [decide_eq_true hdue, htick, Bool.and_self, if_pos rfl, hrun]
  rfl

/-- Settles O21: each write by the mode of the servo and by what it checks. -/
theorem timebaseWrites : Obligations.TimebaseWrites := by
  unfold Obligations.TimebaseWrites
  intro s v
  have hfld : v.fld 7 0 < 256 := fld_lt v 7 0
  refine ⟨exec_tbIncLoWrite_serves s v, fun h => ?_, fun h hok => ?_, fun h hbad => ?_, ?_, fun hgo => ?_, fun hgo hbad => ?_,
    fun d hd hgo hok hfree => ?_, exec_stepTick_idle s, fun d u h hdue htick hrun => ?_, fun h => ?_, fun h => ?_⟩
  · exact answers_eq (exec_tbIncLoWrite_stages s v h) ⟨rfl, rfl⟩
  · exact answers_eq (exec_tbIncHiWrite_applies s v h hok) (s.setInc_spec _ s.incStage hfld)
  · exact answers_eq (exec_tbIncHiWrite_rejects s v h hbad)
      ⟨s.rd_raise _ _ _ (by decide) eventReg_TB_INC_LO, s.rd_raise _ _ _ (by decide) eventReg_TB_INC_HI,
        s.bit_raise_same _ _ (by decide) (by decide) (has_timebasePage s)⟩
  · exact answers_next ⟨rfl, rfl⟩
  · exact congrArg Host.Outcome.next (if_pos (by rw [hgo]; rfl))
  · exact exec_tbStepGo_range s v hgo hbad
  · subst hd
    exact answers_eq (exec_tbStepGo_requests s v hgo hok) (s.requestStep_accepted _ hfree)
  · exact exec_stepTick_due s d u h hdue htick hrun
  · exact congrArg Host.Outcome.next (if_pos h)
  · exact congrArg Host.Outcome.next (if_neg (Bool.eq_false_iff.mp h))

end Sys2Proof.Machine
end

section
/-!
PROOF. Injection steps, and the check-value units (R528 to R533), up to the statement CheckValueUnits.
-/
namespace Sys2Proof.Machine

/-! ### What an opportunity of an injection point leaves -/

/-- Registers that an opportunity of a point of page `p` may change. -/
def injReg (p a : Nat) : Bool := eventReg a || decide (a = Reg.PG_INJARM p ∨ a = Reg.INJ_FIRED)

/-- As `EventFrame`, but for the counts and the log of the injection machinery. -/
def InjFrame (R : Nat → Bool) (s t : State) : Prop :=
  EventFrame R { s with injPassed := t.injPassed, injLog := t.injLog } t

theorem InjFrame.of {R : Nat → Bool} {s t : State} (h : EventFrame R s t) : InjFrame R s t := by
  rw [InjFrame, h.injPassed, h.injLog]
  exact h

/-- A change of the injection machinery's own state, then one of registers. -/
theorem InjFrame.after {R : Nat → Bool} {s t : State} (n : List (Nat × Nat)) (l : List (Word × Nat))
    (h : EventFrame R { s with injPassed := n, injLog := l } t) : InjFrame R s t := by
  rw [InjFrame, h.injPassed, h.injLog]
  exact h

/-- Registers beside the injection machinery's own state held fixed. -/
theorem EventFrame.withInj {R : Nat → Bool} {s t : State} (h : EventFrame R s t) (n : List (Nat × Nat)) (l : List (Word × Nat)) :
    EventFrame R { s with injPassed := n, injLog := l } { t with injPassed := n, injLog := l } :=
  { h with injPassed := rfl, injLog := rfl }

theorem InjFrame.rd {R : Nat → Bool} {s t : State} (h : InjFrame R s t) (a : Nat) (ha : R a = false) : t.rd a = s.rd a :=
  EventFrame.rd h a ha

/-- The state of a point that fires, before its log entry and its event. -/
def State.injCounted (s : State) (p : Nat) : State :=
  (s.when (!s.bit (Reg.PG_INJARM p) 1) fun s => s.setBit (Reg.PG_INJARM p) 0 false).count Reg.INJ_FIRED 31 0

theorem injCounted_frame (s : State) (p : Nat) : EventFrame (injReg p) s (s.injCounted p) := by
  have harm : injReg p (Reg.PG_INJARM p) = true := by rw [injReg, decide_eq_true (Or.inl rfl), Bool.or_true]
  have hfired : injReg p Reg.INJ_FIRED = true := by rw [injReg, decide_eq_true (Or.inr rfl), Bool.or_true]
  exact (EventFrame.when _ (EventFrame.refl s) (EventFrame.wr s _ _ harm)).trans (EventFrame.count _ _ _ _ _ hfired)

theorem injStep_frame (s : State) (p point sub : Nat) (hp : p < 256) : InjFrame (injReg p) s (s.injStep p point sub) := by
  have hraise : ∀ t : State, EventFrame (injReg p) t (t.raise p 5) := fun t =>
    (EventFrame.raise t p 5 hp).mono fun a ha => by rw [injReg, ha, Bool.true_or]
  unfold State.injStep
  split
  · exact InjFrame.of (EventFrame.refl s)
  · split
    · exact InjFrame.after _ s.injLog (EventFrame.refl _)
    · have hc := injCounted_frame s p
      change InjFrame (injReg p) s (State.raise (if (s.injCounted p).injLog.length < 16 then
        { s.injCounted p with injLog := (s.injCounted p).injLog ++
            [(BitVec.ofNat 32 (2 ^ 31 + p * 65536 + sub * 256 + point), (s.injCounted p).now)] }
        else s.injCounted p) p 5)
      split
      · exact InjFrame.after _ _ ((hc.withInj (s.injCounted p).injPassed _).trans (hraise _))
      · exact InjFrame.of (hc.trans (hraise _))

/-! ### Addresses of the check-value units -/

theorem eventReg_cvu (u o : Nat) (hu : u < 8) (ho : 0x40 ≤ o) (ho' : o < 0x1000) :
    eventReg ((0x0E0 + u) * 0x1000 + o) = false :=
  eventReg_block _ (by omega) (by omega) (by omega) (by omega)

theorem has_cvuPage (s : State) (u : Nat) (hu : u < 8) : s.has (0x0E0 + u) = true := by
  refine has_of_parts s _ ?_
  have hall : ∀ i < 8, ∀ q ∈ [Part.yk2561, .yk1281, .yk2560, .yk0001], q.hasPage (0x0E0 + i) = true := by decide
  exact hall u hu

/-! ### START and data (R529) -/

theorem count_frame (s : State) (a hi lo n : Nat) : EventFrame (fun _ => true) s (s.count a hi lo n) := EventFrame.wr s a _ rfl

section
variable (s : State) (u : Nat)

theorem State.cvu_setCvu (c : Cvu) : (s.setCvu u c).cvu u = c := by
  rw [State.setCvu, State.cvu, Sparse.get_set_same]

/-- Discarding a frame changes no register of the unit but its status. -/
theorem State.rd_cvuDiscard (hu : u < 8) (o : Nat) (ho : 0x40 ≤ o) (ho' : o < 0x1000) (hstat : o ≠ 0x080) :
    (s.cvuDiscard u).rd ((0x0E0 + u) * 0x1000 + o) = s.rd ((0x0E0 + u) * 0x1000 + o) := by
  have hp : cvuPage u < 256 := by
    unfold cvuPage
    omega
  have hne : (0x0E0 + u) * 0x1000 + o ≠ Reg.CVU_STAT u := header_ne _ _ _ hstat
  unfold State.cvuDiscard
  dsimp only
  split
  · rw [State.rd_raise _ _ _ _ hp (eventReg_cvu u o hu ho ho'), State.rd_setBit_ne _ _ _ _ _ hne,
      State.rd_put_ne _ _ _ _ _ _ hne]
    rfl
  · rfl

/-- The register with which a frame of unit `u` begins, in the bit order of the result. -/
def State.cvuStart (s : State) (u : Nat) : Nat :=
  if s.bit (Reg.CVU_CFG u) 9 then bitRev (s.cvuWidth u) (s.cvuInit u) else s.cvuInit u

theorem State.cvuStart_cvuDiscard (hu : u < 8) : (s.cvuDiscard u).cvuStart u = s.cvuStart u := by
  have hcfg : (s.cvuDiscard u).rd (Reg.CVU_CFG u) = s.rd (Reg.CVU_CFG u) :=
    s.rd_cvuDiscard u hu 0x040 (by decide) (by decide) (by decide)
  have hinit : (s.cvuDiscard u).cvuInit u = s.cvuInit u :=
    State.rd64_congr (s.rd_cvuDiscard u hu 0x04c (by decide) (by decide) (by decide))
      (s.rd_cvuDiscard u hu 0x050 (by decide) (by decide) (by decide))
  rw [State.cvuStart, State.cvuStart, State.cvuWidth, State.cvuWidth, State.bit, State.bit, State.get, State.get, hcfg, hinit]

theorem State.cvuOpen_refused (hrun : s.running (0x0E0 + u) = false) : s.cvuOpen u = s.raise (0x0E0 + u) 1 := by
  rw [State.cvuOpen, cvuPage, hrun, Bool.not_false, if_pos rfl]

theorem State.cvuOpen_runs (hrun : s.running (0x0E0 + u) = true) : s.cvuOpen u =
    ((s.cvuDiscard u).setCvu u { (s.cvuDiscard u).cvu u with isOpen := true, reg := (s.cvuDiscard u).cvuStart u, bytes := [] }).setBit
      (Reg.CVU_STAT u) 0 true := by
  rw [State.cvuOpen, cvuPage, hrun, Bool.not_true, if_neg Bool.false_ne_true]
  rfl

theorem State.cvuData_refused (data : List Byte) (hclosed : (s.cvu u).isOpen = false) :
    s.cvuData u data = s.raise (0x0E0 + u) 1 := by
  rw [State.cvuData, hclosed, Bool.not_false, if_pos rfl, cvuPage]

theorem State.cvuData_open (data : List Byte) (hopen : (s.cvu u).isOpen = true) : s.cvuData u data =
    (s.setCvu u { s.cvu u with
      reg := data.foldl (crcByte (s.cvuWidth u) (s.cvuPoly u) (s.bit (Reg.CVU_CFG u) 8)) (s.cvu u).reg
      bytes := ((s.cvu u).bytes ++ data).take 256 }).count (Reg.CVU_STAT u) 31 16 data.length := by
  unfold State.cvuData
  dsimp only
  rw [if_neg (by rw [hopen]; decide)]

theorem State.cvuData_spec (data : List Byte) (hopen : (s.cvu u).isOpen = true) :
    (s.cvuData u data).get (Reg.CVU_STAT u) 31 16 = min (s.get (Reg.CVU_STAT u) 31 16 + data.length) 65535 ∧
      ((s.cvuData u data).cvu u).reg =
        data.foldl (crcByte (s.cvuWidth u) (s.cvuPoly u) (s.bit (Reg.CVU_CFG u) 8)) (s.cvu u).reg ∧
      ((s.cvuData u data).cvu u).isOpen = true ∧ s.keepsRegs (s.cvuData u data) [Reg.CVU_STAT u] := by
  have hcvu : (s.cvuData u data).cvu u = { s.cvu u with
      reg := data.foldl (crcByte (s.cvuWidth u) (s.cvuPoly u) (s.bit (Reg.CVU_CFG u) 8)) (s.cvu u).reg
      bytes := ((s.cvu u).bytes ++ data).take 256 } := by
    rw [s.cvuData_open u data hopen, State.cvu, (count_frame _ _ _ _ _).cvus]
    exact s.cvu_setCvu u _
  rw [hcvu, s.cvuData_open u data hopen]
  exact ⟨State.get_count_same _ _ _ _ _ (by decide) (by decide), rfl, hopen,
    ((State.keepsRegs.refl s _).same fun _ => rfl).count _ _ _ _ List.mem_cons_self⟩

end

/-! ### END (R529 to R531) -/

/-- Registers that the counts and events of a closed frame change. -/
def cvuTallyReg (u a : Nat) : Bool := eventReg a || decide (a = Reg.CVU_CNT u ∨ a = Reg.CVU_ACNT u)

theorem cvuTallyReg_off (u o : Nat) (hu : u < 8) (ho : 0x40 ≤ o) (ho' : o < 0x1000) (hcnt : o ≠ 0x084) (hacnt : o ≠ 0x088) :
    cvuTallyReg u ((0x0E0 + u) * 0x1000 + o) = false := by
  rw [cvuTallyReg, eventReg_cvu u o hu ho ho', decide_eq_false]
  · rfl
  · exact fun h => h.elim (header_ne _ _ _ hcnt) (header_ne _ _ _ hacnt)

/-- The counts and events of a frame closed with an alive code. -/
def State.cvuTally (s : State) (u code : Nat) (bad : Bool) : State :=
  let s := (s.count (Reg.CVU_CNT u) 15 0).when bad fun s => s.count (Reg.CVU_CNT u) 31 16
  let s := s.when (code == 1) fun s => s.count (Reg.CVU_ACNT u) 15 0
  let s := s.when (code == 2 || code == 3) fun s => s.count (Reg.CVU_ACNT u) 31 16
  (s.when bad fun s => s.raise (cvuPage u) 8).raise (cvuPage u) 9

/-- The unit with its result and status. -/
def State.cvuShow (s : State) (u r : Nat) (c : Cvu) (stat : Nat) : State :=
  ((s.setCvu u c).wr64 (Reg.CVU_RESULT_LO u) (Reg.CVU_RESULT_HI u) r).wrN (Reg.CVU_STAT u) stat

section
variable (s : State) (u : Nat)

theorem State.cvuClose_refused (hclosed : (s.cvu u).isOpen = false) : s.cvuClose u = s.raise (0x0E0 + u) 1 := by
  rw [State.cvuClose, hclosed, Bool.not_false, if_pos rfl, cvuPage]

/-- A closed frame shows its result and is counted. -/
theorem State.cvuClose_open (hopen : (s.cvu u).isOpen = true) :
    ∃ c code bad stat, c.isOpen = false ∧ stat % 2 = 0 ∧ s.cvuClose u =
      (((s.injStep (cvuPage u) 0x10 0).useFree).cvuShow u (s.cvuResult u) c stat).cvuTally u code bad := by
  unfold State.cvuClose
  dsimp only
  rw [if_neg (by rw [hopen]; decide)]
  generalize s.aliveCheck u = x
  obtain ⟨code, v⟩ := x
  refine ⟨_, _, _, _, ?_, ?_, rfl⟩
  · rfl
  · omega

theorem cvuPage_lt (hu : u < 8) : cvuPage u < 256 := by
  unfold cvuPage
  omega

theorem cvuTally_frame (code : Nat) (bad : Bool) (hu : u < 8) : EventFrame (cvuTallyReg u) s (s.cvuTally u code bad) := by
  have hcnt : cvuTallyReg u (Reg.CVU_CNT u) = true := by rw [cvuTallyReg, decide_eq_true (Or.inl rfl), Bool.or_true]
  have hacnt : cvuTallyReg u (Reg.CVU_ACNT u) = true := by rw [cvuTallyReg, decide_eq_true (Or.inr rfl), Bool.or_true]
  have hraise : ∀ (t : State) b, EventFrame (cvuTallyReg u) t (t.raise (cvuPage u) b) := fun t b =>
    (EventFrame.raise t _ b (cvuPage_lt u hu)).mono fun a ha => by rw [cvuTallyReg, ha, Bool.true_or]
  unfold State.cvuTally
  refine EventFrame.trans (EventFrame.when _ ?_ (hraise _ _)) (hraise _ _)
  refine EventFrame.when _ (EventFrame.when _ ?_ (EventFrame.count _ _ _ _ _ hacnt)) (EventFrame.count _ _ _ _ _ hacnt)
  exact EventFrame.when _ (EventFrame.count _ _ _ _ _ hcnt) (EventFrame.count _ _ _ _ _ hcnt)

/-- The frame is counted, whatever came of it. -/
theorem State.cvuTally_count (code : Nat) (bad : Bool) (hu : u < 8) :
    (s.cvuTally u code bad).get (Reg.CVU_CNT u) 15 0 = min (s.get (Reg.CVU_CNT u) 15 0 + 1) 65535 := by
  have hp := cvuPage_lt u hu
  have hev : eventReg (Reg.CVU_CNT u) = false := eventReg_cvu u 0x084 hu (by decide) (by decide)
  have hne : Reg.CVU_CNT u ≠ Reg.CVU_ACNT u := header_ne _ _ _ (by decide)
  have hwhen : ∀ (t : State) (b : Bool) (f : State → State), (∀ t, (f t).get (Reg.CVU_CNT u) 15 0 = t.get (Reg.CVU_CNT u) 15 0) →
      (t.when b f).get (Reg.CVU_CNT u) 15 0 = t.get (Reg.CVU_CNT u) 15 0 := by
    intro t b f hf
    unfold State.when
    split
    · exact hf t
    · rfl
  have hmiss : ∀ t : State, (t.count (Reg.CVU_CNT u) 31 16).get (Reg.CVU_CNT u) 15 0 = t.get (Reg.CVU_CNT u) 15 0 := fun t =>
    t.get_put_below _ _ _ _ _ _ (by decide) (by decide) (by decide)
  unfold State.cvuTally
  dsimp only
  rw [State.get_raise _ _ _ _ hp hev, hwhen _ _ _ (fun t => t.get_raise _ _ _ hp hev 15 0),
    hwhen _ _ _ (fun t => t.get_count_ne _ _ _ _ _ _ _ hne), hwhen _ _ _ (fun t => t.get_count_ne _ _ _ _ _ _ _ hne),
    hwhen _ _ _ hmiss]
  exact State.get_count_same _ _ _ _ _ (by decide) (by decide)

theorem State.cvuTally_event (code : Nat) (bad : Bool) (hu : u < 8) :
    (s.cvuTally u code bad).bit (Reg.PG_EVRAW (0x0E0 + u)) 9 = true :=
  State.bit_raise_same _ _ _ (cvuPage_lt u hu) (by decide) (has_cvuPage _ u hu)

/-- END closes the frame and shows its result (R530). -/
theorem State.cvuClose_spec (hu : u < 8) (hopen : (s.cvu u).isOpen = true) :
    ((s.cvuClose u).cvu u).isOpen = false ∧
      (s.cvuClose u).rd64 (Reg.CVU_RESULT_LO u) (Reg.CVU_RESULT_HI u) = s.cvuResult u % 2 ^ 64 ∧
      (s.cvuClose u).bit (Reg.CVU_STAT u) 0 = false ∧ (s.cvuClose u).bit (Reg.PG_EVRAW (0x0E0 + u)) 9 = true ∧
      (s.cvuClose u).get (Reg.CVU_CNT u) 15 0 = min (s.get (Reg.CVU_CNT u) 15 0 + 1) 65535 := by
  obtain ⟨c, code, bad, stat, hclosed, heven, hclose⟩ := s.cvuClose_open u hopen
  rw [hclose]
  generalize hs : (s.injStep (cvuPage u) 0x10 0).useFree = t
  have hframe := cvuTally_frame (t.cvuShow u (s.cvuResult u) c stat) u code bad hu
  have hlo' := hframe.rd (Reg.CVU_RESULT_LO u) (cvuTallyReg_off u 0x078 hu (by decide) (by decide) (by decide) (by decide))
  have hhi' := hframe.rd (Reg.CVU_RESULT_HI u) (cvuTallyReg_off u 0x07c hu (by decide) (by decide) (by decide) (by decide))
  have hstat := hframe.bit (Reg.CVU_STAT u) 0 (cvuTallyReg_off u 0x080 hu (by decide) (by decide) (by decide) (by decide))
  have hlo : Reg.CVU_RESULT_LO u ≠ Reg.CVU_STAT u := header_ne _ _ _ (by decide)
  have hhi : Reg.CVU_RESULT_HI u ≠ Reg.CVU_STAT u := header_ne _ _ _ (by decide)
  refine ⟨?_, ?_, ?_, State.cvuTally_event _ u code bad hu, ?_⟩
  · rw [State.cvu, hframe.cvus, State.cvuShow, (wrN_frame _ _ _).cvus, State.wr64_eq, (wrN_frame _ _ _).cvus, (wrN_frame _ _ _).cvus]
    exact (congrArg Cvu.isOpen (t.cvu_setCvu u c)).trans hclosed
  · rw [State.rd64_congr hlo' hhi', State.cvuShow,
      State.rd64_congr (State.rd_wrN_ne _ _ _ _ hlo) (State.rd_wrN_ne _ _ _ _ hhi)]
    exact State.rd64_wr64_same _ _ _ _ (header_ne _ _ _ (by decide))
  · rw [hstat, State.cvuShow, State.bit, State.rd_wrN_same,
      BitVec.getLsbD_ofNat, Nat.testBit_zero, heven]
    rfl
  · have hcnt : t.rd (Reg.CVU_CNT u) = s.rd (Reg.CVU_CNT u) := by
      rw [← hs, State.rd_useFree]
      refine (injStep_frame s (cvuPage u) 0x10 0 (cvuPage_lt u hu)).rd _ ?_
      have hfired : Reg.CVU_CNT u ≠ Reg.INJ_FIRED := by
        unfold Reg.CVU_CNT Reg.INJ_FIRED
        omega
      have hev : eventReg (Reg.CVU_CNT u) = false := eventReg_cvu u 0x084 hu (by decide) (by decide)
      rw [injReg, hev, decide_eq_false]
      · rfl
      · exact fun h => h.elim (header_ne _ _ _ (by decide)) hfired
    have hshow : (t.cvuShow u (s.cvuResult u) c stat).rd (Reg.CVU_CNT u) = t.rd (Reg.CVU_CNT u) :=
      (State.rd_wrN_ne _ _ _ _ (header_ne _ 0x084 0x080 (by decide))).trans
        (State.rd_wr64_ne _ _ _ _ _ (header_ne _ 0x084 0x078 (by decide)) (header_ne _ 0x084 0x07c (by decide)))
    rw [State.cvuTally_count _ u code bad hu, State.get, hshow, hcnt, State.get]

end

/-- Settles O51: each command by whether a frame is open. -/
theorem checkValueUnits : Obligations.CheckValueUnits := by
  unfold Obligations.CheckValueUnits
  intro s u v hu
  have hwf : wfCvu u = true := decide_eq_true hu
  refine ⟨fun hrun => answer_eq hwf (s.cvuOpen_refused u hrun), fun hrun => ?_, fun hclosed => ?_, fun hopen => ?_,
    fun hopen => answers_eq (answer_next hwf _) (s.cvuClose_spec u hu hopen), answer_next hwf _⟩
  · have hcvu : ((s.cvuOpen u).cvu u) = { (s.cvuDiscard u).cvu u with
        isOpen := true, reg := (s.cvuDiscard u).cvuStart u, bytes := [] } := by
      rw [s.cvuOpen_runs u hrun, State.cvu, State.setBit, (put_frame _ _ _ _ _).cvus]
      exact State.cvu_setCvu _ u _
    refine answers_eq (answer_next hwf _) ?_
    rw [hcvu, s.cvuStart_cvuDiscard u hu, s.cvuOpen_runs u hrun]
    exact ⟨rfl, rfl, State.bit_setBit_same _ _ _ _ (by decide), rfl⟩
  · have hrefused := fun data => answer_eq hwf (s.cvuData_refused u data hclosed)
    simp only [List.forall_mem_cons, List.not_mem_nil, false_implies, implies_true, and_true]
    exact ⟨hrefused (leBytes 1 v.toNat), hrefused (leBytes 2 v.toNat), hrefused (leBytes 4 v.toNat),
      answer_eq hwf (s.cvuClose_refused u hclosed)⟩
  · simp only [List.forall_mem_cons, List.not_mem_nil, false_implies, implies_true, and_true]
    exact ⟨answers_eq (answer_next hwf _) (s.cvuData_spec u (leBytes 1 v.toNat) hopen),
      answers_eq (answer_next hwf _) (s.cvuData_spec u (leBytes 2 v.toNat) hopen),
      answers_eq (answer_next hwf _) (s.cvuData_spec u (leBytes 4 v.toNat) hopen)⟩

end Sys2Proof.Machine
end

section
/-!
PROOF. Fault injection (R537 to R542), up to the statement InjectionCommands.
-/
namespace Sys2Proof.Machine

theorem eventReg_PG_INJARM (p : Nat) : eventReg (Reg.PG_INJARM p) = false :=
  eventReg_header p 0x028 (by decide) (by decide)

theorem eventReg_INJ_REFUSED : eventReg Reg.INJ_REFUSED = false :=
  eventReg_block _ (by decide) (by decide) (by decide) (by decide)

theorem eventReg_INJ_STAT : eventReg Reg.INJ_STAT = false :=
  eventReg_block _ (by decide) (by decide) (by decide) (by decide)

theorem has_injectionPage (s : State) : s.has 0x005 = true := has_of_parts s 0x005 (by decide)

/-- Block registers are no header registers. -/
theorem PG_INJARM_ne (p a : Nat) (ha : 0x40 ≤ a % 0x1000) : Reg.PG_INJARM p ≠ a := by
  unfold Reg.PG_INJARM
  omega

/-! ### A write of `PG_INJARM` (R542) -/

/-- The written word with its arm bit. -/
def injWord (v : Word) (arm : Bool) : Word := (v &&& 0xFF02).setFld 0 0 arm.toNat

theorem injWord_eq (v : Word) (arm : Bool) : injWord v arm = if arm then v &&& 0xFF02 ||| 1 else v &&& 0xFF02 := by
  refine BitVec.eq_of_getLsbD_eq fun i hi => ?_
  rw [injWord, Word.getLsbD_setFld _ 0 0 _ i (by decide) (by decide)]
  cases arm with
  | false =>
    by_cases h0 : i = 0
    · subst h0
      simp
    · rw [if_neg (by omega)]
      rfl
  | true =>
    by_cases h0 : i = 0
    · subst h0
      simp
    · rw [if_neg (by omega), if_pos rfl, BitVec.getLsbD_or]
      simp [BitVec.getLsbD_one, h0]

/-- The global arm and the point that `PG_INJSEL` selects let page `p` arm. -/
def State.injMay (s : State) (p : Nat) : Bool :=
  s.bit Reg.INJ_STAT 0 && (s.rd (Reg.PG_INJSEL p)).fld 7 0 != 0 &&
    s.injListed p ((s.rd (Reg.PG_INJSEL p)).fld 7 0) ((s.rd (Reg.PG_INJSEL p)).fld 15 8)

section
variable (s : State) (p : Nat) (v : Word)

theorem State.injWrite_refused (harm : v.getLsbD 0 = true) (hmay : s.injMay p = false) :
    s.injWrite p v = (((s.wr (Reg.PG_INJARM p) (injWord v false))).count Reg.INJ_REFUSED 31 0).raise 0x005 10 := by
  unfold State.injMay at hmay
  unfold State.injWrite
  dsimp only
  rw [hmay, harm]
  simp only [Bool.and_false, Bool.not_false, Bool.and_true, State.when, Bool.false_eq_true, ↓reduceIte, injWord]

theorem State.injWrite_armed (harm : v.getLsbD 0 = true) (hmay : s.injMay p = true) :
    s.injWrite p v = (s.wr (Reg.PG_INJARM p) (injWord v true)).setInjPassed p 0 := by
  unfold State.injMay at hmay
  unfold State.injWrite
  dsimp only
  rw [hmay, harm]
  rfl

theorem State.injWrite_disarmed (harm : v.getLsbD 0 = false) :
    s.injWrite p v = s.wr (Reg.PG_INJARM p) (injWord v false) := by
  unfold State.injWrite
  dsimp only
  rw [harm]
  rfl

theorem State.injWrite_refused_spec (harm : v.getLsbD 0 = true) (hmay : s.injMay p = false) :
    (s.injWrite p v).bit (Reg.PG_INJARM p) 0 = false ∧
      (s.injWrite p v).get Reg.INJ_REFUSED 31 0 = min (s.get Reg.INJ_REFUSED 31 0 + 1) (2 ^ 32 - 1) ∧
      (s.injWrite p v).bit (Reg.PG_EVRAW 0x005) 10 = true := by
  have hne : Reg.PG_INJARM p ≠ Reg.INJ_REFUSED := PG_INJARM_ne p _ (by decide)
  rw [s.injWrite_refused p v harm hmay]
  refine ⟨?_, ?_, State.bit_raise_same _ _ _ (by decide) (by decide) (has_injectionPage _)⟩
  · rw [State.bit_raise _ _ _ _ (by decide) (eventReg_PG_INJARM p), State.bit_count_ne _ _ _ _ _ _ _ hne, State.bit,
      State.rd_wr_same, injWord_eq]
    simp
  · rw [State.get_raise _ _ _ _ (by decide) eventReg_INJ_REFUSED, State.get_count_same _ _ _ _ _ (by decide) (by decide),
      State.get_wr_ne _ _ _ _ _ _ hne.symm]

theorem State.injWrite_armed_spec (harm : v.getLsbD 0 = true) (hmay : s.injMay p = true) :
    (s.injWrite p v).rd (Reg.PG_INJARM p) = (v &&& 0xFF02 ||| 1) ∧ (s.injWrite p v).injPassedOf p = 0 ∧
      s.keepsRegs (s.injWrite p v) [Reg.PG_INJARM p] := by
  rw [s.injWrite_armed p v harm hmay, injWord_eq]
  refine ⟨State.rd_wr_same _ _ _, ?_, ((State.keepsRegs.refl s _).wr _ _ List.mem_cons_self).same fun _ => rfl⟩
  rw [State.setInjPassed, State.injPassedOf, Sparse.get_set_same]

end

/-! ### The global arm expires (R542) -/

/-- The arm bit of page `p` is cleared. -/
def State.disarm (s : State) (p : Nat) : State := s.when (s.bit (Reg.PG_INJARM p) 0) fun s => s.setBit (Reg.PG_INJARM p) 0 false

theorem State.bit_disarm (s : State) (p q : Nat) :
    (s.disarm p).bit (Reg.PG_INJARM q) 0 = (s.bit (Reg.PG_INJARM q) 0 && q != p) := by
  by_cases h : q = p
  · subst h
    rw [bne_self_eq_false, Bool.and_false]
    unfold State.disarm State.when
    split
    · exact State.bit_setBit_same _ _ _ _ (by decide)
    next hoff => exact Bool.eq_false_iff.mpr hoff
  · have hne : Reg.PG_INJARM q ≠ Reg.PG_INJARM p := by
      unfold Reg.PG_INJARM
      omega
    rw [bne_iff_ne.mpr h, Bool.and_true]
    unfold State.disarm State.when
    split
    · exact State.bit_setBit_ne _ _ _ _ _ _ hne
    · rfl

theorem State.rd_disarm (s : State) (p a : Nat) (ha : a ≠ Reg.PG_INJARM p) : (s.disarm p).rd a = s.rd a := by
  unfold State.disarm State.when
  split
  · exact State.rd_setBit_ne _ _ _ _ _ ha
  · rfl

/-- Every page of a list is disarmed. -/
theorem State.bit_each_disarm (l : List Nat) (s : State) (q : Nat) :
    (s.each l State.disarm).bit (Reg.PG_INJARM q) 0 = (s.bit (Reg.PG_INJARM q) 0 && !l.contains q) := by
  induction l generalizing s with
  | nil => simp [State.each]
  | cons p l ih =>
    refine (ih (s.disarm p)).trans ?_
    rw [s.bit_disarm p q, List.contains_cons]
    cases h : q == p <;> simp [bne, h]

theorem State.rd_each_disarm (l : List Nat) (s : State) (a : Nat) (ha : 0x40 ≤ a % 0x1000) :
    (s.each l State.disarm).rd a = s.rd a := by
  induction l generalizing s with
  | nil => rfl
  | cons p l ih => exact (ih (s.disarm p)).trans (s.rd_disarm p a (PG_INJARM_ne p a ha).symm)

theorem disarm_frame (s : State) (p : Nat) : EventFrame (fun _ => true) s (s.disarm p) :=
  EventFrame.when _ (EventFrame.refl s) (put_frame _ _ _ _ _)

theorem State.injClear_eq (s : State) (h : s.bit Reg.INJ_STAT 0 = true) : s.injClear =
    ((({ s with injEnd := none, injPassed := [] } : State).wrN Reg.INJ_STAT 0).each (List.range 256) State.disarm).raise 0x005 9 := by
  rw [State.injClear, h, Bool.not_true, if_neg Bool.false_ne_true]
  rfl

theorem State.injClear_spec (s : State) (h : s.bit Reg.INJ_STAT 0 = true) :
    s.injClear.bit Reg.INJ_STAT 0 = false ∧ s.injClear.injEnd = none ∧
      (∀ q, q < 256 → s.injClear.bit (Reg.PG_INJARM q) 0 = false) ∧ s.injClear.bit (Reg.PG_EVRAW 0x005) 9 = true := by
  rw [s.injClear_eq h]
  refine ⟨?_, ?_, fun q hq => ?_, State.bit_raise_same _ _ _ (by decide) (by decide) (has_injectionPage _)⟩
  · rw [State.bit_raise _ _ _ _ (by decide) eventReg_INJ_STAT, State.bit, State.rd_each_disarm _ _ _ (by decide), State.rd_wrN_same]
    rfl
  · rw [(raise_frame _ _ _).injEnd, (EventFrame.each _ _ disarm_frame _).injEnd, (wrN_frame _ _ _).injEnd]
  · rw [State.bit_raise _ _ _ _ (by decide) (eventReg_PG_INJARM q), State.bit_each_disarm,
      List.contains_iff_mem.mpr (List.mem_range.mpr hq), Bool.not_true, Bool.and_false]

/-! ### The log (R539) -/

theorem exec_injLogRead_empty (s : State) (h : s.injLog = []) :
    exec .injLogRead s = .next ((s.wr Reg.INJ_LOG0 0).wr64 Reg.INJ_LOG1 Reg.INJ_LOG2 0) := by
  change Host.Outcome.next _ = _
  rw [h]

theorem exec_injLogRead_cons (s : State) (w : Word) (u : Nat) (rest : List (Word × Nat)) (h : s.injLog = (w, u) :: rest) :
    exec .injLogRead s =
      .next ((({ s with injLog := rest } : State).wr Reg.INJ_LOG0 w).wr64 Reg.INJ_LOG1 Reg.INJ_LOG2 u) := by
  change Host.Outcome.next _ = _
  rw [h]

/-- What the log registers show. -/
theorem State.injLogShown (s : State) (w : Word) (u : Nat) :
    ((s.wr Reg.INJ_LOG0 w).wr64 Reg.INJ_LOG1 Reg.INJ_LOG2 u).rd Reg.INJ_LOG0 = w ∧
      ((s.wr Reg.INJ_LOG0 w).wr64 Reg.INJ_LOG1 Reg.INJ_LOG2 u).rd64 Reg.INJ_LOG1 Reg.INJ_LOG2 = u % 2 ^ 64 ∧
      s.keepsRegs ((s.wr Reg.INJ_LOG0 w).wr64 Reg.INJ_LOG1 Reg.INJ_LOG2 u) [Reg.INJ_LOG0, Reg.INJ_LOG1, Reg.INJ_LOG2] :=
  ⟨(State.rd_wr64_ne _ _ _ _ _ (by decide) (by decide)).trans (State.rd_wr_same _ _ _),
    State.rd64_wr64_same _ _ _ _ (by decide),
    ((State.keepsRegs.refl s _).wr _ _ (by decide)).wr64 _ _ _ (by decide) (by decide)⟩

/-- Settles O52: a write of `PG_INJARM` by what it may arm, the expiry, and the log. -/
theorem injectionCommands : Obligations.InjectionCommands := by
  unfold Obligations.InjectionCommands
  intro s p v hp
  have hwf : decide (p < 256) = true := decide_eq_true hp
  refine ⟨fun hhas => ?_, fun hhas harm hoff => ?_, fun hhas harm hon hsel hlist => ?_, fun hhas harm => ?_, fun hend => ?_,
    fun hend hon => ?_, fun hlog => ?_, fun w u rest hlog hu => ?_⟩
  · exact answer_eq hwf (if_neg (Bool.eq_false_iff.mp hhas))
  · have hmay : s.injMay p = false := by rw [State.injMay, hoff, Bool.false_and, Bool.false_and]
    exact answers_eq (answer_eq hwf (if_pos hhas)) (s.injWrite_refused_spec p v harm hmay)
  · have hmay : s.injMay p = true := by
      rw [State.injMay, hon, Bool.true_and, Bool.and_eq_true]
      exact ⟨bne_iff_ne.mpr hsel, hlist⟩
    exact answers_eq (answer_eq hwf (if_pos hhas)) (s.injWrite_armed_spec p v harm hmay)
  · refine answers_eq (answer_eq hwf ((if_pos hhas).trans (s.injWrite_disarmed p v harm))) ⟨?_, ?_⟩
    · rw [State.rd_wr_same, injWord_eq]
      rfl
    · exact (State.keepsRegs.refl s _).wr _ _ List.mem_cons_self
  · exact congrArg Host.Outcome.next (by rw [hend]; rfl)
  · exact answers_eq (congrArg Host.Outcome.next (if_pos hend)) (s.injClear_spec hon)
  · exact answers_eq (exec_injLogRead_empty s hlog) (s.injLogShown 0 0)
  · obtain ⟨h0, h1, hkeep⟩ := State.injLogShown { s with injLog := rest } w u
    rw [Nat.mod_eq_of_lt hu] at h1
    exact answers_eq (exec_injLogRead_cons s w u rest hlog) ⟨rfl, h0, h1, hkeep⟩

end Sys2Proof.Machine
end

section
/-!
PROOF. Device DRAM and the boot flash (R398, R572, R641), up to the statement DeviceMemoryAndFlash.
-/
namespace Sys2Proof.Machine

/-! ### Tables -/

theorem Sparse.find?_set_ne {α : Type} [DecidableEq α] (d : α) (m : List (Nat × α)) (i j : Nat) (x : α) (h : i ≠ j) :
    Sparse.find? (Sparse.set d m j x) i = Sparse.find? m i := by
  unfold Sparse.set
  split
  · exact Sparse.find?_erase_ne m i j h
  · exact Sparse.find?_insert_ne m i j x h

/-! ### Device DRAM -/

theorem State.injArmed_of_disarmed (s : State) (p point sub : Nat) (harm : s.bit (Reg.PG_INJARM p) 0 = false) :
    s.injArmed p point sub = false := by
  rw [State.injArmed, harm, Bool.and_false, Bool.false_and, Bool.false_and, Bool.false_and]

theorem State.injFires_of_disarmed (s : State) (p point sub : Nat) (harm : s.bit (Reg.PG_INJARM p) 0 = false) :
    s.injFires p point sub = false := by
  rw [State.injFires, s.injArmed_of_disarmed p point sub harm, Bool.false_and]

/-- What is written is read back. -/
theorem Memory.read_write (m : List (Nat × Byte)) (addr : Nat) (data : List Byte) :
    Memory.read (Memory.write m addr data) addr data.length = data := by
  refine List.ext_getElem ?_ fun i hi hi' => ?_
  · rw [Memory.read, List.length_map, List.length_range]
  · have hget : (Memory.read (Memory.write m addr data) addr data.length)[i] =
        Memory.byte (Memory.write m addr data) (addr + i) := by
      simp [Memory.read]
    rw [hget, Memory.byte_write_in m addr i data hi']

theorem State.dramRead_disarmed (s : State) (addr n : Nat) (harm : s.bit (Reg.PG_INJARM 0x0F0) 0 = false) :
    s.dramRead addr n = (s, some (Memory.read s.dma.dram addr n)) := by
  unfold State.dramRead
  dsimp only
  rw [s.injFires_of_disarmed 0x0F0 0x10 0 harm, s.injFires_of_disarmed 0x0F0 0x10 1 harm, s.injStep_of_disarmed 0x0F0 0x10 0 harm,
    s.injStep_of_disarmed 0x0F0 0x10 1 harm]
  rfl

/-! ### Bytes programmed into the flash -/

theorem find?_flashWrite_out (m : List (Nat × Byte)) (a b : Nat) (data : List Byte) (h : b < a ∨ a + data.length ≤ b) :
    Sparse.find? (flashWrite m a data) b = Sparse.find? m b := by
  induction data generalizing m a with
  | nil => rfl
  | cons x xs ih =>
    rw [List.length_cons] at h
    exact (ih (Sparse.set 0xFF m a x) (a + 1) (by omega)).trans (Sparse.find?_set_ne 0xFF m b a x (by omega))

theorem get_flashWrite_in (m : List (Nat × Byte)) (a j : Nat) (data : List Byte) (h : j < data.length) :
    Sparse.get 0xFF (flashWrite m a data) (a + j) = data.getD j 0 := by
  induction data generalizing m a j with
  | nil => exact absurd h (Nat.not_lt_zero j)
  | cons x xs ih =>
    change Sparse.get 0xFF (flashWrite (Sparse.set 0xFF m a x) (a + 1) xs) (a + j) = _
    cases j with
    | zero =>
      rw [Sparse.get, find?_flashWrite_out _ _ _ _ (by omega)]
      exact Sparse.get_set_same 0xFF m a x
    | succ j =>
      rw [Nat.add_comm j 1, ← Nat.add_assoc, ih _ _ j (by simpa using h), Nat.add_comm 1 j, List.getD_cons_succ]

/-! ### Recovery operations on the banks (R572) -/

section
variable (s : State) (i : Nat)

/-- The flash with bank `b` erased. -/
def State.bankErased (s : State) (b : Nat) : State :=
  { s with flash := s.flash.filter fun (e : Nat × Byte) => e.1 / bankSize != b
           flashPages := s.flashPages.filter fun p => p / (bankSize / 256) != b }

theorem recEraseBody_eq :
    recEraseBody s i = if (s.badBank || s.ownBank s.argBank) = true then refuse s 2 else accept (s.bankErased s.argBank) := rfl

theorem find?_bankErased (b a : Nat) :
    Sparse.find? (s.bankErased b).flash a = if a / bankSize = b then none else Sparse.find? s.flash a := by
  unfold State.bankErased
  split
  next h => exact Sparse.find?_filter_false s.flash _ a fun v => by rw [h]; exact bne_self_eq_false b
  next h => exact Sparse.find?_filter_true s.flash _ a fun v => bne_iff_ne.mpr h

/-- The regions of 256 bytes that a write of `len` bytes at offset `off` of bank `b` covers. -/
def flashRegions (b off len : Nat) : List Nat := (List.range (len / 256)).map fun i => (b * bankSize + off) / 256 + i

theorem mem_flashRegions (b off len p : Nat) :
    p ∈ flashRegions b off len ↔ (b * bankSize + off) / 256 ≤ p ∧ p < (b * bankSize + off) / 256 + len / 256 := by
  simp only [flashRegions, List.mem_map, List.mem_range]
  constructor
  · rintro ⟨k, hk, rfl⟩
    omega
  · rintro ⟨hlow, hhigh⟩
    exact ⟨p - (b * bankSize + off) / 256, by omega, by omega⟩

/-- A write of `data` at offset `off` of bank `b`. -/
def State.bankWritten (s : State) (b off len : Nat) (data : List Byte) : State :=
  { s with flash := flashWrite s.flash (b * bankSize + off) ((data ++ List.replicate len 0).take len)
           flashPages := flashRegions b off len ++ s.flashPages }

/-- What a write is refused for: its bank, its place and length, and regions written since they were erased. -/
def State.writeRefused (s : State) : Bool :=
  s.badBank || s.ownBank s.argBank || (s.arg 2).toNat % 256 ≠ 0 || (s.arg 5).toNat % 256 ≠ 0 || (s.arg 5).toNat < 256 ||
    65536 < (s.arg 5).toNat || bankSize < (s.arg 2).toNat + (s.arg 5).toNat ||
    (flashRegions s.argBank (s.arg 2).toNat (s.arg 5).toNat).any fun p => s.flashPages.contains p

theorem recWriteBody_eq (data : List Byte) :
    recWriteBody data s i = if s.writeRefused = true then refuse s 2
      else accept (s.bankWritten s.argBank (s.arg 2).toNat (s.arg 5).toNat data) := rfl

theorem State.writeRefused_iff : s.writeRefused = true ↔
    s.badBank = true ∨ s.ownBank s.argBank = true ∨ (s.arg 2).toNat % 256 ≠ 0 ∨ (s.arg 5).toNat % 256 ≠ 0 ∨
      (s.arg 5).toNat < 256 ∨ 65536 < (s.arg 5).toNat ∨ bankSize < (s.arg 2).toNat + (s.arg 5).toNat ∨
      ∃ p ∈ s.flashPages, (s.argBank * bankSize + (s.arg 2).toNat) / 256 ≤ p ∧
        p < (s.argBank * bankSize + (s.arg 2).toNat) / 256 + (s.arg 5).toNat / 256 := by
  simp only [State.writeRefused, Bool.or_eq_true, decide_eq_true_eq, List.any_eq_true, List.contains_iff_mem, mem_flashRegions,
    or_assoc, and_comm]

/-- A written region holds its data, and no other byte changes. -/
theorem State.bankWritten_spec (b off : Nat) (data : List Byte) :
    (∀ j, j < data.length → Sparse.get 0xFF (s.bankWritten b off data.length data).flash (b * bankSize + off + j) =
      data.getD j 0) ∧
      ∀ a, (a < b * bankSize + off ∨ b * bankSize + off + data.length ≤ a) →
        Sparse.find? (s.bankWritten b off data.length data).flash a = Sparse.find? s.flash a := by
  unfold State.bankWritten
  rw [List.take_left' rfl]
  exact ⟨fun j hj => get_flashWrite_in _ _ j data hj, fun a ha => find?_flashWrite_out _ _ a data ha⟩

theorem recSelectBody_eq (ok : Bool) (hbank : s.badBank = false) : recSelectBody ok s i =
    if s.imageCode s.argBank true ok ≠ 0 then (s, some (10, [BitVec.ofNat 32 (s.imageCode s.argBank true ok)]))
    else accept (s.put Reg.BOOT_SEL 0 0 s.argBank) [0] := by
  unfold recSelectBody
  dsimp only
  rw [hbank, if_neg Bool.false_ne_true]

theorem recRestartBody_eq (ok : Bool) : recRestartBody ok s i =
    if s.imageCode (s.get Reg.BOOT_SEL 0 0) true ok ≠ 0 then
      (s, some (10, [BitVec.ofNat 32 (s.imageCode (s.get Reg.BOOT_SEL 0 0) true ok)]))
    else accept ((s.put Reg.BOOT_SEL 9 8 0).setPower { (s.put Reg.BOOT_SEL 9 8 0).power with recDue := true }) := rfl

end

/-- Settles O38: reads after writes of device DRAM, and the recovery operations by what they refuse. -/
theorem deviceMemoryAndFlash : Obligations.DeviceMemoryAndFlash := by
  unfold Obligations.DeviceMemoryAndFlash
  refine ⟨fun s addr data => ?_, fun s i data ok => ?_⟩
  · exact ⟨Memory.read_write _ _ _, fun a ha => Memory.byte_write_out _ _ _ _ ha, fun h => Memory.wf_write _ _ _ h, rfl,
      fun _ => rfl, fun harm => s.dramRead_disarmed addr _ harm⟩
  refine ⟨fun hbank hown => ?_, fun h => ?_, fun h => ?_, fun h => ?_, fun hbank hown hoff hlen hmin hmax hfit hdata hfresh => ?_,
    fun hbank => ?_, fun hbank => ?_, fun hbank code hcode => ?_, fun code hcode => ?_⟩
  · refine ⟨s.bankErased s.argBank, ?_, rfl, find?_bankErased s s.argBank⟩
    rw [recEraseBody_eq, hbank, hown]
    rfl
  · have hrefused : s.writeRefused = true := s.writeRefused_iff.mpr (h.imp_right Or.inl)
    exact ⟨(recEraseBody_eq s i).trans (if_pos (by rwa [Bool.or_eq_true])), (recWriteBody_eq s i data).trans (if_pos hrefused)⟩
  · have hrefused : s.writeRefused = true := s.writeRefused_iff.mpr (.inr (.inr (h.imp_right (·.imp_right (·.imp_right Or.inl)))))
    exact (recWriteBody_eq s i data).trans (if_pos hrefused)
  · have hrefused : s.writeRefused = true := s.writeRefused_iff.mpr (.inr (.inr (.inr (.inr (.inr (.inr (.inr h)))))))
    exact (recWriteBody_eq s i data).trans (if_pos hrefused)
  · have haccepted : ¬ s.writeRefused = true := by
      rw [s.writeRefused_iff, hbank, hown]
      rintro (h | h | h | h | h | h | h | ⟨p, hp, hlow, hhigh⟩)
      · exact Bool.false_ne_true h
      · exact Bool.false_ne_true h
      · exact h hoff
      · exact h hlen
      · omega
      · omega
      · omega
      · have := hfresh p hp
        omega
    refine ⟨_, (recWriteBody_eq s i data).trans (if_neg haccepted), rfl, ?_⟩
    rw [← hdata]
    exact s.bankWritten_spec s.argBank (s.arg 2).toNat data
  · exact ⟨if_pos hbank, if_pos hbank⟩
  · exact if_neg (Bool.eq_false_iff.mp hbank)
  · rw [recSelectBody_eq s i ok hbank, hcode]
    by_cases h0 : code = 0
    · refine ⟨s.put Reg.BOOT_SEL 0 0 s.argBank, (State.keepsRegs.refl s _).put _ _ _ _ List.mem_cons_self, ?_⟩
      rw [if_pos h0, if_neg (not_not_intro h0)]
      exact ⟨rfl, State.get_put_same _ _ _ _ _ (by decide) (by decide)⟩
    · refine ⟨s, State.keepsRegs.refl s _, ?_⟩
      rw [if_neg h0, if_pos h0]
      exact ⟨rfl, rfl⟩
  · rw [recRestartBody_eq s i ok, hcode]
    by_cases h0 : code = 0
    · refine ⟨(s.put Reg.BOOT_SEL 9 8 0).setPower { (s.put Reg.BOOT_SEL 9 8 0).power with recDue := true },
        ((State.keepsRegs.refl s _).put _ _ _ _ List.mem_cons_self).same fun _ => rfl, ?_⟩
      rw [if_pos h0, if_neg (not_not_intro h0)]
      exact ⟨rfl, rfl, State.get_put_same s _ _ _ 0 (by decide) (by decide)⟩
    · refine ⟨s, State.keepsRegs.refl s _, ?_⟩
      rw [if_neg h0, if_pos h0]
      exact ⟨rfl, rfl⟩

end Sys2Proof.Machine
end

section
/-!
PROOF. The life store and the scrubbing of device DRAM (R580 to R591, R642), up to the statement LifeStore.
-/
namespace Sys2Proof.Machine

theorem has_lifePage (s : State) : s.has 0x004 = true := has_of_parts s 0x004 (by decide)
theorem has_dramPage (s : State) : s.has 0x0F0 = true := has_of_parts s 0x0F0 (by decide)

theorem eventReg_LIFE_STAT : eventReg Reg.LIFE_STAT = false :=
  eventReg_block _ (by decide) (by decide) (by decide) (by decide)

theorem eventReg_LIFE_ECC : eventReg Reg.LIFE_ECC = false :=
  eventReg_block _ (by decide) (by decide) (by decide) (by decide)

theorem wr64_frame (s : State) (lo hi v : Nat) : EventFrame (fun _ => true) s (s.wr64 lo hi v) :=
  (wrN_frame s lo v).trans (wrN_frame _ hi _)

/-- What no item of a list changes. -/
theorem State.each_same {α β : Type} (g : State → β) (f : State → α → State) (hf : ∀ s x, g (f s x) = g s) (l : List α) (s : State) :
    g (s.each l f) = g s := by
  induction l generalizing s with
  | nil => rfl
  | cons x l ih => exact (ih (f s x)).trans (hf s x)

/-! ### Scrubbing of device DRAM (R642) -/

section
variable (s : State)

theorem State.scrub_idle (corr : Nat) (bad : List Nat) (h : s.halted = true ∨ s.feather = true ∨ s.get Reg.DRAM_SCRUB 7 0 = 0) :
    s.scrub corr bad = s := by
  refine if_pos ?_
  obtain h | h | h := h <;> simp [h]

variable (hrun : s.halted = false) (hpower : s.feather = false) (hon : s.get Reg.DRAM_SCRUB 7 0 ≠ 0)
include hrun hpower hon

theorem State.scrub_runs (corr : Nat) (bad : List Nat) : s.scrub corr bad =
    (s.when (corr != 0) fun s => (s.count Reg.DRAM_ECC 15 0 corr).raise 0x0F0 8).each bad
      fun s a => ((s.count Reg.DRAM_ECC 31 16).wr64 Reg.DRAM_EADDR_LO Reg.DRAM_EADDR_HI a).raise 0x0F0 9 := by
  refine if_neg ?_
  simp [hrun, hpower, hon]

theorem State.scrub_corrected (corr : Nat) (hcorr : corr ≠ 0) :
    (s.scrub corr []).get Reg.DRAM_ECC 15 0 = min (s.get Reg.DRAM_ECC 15 0 + corr) 65535 ∧
      (s.scrub corr []).bit (Reg.PG_EVRAW 0x0F0) 8 = true ∧ (s.scrub corr []).dma = s.dma := by
  have hscrub : s.scrub corr [] = (s.count Reg.DRAM_ECC 15 0 corr).raise 0x0F0 8 :=
    (s.scrub_runs hrun hpower hon corr []).trans (if_pos (bne_iff_ne.mpr hcorr))
  rw [hscrub, State.get_raise _ _ _ _ (by decide) (by decide), (raise_frame _ _ _).dma, (count_frame _ _ _ _ _).dma]
  exact ⟨State.get_count_same _ _ _ _ _ (by decide) (by decide),
    State.bit_raise_same _ _ _ (by decide) (by decide) (has_dramPage _), rfl⟩

theorem State.scrub_uncorrected (addr : Nat) (haddr : addr < 2 ^ 64) :
    (s.scrub 0 [addr]).get Reg.DRAM_ECC 31 16 = min (s.get Reg.DRAM_ECC 31 16 + 1) 65535 ∧
      (s.scrub 0 [addr]).rd64 Reg.DRAM_EADDR_LO Reg.DRAM_EADDR_HI = addr ∧
      (s.scrub 0 [addr]).bit (Reg.PG_EVRAW 0x0F0) 9 = true ∧ (s.scrub 0 [addr]).dma = s.dma := by
  have hscrub : s.scrub 0 [addr] =
      ((s.count Reg.DRAM_ECC 31 16).wr64 Reg.DRAM_EADDR_LO Reg.DRAM_EADDR_HI addr).raise 0x0F0 9 :=
    s.scrub_runs hrun hpower hon 0 [addr]
  rw [hscrub, State.get_raise _ _ _ _ (by decide) (by decide), State.rd64_raise _ _ _ _ _ (by decide) (by decide) (by decide),
    (raise_frame _ _ _).dma, (wr64_frame _ _ _ _).dma, (count_frame _ _ _ _ _).dma]
  refine ⟨?_, ?_, State.bit_raise_same _ _ _ (by decide) (by decide) (has_dramPage _), rfl⟩
  · rw [State.get, State.rd_wr64_ne _ _ _ _ _ (by decide) (by decide)]
    exact State.get_count_same _ _ _ _ _ (by decide) (by decide)
  · rw [State.rd64_wr64_same _ _ _ _ (by decide), Nat.mod_eq_of_lt haddr]

end

/-! ### Journals (R580) -/

section
variable (s : State) (j : Nat)

/-- The journals under compaction, and the flag that shows them. -/
def State.withCompacting (s : State) (l : List Nat) (busy : Bool) : State :=
  ({ s with compacting := l } : State).setBit Reg.LIFE_STAT 1 busy

theorem State.withCompacting_spec (l : List Nat) (busy : Bool) :
    (s.withCompacting l busy).compacting = l ∧ (s.withCompacting l busy).bit Reg.LIFE_STAT 1 = busy ∧
      s.keepsRegs (s.withCompacting l busy) [Reg.LIFE_STAT] :=
  ⟨(put_frame _ _ _ _ _).compacting, State.bit_setBit_same _ _ _ _ (by decide),
    ((State.keepsRegs.refl s _).same fun _ => rfl).setBit _ _ _ (by decide)⟩

theorem exec_journalCompactionStart (hj : j < 2) : exec (.journalCompactionStart j) s =
    .next (s.withCompacting (if s.compacting.contains j then s.compacting else s.compacting ++ [j]) true) :=
  answer_next (decide_eq_true hj) _

theorem exec_journalCompactionEnd_none (hj : j < 2) (h : j ∉ s.compacting) : exec (.journalCompactionEnd j) s = .next s :=
  answer_eq (decide_eq_true hj) (if_neg fun e => h (List.contains_iff_mem.mp e))

theorem exec_journalCompactionEnd_some (hj : j < 2) (h : j ∈ s.compacting) : exec (.journalCompactionEnd j) s =
    .next ((s.withCompacting (s.compacting.filter fun x => x != j) (!(s.compacting.filter fun x => x != j).isEmpty)).raise
      0x004 12) :=
  answer_eq (decide_eq_true hj) (if_pos (List.contains_iff_mem.mpr h))

end

/-! ### Totals (R581) -/

section
variable (s : State)

/-- A minute of operation is counted, unless domain D is held cleared. -/
def State.opMinute (s : State) : State :=
  s.when (!s.power.held) fun s => ({ s with power := { s.power with opSec := 0 } } : State).wr64 Reg.LIFE_OPSEC_LO
    Reg.LIFE_OPSEC_HI (s.rd64 Reg.LIFE_OPSEC_LO Reg.LIFE_OPSEC_HI + 60)

/-- The totals of the channels in use and of the load switches. -/
def State.flushTotals (s : State) : State :=
  (s.each (s.channels.filter fun k => s.chState k != 0) State.lifeFlushCh).each (List.range 16) State.lifeFlushLs

theorem exec_lifeTotalsFlush : exec .lifeTotalsFlush s = .next s.opMinute.flushTotals := rfl

theorem State.rd_flushTotals (a : Nat) : s.flushTotals.rd a = s.rd a :=
  (State.each_same (·.rd a) State.lifeFlushLs (fun _ _ => rfl) _ _).trans
    (State.each_same (·.rd a) State.lifeFlushCh (fun _ _ => rfl) _ s)

theorem State.regs_flushTotals : s.flushTotals.regs = s.regs :=
  (State.each_same State.regs State.lifeFlushLs (fun _ _ => rfl) _ _).trans
    (State.each_same State.regs State.lifeFlushCh (fun _ _ => rfl) _ s)

theorem State.opMinute_held (h : s.power.held = true) : s.opMinute = s := if_neg (by rw [h]; decide)

theorem State.opMinute_runs (h : s.power.held = false) : s.opMinute =
    ({ s with power := { s.power with opSec := 0 } } : State).wr64 Reg.LIFE_OPSEC_LO Reg.LIFE_OPSEC_HI
      (s.rd64 Reg.LIFE_OPSEC_LO Reg.LIFE_OPSEC_HI + 60) := if_pos (by rw [h]; decide)

theorem State.lifeTotals_spec (h : s.power.held = false) :
    s.opMinute.flushTotals.rd64 Reg.LIFE_OPSEC_LO Reg.LIFE_OPSEC_HI =
      (s.rd64 Reg.LIFE_OPSEC_LO Reg.LIFE_OPSEC_HI + 60) % 2 ^ 64 ∧
      s.keepsRegs s.opMinute.flushTotals [Reg.LIFE_OPSEC_LO, Reg.LIFE_OPSEC_HI] := by
  constructor
  · rw [State.rd64_congr (State.rd_flushTotals _ _) (State.rd_flushTotals _ _), s.opMinute_runs h]
    exact State.rd64_wr64_same _ _ _ _ (by decide)
  · refine State.keepsRegs.same ?_ (State.rd_flushTotals _)
    rw [s.opMinute_runs h]
    exact ((State.keepsRegs.refl s _).same fun _ => rfl).wr64 _ _ _ (by decide) (by decide)

/-- The hourly flush changes at most the last valid seconds. -/
theorem State.hourly_spec :
    s.keepsRegs (s.lifeLastSec.each (List.range 39) State.lifeFlushLink) [Reg.LIFE_LASTSEC_LO, Reg.LIFE_LASTSEC_HI] ∧
      (s.bit Reg.TB_STAT 8 = false → (s.lifeLastSec.each (List.range 39) State.lifeFlushLink).regs = s.regs) := by
  have hlast : s.keepsRegs s.lifeLastSec [Reg.LIFE_LASTSEC_LO, Reg.LIFE_LASTSEC_HI] := by
    unfold State.lifeLastSec State.when
    split
    · exact (State.keepsRegs.refl s _).wr64 _ _ _ (by decide) (by decide)
    · exact State.keepsRegs.refl s _
  refine ⟨hlast.same fun a => State.each_same (·.rd a) State.lifeFlushLink (fun _ _ => rfl) _ _, fun h => ?_⟩
  refine (State.each_same State.regs State.lifeFlushLink (fun _ _ => rfl) _ _).trans ?_
  exact congrArg State.regs (if_neg (Bool.eq_false_iff.mp h) : s.lifeLastSec = s)

/-! ### Errors met by reads of the store (R584) -/

theorem State.lifeReadEcc_disarmed (corr uncorr : Nat) (harm : s.bit (Reg.PG_INJARM 0x004) 0 = false) :
    s.lifeReadEcc corr uncorr = s.lifeErrors corr uncorr := by
  rw [State.lifeReadEcc, s.injFires_of_disarmed 0x004 0x10 0 harm, s.injFires_of_disarmed 0x004 0x10 1 harm,
    s.injStep_of_disarmed 0x004 0x10 0 harm, s.injStep_of_disarmed 0x004 0x10 1 harm]
  rfl

theorem State.lifeErrors_none : s.lifeErrors 0 0 = s := rfl

theorem State.lifeErrors_uncorrected (uncorr : Nat) (h : 0 < uncorr) :
    (s.lifeErrors 0 uncorr).get Reg.LIFE_ECC 31 16 = min (s.get Reg.LIFE_ECC 31 16 + uncorr) 65535 ∧
      (s.lifeErrors 0 uncorr).bit (Reg.PG_EVRAW 0x004) 9 = true := by
  have herr : s.lifeErrors 0 uncorr = (s.count Reg.LIFE_ECC 31 16 uncorr).raise 0x004 9 :=
    if_pos (bne_iff_ne.mpr (Nat.ne_of_gt h))
  rw [herr, State.get_raise _ _ _ _ (by decide) eventReg_LIFE_ECC]
  exact ⟨State.get_count_same _ _ _ _ _ (by decide) (by decide),
    State.bit_raise_same _ _ _ (by decide) (by decide) (has_lifePage _)⟩

/-! ### Leap seconds (R583) -/

/-- The entry before the selected one is not earlier than the second in the window. -/
def State.leapLow (s : State) : Bool :=
  match Sparse.find? s.leaps (s.lifeIdx - 1) with
  | some e => 0 < s.lifeIdx && decide (s.rd64 Reg.LIFE_LEAP_SEC_LO Reg.LIFE_LEAP_SEC_HI ≤ e.1)
  | none => false

theorem State.leapWrite_eq : s.leapWrite =
    if (64 ≤ s.lifeIdx || s.leapLow) = true then s.raise 0x004 11
    else if s.bit Reg.LIFE_LEAP_OFS 31 = true then
      { s with leaps := Sparse.insert s.leaps s.lifeIdx
                (s.rd64 Reg.LIFE_LEAP_SEC_LO Reg.LIFE_LEAP_SEC_HI, s.getI Reg.LIFE_LEAP_OFS 15 0) }
    else { s with leaps := Sparse.erase s.leaps s.lifeIdx } := rfl

theorem State.leapLow_first (h : s.lifeIdx = 0) : s.leapLow = false := by
  unfold State.leapLow
  rw [h]
  split
  · rfl
  · rfl

theorem State.leapLow_of_before (e : Nat × Int) (hidx : 0 < s.lifeIdx) (he : Sparse.find? s.leaps (s.lifeIdx - 1) = some e)
    (hsec : s.rd64 Reg.LIFE_LEAP_SEC_LO Reg.LIFE_LEAP_SEC_HI ≤ e.1) : s.leapLow = true := by
  rw [State.leapLow, he]
  simp [hidx, hsec]

/-- The window as a read of an entry leaves it. -/
def State.leapShown (s : State) (sec : Nat) (ofs : Int) (ok : Bool) : State :=
  (s.wr64 Reg.LIFE_LEAP_SEC_LO Reg.LIFE_LEAP_SEC_HI sec).wrN Reg.LIFE_LEAP_OFS (Word.unsigned 16 ofs + 2 ^ 31 * ok.toNat)

theorem exec_leapRead_none (h : Sparse.find? s.leaps s.lifeIdx = none) : exec .leapRead s = .next (s.leapShown 0 0 false) := by
  change Host.Outcome.next _ = _
  rw [h]
  rfl

theorem exec_leapRead_some (e : Nat × Int) (h : Sparse.find? s.leaps s.lifeIdx = some e) :
    exec .leapRead s = .next (s.leapShown e.1 e.2 true) := by
  change Host.Outcome.next _ = _
  rw [h]
  rfl

theorem State.leapShown_spec (sec : Nat) (ofs : Int) (ok : Bool) :
    (s.leapShown sec ofs ok).rd64 Reg.LIFE_LEAP_SEC_LO Reg.LIFE_LEAP_SEC_HI = sec % 2 ^ 64 ∧
      (s.leapShown sec ofs ok).rd Reg.LIFE_LEAP_OFS = BitVec.ofNat 32 (Word.unsigned 16 ofs + 2 ^ 31 * ok.toNat) := by
  refine ⟨?_, State.rd_wrN_same _ _ _⟩
  rw [State.leapShown, State.rd64_congr (State.rd_wrN_ne _ _ _ _ (by decide)) (State.rd_wrN_ne _ _ _ _ (by decide))]
  exact State.rd64_wr64_same _ _ _ _ (by decide)

/-- A valid entry shows its flag above the offset. -/
theorem leapFlag (ofs : Int) : (BitVec.ofNat 32 (Word.unsigned 16 ofs + 2 ^ 31 * true.toNat)).getLsbD 31 = true := by
  have hofs : Word.unsigned 16 ofs < 2 ^ 16 := by
    unfold Word.unsigned
    omega
  have hdiv : (Word.unsigned 16 ofs + 2 ^ 31 * true.toNat) / 2 ^ 31 = 1 := by
    rw [Bool.toNat_true]
    omega
  rw [BitVec.getLsbD_ofNat, Nat.testBit_eq_decide_div_mod_eq, hdiv]
  decide

/-! ### The crumb area and the summary window (R585, R591) -/

/-- The window after a read of its word. -/
theorem State.lifeWin_addr : s.lifeWin.get Reg.LIFE_WIN_ADDR 11 0 = (s.get Reg.LIFE_WIN_ADDR 11 0 + 1) % 4096 := by
  have hsmall : (s.get Reg.LIFE_WIN_ADDR 11 0 + 1) % 4096 < 4096 := Nat.mod_lt _ (by decide)
  refine (State.get_wrN_same _ _ _ _ _ (by omega)).trans ?_
  rw [Nat.pow_zero, Nat.div_one]
  exact Nat.mod_eq_of_lt hsmall

theorem State.lifeWin_data (harm : s.bit (Reg.PG_INJARM 0x004) 0 = false) :
    s.lifeWin.rd Reg.LIFE_WIN_DATA =
      if s.lifeSet = 4 then (Sparse.get {} s.crumbs (s.lifeIdx % 8)).words.getD (s.get Reg.LIFE_WIN_ADDR 11 0) 0 else 0 := by
  refine (State.rd_wrN_ne _ _ _ _ (by decide)).trans ?_
  rw [State.rd_wr_same, s.injFires_of_disarmed 0x004 0x10 1 harm, if_neg Bool.false_ne_true]

end

/-- Settles O55: each event of the life store by the state that it finds. -/
theorem lifeStore : Obligations.LifeStore := by
  unfold Obligations.LifeStore
  intro s corr uncorr j addr bad v hj
  refine ⟨fun h => congrArg Host.Outcome.next (s.scrub_idle corr bad h), fun hrun hpower hon hcorr => ?_,
    fun hrun hpower hon haddr => ?_, ?_, exec_journalCompactionEnd_none s j hj, fun h => ?_, ?_, ?_, fun h => ?_,
    fun hrun hpower harm hpos => ?_, fun harm => ?_, fun hidx => ?_, fun hidx hvalid => ?_, fun e hidx he hsec => ?_, fun h => ?_,
    fun sec ofs h hsec => ?_, ?_, ?_, ?_, ?_, fun harm => ?_⟩
  · exact answers_next (s.scrub_corrected hrun hpower hon corr hcorr)
  · exact answers_next (s.scrub_uncorrected hrun hpower hon addr haddr)
  · obtain ⟨hlist, hbit, hkeep⟩ := s.withCompacting_spec
      (if s.compacting.contains j then s.compacting else s.compacting ++ [j]) true
    refine answers_eq (exec_journalCompactionStart s j hj) ⟨?_, hbit, hkeep⟩
    rw [hlist]
    split
    next h => exact List.contains_iff_mem.mp h
    next => exact List.mem_append_right _ List.mem_cons_self
  · obtain ⟨hlist, hbit, -⟩ := s.withCompacting_spec (s.compacting.filter fun x => x != j)
      (!(s.compacting.filter fun x => x != j).isEmpty)
    refine answers_eq (exec_journalCompactionEnd_some s j hj h)
      ⟨?_, ?_, State.bit_raise_same _ _ _ (by decide) (by decide) (has_lifePage _)⟩
    · rw [(raise_frame _ _ _).compacting, hlist]
      simp
    · rw [State.bit_raise _ _ _ _ (by decide) eventReg_LIFE_STAT, (raise_frame _ _ _).compacting, hbit,
        hlist]
  · refine answers_eq (exec_lifeTotalsFlush s) ⟨fun h => ?_, s.lifeTotals_spec⟩
    rw [State.regs_flushTotals, s.opMinute_held h]
  · exact answers_next s.hourly_spec
  · exact congrArg Host.Outcome.next (if_pos (by rwa [Bool.or_eq_true]))
  · refine answers_eq (congrArg Host.Outcome.next (if_neg (by rw [hrun, hpower]; decide))) ?_
    rw [s.lifeReadEcc_disarmed 0 uncorr harm]
    exact s.lifeErrors_uncorrected uncorr hpos
  · refine congrArg Host.Outcome.next ?_
    split
    · rfl
    · rw [s.lifeReadEcc_disarmed 0 0 harm, s.lifeErrors_none]
  · exact congrArg Host.Outcome.next (s.leapWrite_eq.trans (if_pos (by rw [decide_eq_true hidx, Bool.true_or])))
  · refine answers_eq (congrArg Host.Outcome.next (s.leapWrite_eq.trans
      ((if_neg (by rw [s.leapLow_first hidx, hidx]; decide)).trans (if_pos hvalid)))) ⟨?_, rfl⟩
    rw [hidx]
    exact Sparse.find?_insert_same _ _ _
  · exact congrArg Host.Outcome.next (s.leapWrite_eq.trans
      (if_pos (by rw [s.leapLow_of_before e hidx he hsec, Bool.or_true])))
  · exact answers_eq (exec_leapRead_none s h) (s.leapShown_spec 0 0 false)
  · obtain ⟨hshown, hflag⟩ := s.leapShown_spec sec ofs true
    rw [Nat.mod_eq_of_lt hsec] at hshown
    refine answers_eq (exec_leapRead_some s (sec, ofs) h) ⟨hshown, ?_⟩
    rw [State.bit, hflag]
    exact leapFlag ofs
  · exact answers_next ⟨rfl, rfl⟩
  · simp only [List.forall_mem_cons, List.not_mem_nil, false_implies, implies_true, and_true]
    exact ⟨answer_next rfl _, answer_next rfl _⟩
  · exact answer_next rfl _
  · exact answers_next s.lifeWin_addr
  · exact answers_next (s.lifeWin_data harm)

end Sys2Proof.Machine
end

section
/-!
PROOF. The tables of the switch core (R412, R413, R418, R429, R432 to R434), up to the statements MacAndVlanTables and
MeterOperations.
-/
namespace Sys2Proof.Machine

theorem setSw_rd (s : State) (w : Switch) (a : Nat) : (s.setSw w).rd a = s.rd a := rfl

/-! ### A table op by the state of its page (R429) -/

section
variable (s : State) (p : Nat) (f : State → State)

theorem State.tableOp_absent (hhas : s.has p = false) : s.tableOp p f = s := by
  rw [State.tableOp, hhas, Bool.not_false, if_pos rfl]

theorem State.tableOp_unsettled (hhas : s.has p = true) (hset : s.settled p = false) : s.tableOp p f = s.raise p 1 := by
  rw [State.tableOp, hhas, hset, Bool.not_true, if_neg Bool.false_ne_true, if_neg Bool.false_ne_true]

theorem State.tableOp_settled (hhas : s.has p = true) (hset : s.settled p = true) : s.tableOp p f = f s := by
  rw [State.tableOp, hhas, hset, Bool.not_true, if_neg Bool.false_ne_true, if_pos rfl]

end

/-! ### The MAC table (R412, R432) -/

theorem State.sw_macDone (s : State) (st : Nat) : (s.macDone st).sw = s.sw := (wrN_frame _ _ _).sw

theorem State.status_macDone (s : State) (st : Nat) (hst : st < 256) : (s.macDone st).get Reg.MAC_STAT 15 8 = st := by
  rw [State.macDone, State.get_wrN_same _ _ _ _ _ (by omega)]
  omega

theorem State.rd_macDone (s : State) (st a : Nat) (ha : a ≠ Reg.MAC_STAT) : (s.macDone st).rd a = s.rd a :=
  State.rd_wrN_ne _ _ _ _ ha

theorem State.macDone_refused (s : State) (st : Nat) (hst : st < 256) :
    (s.macDone st).get Reg.MAC_STAT 15 8 = st ∧ (s.macDone st).sw = s.sw := ⟨s.status_macDone st hst, s.sw_macDone st⟩

theorem State.macs_setMacs (s : State) (l : List MacEnt) : (s.setMacs l).sw.macs = l := by
  rw [State.setMacs]
  dsimp only
  rw [(wrN_frame _ _ _).sw]
  rfl

/-- The table with other entries, its op completed. -/
theorem State.setMacs_done (s : State) (l : List MacEnt) :
    ((s.setMacs l).macDone 0).sw.macs = l ∧ ((s.setMacs l).macDone 0).get Reg.MAC_STAT 15 8 = 0 :=
  ⟨by rw [State.sw_macDone, State.macs_setMacs], State.status_macDone _ 0 (by decide)⟩

theorem State.macFind_of_macs (t : State) (l : List MacEnt) (h : t.sw.macs = l) (mac vid : Nat) :
    t.macFind mac vid = l.find? fun e => e.mac == mac && e.vid == vid := by
  rw [State.macFind, h]

/-- The entry that ADD makes of the registers. -/
def State.macNew (s : State) : MacEnt :=
  { mac := s.keyMac, vid := s.keyVid, mask := s.get Reg.MAC_DATA 21 0, static := true, discard := s.bit Reg.MAC_DATA 23
    mtr := s.rd Reg.MAC_MTR &&& 0x8FFF, seen := s.tbSec }

/-- The entries with those of the key of `e` replaced. -/
def macReplaced (l : List MacEnt) (e : MacEnt) : List MacEnt := l.map fun x => if x.mac = e.mac ∧ x.vid = e.vid then e else x

theorem find?_macReplaced (l : List MacEnt) (e : MacEnt) (h : (l.find? fun x => x.mac == e.mac && x.vid == e.vid).isSome = true) :
    ((macReplaced l e).find? fun x => x.mac == e.mac && x.vid == e.vid) = some e := by
  induction l with
  | nil => exact absurd h (by simp)
  | cons x l ih =>
    by_cases hkey : x.mac = e.mac ∧ x.vid = e.vid
    · simp [macReplaced, hkey]
    · have hother : (x.mac == e.mac && x.vid == e.vid) = false := by
        rw [Bool.and_eq_false_iff, beq_eq_false_iff_ne, beq_eq_false_iff_ne]
        exact Classical.not_and_iff_not_or_not.mp hkey
      rw [List.find?_cons, hother] at h
      rw [macReplaced, List.map_cons, if_neg hkey, List.find?_cons, hother]
      exact ih h

section
variable (s : State)

theorem State.macAdd_badVid (h : goodVid s.keyVid = false) : s.macAdd = s.macDone 3 := if_pos (by rw [h]; rfl)

section
variable (hvid : goodVid s.keyVid = true)
include hvid

theorem State.macAdd_goodVid : s.macAdd =
    match s.macFind s.keyMac s.keyVid with
    | some _ => (s.macPut s.macNew).macDone 0
    | none => if s.sw.macs.length < 16384 then (s.setMacs (s.sw.macs ++ [s.macNew])).macDone 0 else s.macDone 1 :=
  (if_neg (by rw [hvid]; decide)).trans rfl

theorem State.macAdd_new (hfind : s.macFind s.keyMac s.keyVid = none) (hroom : s.sw.macs.length < 16384) :
    s.macAdd = (s.setMacs (s.sw.macs ++ [s.macNew])).macDone 0 := by
  rw [s.macAdd_goodVid hvid, hfind]
  exact if_pos hroom

theorem State.macAdd_full (hfind : s.macFind s.keyMac s.keyVid = none) (hfull : 16384 ≤ s.sw.macs.length) :
    s.macAdd = s.macDone 1 := by
  rw [s.macAdd_goodVid hvid, hfind]
  exact if_neg (Nat.not_lt.mpr hfull)

theorem State.macAdd_replaces (hfind : (s.macFind s.keyMac s.keyVid).isSome = true) :
    s.macAdd = (s.setMacs (macReplaced s.sw.macs s.macNew)).macDone 0 := by
  obtain ⟨e, he⟩ := Option.isSome_iff_exists.mp hfind
  rw [s.macAdd_goodVid hvid, he]
  rfl

end

/-- The state with an entry shown, before the free value of its age. -/
theorem State.macShow_spec (e : MacEnt) :
    (s.macShow e).sw = s.sw ∧ (s.macShow e).rd Reg.MAC_MTR = e.mtr ∧
      (∀ a, a ≠ Reg.MAC_DATA → a ≠ Reg.MAC_MTR → (s.macShow e).rd a = s.rd a) ∧
      (e.mask < 2 ^ 22 → (s.macShow e).get Reg.MAC_DATA 21 0 = e.mask ∧ (s.macShow e).bit Reg.MAC_DATA 22 = e.static ∧
        (s.macShow e).bit Reg.MAC_DATA 23 = e.discard) := by
  have hdata : (s.macShow e).rd Reg.MAC_DATA =
      Word.setFld (BitVec.ofNat 32 (e.mask + 2 ^ 22 * e.static.toNat + 2 ^ 23 * e.discard.toNat + 2 ^ 24)) 31 28
        (s.useFree.freeWord.fld 3 0) :=
    (State.rd_wr_ne _ _ _ _ (by decide)).trans (State.rd_wr_same _ _ _)
  refine ⟨((EventFrame.wr (R := fun _ => true) _ _ _ rfl).sw.trans (EventFrame.wr (R := fun _ => true) _ _ _ rfl).sw).trans rfl,
    State.rd_wr_same _ _ _,
    fun a hd hm => (State.rd_wr_ne _ _ _ _ hm).trans ((State.rd_wr_ne _ _ _ _ hd).trans (s.rd_useFree a)), fun hmask => ?_⟩
  have hst := e.static.toNat_le
  have hdi := e.discard.toNat_le
  rw [State.get, State.bit, State.bit, hdata, Word.fld_setFld_below _ 31 28 _ 21 0 (by decide) (by decide) (by decide),
    Word.getLsbD_setFld _ 31 28 _ 22 (by decide) (by decide), Word.getLsbD_setFld _ 31 28 _ 23 (by decide) (by decide),
    if_neg (by decide), if_neg (by decide), Word.fld_ofNat, BitVec.getLsbD_ofNat, BitVec.getLsbD_ofNat,
    Nat.testBit_eq_decide_div_mod_eq, Nat.testBit_eq_decide_div_mod_eq]
  refine ⟨by omega, ?_, ?_⟩
  · cases hs : e.static <;> rw [hs] at hst <;> simp only [Bool.toNat_true, Bool.toNat_false] <;> simp <;> omega
  · cases hd : e.discard <;> simp <;> omega

end

/-! ### The commands of the MAC table -/

section
variable (s : State)

/-- DEL and LOOKUP, by what the key finds. -/
def State.macDelOp (s : State) : State :=
  match s.macFind s.keyMac s.keyVid with
  | some e => (s.setMacs (s.sw.macs.erase e)).macDone 0
  | none => s.macDone 2

def State.macLookupOp (s : State) : State :=
  match s.macFind s.keyMac s.keyVid with
  | some e => (s.macShow e).macDone 0
  | none => s.macDone 2

/-- READ, by what stands at the index. -/
def State.macReadOp (s : State) : State :=
  match s.macAtIdx with
  | some e => (((s.wrN Reg.MAC_KEY_LO e.mac).wrN Reg.MAC_KEY_HI (e.mac / 2 ^ 32 % 65536 + 65536 * e.vid)).macShow e).macDone 0
  | none => (s.wr Reg.MAC_DATA 0).macDone 0

theorem exec_macDel : exec .macDel s = .next (s.tableOp 0x0A2 State.macDelOp) := rfl
theorem exec_macLookup : exec .macLookup s = .next (s.tableOp 0x0A2 State.macLookupOp) := rfl
theorem exec_macRead : exec .macRead s = .next (s.tableOp 0x0A2 State.macReadOp) := rfl

/-- The ops of the page of the MAC table. -/
theorem exec_macOps {P : Answer → Prop} (h : ∀ f, P (.next (s.tableOp 0x0A2 f))) :
    ∀ c ∈ [Instr.macAdd, .macDel, .macLookup, .macFlushPort, .macFlushAll, .macRead], P (exec c s) := by
  simp only [List.forall_mem_cons, List.not_mem_nil, false_implies, implies_true, and_true]
  exact ⟨h _, h State.macDelOp, h State.macLookupOp, h _, h _, h State.macReadOp⟩

theorem State.macReadOp_some (x : MacEnt) (h : s.macAtIdx = some x) :
    s.macReadOp.rd Reg.MAC_KEY_LO = BitVec.ofNat 32 x.mac ∧ s.macReadOp.rd Reg.MAC_MTR = x.mtr ∧ s.macReadOp.sw = s.sw := by
  obtain ⟨hsw, hmtr, hrd, -⟩ := State.macShow_spec
    ((s.wrN Reg.MAC_KEY_LO x.mac).wrN Reg.MAC_KEY_HI (x.mac / 2 ^ 32 % 65536 + 65536 * x.vid)) x
  rw [State.macReadOp, h]
  dsimp only
  refine ⟨?_, ?_, ?_⟩
  · rw [State.rd_macDone _ _ _ (by decide), hrd _ (by decide) (by decide), State.rd_wrN_ne _ _ _ _ (by decide), State.rd_wrN_same]
  · rw [State.rd_macDone _ _ _ (by decide), hmtr]
  · rw [State.sw_macDone, hsw, (wrN_frame _ _ _).sw, (wrN_frame _ _ _).sw]

theorem State.macReadOp_none (h : s.macAtIdx = none) : s.macReadOp.rd Reg.MAC_DATA = 0 ∧ s.macReadOp.sw = s.sw := by
  rw [State.macReadOp, h]
  dsimp only
  rw [State.rd_macDone _ _ _ (by decide), State.rd_wr_same, State.sw_macDone, (EventFrame.wr (R := fun _ => true) _ _ _ rfl).sw]
  exact ⟨rfl, rfl⟩

/-- An entry past its age leaves the table (R413). -/
def State.macAge (s : State) (mac vid : Nat) : State :=
  match s.macFind mac vid with
  | none => s
  | some e =>
    if !e.static && s.get Reg.SW_CFG 15 0 ≠ 0 && e.seen + s.get Reg.SW_CFG 15 0 ≤ s.tbSec then s.setMacs (s.sw.macs.erase e) else s

theorem exec_macAgeOut (mac vid : Nat) : exec (.macAgeOut mac vid) s = .next (s.macAge mac vid) := rfl

theorem State.macAge_stays (mac vid : Nat) (e : MacEnt) (h : s.macFind mac vid = some e)
    (hstay : e.static = true ∨ s.get Reg.SW_CFG 15 0 = 0 ∨ s.tbSec < e.seen + s.get Reg.SW_CFG 15 0) : s.macAge mac vid = s := by
  rw [State.macAge, h]
  refine if_neg ?_
  obtain hs | ha | hd := hstay
  · simp [hs]
  · simp [ha]
  · simp [Nat.not_le.mpr hd]

theorem State.macAge_leaves (mac vid : Nat) (e : MacEnt) (h : s.macFind mac vid = some e) (hstatic : e.static = false)
    (hage : s.get Reg.SW_CFG 15 0 ≠ 0) (hold : e.seen + s.get Reg.SW_CFG 15 0 ≤ s.tbSec) :
    s.macAge mac vid = s.setMacs (s.sw.macs.erase e) := by
  rw [State.macAge, h]
  refine if_pos ?_
  simp [hstatic, hage, hold]

theorem State.keepsRegs_setMacs (l : List MacEnt) : s.keepsRegs (s.setMacs l) [Reg.MAC_COUNT] :=
  ((State.keepsRegs.refl s _).same (setSw_rd s _)).wrN _ _ (by decide)

end

/-! ### The VLAN table (R433) -/

section
variable (s : State)

def State.vlanApplyOp (s : State) : State :=
  if goodVid (s.get Reg.VLAN_VSEL 11 0) then
    s.setSw { s.sw with
      vlans := Sparse.set {} s.sw.vlans (s.get Reg.VLAN_VSEL 11 0)
        { memb := s.get Reg.VLAN_VMEMB 21 0, untag := s.get Reg.VLAN_VUNTAG 21 0, flags := s.get Reg.VLAN_VFLAGS 1 0 } }
  else s

def State.vlanReadOp (s : State) : State :=
  ((s.wrN Reg.VLAN_VMEMB (s.vlan (s.get Reg.VLAN_VSEL 11 0)).memb).wrN Reg.VLAN_VUNTAG
    (s.vlan (s.get Reg.VLAN_VSEL 11 0)).untag).wrN Reg.VLAN_VFLAGS (s.vlan (s.get Reg.VLAN_VSEL 11 0)).flags

theorem exec_vlanApply : exec .vlanApply s = .next (s.tableOp 0x0A3 State.vlanApplyOp) := rfl
theorem exec_vlanRead : exec .vlanRead s = .next (s.tableOp 0x0A3 State.vlanReadOp) := rfl

theorem State.vlanApplyOp_good (h : goodVid (s.get Reg.VLAN_VSEL 11 0) = true) :
    s.vlanApplyOp.regs = s.regs ∧ s.vlanApplyOp.vlan (s.get Reg.VLAN_VSEL 11 0) =
        { memb := s.get Reg.VLAN_VMEMB 21 0, untag := s.get Reg.VLAN_VUNTAG 21 0, flags := s.get Reg.VLAN_VFLAGS 1 0 } ∧
      ∀ j, j ≠ s.get Reg.VLAN_VSEL 11 0 → s.vlanApplyOp.vlan j = s.vlan j := by
  rw [State.vlanApplyOp, if_pos h]
  exact ⟨rfl, Sparse.get_set_same _ _ _ _, fun j hj => Sparse.get_set_ne _ _ _ j _ _ hj⟩

theorem State.vlanReadOp_spec :
    s.vlanReadOp.sw = s.sw ∧
      s.vlanReadOp.rd Reg.VLAN_VMEMB = BitVec.ofNat 32 (s.vlan (s.get Reg.VLAN_VSEL 11 0)).memb ∧
      s.vlanReadOp.rd Reg.VLAN_VUNTAG = BitVec.ofNat 32 (s.vlan (s.get Reg.VLAN_VSEL 11 0)).untag ∧
      s.vlanReadOp.rd Reg.VLAN_VFLAGS = BitVec.ofNat 32 (s.vlan (s.get Reg.VLAN_VSEL 11 0)).flags := by
  refine ⟨?_, ?_, ?_, State.rd_wrN_same _ _ _⟩
  · rw [State.vlanReadOp, (wrN_frame _ _ _).sw, (wrN_frame _ _ _).sw, (wrN_frame _ _ _).sw]
  · rw [State.vlanReadOp, State.rd_wrN_ne _ _ _ _ (by decide), State.rd_wrN_ne _ _ _ _ (by decide), State.rd_wrN_same]
  · rw [State.vlanReadOp, State.rd_wrN_ne _ _ _ _ (by decide), State.rd_wrN_same]

end

/-- What a table op that a settled page takes comes to. -/
theorem answers_tableOp {s : State} {p : Nat} {f : State → State} {P : State → Prop} {c : Instr}
    (hexec : exec c s = .next (s.tableOp p f)) (hhas : s.has p = true) (hset : s.settled p = true) (h : P (f s)) :
    Answers (exec c s) P :=
  answers_eq (hexec.trans (congrArg Host.Outcome.next (s.tableOp_settled p f hhas hset))) h

/-- Settles O40: each op by its page, its key and what stands in the table. -/
theorem macAndVlanTables : Obligations.MacAndVlanTables := by
  unfold Obligations.MacAndVlanTables
  intro s mac vid e
  refine ⟨fun hhas hset => ?_, fun hhas => ?_, fun hhas hset => ?_, fun hfind => ?_, fun hfind hstay => ?_,
    fun hfind hstatic hage hold => ?_, fun hhas hset => ?_⟩
  · exact exec_macOps s (P := (· = .next (s.raise 0x0A2 1))) fun f =>
      congrArg Host.Outcome.next (s.tableOp_unsettled 0x0A2 f hhas hset)
  · exact exec_macOps s (P := (· = .next s)) fun f => congrArg Host.Outcome.next (s.tableOp_absent 0x0A2 f hhas)
  · have hadd : ∀ {P : State → Prop} {t : State}, s.macAdd = t → P t → Answers (exec .macAdd s) P := fun ht h =>
      answers_tableOp (f := State.macAdd) rfl hhas hset (by rwa [ht])
    refine ⟨fun hvid => ?_, fun hvid hfind hroom => ?_, fun hvid hfind hfull => ?_, fun hvid hfind => ?_, fun hfind => ⟨?_, ?_⟩,
      fun hfind => ⟨?_, ?_⟩, ?_, ?_, ?_⟩
    · exact hadd (s.macAdd_badVid hvid) (s.macDone_refused 3 (by decide))
    · refine hadd (s.macAdd_new hvid hfind hroom) ?_
      obtain ⟨hmacs, hstatus⟩ := s.setMacs_done (s.sw.macs ++ [s.macNew])
      refine ⟨hstatus, by rw [hmacs, List.length_append]; rfl, ?_⟩
      rw [State.macFind_of_macs _ _ hmacs, List.find?_append]
      rw [State.macFind] at hfind
      rw [hfind]
      simp [State.macNew]
    · exact hadd (s.macAdd_full hvid hfind hfull) (s.macDone_refused 1 (by decide))
    · refine hadd (s.macAdd_replaces hvid hfind) ?_
      obtain ⟨hmacs, hstatus⟩ := s.setMacs_done (macReplaced s.sw.macs s.macNew)
      refine ⟨hstatus, by rw [hmacs, macReplaced, List.length_map], ?_⟩
      rw [State.macFind_of_macs _ _ hmacs]
      exact congrArg (Option.map fun x : MacEnt => (x.mask, x.static)) (find?_macReplaced s.sw.macs s.macNew hfind)
    · refine answers_tableOp (exec_macDel s) hhas hset ?_
      rw [State.macDelOp, hfind]
      exact s.macDone_refused 2 (by decide)
    · refine answers_tableOp (exec_macLookup s) hhas hset ?_
      rw [State.macLookupOp, hfind]
      exact s.macDone_refused 2 (by decide)
    · refine answers_tableOp (exec_macDel s) hhas hset ?_
      rw [State.macDelOp, hfind]
      exact s.setMacs_done _
    · refine answers_tableOp (exec_macLookup s) hhas hset ?_
      obtain ⟨hsw, hmtr, -, hdata⟩ := s.macShow_spec e
      rw [State.macLookupOp, hfind]
      dsimp only
      refine ⟨by rw [State.sw_macDone, hsw], State.status_macDone _ 0 (by decide), by rw [State.rd_macDone _ _ _ (by decide), hmtr], ?_⟩
      rw [State.macDone, State.get_wrN_ne _ _ _ _ _ _ (by decide), State.bit_wrN_ne _ _ _ _ _ (by decide),
        State.bit_wrN_ne _ _ _ _ _ (by decide)]
      exact hdata
    · exact answers_tableOp (f := fun s => (s.setMacs (s.sw.macs.filter fun e => e.static)).macDone 0) rfl hhas hset (s.setMacs_done _)
    · refine answers_tableOp (f := fun s => (s.macFlush (s.get Reg.MAC_DATA 21 0)).macDone 0) rfl hhas hset ?_
      have hmacs := (s.setMacs_done
        (s.sw.macs.filter fun e => e.static || e.mask &&& s.get Reg.MAC_DATA 21 0 == 0)).1
      rw [State.macFlush, hmacs]
      exact ⟨fun x hx => by simpa using (List.mem_filter.mp hx).2, fun x hx hs => List.mem_filter.mpr ⟨hx, by rw [hs]; rfl⟩⟩
    · split
      next h => exact answers_tableOp (exec_macRead s) hhas hset (s.macReadOp_none h)
      next x h => exact ⟨List.mem_of_getElem? h, answers_tableOp (exec_macRead s) hhas hset (s.macReadOp_some x h)⟩
  · rw [exec_macAgeOut, State.macAge, hfind]
  · rw [exec_macAgeOut, s.macAge_stays mac vid e hfind hstay]
  · refine answers_eq (exec_macAgeOut s mac vid) ?_
    rw [s.macAge_leaves mac vid e hfind hstatic hage hold]
    exact ⟨s.macs_setMacs _, s.keepsRegs_setMacs _⟩
  · refine ⟨fun hvid => answers_tableOp (exec_vlanApply s) hhas hset (s.vlanApplyOp_good hvid), fun hvid => ?_,
      answers_tableOp (exec_vlanRead s) hhas hset s.vlanReadOp_spec⟩
    rw [exec_vlanApply, s.tableOp_settled _ _ hhas hset, State.vlanApplyOp, hvid, if_neg Bool.false_ne_true]

end Sys2Proof.Machine
end

section
/-!
PROOF. Meters (R418, R419, R434), up to the statement MeterOperations.
-/
namespace Sys2Proof.Machine

theorem State.meter_setMeter (s : State) (m : Nat) (x : Meter) : (s.setMeter m x).meter m = x := by
  rw [State.setMeter]
  dsimp only
  rw [State.meter, (wrN_frame _ _ _).sw]
  exact Sparse.get_set_same _ _ _ _

theorem State.meter_setMeter_ne (s : State) (m j : Nat) (x : Meter) (h : j ≠ m) : (s.setMeter m x).meter j = s.meter j := by
  rw [State.setMeter]
  dsimp only
  rw [State.meter, (wrN_frame _ _ _).sw]
  exact Sparse.get_set_ne _ _ _ j m x h

theorem State.keepsRegs_setMeter (s : State) (m : Nat) (x : Meter) : s.keepsRegs (s.setMeter m x) [Reg.MTR_STAT, Reg.MTR_USED] :=
  ((State.keepsRegs.refl s _).same (setSw_rd s _)).wrN _ _ (by decide)

theorem State.sw_mtrDone (s : State) (st : Nat) : (s.mtrDone st).sw = s.sw := (put_frame _ _ _ _ _).sw

theorem State.meter_mtrDone (s : State) (st j : Nat) : (s.mtrDone st).meter j = s.meter j := by
  rw [State.meter, s.sw_mtrDone, State.meter]

theorem State.status_mtrDone (s : State) (st : Nat) (hst : st < 8) : (s.mtrDone st).get Reg.MTR_STAT 10 8 = st :=
  (State.get_put_same _ _ _ _ _ (by decide) (by decide)).trans (Nat.mod_eq_of_lt hst)

theorem State.mtrDone_refused (s : State) (st : Nat) (hst : st < 8) :
    (s.mtrDone st).get Reg.MTR_STAT 10 8 = st ∧ (s.mtrDone st).sw = s.sw := ⟨s.status_mtrDone st hst, s.sw_mtrDone st⟩

/-! ### The ops -/

section
variable (s : State)

/-- The lowest free meter of the first `n`. -/
def State.freeMeter (s : State) (n : Nat) : Option Nat := (List.range n).find? fun m => !(s.meter m).used

theorem State.freeMeter_none (n : Nat) (h : ∀ j, j < n → (s.meter j).used = true) : s.freeMeter n = none := by
  rw [State.freeMeter, List.find?_eq_none]
  intro j hj
  rw [h j (List.mem_range.mp hj)]
  decide

theorem State.freeMeter_least (n m : Nat) (hm : m < n) (hfree : (s.meter m).used = false)
    (hlow : ∀ j, j < m → (s.meter j).used = true) : s.freeMeter n = some m := by
  rw [State.freeMeter, List.find?_range_eq_some]
  exact ⟨by rw [hfree]; rfl, List.mem_range.mpr hm, fun j hj => by rw [hlow j hj]; rfl⟩

/-- ALLOC, by the meter that it finds. -/
def State.mtrAllocated (s : State) : Option Nat → State
  | none => s.mtrDone 1
  | some m => ((s.setMeter m { used := true }).put Reg.MTR_STAT 27 16 m).mtrDone 0

theorem exec_mtrAlloc_unsettled (hhas : s.has 0x0A4 = true) (hset : s.settled 0x0A4 = false) :
    exec .mtrAlloc s = .next (s.raise 0x0A4 1) := by
  change Host.Outcome.next _ = _
  rw [s.tableOp_unsettled 0x0A4 _ hhas hset]

theorem exec_mtrAlloc (hhas : s.has 0x0A4 = true) (hset : s.settled 0x0A4 = true) (r : Option Nat) (h : s.freeMeter 4096 = r) :
    exec .mtrAlloc s = .next (s.mtrAllocated r) := by
  unfold State.freeMeter at h
  change Host.Outcome.next _ = _
  rw [s.tableOp_settled 0x0A4 _ hhas hset, h]
  cases r with
  | none => rfl
  | some m => rfl

/-- FREE, WRITE and READ of meter `m`. -/
def State.mtrFreeOp (m : Nat) (s : State) : State :=
  if !(s.meter m).used then s.mtrDone 4 else if s.meterNamed m then s.mtrDone 2 else (s.setMeter m {}).mtrDone 0

/-- A meter with the rates and bursts of the registers. -/
def State.meterSet (s : State) (m : Nat) : Meter :=
  { s.meter m with
    cir := (s.rd Reg.MTR_CIR).toNat, pir := (s.rd Reg.MTR_PIR).toNat, cbs := s.get Reg.MTR_CBS 23 0
    pbs := s.get Reg.MTR_PBS 23 0, mode := s.rd Reg.MTR_MODE, tc := s.get Reg.MTR_CBS 23 0 * 8000000
    tp := s.get Reg.MTR_PBS 23 0 * 8000000, at_ := s.now }

def State.mtrWriteOp (m : Nat) (s : State) : State :=
  if !(s.meter m).used then s.mtrDone 4
  else if (s.rd Reg.MTR_PIR).toNat < (s.rd Reg.MTR_CIR).toNat || badBurst (s.get Reg.MTR_CBS 23 0) || badBurst (s.get Reg.MTR_PBS 23 0)
    then s.mtrDone 3
  else (s.setMeter m (s.meterSet m)).mtrDone 0

def State.mtrReadOp (m : Nat) (s : State) : State :=
  if !(s.meter m).used then s.mtrDone 4
  else
    (((s.wrN (Reg.MTR_CNT 0) (s.meter m).cnt.1).wrN (Reg.MTR_CNT 1) (s.meter m).cnt.2.1).wrN (Reg.MTR_CNT 2)
      (s.meter m).cnt.2.2).mtrDone 0

variable (m : Nat)

theorem exec_mtrFree (hm : m < 4096) : exec (.mtrFree m) s = .next (s.tableOp 0x0A4 (State.mtrFreeOp m)) :=
  answer_next (decide_eq_true hm) _

theorem exec_mtrWrite (hm : m < 4096) : exec (.mtrWrite m) s = .next (s.tableOp 0x0A4 (State.mtrWriteOp m)) :=
  answer_next (decide_eq_true hm) _

theorem exec_mtrRead (hm : m < 4096) : exec (.mtrRead m) s = .next (s.tableOp 0x0A4 (State.mtrReadOp m)) :=
  answer_next (decide_eq_true hm) _

/-- The ops of a meter that is not in use. -/
theorem State.mtrOps_unused (h : (s.meter m).used = false) :
    s.mtrFreeOp m = s.mtrDone 4 ∧ s.mtrWriteOp m = s.mtrDone 4 ∧ s.mtrReadOp m = s.mtrDone 4 :=
  ⟨if_pos (by rw [h]; rfl), if_pos (by rw [h]; rfl), if_pos (by rw [h]; rfl)⟩

variable (hused : (s.meter m).used = true)
include hused

theorem State.mtrFreeOp_named (h : s.meterNamed m = true) : s.mtrFreeOp m = s.mtrDone 2 :=
  (if_neg (by rw [hused]; decide)).trans (if_pos h)

theorem State.mtrFreeOp_free (h : s.meterNamed m = false) : s.mtrFreeOp m = (s.setMeter m {}).mtrDone 0 :=
  (if_neg (by rw [hused]; decide)).trans (if_neg (Bool.eq_false_iff.mp h))

theorem State.mtrWriteOp_refused (h : (s.rd Reg.MTR_PIR).toNat < (s.rd Reg.MTR_CIR).toNat ∨ s.get Reg.MTR_CBS 23 0 < 1522 ∨
    s.get Reg.MTR_PBS 23 0 < 1522) : s.mtrWriteOp m = s.mtrDone 3 := by
  refine (if_neg (by rw [hused]; decide)).trans (if_pos ?_)
  obtain h | h | h := h <;> simp [badBurst, h]

theorem State.mtrWriteOp_good (hrate : (s.rd Reg.MTR_CIR).toNat ≤ (s.rd Reg.MTR_PIR).toNat) (hcbs : 1522 ≤ s.get Reg.MTR_CBS 23 0)
    (hpbs : 1522 ≤ s.get Reg.MTR_PBS 23 0) : s.mtrWriteOp m = (s.setMeter m (s.meterSet m)).mtrDone 0 := by
  have hfit : ∀ a, s.get a 23 0 ≤ 16777215 := fun a => by
    have := s.get_lt a 23 0
    omega
  refine (if_neg (by rw [hused]; decide)).trans (if_neg ?_)
  simp [badBurst, hrate, hcbs, hpbs, hfit]

theorem State.mtrReadOp_spec :
    (s.mtrReadOp m).rd (Reg.MTR_CNT 0) = BitVec.ofNat 32 (s.meter m).cnt.1 ∧
      (s.mtrReadOp m).rd (Reg.MTR_CNT 1) = BitVec.ofNat 32 (s.meter m).cnt.2.1 ∧
      (s.mtrReadOp m).rd (Reg.MTR_CNT 2) = BitVec.ofNat 32 (s.meter m).cnt.2.2 ∧ (s.mtrReadOp m).get Reg.MTR_STAT 10 8 = 0 := by
  have hop : s.mtrReadOp m = (((s.wrN (Reg.MTR_CNT 0) (s.meter m).cnt.1).wrN (Reg.MTR_CNT 1) (s.meter m).cnt.2.1).wrN (Reg.MTR_CNT 2)
      (s.meter m).cnt.2.2).mtrDone 0 := if_neg (by rw [hused]; decide)
  rw [hop]
  refine ⟨?_, ?_, ?_, State.status_mtrDone _ 0 (by decide)⟩
  · rw [State.mtrDone, State.rd_put_ne _ _ _ _ _ _ (by decide), State.rd_wrN_ne _ _ _ _ (by decide),
      State.rd_wrN_ne _ _ _ _ (by decide), State.rd_wrN_same]
  · rw [State.mtrDone, State.rd_put_ne _ _ _ _ _ _ (by decide), State.rd_wrN_ne _ _ _ _ (by decide), State.rd_wrN_same]
  · rw [State.mtrDone, State.rd_put_ne _ _ _ _ _ _ (by decide), State.rd_wrN_same]

end

/-- Settles O41: each op by its page and its meter. -/
theorem meterOperations : Obligations.MeterOperations := by
  unfold Obligations.MeterOperations
  intro s m hm hhas
  refine ⟨fun hset => ?_, fun hset => ⟨fun hfree hlow => ?_, fun hfull => ?_, fun hunused => ?_, fun hused => ⟨fun hnamed => ?_,
    fun hfree => ?_, fun hbad => ?_, fun hrate hcbs hpbs => ?_, ?_⟩⟩⟩
  · have hrefused : ∀ f, Host.Outcome.next (s.tableOp 0x0A4 f) = (.next (s.raise 0x0A4 1) : Answer) := fun f =>
      congrArg Host.Outcome.next (s.tableOp_unsettled 0x0A4 f hhas hset)
    simp only [List.forall_mem_cons, List.not_mem_nil, false_implies, implies_true, and_true]
    exact ⟨exec_mtrAlloc_unsettled s hhas hset, (exec_mtrFree s m hm).trans (hrefused _),
      (exec_mtrWrite s m hm).trans (hrefused _), (exec_mtrRead s m hm).trans (hrefused _)⟩
  · refine answers_eq (exec_mtrAlloc s hhas hset _ (s.freeMeter_least 4096 m hm hfree hlow)) ?_
    have hmeter : ∀ j, (((s.setMeter m { used := true }).put Reg.MTR_STAT 27 16 m).mtrDone 0).meter j =
        (s.setMeter m { used := true }).meter j := fun j => by
      rw [State.meter_mtrDone, State.meter, (put_frame _ _ _ _ _).sw, State.meter]
    refine ⟨?_, ?_, State.status_mtrDone _ 0 (by decide), fun j hj => ?_, ?_⟩
    · rw [State.mtrAllocated, hmeter, State.meter_setMeter]
    · rw [State.mtrAllocated, State.mtrDone, State.get_put_above _ _ _ _ _ _ _ (by decide) (by decide) (by decide),
        State.get_put_same _ _ _ _ _ (by decide) (by decide)]
      exact Nat.mod_eq_of_lt hm
    · rw [State.mtrAllocated, hmeter, s.meter_setMeter_ne m j _ hj]
    · exact ((s.keepsRegs_setMeter m _).put _ _ _ _ (by decide)).put _ _ _ _ (by decide)
  · exact answers_eq (exec_mtrAlloc s hhas hset _ (s.freeMeter_none 4096 hfull)) (s.mtrDone_refused 1 (by decide))
  · obtain ⟨hfree, hwrite, hread⟩ := s.mtrOps_unused m hunused
    simp only [List.forall_mem_cons, List.not_mem_nil, false_implies, implies_true, and_true]
    exact ⟨answers_tableOp (exec_mtrFree s m hm) hhas hset (hfree ▸ s.mtrDone_refused 4 (by decide)),
      answers_tableOp (exec_mtrWrite s m hm) hhas hset (hwrite ▸ s.mtrDone_refused 4 (by decide)),
      answers_tableOp (exec_mtrRead s m hm) hhas hset (hread ▸ s.mtrDone_refused 4 (by decide))⟩
  · refine answers_tableOp (exec_mtrFree s m hm) hhas hset ?_
    rw [s.mtrFreeOp_named m hused hnamed]
    exact s.mtrDone_refused 2 (by decide)
  · refine answers_tableOp (exec_mtrFree s m hm) hhas hset ?_
    rw [s.mtrFreeOp_free m hused hfree]
    exact ⟨by rw [State.meter_mtrDone, State.meter_setMeter], State.status_mtrDone _ 0 (by decide),
      fun j hj => by rw [State.meter_mtrDone, s.meter_setMeter_ne m j _ hj]⟩
  · refine answers_tableOp (exec_mtrWrite s m hm) hhas hset ?_
    rw [s.mtrWriteOp_refused m hused hbad]
    exact s.mtrDone_refused 3 (by decide)
  · refine answers_tableOp (exec_mtrWrite s m hm) hhas hset ?_
    rw [s.mtrWriteOp_good m hused hrate hcbs hpbs, State.meter_mtrDone, State.meter_setMeter]
    exact ⟨rfl, rfl, rfl, rfl, hused, State.status_mtrDone _ 0 (by decide)⟩
  · exact answers_tableOp (exec_mtrRead s m hm) hhas hset (s.mtrReadOp_spec m hused)

end Sys2Proof.Machine
end

section
/-!
PROOF. The TIA-485 ports (R454 to R462), up to the statement SerialPorts.
-/
namespace Sys2Proof.Machine

theorem eventReg_SER_CNT (u : Nat) (hu : u < 4) : eventReg (Reg.SER_CNT u) = false := by
  unfold Reg.SER_CNT
  exact eventReg_block _ (by omega) (by omega) (by omega) (by omega)

theorem has_serPage (s : State) (u : Nat) (hu : u < 4) : s.has (0x0B4 + u) = true := by
  refine has_of_parts s _ ?_
  have hall : ∀ i < 4, ∀ q ∈ [Part.yk2561, .yk1281, .yk2560, .yk0001], q.hasPage (0x0B4 + i) = true := by decide
  exact hall u hu

section
variable (s : State) (u : Nat)

theorem State.ser_setSer (x : Ser) : (s.setSer u x).ser u = x := by
  rw [State.setSer, State.ser, Sparse.get_insert_same]

/-! ### Sending (R455, R457) -/

section
variable (v : Word)

theorem State.serWrite_stopped (hrun : s.running (0x0B4 + u) = false) : s.serWrite u v = s := by
  rw [State.serWrite, serPage, hrun, Bool.not_false, if_pos rfl]

variable (hrun : s.running (0x0B4 + u) = true)
include hrun

theorem State.serWrite_full (hfull : 4096 ≤ (s.ser u).txHeld) : s.serWrite u v = s.raise (0x0B4 + u) 12 := by
  rw [State.serWrite, serPage, hrun, Bool.not_true, if_neg Bool.false_ne_true, if_pos hfull]

variable (hroom : (s.ser u).txHeld < 4096)
include hroom

/-- A character that is not the last joins the open frame. -/
theorem State.serWrite_joins (hlast : v.getLsbD 16 = false) :
    s.serWrite u v = s.setSer u { s.ser u with opened := (s.ser u).opened ++ [v.fld 8 0] } := by
  rw [State.serWrite, serPage, hrun, Bool.not_true, if_neg Bool.false_ne_true, if_neg (Nat.not_le.mpr hroom), hlast,
    if_neg Bool.false_ne_true]

/-- The last character closes the frame. -/
theorem State.serWrite_closes (hlast : v.getLsbD 16 = true) : s.serWrite u v =
    s.setSer u { s.ser u with opened := [], closed := (s.ser u).closed ++ [(s.ser u).opened ++ [v.fld 8 0]] } := by
  rw [State.serWrite, serPage, hrun, Bool.not_true, if_neg Bool.false_ne_true, if_neg (Nat.not_le.mpr hroom), hlast, if_pos rfl]

end

theorem exec_serFrameTxStart_none (hu : u < 4) (h : (s.ser u).closed = []) : exec (.serFrameTxStart u) s = .next s := by
  refine answer_eq (decide_eq_true hu) ?_
  dsimp only
  rw [h]

theorem exec_serFrameTxStart_sends (hu : u < 4) (f : List Nat) (rest : List (List Nat)) (h : (s.ser u).closed = f :: rest)
    (hlive : s.serLive u = true) (hrun : s.halted = false) (hidle : (s.ser u).sending = none) :
    exec (.serFrameTxStart u) s = .next (s.setSer u { s.ser u with closed := rest, sending := some f, echoed := 0 }) := by
  refine answer_eq (decide_eq_true hu) ?_
  dsimp only
  rw [h]
  exact if_pos (by rw [hlive, hrun, hidle]; rfl)

/-- A frame that has been sent is counted. -/
theorem State.serSent_spec (hu : u < 4) (x : Ser) :
    let t := ((s.setSer u { x with sending := none }).count (Reg.SER_CNT u) 31 16).raise (serPage u) 9
    (t.ser u).sending = none ∧ t.bit (Reg.PG_EVRAW (0x0B4 + u)) 9 = true ∧
      t.get (Reg.SER_CNT u) 31 16 = min (s.get (Reg.SER_CNT u) 31 16 + 1) 65535 := by
  have hp : serPage u < 256 := by
    unfold serPage
    omega
  refine ⟨?_, State.bit_raise_same _ _ _ hp (by decide) (has_serPage _ u hu), ?_⟩
  · rw [State.ser, (raise_frame _ _ _).sers, (count_frame _ _ _ _ _).sers]
    exact congrArg Ser.sending (s.ser_setSer u { x with sending := none })
  · rw [State.get_raise _ _ _ _ hp (eventReg_SER_CNT u hu), State.get_count_same _ _ _ _ _ (by decide) (by decide)]
    rfl

/-! ### Receiving (R456) -/

theorem exec_serCharRx_echo (ch ns : Nat) (perr ferr : Bool) (hu : u < 4) (hch : ch < 512) (hlive : s.serLive u = true) (f : List Nat)
    (hsend : (s.ser u).sending = some f) : exec (.serCharRx u ch perr ferr ns) s = .next (s.serEcho u f ch) := by
  refine answer_eq (by rw [wfSer, decide_eq_true hu, decide_eq_true hch]; rfl) ?_
  rw [hlive, hsend]
  rfl

theorem exec_serCharRx_take (ch ns : Nat) (perr ferr : Bool) (hu : u < 4) (hch : ch < 512) (hlive : s.serLive u = true)
    (hsend : (s.ser u).sending = none) : exec (.serCharRx u ch perr ferr ns) s = .next (s.serRx u ch perr ferr ns) := by
  refine answer_eq (by rw [wfSer, decide_eq_true hu, decide_eq_true hch]; rfl) ?_
  rw [hlive, hsend]
  rfl

/-- The errors of a received character, counted. -/
def State.serErrors (s : State) (u : Nat) (perr ferr : Bool) : State :=
  (s.when perr fun s => s.count (Reg.SER_ERR u) 7 0).when ferr fun s => s.count (Reg.SER_ERR u) 15 8

theorem State.serChar_serErrors (perr ferr : Bool) (ch : Nat) : (s.serErrors u perr ferr).serChar u ch = s.serChar u ch := by
  have hne : Reg.SER_CFG u ≠ Reg.SER_ERR u := header_ne _ 0x040 0x068 (by decide)
  have hone : ∀ (t : State) (b : Bool) (hi lo : Nat),
      (t.when b fun s => s.count (Reg.SER_ERR u) hi lo).get (Reg.SER_CFG u) 1 0 = t.get (Reg.SER_CFG u) 1 0 := fun t b hi lo => by
    unfold State.when
    split
    · exact t.get_count_ne _ _ _ _ _ _ _ hne
    · rfl
  rw [State.serErrors, State.serChar, hone, hone, State.serChar]

theorem State.serRx_takes (ch ns : Nat) (perr ferr : Bool) (hroom : (s.ser u).rx.length < 4095) :
    ((s.serRx u ch perr ferr ns).ser u).rx = (s.ser u).rx ++ [(s.serChar u ch, perr, ferr, false)] := by
  unfold State.serRx
  dsimp only
  generalize (s.ser u).cur.getD (0, false, false, ns) = x
  obtain ⟨n, ovf, err, t⟩ := x
  dsimp only
  rw [if_neg (by omega), if_pos (by omega)]
  change (((s.serErrors u perr ferr).setSer u _).ser u).rx = _
  rw [State.ser_setSer]
  dsimp only
  change (s.ser u).rx ++ [((s.serErrors u perr ferr).serChar u ch, perr, ferr, false)] = _
  rw [s.serChar_serErrors]

theorem State.serFrameEnd_none (h : (s.ser u).cur = none) : s.serFrameEnd u = s := by
  rw [State.serFrameEnd, h]

/-! ### What has been received is read oldest first (R462) -/

theorem State.serRead_none (h : (s.ser u).rx = []) : s.serRead u = s.wr (Reg.SER_RXD u) 0 := by
  rw [State.serRead, h]

theorem State.serRead_cons (x : Nat × Bool × Bool × Bool) (rest : List (Nat × Bool × Bool × Bool)) (h : (s.ser u).rx = x :: rest) :
    s.serRead u = (s.setSer u { s.ser u with rx := rest }).wrN (Reg.SER_RXD u)
      (x.1 + 2 ^ 12 * x.2.1.toNat + 2 ^ 13 * x.2.2.1.toNat + 2 ^ 15 + 2 ^ 16 * x.2.2.2.toNat) := by
  rw [State.serRead, h]

theorem State.serReadFrame_none (h : (s.ser u).descs = []) : s.serReadFrame u = s.wr (Reg.SER_RXFR u) 0 := by
  rw [State.serReadFrame, h]

theorem State.serReadFrame_cons (x : Nat × Bool × Bool × Nat) (rest : List (Nat × Bool × Bool × Nat))
    (h : (s.ser u).descs = x :: rest) : s.serReadFrame u =
      ((s.setSer u { s.ser u with descs := rest }).wrN (Reg.SER_RXFR u)
        (x.1 + 2 ^ 16 * x.2.1.toNat + 2 ^ 17 * x.2.2.1.toNat + 2 ^ 31)).wr64 (Reg.SER_RXTS_LO u) (Reg.SER_RXTS_HI u) x.2.2.2 := by
  rw [State.serReadFrame, h]

end

/-- Settles O44: each event of a port by its buffers. -/
theorem serialPorts : Obligations.SerialPorts := by
  unfold Obligations.SerialPorts
  intro s u ch ns v f rest perr ferr hu hch
  have hwf : wfSer u = true := decide_eq_true hu
  have hwf' : (wfSer u && decide (ch < 512)) = true := by rw [hwf, decide_eq_true hch]; rfl
  refine ⟨fun hrun => answer_eq hwf (s.serWrite_stopped u v hrun), fun hrun hfull => answer_eq hwf (s.serWrite_full u v hrun hfull),
    fun hrun hroom hlast => ?_, fun hrun hroom hlast => ?_, exec_serFrameTxStart_none s u hu, fun hclosed hlive hrun hidle => ?_,
    fun hidle => ?_, fun hsend => ?_, fun hdead => ⟨?_, ?_⟩, fun hlive hsend => ?_, fun hlive hsend => ?_,
    fun hlive hsend hroom => ?_, fun hlive => answer_eq hwf (if_pos hlive), s.serFrameEnd_none u, fun hrx => ?_, fun x rest hrx => ?_,
    fun hdescs => ?_, fun x rest hdescs => ?_⟩
  · refine answers_eq (answer_eq hwf (s.serWrite_joins u v hrun hroom hlast)) ?_
    rw [State.ser_setSer]
    exact ⟨rfl, rfl, rfl⟩
  · refine answers_eq (answer_eq hwf (s.serWrite_closes u v hrun hroom hlast)) ?_
    rw [State.ser_setSer]
    exact ⟨rfl, rfl, rfl⟩
  · refine answers_eq (exec_serFrameTxStart_sends s u hu f rest hclosed hlive hrun hidle) ?_
    rw [State.ser_setSer]
    exact ⟨rfl, rfl, rfl⟩
  · exact answer_eq hwf (if_neg (by rw [hidle]; decide))
  · exact answers_eq (answer_eq hwf (if_pos hsend)) (s.serSent_spec u hu (s.ser u))
  · exact answer_eq hwf' (if_pos (by rw [hdead]; rfl))
  · exact answer_eq hwf (if_neg (Bool.eq_false_iff.mp hdead))
  · exact exec_serCharRx_echo s u ch ns perr ferr hu hch hlive f hsend
  · exact exec_serCharRx_take s u ch ns perr ferr hu hch hlive hsend
  · exact answers_eq (exec_serCharRx_take s u ch ns perr ferr hu hch hlive hsend) (s.serRx_takes u ch ns perr ferr hroom)
  · exact answers_eq (answer_eq hwf (s.serRead_none u hrx))
      ⟨State.rd_wr_same _ _ _, (State.keepsRegs.refl s _).wr _ _ List.mem_cons_self⟩
  · refine answers_eq (answer_eq hwf (s.serRead_cons u x rest hrx)) ⟨?_, State.rd_wrN_same _ _ _⟩
    rw [State.ser, (wrN_frame _ _ _).sers]
    exact congrArg Ser.rx (s.ser_setSer u { s.ser u with rx := rest })
  · exact answers_eq (answer_eq hwf (s.serReadFrame_none u hdescs))
      ⟨State.rd_wr_same _ _ _, (State.keepsRegs.refl s _).wr _ _ List.mem_cons_self⟩
  · have hlo : Reg.SER_RXFR u ≠ Reg.SER_RXTS_LO u := header_ne _ _ _ (by decide)
    have hhi : Reg.SER_RXFR u ≠ Reg.SER_RXTS_HI u := header_ne _ _ _ (by decide)
    have hts : Reg.SER_RXTS_LO u ≠ Reg.SER_RXTS_HI u := header_ne _ _ _ (by decide)
    refine answers_eq (answer_eq hwf (s.serReadFrame_cons u x rest hdescs)) ⟨?_, ?_, fun hns => ?_⟩
    · rw [State.ser, (wr64_frame _ _ _ _).sers, (wrN_frame _ _ _).sers]
      exact congrArg Ser.descs (s.ser_setSer u { s.ser u with descs := rest })
    · rw [State.rd_wr64_ne _ _ _ _ _ hlo hhi, State.rd_wrN_same]
    · rw [State.rd64_wr64_same _ _ _ _ hts, Nat.mod_eq_of_lt hns]

end Sys2Proof.Machine
end

section
/-!
PROOF. CAN traffic (R440 to R446), up to the statement CanTraffic.
-/
namespace Sys2Proof.Machine

/-! ### Registers and pages of the CAN ports -/

theorem eventReg_can (c o : Nat) (hc : c < 4) (ho : 0x40 ≤ o) (ho' : o < 0x1000) : eventReg ((0x0B0 + c) * 0x1000 + o) = false :=
  eventReg_block _ (by omega) (by omega) (by omega) (by omega)

theorem eventReg_CAN_ECNT (c : Nat) (hc : c < 4) : eventReg (Reg.CAN_ECNT c) = false :=
  eventReg_can c 0x050 hc (by decide) (by decide)

theorem eventReg_CAN_ERR (c : Nat) (hc : c < 4) : eventReg (Reg.CAN_ERR c) = false :=
  eventReg_can c 0x05c hc (by decide) (by decide)

theorem canPage_lt (c : Nat) (hc : c < 4) : canPage c < 256 := by
  unfold canPage
  omega

theorem CAN_ECNT_ne_TXQ (c : Nat) : Reg.CAN_ECNT c ≠ Reg.CAN_TXQ c := header_ne _ _ _ (by decide)
theorem CAN_ECNT_ne_CNT (c : Nat) : Reg.CAN_ECNT c ≠ Reg.CAN_CNT c := header_ne _ _ _ (by decide)
theorem CAN_ECNT_ne_ERR (c : Nat) : Reg.CAN_ECNT c ≠ Reg.CAN_ERR c := header_ne _ _ _ (by decide)
theorem CAN_ECNT_ne_STAT (c : Nat) : Reg.CAN_ECNT c ≠ Reg.CAN_STAT c := header_ne _ _ _ (by decide)
theorem CAN_CNT_ne_TXQ (c : Nat) : Reg.CAN_CNT c ≠ Reg.CAN_TXQ c := header_ne _ _ _ (by decide)
theorem CAN_CNT_ne_ECNT (c : Nat) : Reg.CAN_CNT c ≠ Reg.CAN_ECNT c := header_ne _ _ _ (by decide)
theorem CAN_CNT_ne_STAT (c : Nat) : Reg.CAN_CNT c ≠ Reg.CAN_STAT c := header_ne _ _ _ (by decide)
theorem CAN_ERR_ne_ECNT (c : Nat) : Reg.CAN_ERR c ≠ Reg.CAN_ECNT c := header_ne _ _ _ (by decide)
theorem CAN_CFG_ne_CNT (c : Nat) : Reg.CAN_CFG c ≠ Reg.CAN_CNT c := header_ne _ _ _ (by decide)
theorem CAN_CFG_ne_ECNT (c : Nat) : Reg.CAN_CFG c ≠ Reg.CAN_ECNT c := header_ne _ _ _ (by decide)

/-- Block registers of a port are no registers of the message bridge. -/
theorem CAN_ne_MB_CNT (c o : Nat) (hc : c < 4) (ho' : o < 0x1000) : (0x0B0 + c) * 0x1000 + o ≠ Reg.MB_CNT := by
  unfold Reg.MB_CNT
  omega

theorem State.running_congr {s t : State} (p : Nat) (h : t.rd (Reg.PG_STAT p) = s.rd (Reg.PG_STAT p)) : t.running p = s.running p := by
  rw [State.running, State.running, State.pg, State.pg, State.get, State.get, h]

/-! ### A port's own state -/

section
variable (s : State) (c : Nat)

/-- Setting a port's state changes no register but `CAN.TXQ`, and no other state. -/
theorem setCan_frame (x : Can) :
    EventFrame (fun a => decide (a = Reg.CAN_TXQ c)) { s with cans := Sparse.insert s.cans c x } (s.setCan c x) :=
  (EventFrame.wr _ _ _ (decide_eq_true rfl)).trans (EventFrame.wr _ _ _ (decide_eq_true rfl))

theorem State.rd_setCan (x : Can) (a : Nat) (ha : a ≠ Reg.CAN_TXQ c) : (s.setCan c x).rd a = s.rd a :=
  (setCan_frame s c x).rd a (decide_eq_false ha)

theorem State.can_setCan (x : Can) : (s.setCan c x).can c = x := by
  rw [State.can, (setCan_frame s c x).cans]
  exact Sparse.get_insert_same _ _ _ _

theorem State.rd_modCan (f : Can → Can) (a : Nat) (ha : a ≠ Reg.CAN_TXQ c) : (s.modCan c f).rd a = s.rd a := s.rd_setCan c _ a ha

theorem State.can_modCan (f : Can → Can) : (s.modCan c f).can c = f (s.can c) := s.can_setCan c _

theorem State.keepsRegs_setCan (x : Can) : s.keepsRegs (s.setCan c x) [Reg.CAN_TXQ c] := fun a ha =>
  s.rd_setCan c x a fun e => ha (e ▸ List.mem_cons_self)

theorem State.keepsRegs_modCan (f : Can → Can) : s.keepsRegs (s.modCan c f) [Reg.CAN_TXQ c] := s.keepsRegs_setCan c _

theorem State.can_congr {s t : State} (h : t.cans = s.cans) : t.can c = s.can c := by rw [State.can, h, State.can]

/-- A discarded frame is counted and its port's state stays. -/
theorem State.can_canLose (n : Nat) : (s.canLose c n).can c = s.can c := by
  refine State.can_congr c ?_
  unfold State.canLose
  split
  · rfl
  · rw [(raise_frame _ _ _).cans, (count_frame _ _ _ _ _).cans]

theorem State.can_count (a hi lo n : Nat) : (s.count a hi lo n).can c = s.can c := State.can_congr c (count_frame _ _ _ _ _).cans

theorem State.can_put (a hi lo v : Nat) : (s.put a hi lo v).can c = s.can c := State.can_congr c (put_frame _ _ _ _ _).cans

theorem State.tec_lt : s.tec c < 256 := s.get_lt (Reg.CAN_ECNT c) 7 0

theorem State.rec_lt : s.rec' c < 256 := s.get_lt (Reg.CAN_ECNT c) 15 8

theorem State.tec_congr {s t : State} (h : t.rd (Reg.CAN_ECNT c) = s.rd (Reg.CAN_ECNT c)) : t.tec c = s.tec c := by
  rw [State.tec, State.tec, State.get, State.get, h]

theorem State.rec_congr {s t : State} (h : t.rd (Reg.CAN_ECNT c) = s.rd (Reg.CAN_ECNT c)) : t.rec' c = s.rec' c := by
  rw [State.rec', State.rec', State.get, State.get, h]

theorem State.tec_put_tec (v : Nat) (hv : v < 256) : (s.put (Reg.CAN_ECNT c) 7 0 v).tec c = v :=
  (State.get_put_same _ _ _ _ _ (by decide) (by decide)).trans (Nat.mod_eq_of_lt hv)

theorem State.rec_put_tec (v : Nat) : (s.put (Reg.CAN_ECNT c) 7 0 v).rec' c = s.rec' c :=
  State.get_put_above _ _ _ _ _ _ _ (by decide) (by decide) (by decide)

theorem State.rec_put_rec (v : Nat) (hv : v < 256) : (s.put (Reg.CAN_ECNT c) 15 8 v).rec' c = v :=
  (State.get_put_same _ _ _ _ _ (by decide) (by decide)).trans (Nat.mod_eq_of_lt hv)

theorem State.tec_put_rec (v : Nat) : (s.put (Reg.CAN_ECNT c) 15 8 v).tec c = s.tec c :=
  State.get_put_below _ _ _ _ _ _ _ (by decide) (by decide) (by decide)

/-- Fields inside one that is cleared. -/
theorem State.get_put_cleared (a hi lo hi' lo' : Nat) (hhi : hi < 32) (hlo : lo ≤ lo') (hin : hi' ≤ hi) (hfld : lo' ≤ hi') :
    (s.put a hi lo 0).get a hi' lo' = 0 := by
  refine Nat.eq_of_testBit_eq fun i => ?_
  rw [State.get, Word.testBit_fld, State.rd_put_same, Word.getLsbD_setFld _ hi lo 0 _ hhi (by omega), Nat.zero_testBit]
  by_cases h : i < hi' + 1 - lo'
  · rw [if_pos (by omega), Nat.zero_testBit, Bool.and_false]
  · rw [decide_eq_false h, Bool.false_and, Nat.zero_testBit]

end

/-! ### A correct frame (R443) -/

section
variable (s : State) (c : Nat)

/-- The counts of a correct frame. -/
def State.canHeard (s : State) (c : Nat) : State :=
  let s := s.count (Reg.CAN_CNT c) 15 0
  if 127 < s.rec' c then (s.put (Reg.CAN_ECNT c) 15 8 (119 + s.freeWord.toNat % 9)).useFree
  else s.put (Reg.CAN_ECNT c) 15 8 (s.rec' c - 1)

theorem State.canRx_eq (f : CanFrame) (sof : Nat) : s.canRx c f sof =
    if ((s.canHeard c).bit (Reg.CAN_CFG c) 2 || f.rtr) = true then s.canHeard c
    else (s.canHeard c).mbPush (.can c f.ide) f.id f.data sof := rfl

theorem State.mbIn_useFree : s.useFree.mbIn = s.mbIn := rfl
theorem State.can_useFree : s.useFree.can c = s.can c := rfl

/-- The counts move the counter of the port and its error counter only. -/
theorem State.canHeard_kept :
    (∀ a, a ≠ Reg.CAN_CNT c → a ≠ Reg.CAN_ECNT c → (s.canHeard c).rd a = s.rd a) ∧ (s.canHeard c).mbIn = s.mbIn := by
  have hput : ∀ v a, a ≠ Reg.CAN_CNT c → a ≠ Reg.CAN_ECNT c →
      ((s.count (Reg.CAN_CNT c) 15 0).put (Reg.CAN_ECNT c) 15 8 v).rd a = s.rd a := fun v a hcnt hecnt =>
    (State.rd_put_ne _ _ _ _ _ _ hecnt).trans (State.rd_count_ne _ _ _ _ _ _ hcnt)
  have hmb : ∀ v, ((s.count (Reg.CAN_CNT c) 15 0).put (Reg.CAN_ECNT c) 15 8 v).mbIn = s.mbIn := fun v =>
    (put_frame _ _ _ _ _).mbIn.trans (count_frame _ _ _ _ _).mbIn
  unfold State.canHeard
  dsimp only
  split
  · exact ⟨fun a hcnt hecnt => (State.rd_useFree _ a).trans (hput _ a hcnt hecnt), (State.mbIn_useFree _).trans (hmb _)⟩
  · exact ⟨hput _, hmb _⟩

theorem State.canHeard_low (hrec : s.rec' c ≤ 127) :
    s.canHeard c = (s.count (Reg.CAN_CNT c) 15 0).put (Reg.CAN_ECNT c) 15 8 (s.rec' c - 1) := by
  have hsame : (s.count (Reg.CAN_CNT c) 15 0).rec' c = s.rec' c :=
    State.rec_congr c (State.rd_count_ne _ _ _ _ _ _ (CAN_ECNT_ne_CNT c))
  unfold State.canHeard
  dsimp only
  rw [hsame, if_neg (by omega)]

theorem State.rd_mbPush (src : MsgSrc) (id : Nat) (data : List Byte) (time a : Nat) (ha : a ≠ Reg.MB_CNT) :
    (s.mbPush src id data time).rd a = s.rd a := by
  unfold State.mbPush
  split
  · rfl
  · exact State.rd_count_ne _ _ _ _ _ _ ha

theorem State.rd_canRx (f : CanFrame) (sof a : Nat) (ha : a ≠ Reg.MB_CNT) : (s.canRx c f sof).rd a = (s.canHeard c).rd a := by
  rw [s.canRx_eq c f sof]
  split
  · rfl
  · exact State.rd_mbPush _ _ _ _ _ a ha

theorem State.canRx_counts (f : CanFrame) (sof : Nat) (hc : c < 4) (hrec : s.rec' c ≤ 127) :
    (s.canRx c f sof).rec' c = s.rec' c - 1 ∧
      (s.canRx c f sof).get (Reg.CAN_CNT c) 15 0 = min (s.get (Reg.CAN_CNT c) 15 0 + 1) 65535 ∧ (s.canRx c f sof).tec c = s.tec c := by
  have hecnt := s.rd_canRx c f sof (Reg.CAN_ECNT c) (CAN_ne_MB_CNT c 0x050 hc (by decide))
  have hcnt := s.rd_canRx c f sof (Reg.CAN_CNT c) (CAN_ne_MB_CNT c 0x058 hc (by decide))
  have hlow := s.canHeard_low c hrec
  refine ⟨?_, ?_, ?_⟩
  · rw [State.rec_congr c hecnt, hlow, State.rec_put_rec _ _ _ (by omega)]
  · rw [State.get, hcnt, hlow, State.rd_put_ne _ _ _ _ _ _ (CAN_CNT_ne_ECNT c)]
    exact State.get_count_same _ _ _ _ _ (by decide) (by decide)
  · rw [State.tec_congr c hecnt, hlow, State.tec_put_rec]
    exact State.tec_congr c (State.rd_count_ne _ _ _ _ _ _ (CAN_ECNT_ne_CNT c))

theorem State.canRx_passes (f : CanFrame) (sof : Nat) (hc : c < 4) (hmon : s.bit (Reg.CAN_CFG c) 2 = false) (hrtr : f.rtr = false)
    (hrun : s.running 0x06A = true) : (s.canRx c f sof).mbIn = s.mbIn ++ [(.can c f.ide, f.id, f.data, sof)] := by
  obtain ⟨hrd, hmb⟩ := s.canHeard_kept c
  have hcfg : (s.canHeard c).bit (Reg.CAN_CFG c) 2 = s.bit (Reg.CAN_CFG c) 2 := by
    rw [State.bit, hrd _ (CAN_CFG_ne_CNT c) (CAN_CFG_ne_ECNT c), State.bit]
  have hpage : (s.canHeard c).running 0x06A = true := by
    refine (State.running_congr 0x06A (hrd _ ?_ ?_)).trans hrun
    · unfold Reg.PG_STAT Reg.CAN_CNT
      omega
    · unfold Reg.PG_STAT Reg.CAN_ECNT
      omega
  rw [s.canRx_eq c f sof, hcfg, hmon, hrtr, Bool.or_self, if_neg Bool.false_ne_true, State.mbPush, if_pos hpage, hmb]

/-! ### Sending (R444) -/

theorem State.canTx_dead (h : s.canLive c = false) : s.canTx c = s := by
  rw [State.canTx]
  exact if_pos (by rw [h]; rfl)

theorem State.canTx_sends (f : CanFrame) (rest : List CanFrame) (hlive : s.canLive c = true) (hidle : (s.can c).sending = none)
    (hmon : s.bit (Reg.CAN_CFG c) 2 = false) (hfifo : s.bit (Reg.CAN_CFG c) 4 = false) (hqueue : (s.can c).queue = f :: rest)
    (harm : s.bit (Reg.PG_INJARM (canPage c)) 0 = false) :
    s.canTx c = s.setCan c { s.can c with queue := rest, sending := some f } := by
  rw [State.canTx]
  dsimp only
  rw [if_neg (by rw [hlive, hidle, hmon]; decide), hfifo, if_neg Bool.false_ne_true, hqueue]
  dsimp only
  rw [s.injFires_of_disarmed _ 0x10 0 harm, if_neg Bool.false_ne_true, s.injStep_of_disarmed _ 0x10 0 harm]

theorem State.canDone_idle (how : Nat) (h : (s.can c).sending = none) : s.canDone c how = s := by rw [State.canDone, h]

theorem State.canEnd_idle (how : Nat) (h : (s.can c).sending = none) : s.canEnd c how = s := by rw [State.canEnd, h]

variable (f : CanFrame)

/-- A frame that a stopped port cannot send again is discarded. -/
theorem State.canEnd_discards (how : Nat) (h : (s.can c).sending = some f) (hrun : s.running (canPage c) = false) (hhow : 1 ≤ how) :
    s.canEnd c how = (s.modCan c fun x => { x with sending := none }).canLose c 1 := by
  rw [State.canEnd, h]
  dsimp only
  rw [if_neg (by rw [decide_eq_false (by omega), Bool.false_and]; decide), if_neg (by rw [hrun, Bool.false_and]; decide)]

/-- A frame that has been sent: the counts, before the loop delay of an FD frame. -/
def State.canCounted (s : State) (c : Nat) : State :=
  let s := (s.modCan c fun x => { x with sending := none }).count (Reg.CAN_CNT c) 31 16
  s.put (Reg.CAN_ECNT c) 7 0 (s.tec c - 1)

theorem State.canSent_eq : s.canSent c f =
    if (f.fdf && (s.canCounted c).bit (Reg.CAN_CFG c) 7) = true then
      ((s.canCounted c).put (Reg.CAN_STAT c) 15 8 (s.canCounted c).freeWord.toNat).useFree
    else s.canCounted c := rfl

theorem State.canSent_spec : ((s.canSent c f).can c).sending = none ∧ (s.canSent c f).tec c = s.tec c - 1 ∧
    (s.canSent c f).get (Reg.CAN_CNT c) 31 16 = min (s.get (Reg.CAN_CNT c) 31 16 + 1) 65535 := by
  have hcounted : ((s.canCounted c).can c).sending = none ∧ (s.canCounted c).tec c = s.tec c - 1 ∧
      (s.canCounted c).get (Reg.CAN_CNT c) 31 16 = min (s.get (Reg.CAN_CNT c) 31 16 + 1) 65535 := by
    have htec : ((s.modCan c fun x => { x with sending := none }).count (Reg.CAN_CNT c) 31 16).tec c = s.tec c :=
      State.tec_congr c ((State.rd_count_ne _ _ _ _ _ _ (CAN_ECNT_ne_CNT c)).trans (s.rd_modCan c _ _ (CAN_ECNT_ne_TXQ c)))
    have hlt := s.tec_lt c
    unfold State.canCounted
    dsimp only
    refine ⟨?_, ?_, ?_⟩
    · rw [State.can_put, State.can_count, State.can_modCan]
    · rw [htec, State.tec_put_tec _ _ _ (by omega)]
    · rw [State.get_put_ne _ _ _ _ _ _ _ _ (CAN_CNT_ne_ECNT c)]
      refine (State.get_count_same _ _ _ _ _ (by decide) (by decide)).trans (congrArg (fun x => min (x + 1) 65535) ?_)
      exact congrArg (fun w : Word => w.fld 31 16) (s.rd_modCan c _ _ (CAN_CNT_ne_TXQ c))
  rw [s.canSent_eq c f]
  split
  · obtain ⟨hsend, htec, hcnt⟩ := hcounted
    refine ⟨?_, ?_, ?_⟩
    · rw [State.can_useFree, State.can_put, hsend]
    · exact (State.tec_congr c ((State.rd_useFree _ _).trans (State.rd_put_ne _ _ _ _ _ _ (CAN_ECNT_ne_STAT c)))).trans htec
    · rw [State.get, State.rd_useFree, State.rd_put_ne _ _ _ _ _ _ (CAN_CNT_ne_STAT c)]
      exact hcnt
  · exact hcounted

variable (h : (s.can c).sending = some f)
include h

theorem State.canDone_sent : s.canDone c 0 = s.canSent c f := by
  rw [State.canDone, h]
  exact if_pos rfl

theorem State.canDone_lost : s.canDone c 1 = (s.count (Reg.CAN_LOST c) 31 16).canAgain c f := by
  rw [State.canDone, h]
  exact if_neg (by decide)

theorem State.canDone_error : s.canDone c 2 = s.canAgain c f := by
  rw [State.canDone, h]
  exact if_neg (by decide)

end

/-! ### Bus errors (R445) -/

section
variable (s : State) (c kind : Nat) (heavy : Bool) (hc : c < 4) (hkind : kind < 4)

/-- The state with a bus error counted by its kind. -/
def State.canErred (s : State) (c kind : Nat) : State := s.count (Reg.CAN_ERR c) (8 * kind + 7) (8 * kind)

theorem State.rd_canErred : (s.canErred c kind).rd (Reg.CAN_ECNT c) = s.rd (Reg.CAN_ECNT c) :=
  State.rd_count_ne _ _ _ _ _ _ (CAN_ECNT_ne_ERR c)

/-- The error counters after an error that leaves the port on its bus, and the event of a port that has become passive. -/
def State.canPassive (s : State) (c was : Nat) : State := s.when (was == 0 && s.canState c == 1) fun s => s.raise (canPage c) 9

theorem State.canError_rx : s.canError c kind false heavy =
    (((s.canErred c kind).put (Reg.CAN_ECNT c) 7 0 (s.tec c)).put (Reg.CAN_ECNT c) 15 8
      (min 255 (s.rec' c + if heavy then 8 else 1))).canPassive c (s.canState c) := by
  have htec : (s.canErred c kind).tec c = s.tec c := State.tec_congr c (s.rd_canErred c kind)
  have hrec : ((s.canErred c kind).put (Reg.CAN_ECNT c) 7 0 (s.tec c)).rec' c = s.rec' c :=
    (State.rec_put_tec _ _ _).trans (State.rec_congr c (s.rd_canErred c kind))
  have hlt := s.tec_lt c
  unfold State.canErred at htec hrec
  unfold State.canError
  dsimp only
  rw [htec, Bool.false_and, if_neg Bool.false_ne_true, Nat.add_zero, if_neg (by omega), if_neg Bool.false_ne_true, hrec]
  rfl

section
variable (hpassive : s.canState c = 0 ∨ kind ≠ 3)
include hpassive

/-- An error in transmission raises TEC by 8, but for a passive port without an acknowledgement. -/
theorem canError_heavier : (true && !(kind == 3 && s.canState c == 1)) = true := by
  obtain h | h := hpassive
  · simp [h]
  · simp [h]

theorem State.canError_tx (hfit : s.tec c + 8 ≤ 255) : s.canError c kind true heavy =
    ((s.canErred c kind).put (Reg.CAN_ECNT c) 7 0 (s.tec c + 8)).canPassive c (s.canState c) := by
  have htec : (s.canErred c kind).tec c = s.tec c := State.tec_congr c (s.rd_canErred c kind)
  unfold State.canErred at htec
  unfold State.canError
  dsimp only
  rw [htec, if_pos (canError_heavier s c kind hpassive), if_neg (by omega), if_pos rfl]
  rfl

theorem State.canError_off (hover : 255 < s.tec c + 8) : s.canError c kind true heavy = (s.canErred c kind).canBusOff c := by
  have htec : (s.canErred c kind).tec c = s.tec c := State.tec_congr c (s.rd_canErred c kind)
  unfold State.canErred at htec
  unfold State.canError
  dsimp only
  rw [htec, if_pos (canError_heavier s c kind hpassive), if_pos hover]
  rfl

end

include hc

theorem State.rd_canPassive (was a : Nat) (ha : eventReg a = false) : (s.canPassive c was).rd a = s.rd a :=
  State.rd_when_raise _ _ _ _ _ (canPage_lt c hc) ha

theorem State.canError_rx_spec (hkind : kind < 4) : (s.canError c kind false heavy).tec c = s.tec c ∧
    (s.canError c kind false heavy).rec' c = min 255 (s.rec' c + if heavy then 8 else 1) ∧
    (s.canError c kind false heavy).get (Reg.CAN_ERR c) (8 * kind + 7) (8 * kind) =
      min (s.get (Reg.CAN_ERR c) (8 * kind + 7) (8 * kind) + 1) 255 := by
  have hecnt := fun t : State => t.rd_canPassive c hc (s.canState c) _ (eventReg_CAN_ECNT c hc)
  have hwidth : 8 * kind + 7 + 1 - 8 * kind = 8 := by omega
  have hmax : 2 ^ (8 * kind + 7 + 1 - 8 * kind) - 1 = 255 := congrArg (fun n => 2 ^ n - 1) hwidth
  rw [s.canError_rx c kind heavy]
  refine ⟨?_, ?_, ?_⟩
  · rw [State.tec_congr c (hecnt _), State.tec_put_rec, State.tec_put_tec _ _ _ (s.tec_lt c)]
  · rw [State.rec_congr c (hecnt _), State.rec_put_rec _ _ _ (by omega)]
  · rw [State.get, State.rd_canPassive _ c hc _ _ (eventReg_CAN_ERR c hc), State.rd_put_ne _ _ _ _ _ _ (CAN_ERR_ne_ECNT c),
      State.rd_put_ne _ _ _ _ _ _ (CAN_ERR_ne_ECNT c)]
    exact (State.get_count_same _ _ _ _ _ (by omega) (by omega)).trans (congrArg (min _) hmax)

theorem State.canError_tx_spec (hpassive : s.canState c = 0 ∨ kind ≠ 3) (hfit : s.tec c + 8 ≤ 255) :
    (s.canError c kind true heavy).tec c = s.tec c + 8 ∧ (s.canError c kind true heavy).rec' c = s.rec' c := by
  have hecnt := fun t : State => t.rd_canPassive c hc (s.canState c) _ (eventReg_CAN_ECNT c hc)
  rw [s.canError_tx c kind heavy hpassive hfit, State.tec_congr c (hecnt _), State.rec_congr c (hecnt _),
    State.tec_put_tec _ _ _ (by omega), State.rec_put_tec]
  exact ⟨rfl, State.rec_congr c (s.rd_canErred c kind)⟩

end

/-- A port that has recovered starts its counters again (R445). -/
theorem State.canRecovered_spec (s : State) (c : Nat) :
    let t := (s.modCan c fun x => { x with busOff := false, recovering := false }).put (Reg.CAN_ECNT c) 15 0 0
    (t.can c).busOff = false ∧ t.tec c = 0 ∧ t.rec' c = 0 ∧ s.keepsRegs t [Reg.CAN_ECNT c, Reg.CAN_TXQ c] := by
  refine ⟨?_, State.get_put_cleared _ _ _ _ _ _ (by decide) (by decide) (by decide) (by decide),
    State.get_put_cleared _ _ _ _ _ _ (by decide) (by decide) (by decide) (by decide), ?_⟩
  · rw [State.can_put, State.can_modCan]
  · have hkeep : s.keepsRegs (s.modCan c fun x => { x with busOff := false, recovering := false }) [Reg.CAN_ECNT c, Reg.CAN_TXQ c] :=
      fun a ha => s.rd_modCan c _ a fun e => ha (e ▸ List.mem_cons_of_mem _ List.mem_cons_self)
    exact hkeep.put _ _ _ _ List.mem_cons_self

/-- Settles O42: each event of a port by whether it takes part in the traffic of its bus. -/
theorem canTraffic : Obligations.CanTraffic := by
  unfold Obligations.CanTraffic
  intro s c kind sof f rest tx heavy hc hkind hf
  have hwf : wfCan c = true := decide_eq_true hc
  have hwfRx : (wfCan c && wfCanFrame f) = true := by rw [hwf, hf]; rfl
  have hwfErr : (wfCan c && decide (kind < 4)) = true := by rw [hwf, decide_eq_true hkind]; rfl
  have hwfDone : ∀ how, how < 3 → (wfCan c && decide (how < 3)) = true := fun how h => by rw [hwf, decide_eq_true h]; rfl
  have hend : ∀ how, how < 3 → s.canLive c = false → exec (.canTxDone c how) s = .next (s.canEnd c how) := fun how h hdead =>
    answer_eq (hwfDone how h) (if_neg (Bool.eq_false_iff.mp hdead))
  have hdone : ∀ how, how < 3 → s.canLive c = true → exec (.canTxDone c how) s = .next (s.canDone c how) := fun how h hlive =>
    answer_eq (hwfDone how h) (if_pos hlive)
  have herr : ∀ tx, s.canLive c = true → exec (.canBusError c kind tx heavy) s = .next (s.canError c kind tx heavy) := fun tx hlive =>
    answer_eq hwfErr (if_pos hlive)
  refine ⟨fun hdead => ?_, fun hdead h => hend kind h hdead, fun hdead hrun hsend hlow h => ?_, fun hlive hrec => ?_,
    fun hlive hmon hrtr hrun => ?_, fun hlive hrun hidle hmon hfifo hqueue harm => ?_, fun hidle h => ?_,
    fun hlive hsend => ⟨?_, fun hshot => ?_, ?_⟩, fun hlive htx => ?_, fun hlive htx hpassive hfit => ?_,
    fun hlive htx hpassive hover => ?_, fun hoff hrec => ?_, fun hon => ?_, fun hout => ?_, fun hin => ?_⟩
  · simp only [List.forall_mem_cons, List.not_mem_nil, false_implies, implies_true, and_true]
    refine ⟨answer_eq hwfRx (if_neg (Bool.eq_false_iff.mp hdead)), answer_eq hwf ?_,
      answer_eq hwfErr (if_neg (Bool.eq_false_iff.mp hdead))⟩
    rw [s.canTx_dead c hdead, ite_self]
  · refine answers_eq ((hend kind h hdead).trans (congrArg Host.Outcome.next (s.canEnd_discards c f kind hsend hrun hlow))) ?_
    rw [State.can_canLose, State.can_modCan]
    exact ⟨rfl, rfl⟩
  · exact answers_eq (answer_eq hwfRx (if_pos hlive)) (s.canRx_counts c f sof hc hrec)
  · exact answers_eq (answer_eq hwfRx (if_pos hlive)) (s.canRx_passes c f sof hc hmon hrtr hrun)
  · refine answers_eq (answer_eq hwf ((if_neg (Bool.eq_false_iff.mp hrun)).trans
      (s.canTx_sends c f rest hlive hidle hmon hfifo hqueue harm))) ?_
    rw [State.can_setCan]
    exact ⟨rfl, rfl, s.keepsRegs_setCan c _⟩
  · refine answer_eq (hwfDone kind h) ?_
    rw [s.canDone_idle c kind hidle, s.canEnd_idle c kind hidle, ite_self]
  · exact answers_eq ((hdone 0 (by decide) hlive).trans (congrArg Host.Outcome.next (s.canDone_sent c f hsend))) (s.canSent_spec c f)
  · refine answers_eq ((hdone 2 (by decide) hlive).trans (congrArg Host.Outcome.next (s.canDone_error c f hsend))) ?_
    rw [State.canAgain, hshot, if_neg Bool.false_ne_true, State.can_modCan]
    exact ⟨rfl, rfl⟩
  · exact (hdone 1 (by decide) hlive).trans (congrArg Host.Outcome.next (s.canDone_lost c f hsend))
  · subst htx
    exact answers_eq (herr false hlive) (s.canError_rx_spec c kind heavy hc hkind)
  · subst htx
    exact answers_eq (herr true hlive) (s.canError_tx_spec c kind heavy hc hpassive hfit)
  · subst htx
    exact (herr true hlive).trans (congrArg Host.Outcome.next (s.canError_off c kind heavy hpassive hover))
  · exact answers_eq (answer_eq hwf (if_pos (by rw [hoff, hrec]; rfl))) (s.canRecovered_spec c)
  · exact answer_eq hwf (if_neg (by simp [hon]))
  · exact answer_eq hwf (if_pos (by rw [hout]; rfl))
  · exact answer_eq hwf (if_neg (by simpa using hin))

end Sys2Proof.Machine
end

section
/-!
PROOF. Waking by CAN and the awake timer (R446 to R452), up to the statement CanWakes.
-/
namespace Sys2Proof.Machine

theorem has_sleepPage (s : State) : s.has 0x0B8 = true := has_of_parts s 0x0B8 (by decide)

theorem eventReg_NS_CNT : eventReg Reg.NS_CNT = false :=
  eventReg_block _ (by decide) (by decide) (by decide) (by decide)

theorem eventReg_NS_CFG : eventReg Reg.NS_CFG = false :=
  eventReg_block _ (by decide) (by decide) (by decide) (by decide)

/-! ### A decoder that is not armed -/

section
variable (s : State) (c : Nat) (hc : c < 4)
include hc

theorem exec_canWakes_none (f : CanFrame) (sof : Nat) (hf : wfCanFrame f = true) (h : s.wakeCfg c = none) :
    ∀ x ∈ [Instr.canWupDetected c, .canWakeFrameMatch c f sof, .canWakeFrameError c sof, .canConfirmWindowExpiry c],
      exec x s = .next s := by
  have hwf : wfCan c = true := decide_eq_true hc
  simp only [List.forall_mem_cons, List.not_mem_nil, false_implies, implies_true, and_true]
  refine ⟨answer_eq hwf ?_, answer_eq (by rw [hwf, hf]; rfl) ?_, answer_eq hwf ?_, answer_eq hwf ?_⟩
  · rw [h]
  · rw [State.canDecode, h]
  · rw [State.canDecodeBad, h]
  · rw [h]
    rfl

/-! ### An armed decoder -/

variable (cfg : Word) (ws : List Word) (h : s.wakeCfg c = some (cfg, ws))
include h

theorem exec_canWupDetected_armed :
    exec (.canWupDetected c) s = .next (if cfg.fld 1 0 = 1 then s.canWakeFree c 16 none else s) := by
  refine answer_eq (decide_eq_true hc) ?_
  rw [h]

omit hc

/-- A frame that the decoder of `WMODE` 2 reads. -/
theorem State.canDecode_armed (f : CanFrame) (sof : Nat) : s.canDecode c f sof =
    if cfg.fld 1 0 ≠ 2 || f.fdf then s
    else if filterMatches (ws.take 5) f then (s.modCan c fun x => { x with fec := x.fec - 1 }).canMatch c cfg 0 f sof
    else if filterMatches (ws.drop 5) f then (s.modCan c fun x => { x with fec := x.fec - 1 }).canMatch c cfg 1 f sof
    else s.modCan c fun x => { x with fec := x.fec - 1 } := by
  rw [State.canDecode, h]

section
variable (sof : Nat) (hmode : cfg.fld 1 0 = 2)
include hmode

/-- A frame error below the limit is counted. -/
theorem State.canDecodeBad_counts (hlow : (s.can c).fec < 31) :
    s.canDecodeBad c sof = s.setCan c { s.can c with fec := (s.can c).fec + 1 } := by
  rw [State.canDecodeBad, h]
  dsimp only
  rw [if_neg (by simp only [hmode]; simp; omega), if_pos (by omega)]

theorem State.canDecodeBad_wakes (hlimit : (s.can c).fec = 31) (hwake : cfg.getLsbD 2 = true) :
    s.canDecodeBad c sof = (s.setCan c { s.can c with fec := 32 }).canWakeFree c 8 (some sof) := by
  rw [State.canDecodeBad, h]
  dsimp only
  rw [if_neg (by simp [hmode, hlimit]), hlimit, if_neg (by decide), if_pos hwake]

end

theorem State.confirm_armed : (s.wakeCfg c).isSome = true := by
  rw [h]
  rfl

end

/-- Matches that are not confirmed are dropped and counted. -/
theorem State.unconfirmed_spec (s : State) (c : Nat) :
    ((s.unconfirmed c).can c).matched = 0 ∧ ((s.unconfirmed c).can c).window = none ∧
      (s.unconfirmed c).get (Reg.CAN_WUNC c) 31 0 = min (s.get (Reg.CAN_WUNC c) 31 0 + (s.can c).matched) (2 ^ 32 - 1) := by
  have hcan : (s.unconfirmed c).can c = { s.can c with matched := 0, window := none } :=
    (State.can_count _ c _ _ _ _).trans (s.can_modCan c _)
  have hne : Reg.CAN_WUNC c ≠ Reg.CAN_TXQ c := header_ne _ _ _ (by decide)
  rw [hcan]
  refine ⟨rfl, rfl, (State.get_count_same _ _ _ _ _ (by decide) (by decide)).trans ?_⟩
  rw [State.get, s.rd_modCan c _ _ hne, State.get]

/-! ### The awake timer (R452) -/

/-- The timer has run out: its event and its count. -/
def State.awakeOver (s : State) : State := (({ s with awake := none } : State).raise 0x0B8 9).count Reg.NS_CNT 31 16

section
variable (s : State)

theorem State.awakeOver_spec : s.awakeOver.awake = none ∧ s.awakeOver.bit (Reg.PG_EVRAW 0x0B8) 9 = true ∧
    s.awakeOver.get Reg.NS_CNT 31 16 = min (s.get Reg.NS_CNT 31 16 + 1) 65535 ∧ s.awakeOver.bit Reg.NS_CFG 16 = s.bit Reg.NS_CFG 16 := by
  rw [State.awakeOver]
  refine ⟨?_, ?_, ?_, ?_⟩
  · rw [(count_frame _ _ _ _ _).awake, (raise_frame _ _ _).awake]
  · rw [State.bit_count_ne _ _ _ _ _ _ _ (by decide)]
    exact State.bit_raise_same _ _ _ (by decide) (by decide) (has_sleepPage _)
  · rw [State.get_count_same _ _ _ _ _ (by decide) (by decide), State.get_raise _ _ _ _ (by decide) eventReg_NS_CNT]
    rfl
  · rw [State.bit_count_ne _ _ _ _ _ _ _ (by decide), State.bit_raise _ _ _ _ (by decide) eventReg_NS_CFG]
    rfl

theorem exec_awakeTimerExpiry_idle (h : s.awake = none ∨ s.running 0x0B8 = false) : exec .awakeTimerExpiry s = .next s := by
  refine congrArg Host.Outcome.next (if_neg ?_)
  obtain h | h := h <;> simp [h]

theorem exec_awakeTimerExpiry_over (hon : s.awake.isSome = true) (hrun : s.running 0x0B8 = true) : exec .awakeTimerExpiry s =
    .next (if s.bit Reg.NS_CFG 16 = true then s.awakeOver.voteWrite true else s.awakeOver) := by
  refine congrArg Host.Outcome.next ((if_pos (by rw [hon, hrun]; rfl)).trans ?_)
  obtain ⟨-, -, -, hcfg⟩ := s.awakeOver_spec
  rw [← hcfg]
  rfl

end

/-- Settles O43: wakes by the configuration in force, and the awake timer. -/
theorem canWakes : Obligations.CanWakes := by
  unfold Obligations.CanWakes
  intro s c sof f cfg ws hc hf
  have hwf : wfCan c = true := decide_eq_true hc
  have hwf' : (wfCan c && wfCanFrame f) = true := by rw [hwf, hf]; rfl
  refine ⟨fun hfeather => answer_eq hwf (if_pos hfeather), fun hfeather => ?_, exec_canWakes_none s c hc f sof hf, fun h => ?_,
    exec_awakeTimerExpiry_idle s, fun hon hrun hvote => ?_, fun hon hrun hvote => ?_, answers_next ⟨rfl, rfl, rfl⟩⟩
  · refine answers_eq (answer_eq hwf (if_neg (Bool.eq_false_iff.mp hfeather))) ⟨?_, s.keepsRegs_modCan c _⟩
    rw [State.can_modCan]
  · have hwup := exec_canWupDetected_armed s c hc cfg ws h
    have hdecode := s.canDecode_armed c cfg ws h f sof
    refine ⟨fun hmode => ?_, fun hmode => ?_, fun hskip => ?_, fun hmode hfdf hfirst hsecond => ?_, fun hmode hfdf hfirst => ?_,
      fun hmode hlow => ?_, fun hmode hlimit hwake => ?_, fun hwin => ?_, fun hwin => ?_⟩
    · rw [hwup, if_pos hmode]
    · rw [hwup, if_neg hmode]
    · refine answer_eq hwf' (hdecode.trans (if_pos ?_))
      obtain h | h := hskip <;> simp [h]
    · refine answers_eq (answer_eq hwf' (hdecode.trans ?_)) ⟨?_, s.keepsRegs_modCan c fun x => { x with fec := x.fec - 1 }⟩
      · rw [if_neg (by simp [hmode, hfdf]), hfirst, if_neg Bool.false_ne_true, hsecond, if_neg Bool.false_ne_true]
      · rw [State.can_modCan]
    · refine answer_eq hwf' (hdecode.trans ?_)
      rw [if_neg (by simp [hmode, hfdf]), hfirst, if_pos rfl]
    · refine answers_eq (answer_eq hwf (s.canDecodeBad_counts c cfg ws h sof hmode hlow)) ⟨?_, s.keepsRegs_setCan c _⟩
      rw [State.can_setCan]
    · exact answer_eq hwf (s.canDecodeBad_wakes c cfg ws h sof hmode hlimit hwake)
    · exact answer_eq hwf (if_neg (by simp [hwin]))
    · exact answers_eq (answer_eq hwf (if_pos (by rw [s.confirm_armed c cfg ws h, hwin]; rfl))) (s.unconfirmed_spec c)
  · obtain ⟨hawake, hevent, hcount, -⟩ := s.awakeOver_spec
    refine answers_eq ((exec_awakeTimerExpiry_over s hon hrun).trans ?_) ⟨hawake, hevent, hcount⟩
    rw [hvote, if_neg Bool.false_ne_true]
  · refine (exec_awakeTimerExpiry_over s hon hrun).trans ?_
    rw [hvote, if_pos rfl]
    rfl

end Sys2Proof.Machine
end

section
/-!
PROOF. Registers of the field die, and the frames of the field link (R465 to R472, R495), up to the statement FieldFrames.
-/
namespace Sys2Proof.Machine

/-! ### Writes of the field die's registers -/

section
variable (s : State) (a b hi lo v : Nat)

theorem State.frd_fwr_same (w : Word) : (s.fwr a w).frd a = w := Sparse.get_set_same _ _ _ _

theorem State.frd_fwr_ne (w : Word) (h : b ≠ a) : (s.fwr a w).frd b = s.frd b := Sparse.get_set_ne _ _ _ b a w h

theorem State.fget_fput_same (hhi : hi < 32) (hlo : lo ≤ hi) : (s.fput a hi lo v).fget a hi lo = v % 2 ^ (hi + 1 - lo) := by
  refine Nat.eq_of_testBit_eq fun i => ?_
  rw [State.fget, State.fput, State.frd_fwr_same, Word.testBit_fld, Word.getLsbD_setFld _ hi lo v _ hhi hlo, Nat.testBit_mod_two_pow]
  by_cases h : i < hi + 1 - lo
  · rw [if_pos (by omega), Nat.add_sub_cancel]
  · rw [decide_eq_false h, Bool.false_and, Bool.false_and]

theorem State.fget_fcount_same (n : Nat) (hhi : hi < 32) (hlo : lo ≤ hi) :
    (s.fcount a hi lo n).fget a hi lo = min (s.fget a hi lo + n) (2 ^ (hi + 1 - lo) - 1) := by
  have hpos : 0 < 2 ^ (hi + 1 - lo) := Nat.pow_pos (by omega)
  rw [State.fcount, State.fget_fput_same _ _ _ _ _ hhi hlo]
  exact Nat.mod_eq_of_lt (by omega)

theorem State.fbit_fsetBit_ne (i j : Nat) (x : Bool) (h : b ≠ a) : (s.fsetBit a i x).fbit b j = s.fbit b j := by
  rw [State.fbit, State.fsetBit, State.fput, State.frd_fwr_ne _ _ _ _ h, State.fbit]

end

/-- What writes of the field die's registers leave: the core, and the rest of the field die. -/
structure FieldRegs (s t : State) : Prop where
  regs : t.regs = s.regs
  fc : t.fc = s.fc
  field : t.field = { s.field with regs := t.field.regs }

theorem FieldRegs.refl (s : State) : FieldRegs s s := ⟨rfl, rfl, rfl⟩

theorem FieldRegs.trans {s t u : State} (h : FieldRegs s t) (g : FieldRegs t u) : FieldRegs s u :=
  ⟨g.regs.trans h.regs, g.fc.trans h.fc, by rw [g.field, h.field]⟩

theorem FieldRegs.fwr (s : State) (a : Nat) (v : Word) : FieldRegs s (s.fwr a v) := ⟨rfl, rfl, rfl⟩

theorem FieldRegs.fput (s : State) (a hi lo v : Nat) : FieldRegs s (s.fput a hi lo v) := FieldRegs.fwr s a _

theorem FieldRegs.fcount (s : State) (a hi lo n : Nat) : FieldRegs s (s.fcount a hi lo n) := FieldRegs.fwr s a _

theorem FieldRegs.each {α : Type} (l : List α) (f : State → α → State) (hf : ∀ s x, FieldRegs s (f s x)) (s : State) :
    FieldRegs s (s.each l f) := by
  induction l generalizing s with
  | nil => exact FieldRegs.refl s
  | cons x l ih => exact (hf s x).trans (ih (f s x))

/-! ### Downstream frames (R466) -/

section
variable (s : State) (slack : Nat)

theorem State.fieldSends_unloaded (h : s.fc.loaded = false) : s.fieldSends = false := by rw [State.fieldSends, h, Bool.and_false]

theorem exec_fieldDownstreamLaunch_silent (ready : Bool) (h : s.fieldSends = false) :
    exec (.fieldDownstreamLaunch ready slack) s = .next s :=
  congrArg Host.Outcome.next (if_pos (by rw [h]; rfl))

theorem exec_fieldDownstreamLaunch_sends (ready : Bool) (h : s.fieldSends = true) (harm : s.bit (Reg.PG_INJARM 0x001) 0 = false) :
    exec (.fieldDownstreamLaunch ready slack) s =
      .next (if ready = true then (s.launch 3 slack).fieldFresh else (s.missLaunch 3).fieldStale) := by
  refine congrArg Host.Outcome.next ((if_neg (by rw [h]; decide)).trans ?_)
  rw [s.injFires_of_disarmed 0x001 0x10 3 harm, s.injStep_of_disarmed 0x001 0x10 3 harm]
  cases ready with
  | true => exact (if_neg Bool.false_ne_true).trans (if_pos rfl).symm
  | false => exact (if_pos rfl).trans (if_neg Bool.false_ne_true).symm

theorem exec_fieldDownstreamRx_none (good : Bool) (h : s.fc.down = none) : exec (.fieldDownstreamRx good) s = .next s := by
  refine congrArg Host.Outcome.next ?_
  rw [h]

/-- A downstream frame that arrives, by whether the field die is supplied and the frame is good. -/
theorem exec_fieldDownstreamRx_some (good : Bool) (f : DownFrame) (h : s.fc.down = some f)
    (harm : s.bit (Reg.PG_INJARM 0x0C0) 0 = false) : exec (.fieldDownstreamRx good) s =
      .next (if s.field.alive = false then s.setFc { s.fc with down := none }
        else if good = true then (s.setFc { s.fc with down := none }).fieldTakes f
        else ((s.setFc { s.fc with down := none }).setField { s.field with goodRun := 0 }).fcount Reg.FL_FERR 15 0) := by
  refine congrArg Host.Outcome.next ?_
  rw [h]
  dsimp only
  rw [s.injFires_of_disarmed 0x0C0 0x10 0 harm, s.injStep_of_disarmed 0x0C0 0x10 0 harm]
  have halive : (s.setFc { s.fc with down := none }).field.alive = s.field.alive := rfl
  by_cases hdead : s.field.alive = false
  · rw [if_pos (by rw [halive, hdead]; rfl), if_pos hdead]
  · rw [if_neg (by rw [halive, eq_true_of_ne_false hdead]; decide), if_neg hdead]
    cases good with
    | true => exact (if_neg Bool.false_ne_true).trans (if_pos rfl).symm
    | false => exact (if_pos rfl).trans (if_neg Bool.false_ne_true).symm

/-- A bad frame is counted and does not act. -/
theorem State.badFrame_spec :
    let t := ((s.setFc { s.fc with down := none }).setField { s.field with goodRun := 0 }).fcount Reg.FL_FERR 15 0
    t.field.goodRun = 0 ∧ t.fc.down = none ∧ t.fget Reg.FL_FERR 15 0 = min (s.fget Reg.FL_FERR 15 0 + 1) 65535 ∧
      t.field.doCmd = s.field.doCmd ∧ t.regs = s.regs :=
  ⟨rfl, rfl, State.fget_fcount_same _ _ _ _ _ (by decide) (by decide), rfl, rfl⟩

/-! ### Upstream frames (R466 to R469) -/

theorem fieldMeasured_regs (m : FieldMeas) : FieldRegs s (s.fieldMeasured m) :=
  (FieldRegs.fwr s _ _).trans (FieldRegs.each _ _
    (fun t _ => (FieldRegs.fput t _ _ _ _).trans ((FieldRegs.fput _ _ _ _ _).trans (FieldRegs.fput _ _ _ _ _))) _)

theorem State.fieldReport_spec : s.fieldReport.fc.up.isSome = true ∧ s.fieldReport.field.events = [] ∧ s.fieldReport.field.lost = 0 ∧
    s.fieldReport.field.edges = s.field.edges.drop 6 ∧ s.fieldReport.regs = s.regs := ⟨rfl, rfl, rfl, rfl, rfl⟩

theorem State.upstreamLaunch_spec (m : FieldMeas) :
    (s.fieldMeasured m).fieldReport.fc.up.isSome = true ∧ (s.fieldMeasured m).fieldReport.field.events = [] ∧
      (s.fieldMeasured m).fieldReport.field.lost = 0 ∧ (s.fieldMeasured m).fieldReport.field.edges = s.field.edges.drop 6 ∧
      (s.fieldMeasured m).fieldReport.regs = s.regs := by
  obtain ⟨hregs, -, hfield⟩ := fieldMeasured_regs s m
  obtain ⟨hup, hevents, hlost, hedges, hreport⟩ := (s.fieldMeasured m).fieldReport_spec
  exact ⟨hup, hevents, hlost, by rw [hedges, hfield], by rw [hreport, hregs]⟩

theorem exec_fieldUpstreamRx_none (h : s.fc.up = none) : exec .fieldUpstreamRx s = .next s := by
  refine congrArg Host.Outcome.next ?_
  rw [h]

theorem exec_fieldUpstreamRx_some (u : UpFrame) (h : s.fc.up = some u) (harm : s.bit (Reg.PG_INJARM 0x0C0) 0 = false) :
    exec .fieldUpstreamRx s = .next (s.upRx u).regWrFollow := by
  refine congrArg Host.Outcome.next ?_
  rw [h]
  dsimp only
  rw [s.injFires_of_disarmed 0x0C0 0x10 1 harm, if_neg Bool.false_ne_true, s.injStep_of_disarmed 0x0C0 0x10 1 harm]

/-- The content of a frame that did not arrive goes back; the core's registers and counts stay. -/
theorem State.fieldKeep_spec : s.fieldKeep.fc.missing = s.fc.missing ∧ ∀ a, s.fieldKeep.rd a = s.rd a := by
  unfold State.fieldKeep
  split
  · exact ⟨rfl, fun _ => rfl⟩
  · exact ⟨rfl, fun _ => rfl⟩

/-- A missing frame, counted by what was wrong with it. -/
def State.upCounted (s : State) (crcBad : Bool) : State := if crcBad then s.count Reg.FL_ERR 15 0 else s.count Reg.FL_ERR 31 16

theorem State.upCounted_spec (crcBad : Bool) :
    (s.upCounted crcBad).fc = s.fc ∧ (s.upCounted crcBad).rd Reg.FL_STAT = s.rd Reg.FL_STAT := by
  unfold State.upCounted
  split
  · exact ⟨(count_frame _ _ _ _ _).fc, State.rd_count_ne _ _ _ _ _ _ (by decide)⟩
  · exact ⟨(count_frame _ _ _ _ _).fc, State.rd_count_ne _ _ _ _ _ _ (by decide)⟩

/-- A frame more is missing, with no good ones in a row. -/
def State.upMissed (s : State) (crcBad : Bool) : State :=
  (s.fieldKeep.upCounted crcBad).setFc
    { (s.fieldKeep.upCounted crcBad).fc with missing := (s.fieldKeep.upCounted crcBad).fc.missing + 1, good := 0, echoRun := 0 }

/-- While the field is lost already, a missing frame only counts. -/
theorem State.upLost_lost (crcBad : Bool) (h : s.bit Reg.FL_STAT 8 = true) : s.upLost crcBad = s.upMissed crcBad := by
  have hlost : (s.upMissed crcBad).bit Reg.FL_STAT 8 = true := by
    change ((s.fieldKeep.upCounted crcBad).rd Reg.FL_STAT).getLsbD 8 = true
    rw [(State.upCounted_spec _ crcBad).2, s.fieldKeep_spec.2]
    exact h
  have hlate : ¬ (decide ((s.upMissed crcBad).get Reg.FL_CFG 23 20 ≤ (s.upMissed crcBad).fc.missing) &&
      !(s.upMissed crcBad).bit Reg.FL_STAT 8) = true := by
    rw [hlost, Bool.not_true, Bool.and_false]
    exact Bool.false_ne_true
  exact if_neg hlate

end

/-! ### Commands for the field die (R472, R495) -/

theorem exec_flResume_refused (s : State) (h : s.bit Reg.BOOT_STAT 2 = true ∨ s.fc.echoRun < 16) :
    exec .flResume s = .next (s.raise 0x0C0 1) := by
  refine congrArg Host.Outcome.next ?_
  by_cases heasy : s.bit Reg.BOOT_STAT 2 = true
  · rw [if_pos heasy]
  · rw [if_neg heasy, if_neg (Nat.not_le.mpr (h.resolve_left heasy))]

theorem exec_flResume_sent (s : State) (heasy : s.bit Reg.BOOT_STAT 2 = false) (hrun : 16 ≤ s.fc.echoRun) :
    exec .flResume s = .next (s.setFc { s.fc with resume := true }) :=
  congrArg Host.Outcome.next ((if_neg (Bool.eq_false_iff.mp heasy)).trans (if_pos hrun))

/-- The field watchdog acts on a die that is supplied. -/
theorem exec_fieldWatchdogExpiry_dead (s : State) (h : s.field.alive = false) :
    exec .fieldWatchdogExpiry s = .next (s.injStep 0x0C0 0x11 0) := by
  have hinj : (s.injStep 0x0C0 0x11 0).field.alive = false := by
    rw [EventFrame.field (injStep_frame s 0x0C0 0x11 0 (by decide))]
    exact h
  exact congrArg Host.Outcome.next (if_neg (Bool.eq_false_iff.mp hinj))

theorem exec_fieldWatchdogExpiry_alive (s : State) (h : s.field.alive = true) (harm : s.bit (Reg.PG_INJARM 0x0C0) 0 = false) :
    exec .fieldWatchdogExpiry s = .next ((((s.fcount Reg.FL_FERR 31 16).fEvent 0x0C0 10).setField
      { ((s.fcount Reg.FL_FERR 31 16).fEvent 0x0C0 10).field with goodRun := 0 }).enterFailsafe true).fieldSettle := by
  refine congrArg Host.Outcome.next ?_
  rw [s.injStep_of_disarmed 0x0C0 0x11 0 harm]
  exact if_pos h

/-- Settles O45: each frame by whether the field die is supplied and what the core waits for. -/
theorem fieldFrames : Obligations.FieldFrames := by
  unfold Obligations.FieldFrames
  intro s slack m ready good crcBad
  refine ⟨exec_fieldDownstreamLaunch_silent s slack ready, s.fieldSends_unloaded, fun hsend harm => ⟨?_, ?_⟩,
    exec_fieldDownstreamRx_none s good, fun f hf harm => ⟨fun hdead => ?_, fun halive => ?_, fun halive => ?_⟩,
    fun hdead => ⟨?_, exec_fieldWatchdogExpiry_dead s hdead⟩, fun halive => ?_, exec_fieldUpstreamRx_none s,
    exec_fieldUpstreamRx_some s, rfl, fun hlost => ?_, fun hrun => ?_, fun hrun => ?_, fun halive harm t ht => ?_,
    exec_flResume_refused s, fun heasy hrun => ?_, answers_next ⟨rfl, rfl, rfl⟩, answers_next ⟨rfl, rfl, rfl⟩⟩
  · exact exec_fieldDownstreamLaunch_sends s slack true hsend harm
  · exact exec_fieldDownstreamLaunch_sends s slack false hsend harm
  · refine answers_eq (exec_fieldDownstreamRx_some s good f hf harm) ?_
    rw [if_pos hdead]
    exact ⟨rfl, rfl, rfl⟩
  · refine answers_eq (exec_fieldDownstreamRx_some s false f hf harm) ?_
    rw [if_neg (by rw [halive]; decide), if_neg Bool.false_ne_true]
    exact s.badFrame_spec
  · refine (exec_fieldDownstreamRx_some s true f hf harm).trans ?_
    rw [if_neg (by rw [halive]; decide), if_pos rfl]
  · exact congrArg Host.Outcome.next (if_neg (Bool.eq_false_iff.mp hdead))
  · exact answers_eq (congrArg Host.Outcome.next (if_pos halive)) (s.upstreamLaunch_spec m)
  · refine answers_eq (congrArg Host.Outcome.next (s.upLost_lost crcBad hlost)) ⟨rfl, rfl, ?_⟩
    change (s.fieldKeep.upCounted crcBad).fc.missing + 1 = _
    rw [(State.upCounted_spec _ crcBad).1, s.fieldKeep_spec.1]
  · exact congrArg Host.Outcome.next (if_neg (Bool.eq_false_iff.mp hrun))
  · exact congrArg Host.Outcome.next (if_pos hrun)
  · subst ht
    exact exec_fieldWatchdogExpiry_alive s halive harm
  · exact answers_eq (exec_flResume_sent s heasy hrun) ⟨rfl, rfl⟩

end Sys2Proof.Machine
end

section
/-!
PROOF. Supplies, inputs and outputs of the field die (R473 to R480, R497), up to the statement FieldInputsAndOutputs.
-/
namespace Sys2Proof.Machine

/-! ### Sets of bits -/

theorem testBit_foldl_or (l : List Nat) (m n : Nat) :
    (l.foldl (fun m i => m ||| 2 ^ i) m).testBit n = (m.testBit n || decide (n ∈ l)) := by
  induction l generalizing m with
  | nil => rw [List.foldl_nil, decide_eq_false List.not_mem_nil, Bool.or_false]
  | cons i l ih =>
    rw [List.foldl_cons, ih, Nat.testBit_or, Nat.testBit_two_pow, Bool.or_assoc, ← Bool.decide_or]
    simp only [List.mem_cons, eq_comm]

theorem State.testBit_commandedBits (s : State) (seat kind k mask n : Nat) (hn : n < k) :
    (s.commandedBits seat kind k mask).testBit n = (mask.testBit n && s.commands seat kind n) := by
  rw [State.commandedBits, testBit_foldl_or, Nat.zero_testBit, Bool.false_or, Bool.eq_iff_iff, decide_eq_true_iff, List.mem_filter,
    List.mem_range]
  exact and_iff_right hn

/-! ### Digital outputs (R480, R497) -/

section
variable (s : State) (seat n : Nat)

theorem State.setDoCmd_doCmd (v : Nat) : (s.setDoCmd v).fc.doCmd = v := by
  unfold State.setDoCmd State.when
  split
  · rw [(put_frame _ _ _ _ _).fc]; rfl
  · rfl

theorem testBit_levels_set (c m : Nat) (hn : n < 16) : (((c ||| m) ^^^ m) ||| (m &&& 65535)).testBit n = (c.testBit n || m.testBit n) := by
  rw [Nat.testBit_or, Nat.testBit_xor, Nat.testBit_or, Nat.testBit_and, show 65535 = 2 ^ 16 - 1 from rfl, Nat.testBit_two_pow_sub_one,
    decide_eq_true hn]
  cases c.testBit n <;> cases m.testBit n <;> rfl

theorem testBit_levels_clear (c m : Nat) : (((c ||| m) ^^^ m) ||| (m &&& 0)).testBit n = (c.testBit n && !m.testBit n) := by
  rw [Nat.and_zero, Nat.or_zero, Nat.testBit_xor, Nat.testBit_or]
  cases c.testBit n <;> cases m.testBit n <;> rfl

variable (v : Word)

theorem State.testBit_commandedOutputs (hn : n < 16) :
    (s.commandedBits seat 3 16 (v.fld 15 0)).testBit n = (v.getLsbD n && s.commands seat 3 n) := by
  rw [s.testBit_commandedBits seat 3 16 _ n hn, Word.testBit_fld, decide_eq_true (by omega), Bool.true_and, Nat.add_zero]

theorem State.testBit_doSet (hn : n < 16) : (s.doCommand seat (v.fld 15 0) 65535).fc.doCmd.testBit n =
    (s.fc.doCmd.testBit n || v.getLsbD n && s.commands seat 3 n) := by
  rw [State.doCommand, State.setDoCmd_doCmd, testBit_levels_set n _ _ hn, s.testBit_commandedOutputs seat n v hn]

theorem State.testBit_doClear (hn : n < 16) : (s.doCommand seat (v.fld 15 0) 0).fc.doCmd.testBit n =
    (s.fc.doCmd.testBit n && !(v.getLsbD n && s.commands seat 3 n)) := by
  rw [State.doCommand, State.setDoCmd_doCmd, testBit_levels_clear, s.testBit_commandedOutputs seat n v hn]

end

/-! ### A field die with and without supply -/

section
variable (s : State) (f : State → State)

theorem State.onField_dead (h : s.field.alive = false) : s.onField f = s := if_neg (Bool.eq_false_iff.mp h)

theorem State.onField_alive (h : s.field.alive = true) : s.onField f = f s := if_pos h

/-! ### Supplies (R473 to R475) -/

/-- Where `FL.UVCNT` counts the under-voltages of a rail. -/
theorem exec_railUndervoltage (r : Nat) (hr : r < 3) (h : s.field.alive = true) (harm : s.bit (Reg.PG_INJARM 0x0C0) 0 = false) :
    exec (.railUndervoltage r) s = .next (if s.railUv r then s else
      (((s.setField { s.field with uv := s.field.uv ++ [r] }).fcount Reg.FL_UVCNT
        ((if r = 0 then 16 else if r = 1 then 0 else 8) + 7) (if r = 0 then 16 else if r = 1 then 0 else 8)).fEvent 0x0C0 12).fieldSettle) := by
  refine answer_eq (decide_eq_true hr) ?_
  rw [s.injStep_of_disarmed 0x0C0 0x12 r harm]
  exact s.onField_alive _ h

theorem exec_railRecovered_up (r : Nat) (hr : r < 3) (h : s.field.alive = true) (huv : s.railUv r = false) :
    exec (.railRecovered r) s = .next s :=
  answer_eq (decide_eq_true hr) ((s.onField_alive _ h).trans (if_pos (by rw [huv]; rfl)))

/-- The outputs that a recovered rail governs wait for their slots. -/
def State.railStagger (t : State) (r : Nat) : State :=
  if r = 0 then (t.lsStagger sixteen).doStagger sixteen else if r = 1 then t.lsStagger sixteen else t.doStagger sixteen

theorem State.railStagger_eq (t : State) (r : Nat) (hr : r < 3) :
    (if r = 1 then (if r = 2 then t else t.lsStagger sixteen) else (if r = 2 then t else t.lsStagger sixteen).doStagger sixteen) =
      t.railStagger r := by
  unfold State.railStagger
  obtain rfl | rfl | rfl : r = 0 ∨ r = 1 ∨ r = 2 := by omega
  · rw [if_neg (by decide), if_neg (by decide), if_pos rfl]
  · rw [if_pos rfl, if_neg (by decide), if_neg (by decide), if_pos rfl]
  · rw [if_neg (by decide), if_pos rfl, if_neg (by decide), if_neg (by decide)]

theorem exec_railRecovered_down (r : Nat) (hr : r < 3) (h : s.field.alive = true) (huv : s.railUv r = true) :
    exec (.railRecovered r) s = .next
      ((((s.setField { s.field with uv := s.field.uv.filter fun x => x != r }).railStagger r).fEvent 0x0C0 13).fieldSettle) := by
  refine answer_eq (decide_eq_true hr) ((s.onField_alive _ h).trans ((if_neg (by rw [huv]; decide)).trans ?_))
  rw [← State.railStagger_eq _ r hr]

/-- A slot: the load switch first, then the digital output. -/
theorem exec_outputStaggerSlot (n : Nat) (hn : n < 16) (h : s.field.alive = true) : exec (.outputStaggerSlot n) s = .next
    (if (s.lsSlot n).railUv 0 = true ∨ (s.lsSlot n).railUv 2 = true then s.lsSlot n
      else (s.lsSlot n).setField { (s.lsSlot n).field with doWait := (s.lsSlot n).field.doWait.filter fun x => x != n }).fieldSettle := by
  refine answer_eq (decide_eq_true hn) ((s.onField_alive _ h).trans ?_)
  simp only [Bool.or_eq_true]

theorem State.lsSlot_eq (n : Nat) : s.lsSlot n = if s.railUv 0 = true ∨ s.railUv 1 = true then s
    else if (s.lsDyn n).due = true ∧ (s.lsDyn n).prot = 4 then (s.setLs n { s.lsDyn n with wait := false }).lsRetryNow n
    else s.setLs n { s.lsDyn n with wait := false } := by
  unfold State.lsSlot
  simp only [Bool.or_eq_true, Bool.and_eq_true, decide_eq_true_eq]

/-! ### The return of FV24 (R453, R474) -/

theorem Sparse.find?_map_snd {V : Type} (g : V → V) (l : List (Nat × V)) (k : Nat) :
    Sparse.find? (l.map fun e => (e.1, g e.2)) k = (Sparse.find? l k).map g := by
  induction l with
  | nil => rfl
  | cons e l ih =>
    rw [List.map_cons, Sparse.find?, Sparse.find?, ih]
    split <;> rfl

/-- A port of the returned field die has FEC 0, or had no content. -/
theorem exec_fv24Return_can (c : Nat) (t : State) (ht : t.cans = s.cans.map fun (e : Nat × Can) => (e.1, rearm e.2)) :
    (t.can c).fec = 0 ∨ t.can c = s.can c := by
  rw [State.can, Sparse.get, ht, Sparse.find?_map_snd, State.can, Sparse.get]
  cases Sparse.find? s.cans c with
  | none => exact .inr rfl
  | some x => exact .inl rfl

/-! ### Digital inputs (R477) -/

theorem exec_diEdgeAccepted (n : Nat) (raw : Bool) (ns : Nat) (hn : n < 32) (h : s.field.alive = true) :
    exec (.diEdgeAccepted n raw ns) s = .next (s.diAccept n raw ns) := answer_eq (decide_eq_true hn) (s.onField_alive _ h)

/-- An edge at the level held changes nothing but the raw level. -/
theorem State.diAccept_held (n : Nat) (raw : Bool) (ns : Nat) (harm : s.bit (Reg.PG_INJARM 0x0C1) 0 = false)
    (hlev : (raw != (s.frd (Reg.DI_CFG n)).getLsbD 18) = s.fbit Reg.DI_LEVEL n) :
    s.diAccept n raw ns = s.fsetBit Reg.DI_RAW n (s.fbit Reg.DI_LEVEL n) := by
  unfold State.diAccept
  dsimp only
  rw [s.injStep_of_disarmed 0x0C1 0x10 0 harm, hlev]
  exact if_pos (by rw [State.fbit_fsetBit_ne _ _ _ _ _ _ (by decide), beq_self_eq_true])

end

/-- Settles O46: each command by the supply of the field die and its rails; the commanded outputs bit by bit. -/
theorem fieldInputsAndOutputs : Obligations.FieldInputsAndOutputs := by
  unfold Obligations.FieldInputsAndOutputs
  intro s n k r ns seat raw v hn hk hr hseat
  have hls : wfLs n = true := decide_eq_true hn
  have hcmd : decide (seat < 64) = true := decide_eq_true hseat
  refine ⟨fun hdead => ⟨?_, ?_, ?_, ?_⟩, fun halive harm huv => ?_, fun halive harm huv lo hlo => ?_,
    exec_railRecovered_up s r hr, fun t halive huv ht => ?_, fun t halive ht => ?_, answers_next ⟨rfl, rfl, rfl⟩, fun halive => ?_,
    fun hdead => ?_, fun halive harm hlev => ?_, exec_diEdgeAccepted s k raw ns hk, fun halive harm => ?_, fun halive hauto => ?_,
    fun hauto => ?_, answer_next hcmd _, answer_next hcmd _, s.testBit_commandedOutputs seat n v hn, s.testBit_doSet seat n v hn,
    s.testBit_doClear seat n v hn, answers_eq (answer_next hcmd _) ⟨rfl, List.length_append⟩⟩
  · exact answer_eq (decide_eq_true hr) (s.onField_dead _ hdead)
  · exact answer_eq hls (s.onField_dead _ hdead)
  · exact answer_eq (decide_eq_true hk) (s.onField_dead _ hdead)
  · exact answer_eq hls (s.onField_dead _ hdead)
  · rw [exec_railUndervoltage s r hr halive harm, if_pos huv]
  · rw [exec_railUndervoltage s r hr halive harm, if_neg (Bool.eq_false_iff.mp huv), ← hlo]
  · rw [exec_railRecovered_down s r hr halive huv, ht, State.railStagger]
  · rw [exec_outputStaggerSlot s n hn halive, s.lsSlot_eq n, ← ht]
  · exact congrArg Host.Outcome.next (if_pos halive)
  · refine answers_eq (congrArg Host.Outcome.next (if_neg (Bool.eq_false_iff.mp hdead))) ⟨rfl, rfl, fun c => ?_⟩
    exact exec_fv24Return_can s c _ rfl
  · rw [exec_diEdgeAccepted s k raw ns hk halive, s.diAccept_held k raw ns harm hlev]
  · refine answer_eq hls ?_
    rw [s.injStep_of_disarmed 0x0C2 0x10 n harm]
    exact s.onField_alive _ halive
  · exact answer_eq hls ((s.onField_alive _ halive).trans (if_pos hauto))
  · refine answer_eq hls ?_
    unfold State.onField
    dsimp only
    rw [if_neg (Bool.eq_false_iff.mp hauto), ite_self]

end Sys2Proof.Machine
end

section
/-!
PROOF. Supplies, reset triggers, the clearing and the release of domain D (R546 to R554, R566, R567, R588), up to the statement
PowerAndResets.
-/
namespace Sys2Proof.Machine

/-! ### Supplies -/

theorem testBit_clearBit (v i : Nat) : (clearBit v i).testBit i = false := by
  unfold clearBit
  cases hv : v.testBit i with
  | false => rw [if_neg Bool.false_ne_true, hv]
  | true =>
    rw [if_pos rfl]
    have hsum := Nat.testBit_two_pow_add_eq (v - 2 ^ i) i
    rw [Nat.add_sub_cancel' (Nat.ge_two_pow_of_testBit hv), hv] at hsum
    rw [← Bool.not_not ((v - 2 ^ i).testBit i), ← hsum, Bool.not_true]

/-! ### The clearing of domains (R548, R552) -/

section
variable (s : State)

/-- What is cleared takes its reset value, every register that outlives it is kept. -/
theorem State.rd_clearDSK (dram : Bool) (a : Nat) :
    (s.clearDSK dram).rd a = if outlives a = true then s.rd a else resetValue s.part s.straps a := by
  change (Sparse.find? (s.regs.filter _) a).getD _ = _
  split
  next h => rw [Sparse.find?_filter_true _ _ a fun _ => h]; rfl
  next h => rw [Sparse.find?_filter_false _ _ a fun _ => Bool.eq_false_iff.mpr h]; rfl

theorem State.rd_clearDSK_count (dram : Bool) (a : Nat) (hne : a ≠ Reg.RST_CNT) :
    ((s.clearDSK dram).count Reg.RST_CNT 15 0).rd a = if outlives a = true then s.rd a else resetValue s.part s.straps a := by
  rw [State.rd_count_ne _ _ _ _ _ _ hne, s.rd_clearDSK]

/-- The life store takes what it can before a reset (R581). -/
def State.lifeTaken (s : State) : State := s.lifeLastSec.each (List.range 39) State.lifeFlushLink

theorem State.clearD_eq (dram : Bool) : s.clearD dram = (s.lifeTaken.clearDSK dram).count Reg.RST_CNT 15 0 := rfl

theorem State.lifeTaken_same {β : Type} (g : State → β) (hlink : ∀ t i, g (State.lifeFlushLink t i) = g t)
    (hsec : ∀ v, g (s.wr64 Reg.LIFE_LASTSEC_LO Reg.LIFE_LASTSEC_HI v) = g s) : g s.lifeTaken = g s := by
  refine (State.each_same g State.lifeFlushLink hlink _ _).trans ?_
  unfold State.lifeLastSec State.when
  split
  · exact hsec _
  · rfl

theorem State.rd_lifeTaken (a : Nat) (hlo : a ≠ Reg.LIFE_LASTSEC_LO) (hhi : a ≠ Reg.LIFE_LASTSEC_HI) : s.lifeTaken.rd a = s.rd a :=
  s.lifeTaken_same (·.rd a) (fun _ _ => rfl) fun v => State.rd_wr64_ne s _ _ v a hlo hhi

theorem State.lifeTaken_part : s.lifeTaken.part = s.part :=
  s.lifeTaken_same (·.part) (fun _ _ => rfl) fun v => (wr64_frame s _ _ v).part

theorem State.lifeTaken_straps : s.lifeTaken.straps = s.straps :=
  s.lifeTaken_same (·.straps) (fun _ _ => rfl) fun v => (wr64_frame s _ _ v).straps

theorem State.lifeTaken_out : s.lifeTaken.out = s.out :=
  s.lifeTaken_same (·.out) (fun _ _ => rfl) fun _ => rfl

theorem State.lifeTaken_field : s.lifeTaken.field = s.field :=
  s.lifeTaken_same (·.field) (fun _ _ => rfl) fun v => (wr64_frame s _ _ v).field

theorem State.lifeTaken_dma : s.lifeTaken.dma = s.dma :=
  s.lifeTaken_same (·.dma) (fun _ _ => rfl) fun v => (wr64_frame s _ _ v).dma

theorem State.clearDSK_out (dram : Bool) : (s.clearDSK dram).out = s.out := rfl

theorem State.clearDSK_field (dram : Bool) : (s.clearDSK dram).field = s.field := rfl

theorem State.clearDSK_power (dram : Bool) : (s.clearDSK dram).power = s.power := rfl

theorem State.clearDSK_dram (dram : Bool) : (s.clearDSK dram).dma.dram = if dram then s.dma.dram else [] := rfl

theorem State.count_out (a hi lo n : Nat) : (s.count a hi lo n).out = s.out := rfl

/-- The state with domain D cleared, before the reset's own state is noted. -/
theorem State.clearD_spec (dram : Bool) :
    (s.clearD dram).out = s.out ∧ (s.clearD dram).field = s.field ∧ (s.clearD dram).dma.dram = (if dram then s.dma.dram else []) ∧
      (∀ a, outlives a = false → a ≠ Reg.RST_CNT → (s.clearD dram).rd a = resetValue s.part s.straps a) ∧
      (∀ a, outlives a = true → a ∉ [Reg.RST_CNT, Reg.LIFE_LASTSEC_LO, Reg.LIFE_LASTSEC_HI] → (s.clearD dram).rd a = s.rd a) := by
  rw [s.clearD_eq dram]
  have hframe := count_frame (s.lifeTaken.clearDSK dram) Reg.RST_CNT 15 0 1
  refine ⟨?_, ?_, ?_, fun a hout hne => ?_, fun a hout hne => ?_⟩
  · rw [State.count_out, State.clearDSK_out, s.lifeTaken_out]
  · rw [hframe.field, State.clearDSK_field, s.lifeTaken_field]
  · rw [hframe.dma, State.clearDSK_dram, s.lifeTaken_dma]
  · rw [State.rd_clearDSK_count _ _ _ hne, if_neg (Bool.eq_false_iff.mp hout), s.lifeTaken_part, s.lifeTaken_straps]
  · simp only [List.mem_cons, List.not_mem_nil, or_false, not_or] at hne
    obtain ⟨hcnt, hlo, hhi⟩ := hne
    rw [State.rd_clearDSK_count _ _ _ hcnt, if_pos hout, s.rd_lifeTaken a hlo hhi]

/-- Domain D is held cleared from `t`: what the reset notes. -/
def State.heldCleared (t : State) : State :=
  t.setPower
    { t.power with
      held := true, restart := none, recDue := false, blocked := 0, wake := none, opSec := 0
      cause := if t.power.backup then t.power.wake.map (fun _ => 7) else t.power.cause }

theorem State.heldCleared_spec : s.heldCleared.power.held = true ∧ s.heldCleared.out = s.out ∧ s.heldCleared.field = s.field ∧
    s.heldCleared.dma = s.dma ∧ ∀ a, s.heldCleared.rd a = s.rd a := ⟨rfl, rfl, rfl, rfl, fun _ => rfl⟩

theorem exec_domainDClear : exec .domainDClear s =
    .next (if (s.power.cause.isNone || s.power.held) = true then s else (s.clearD (!s.power.backup)).heldCleared) := rfl

theorem exec_domainDClear_idle (h : s.power.cause = none ∨ s.power.held = true) : exec .domainDClear s = .next s :=
  congrArg Host.Outcome.next (if_pos (by rw [Bool.or_eq_true, Option.isNone_iff_eq_none]; exact h))

theorem exec_domainDClear_due (hcause : s.power.cause ≠ none) (hheld : s.power.held = false) :
    Answers (exec .domainDClear s) fun t => t.power.held = true ∧ t.out = s.out ∧
      t.field = s.field ∧ t.dma.dram = (if s.power.backup then [] else s.dma.dram) ∧
      (∀ a, outlives a = false → a ≠ Reg.RST_CNT → t.rd a = resetValue s.part s.straps a) ∧
      (∀ a, outlives a = true → a ∉ [Reg.RST_CNT, Reg.LIFE_LASTSEC_LO, Reg.LIFE_LASTSEC_HI] → t.rd a = s.rd a) := by
  have hdue : ¬ (s.power.cause.isNone || s.power.held) = true := by
    rw [hheld, Bool.or_false, Option.isNone_iff_eq_none]
    exact hcause
  obtain ⟨hout, hfield, hdram, hcleared, hkept⟩ := s.clearD_spec (!s.power.backup)
  obtain ⟨hheld', hout', hfield', hdma', hrd'⟩ := (s.clearD (!s.power.backup)).heldCleared_spec
  refine answers_eq ((exec_domainDClear s).trans (congrArg Host.Outcome.next (if_neg hdue)))
    ⟨hheld', hout'.trans hout, hfield'.trans hfield, ?_, fun a ha hne => (hrd' a).trans (hcleared a ha hne),
      fun a ha hne => (hrd' a).trans (hkept a ha hne)⟩
  rw [hdma', hdram]
  cases s.power.backup with
  | false => rfl
  | true => rfl

/-! ### Power-on and the loss of supplies -/

/-- All supplies are valid again. -/
def State.resupplied : State := s.setPower { s.power with supply := 0x9F }

theorem exec_powerOn_backup (h : s.power.backup = true) : exec .powerOn s = .next s.resupplied :=
  congrArg Host.Outcome.next (if_pos h)

/-- Domain D is held cleared from `t` by a power-on. -/
def State.coldHeld (t : State) : State :=
  t.setPower
    { t.power with
      cause := some 1, held := true, wake := none, restart := none, recDue := false
      records := ((1, t.tbSec, t.fails) :: t.power.records).take 64 }

theorem State.coldHeld_spec : s.coldHeld.power.supply = s.power.supply ∧ s.coldHeld.power.cause = some 1 ∧
    s.coldHeld.power.held = true ∧ s.coldHeld.dma = s.dma ∧ ∀ a, s.coldHeld.rd a = s.rd a := ⟨rfl, rfl, rfl, rfl, fun _ => rfl⟩

theorem exec_powerOn : exec .powerOn s = .next (if s.resupplied.power.backup = true then s.resupplied
    else ((s.resupplied.clearDSK false).count Reg.RST_CNT 15 0).coldHeld) := rfl

theorem exec_powerOn_cold (h : s.power.backup = false) :
    Answers (exec .powerOn s) fun t => t.power.supply = 0x9F ∧ t.power.cause = some 1 ∧ t.power.held = true ∧ t.dma.dram = [] ∧
      ∀ a, outlives a = false → a ≠ Reg.RST_CNT → t.rd a = resetValue s.part s.straps a := by
  have hframe := count_frame (s.resupplied.clearDSK false) Reg.RST_CNT 15 0 1
  obtain ⟨hsup, hcause, hheld, hdma, hrd⟩ := ((s.resupplied.clearDSK false).count Reg.RST_CNT 15 0).coldHeld_spec
  refine answers_eq ((exec_powerOn s).trans (congrArg Host.Outcome.next (if_neg (Bool.eq_false_iff.mp h))))
    ⟨?_, hcause, hheld, ?_, fun a hout hne => ?_⟩
  · rw [hsup, hframe.power, State.clearDSK_power]; rfl
  · rw [hdma, hframe.dma, State.clearDSK_dram]; rfl
  · rw [hrd a, s.resupplied.rd_clearDSK_count false a hne, if_neg (Bool.eq_false_iff.mp hout)]
    rfl

/-- Domain A has taken its reset values, and `VBKP` is no longer valid. -/
def State.vbkpLost : State := s.loseA.setPower { s.loseA.power with supply := clearBit s.loseA.power.supply 7 }

theorem exec_vbkpLoss : exec .vbkpLoss s =
    .next (if (s.vbkpLost.power.backup && s.vbkpLost.power.held) = true then s.vbkpLost.powerOff else s.vbkpLost) := rfl

theorem State.bit_setPower (q : Power) (a i : Nat) : (s.setPower q).bit a i = s.bit a i := rfl

theorem State.loseA_shows : s.loseA.bit Reg.RST_CAUSE 8 = true := by
  unfold State.loseA
  dsimp only
  rw [State.bit_setPower, State.bit_setBit_same _ _ _ _ (by decide)]

theorem exec_vbkpLoss_spec : Answers (exec .vbkpLoss s) fun t => t.bit Reg.RST_CAUSE 8 = true ∧ t.power.supply.testBit 7 = false := by
  refine answers_eq (exec_vbkpLoss s) ?_
  split
  · exact ⟨(s.vbkpLost.clearDSK false).loseA_shows, testBit_clearBit _ 7⟩
  · exact ⟨s.loseA_shows, testBit_clearBit _ 7⟩

/-! ### Reset triggers (R548, R567) -/

theorem State.trigger_halted (h : s.halted = true) (cause : Nat) (f : Option Nat) : s.trigger cause f = s := if_pos h

theorem State.opFlush_dma : s.opFlush.dma = s.dma :=
  (wr64_frame s Reg.LIFE_OPSEC_LO Reg.LIFE_OPSEC_HI (s.rd64 Reg.LIFE_OPSEC_LO Reg.LIFE_OPSEC_HI + s.power.opSec)).dma

theorem State.dma_setPower (q : Power) : (s.setPower q).dma = s.dma := rfl

theorem State.failStart_dma (code : Nat) : (s.failStart code).dma = s.dma := by
  rw [State.failStart, State.dma_setPower, (count_frame _ _ _ _ _).dma, (put_frame _ _ _ _ _).dma]

/-- A trigger that is taken names its cause, keeps at most 64 records, and leaves device DRAM and the transfers. -/
theorem State.trigger_taken (h : s.halted = false) (cause : Nat) (f : Option Nat) :
    (s.trigger cause f).power.cause = some cause ∧ (s.trigger cause f).halted = true ∧
      (s.trigger cause f).power.records.length ≤ 64 ∧ (s.trigger cause f).dma = s.dma := by
  have htaken : ∃ u : State, u.dma = s.dma ∧ s.trigger cause f = u.setPower { u.power with
      cause := some cause, records := ((cause, u.tbSec, u.fails) :: u.power.records).take 64 } := by
    refine ⟨_, ?_, if_neg (Bool.eq_false_iff.mp h)⟩
    cases f with
    | none => exact s.opFlush_dma
    | some code =>
      change (if s.opFlush.done then s.opFlush else s.opFlush.failStart code).dma = s.dma
      split
      · exact s.opFlush_dma
      · exact (State.failStart_dma _ code).trans s.opFlush_dma
  obtain ⟨u, hdma, hu⟩ := htaken
  rw [hu]
  exact ⟨rfl, State.halted_of_cause rfl, List.length_take_le _ _, hdma⟩

theorem exec_bootTimerExpiry_over (h : s.done = true ∨ s.easy = true) : exec .bootTimerExpiry s = .next s :=
  congrArg Host.Outcome.next (if_pos (by rw [Bool.or_eq_true]; exact h))

theorem exec_bootHashFail_over (h : s.done = true ∨ s.easy = true) : exec .bootHashFail s = .next s :=
  congrArg Host.Outcome.next (if_pos (by rw [Bool.or_eq_true]; exact h))

theorem State.starting (hdone : s.done = false) (heasy : s.easy = false) : ¬ (s.done || s.easy) = true := by
  rw [hdone, heasy]
  exact Bool.false_ne_true

theorem exec_bootTimerExpiry_starting (hdone : s.done = false) (heasy : s.easy = false) :
    exec .bootTimerExpiry s = .next (s.trigger 5 (some 1)) := congrArg Host.Outcome.next (if_neg (s.starting hdone heasy))

theorem exec_bootHashFail_starting (hdone : s.done = false) (heasy : s.easy = false) :
    exec .bootHashFail s = .next (s.trigger 5 (some 5)) := congrArg Host.Outcome.next (if_neg (s.starting hdone heasy))

/-! ### `RST.CTRL` (R576) and the watchdog (R550) -/

section
variable (v : Word) (b : Nat) (f : State → State)

theorem State.rstCtrl_unkeyed (h : v.fld 31 16 ≠ 0xC10D) : s.rstCtrl v b f = s.raise 0x002 1 := if_pos h

theorem State.rstCtrl_set (h : v.fld 31 16 = 0xC10D) (hb : v.getLsbD b = true) : s.rstCtrl v b f = f s :=
  (if_neg (not_not_intro h)).trans (if_pos hb)

theorem State.rstCtrl_clear (h : v.fld 31 16 = 0xC10D) (hb : v.getLsbD b = false) : s.rstCtrl v b f = s :=
  (if_neg (not_not_intro h)).trans (if_neg (Bool.eq_false_iff.mp hb))

end

/-- The watchdog of a device that no reset stops. -/
def State.watchdogActs : State :=
  if !s.done then s.trigger 3 (some 3)
  else
    match s.power.restart with
    | some t => if s.tbSec ≤ t + 600 then s.trigger 3 (some 3) else s.mgmtRestart
    | none => s.mgmtRestart

theorem State.watchdog_eq (harm : s.bit (Reg.PG_INJARM 0x002) 0 = false) :
    s.watchdog = if s.halted = true then s else s.watchdogActs := by
  unfold State.watchdog
  rw [s.injStep_of_disarmed 0x002 0x10 0 harm]
  rfl

theorem State.watchdogActs_done (hdone : s.done = true) (hrestart : s.power.restart = none) : s.watchdogActs = s.mgmtRestart := by
  unfold State.watchdogActs
  rw [if_neg (by rw [hdone]; decide), hrestart]

theorem State.watchdogActs_starting (hdone : s.done = false) : s.watchdogActs = s.trigger 3 (some 3) :=
  if_pos (by rw [hdone]; rfl)

/-! ### The release and the end of the start (R554, R566) -/

theorem has_bootPage : s.has 0x003 = true := by
  exact has_of_parts s 0x003 (by decide)

theorem exec_domainDRelease (straps fitted life : Nat) (readBad : List Nat) (hstraps : straps < 512) (hlow : 2 ≤ fitted)
    (hhigh : fitted ≤ 16) (hlife : life < 3) (hbad : ∀ b ∈ readBad, b < 2) :
    exec (.domainDRelease straps fitted life readBad) s = .next (match s.power.cause with
      | some c => if s.power.held && s.supplied then (s.release straps fitted life c).rom life readBad else s
      | none => s) := by
  refine answer_next ?_ _
  rw [decide_eq_true hstraps, decide_eq_true hlow, decide_eq_true hhigh, decide_eq_true hlife, Bool.true_and, Bool.true_and,
    Bool.true_and, Bool.true_and, List.all_eq_true]
  exact fun b hb => decide_eq_true (hbad b hb)

theorem exec_bootComplete_over (h : s.halted = true ∨ s.done = true ∨ s.easy = true) : exec .bootComplete s = .next s :=
  congrArg Host.Outcome.next (if_pos (by rw [Bool.or_eq_true, Bool.or_eq_true, or_assoc]; exact h))

/-- The start is done: its timer is 0 and its failures are forgotten. -/
def State.booted : State := ((s.wr Reg.BOOT_TIMER 0).setBit Reg.BOOT_STAT 1 true).put Reg.BOOT_SEL 9 8 0

theorem exec_bootComplete_starting (hhalted : s.halted = false) (hdone : s.done = false) (heasy : s.easy = false) :
    exec .bootComplete s = .next (s.booted.raise 0x003 8) := by
  refine congrArg Host.Outcome.next (if_neg ?_)
  rw [hhalted, hdone, heasy]
  exact Bool.false_ne_true

theorem State.booted_raise_spec : (s.booted.raise 0x003 8).done = true ∧ (s.booted.raise 0x003 8).rd Reg.BOOT_TIMER = 0 ∧
    (s.booted.raise 0x003 8).fails = 0 ∧ (s.booted.raise 0x003 8).bit (Reg.PG_EVRAW 0x003) 8 = true := by
  refine ⟨?_, ?_, ?_, State.bit_raise_same _ _ _ (by decide) (by decide) (has_bootPage _)⟩
  · rw [State.done, bit_raise _ _ _ _ (by decide) (by decide), State.booted, State.bit_put_ne _ _ _ _ _ _ _ (by decide),
      State.bit_setBit_same _ _ _ _ (by decide)]
  · rw [State.rd_raise _ _ _ _ (by decide) (by decide), State.booted, State.rd_put_ne _ _ _ _ _ _ (by decide),
      State.rd_setBit_ne _ _ _ _ _ (by decide), State.rd_wr_same]
  · rw [State.fails, get_raise _ _ _ _ (by decide) (by decide), State.booted, State.get_put_same _ _ _ _ _ (by decide) (by decide), Nat.zero_mod]

end

/-- Settles O53: each trigger by the state of the device; the clearing of domain D register by register. -/
theorem powerAndResets : Obligations.PowerAndResets := by
  unfold Obligations.PowerAndResets
  intro s v b straps fitted life readBad hb hstraps hlow hhigh hlife hbad
  have hrelease := exec_domainDRelease s straps fitted life readBad hstraps hlow hhigh hlife hbad
  refine ⟨fun hbk => answers_eq (exec_powerOn_backup s hbk) ⟨rfl, rfl⟩, exec_powerOn_cold s, fun u hu => ?_, exec_vbkpLoss_spec s,
    s.trigger_halted, fun hhalted => ?_, rfl, fun hkey => ⟨?_, ?_⟩,
    fun hkey => ⟨fun hbit => ?_, fun hbit => ?_, fun hbit => ?_, fun hbit => ?_⟩, exec_domainDClear_idle s, exec_domainDClear_due s,
    fun hidle => ?_, fun c hcause hheld hsup => ?_, exec_bootComplete_over s,
    fun hhalted hdone heasy => answers_eq (exec_bootComplete_starting s hhalted hdone heasy) s.booted_raise_spec,
    fun h => ⟨exec_bootTimerExpiry_over s h, exec_bootHashFail_over s h⟩, fun hhalted harm => ?_,
    fun hhalted harm hdone hrestart => ?_, fun hhalted harm hdone => ?_, fun hrestart => ?_, fun hrestart => ?_, fun hdue => ?_,
    fun hdue => ?_, fun hhalted heasy => ?_, fun h => ?_⟩
  · subst hu
    exact answer_next (decide_eq_true hb) _
  · have hspec (c : Nat) (f : Option Nat) := s.trigger_taken hhalted c f
    simp only [List.forall_mem_cons, List.not_mem_nil, false_implies, implies_true, and_true]
    exact ⟨fun _ _ => answers_next (hspec 2 none),
      fun hdone heasy => answers_eq (exec_bootTimerExpiry_starting s hdone heasy) (hspec 5 (some 1)),
      fun hdone heasy => answers_eq (exec_bootHashFail_starting s hdone heasy) (hspec 5 (some 5))⟩
  · exact congrArg Host.Outcome.next (s.rstCtrl_unkeyed v 0 _ hkey)
  · exact congrArg Host.Outcome.next (s.rstCtrl_unkeyed v 1 _ hkey)
  · exact congrArg Host.Outcome.next (s.rstCtrl_set v 0 _ hkey hbit)
  · exact congrArg Host.Outcome.next (s.rstCtrl_clear v 0 _ hkey hbit)
  · exact congrArg Host.Outcome.next (s.rstCtrl_set v 1 _ hkey hbit)
  · exact congrArg Host.Outcome.next (s.rstCtrl_clear v 1 _ hkey hbit)
  · rw [hrelease]
    cases hcause : s.power.cause with
    | none => rfl
    | some c =>
      have hnot : ¬ (s.power.held && s.supplied) = true := by
        rw [Bool.and_eq_true]
        rintro ⟨hheld, hsup⟩
        obtain h | h | h := hidle
        · rw [hcause] at h; cases h
        · rw [hheld] at h; cases h
        · rw [hsup] at h; cases h
      exact congrArg Host.Outcome.next (if_neg hnot)
  · rw [hrelease, hcause]
    exact congrArg Host.Outcome.next (if_pos (by rw [hheld, hsup]; rfl))
  · exact congrArg Host.Outcome.next ((s.watchdog_eq harm).trans (if_pos hhalted))
  · refine congrArg Host.Outcome.next ((s.watchdog_eq harm).trans ?_)
    rw [if_neg (Bool.eq_false_iff.mp hhalted), s.watchdogActs_done hdone hrestart]
  · refine congrArg Host.Outcome.next ((s.watchdog_eq harm).trans ?_)
    rw [if_neg (Bool.eq_false_iff.mp hhalted), s.watchdogActs_starting hdone]
  · exact congrArg Host.Outcome.next (if_neg (by rw [hrestart]; decide))
  · exact congrArg Host.Outcome.next (if_pos (Option.isSome_iff_ne_none.mpr hrestart))
  · exact congrArg Host.Outcome.next (if_neg (Bool.eq_false_iff.mp hdue))
  · exact congrArg Host.Outcome.next (if_pos hdue)
  · exact congrArg Host.Outcome.next (if_neg (by rw [hhalted, heasy]; decide))
  · exact congrArg Host.Outcome.next (if_pos (by rw [Bool.or_eq_true]; exact h))

end Sys2Proof.Machine
end

section
/-!
PROOF. The key store: which command is dropped, refused or run, and its completion (R507 to R515, R520), up to the statement
KeyCommands.
-/
namespace Sys2Proof.Machine

/-- Raising an event leaves the raw events of every other page. -/
theorem State.rd_raise_raw_other (s : State) (p b q : Nat) (hq : q < 256) (hne : q ≠ p) :
    (s.raise p b).rd (Reg.PG_EVRAW q) = s.rd (Reg.PG_EVRAW q) := by
  have hraw : Reg.PG_EVRAW q ≠ Reg.PG_EVRAW p := by
    unfold Reg.PG_EVRAW
    omega
  unfold State.raise State.raiseBits
  split
  · rw [(setEvents_route s p _ _).rd _ (routeReg_raw q hq), State.rd_wr_ne _ _ _ _ (PG_EVRAW_ne_mask q p), State.rd_wr_ne _ _ _ _ hraw]
  · rfl

/-- Raising an event keeps every event that is raised. -/
theorem State.event_raise_of_event (s : State) (p b q i : Nat) (hp : p < 256) (hq : q < 256) (h : s.bit (Reg.PG_EVRAW q) i = true) :
    (s.raise p b).bit (Reg.PG_EVRAW q) i = true := by
  by_cases hne : q = p
  · subst hne
    by_cases hhas : s.has q = true
    · rw [bit_raise_raw _ _ _ _ hp hhas, h, Bool.true_or]
    · rw [State.raise, State.raiseBits, if_neg hhas, h]
  · rw [State.bit, s.rd_raise_raw_other p b q hq hne]
    exact h

theorem eventReg_KEY_STAT : eventReg Reg.KEY_STAT = false := eventReg_block _ (by decide) (by decide) (by decide) (by decide)

theorem has_keyPage (s : State) : s.has 0x0D0 = true := by exact has_of_parts s 0x0D0 (by decide)

section
variable (s : State)

/-! ### A debug level that waits (R520, R521) -/

/-- What a change of the debug level leaves: what is under way, device DRAM, the events raised and the other registers. -/
structure DebugFrame (s t : State) : Prop where
  keyOp : t.key.keyOp = s.key.keyOp
  cryJob : t.key.cryJob = s.key.cryJob
  attBusy : t.key.attBusy = s.key.attBusy
  dma : t.dma = s.dma
  rd : ∀ a, eventReg a = false → a ≠ Reg.KEY_DEBUG → t.rd a = s.rd a
  events : ∀ q i, q < 256 → s.bit (Reg.PG_EVRAW q) i = true → t.bit (Reg.PG_EVRAW q) i = true

theorem DebugFrame.refl : DebugFrame s s := ⟨rfl, rfl, rfl, rfl, fun _ _ _ => rfl, fun _ _ _ h => h⟩

theorem keyShutAll_frame : DebugFrame s s.keyShutAll := ⟨rfl, rfl, rfl, rfl, fun _ _ _ => rfl, fun _ _ _ h => h⟩

/-- The level shown, with its event. -/
theorem debugShown_frame (t : State) (level : Nat) (h : DebugFrame s t) :
    DebugFrame s ((t.put Reg.KEY_DEBUG 1 0 level).raise 0x0D0 13) := by
  have hraise := raise_frame (t.put Reg.KEY_DEBUG 1 0 level) 0x0D0 13
  have hput := put_frame t Reg.KEY_DEBUG 1 0 level
  have hkey := hraise.key.trans hput.key
  refine ⟨(congrArg _ hkey).trans h.keyOp, (congrArg _ hkey).trans h.cryJob, (congrArg _ hkey).trans h.attBusy,
    (hraise.dma.trans hput.dma).trans h.dma, fun a ha hne => ?_, fun q i hq hev => ?_⟩
  · rw [State.rd_raise _ _ _ _ (by decide) ha, State.rd_put_ne _ _ _ _ _ _ hne, h.rd a ha hne]
  · have hraw : Reg.PG_EVRAW q ≠ Reg.KEY_DEBUG := by
      unfold Reg.PG_EVRAW Reg.KEY_DEBUG
      omega
    refine State.event_raise_of_event _ _ _ q i (by decide) hq ?_
    rw [State.bit_put_ne _ _ _ _ _ _ _ hraw]
    exact h.events q i hq hev

theorem debugFollow_frame : DebugFrame s s.debugFollow := by
  unfold State.debugFollow
  split
  · change DebugFrame s (if s.keyShutAll.get Reg.KEY_DEBUG 1 0 = 2 then s.keyShutAll
      else (s.keyShutAll.put Reg.KEY_DEBUG 1 0 2).raise 0x0D0 13)
    split
    · exact keyShutAll_frame s
    · exact debugShown_frame s _ 2 (keyShutAll_frame s)
  · exact DebugFrame.refl s

/-! ### A command that is written (R509) -/

/-- The key store while a command is under way. -/
def State.keyBusy : State := s.setBit Reg.KEY_STAT 0 true

theorem State.keyBusy_key : s.keyBusy.key = s.key := (put_frame _ _ _ _ _).key

theorem State.keyBusy_slot (n : Nat) : s.keyBusy.keySlot n = s.keySlot n := by rw [State.keySlot, s.keyBusy_key, State.keySlot]

theorem State.keyBusy_running : s.keyBusy.running 0x0D0 = s.running 0x0D0 :=
  State.running_congr 0x0D0 (State.rd_setBit_ne _ _ _ _ _ (by decide))

section
variable (op slot : Nat) (f : State → State)

theorem State.keyCmd_busy (h : s.bit Reg.KEY_STAT 0 = true) : s.keyCmd op slot f = s.raise 0x0D0 9 := if_pos h

theorem State.keyCmd_free (h : s.bit Reg.KEY_STAT 0 = false) : s.keyCmd op slot f =
    if (!s.running 0x0D0) = true then s.keyBusy.keyStart op slot (some 15)
    else if (op ≠ 0 && op < 10 && (slot = 0 || (slot < 8 && op ≠ 7))) = true then s.keyBusy.keyStart op slot (some 2)
    else f s.keyBusy := by
  rw [← s.keyBusy_running]
  exact if_neg (Bool.eq_false_iff.mp h)

theorem State.keyCmd_stopped (h : s.bit Reg.KEY_STAT 0 = false) (hrun : s.running 0x0D0 = false) :
    s.keyCmd op slot f = s.keyBusy.keyStart op slot (some 15) := by
  rw [s.keyCmd_free op slot f h, if_pos (by rw [hrun]; rfl)]

/-- A slot that the op may not name. -/
theorem State.keyCmd_refused (h : s.bit Reg.KEY_STAT 0 = false) (hrun : s.running 0x0D0 = true) (hop : op ≠ 0 ∧ op < 10)
    (hslot : slot = 0 ∨ slot < 8 ∧ op ≠ 7) : s.keyCmd op slot f = s.keyBusy.keyStart op slot (some 2) := by
  have hbad : (op ≠ 0 && op < 10 && (slot = 0 || (slot < 8 && op ≠ 7))) = true := by
    simp only [Bool.and_eq_true, Bool.or_eq_true, decide_eq_true_eq]
    exact ⟨hop, hslot⟩
  rw [s.keyCmd_free op slot f h, if_neg (by rw [hrun]; decide), if_pos hbad]

/-- An op that names no slot, or one that it may name, runs. -/
theorem State.keyCmd_runs (h : s.bit Reg.KEY_STAT 0 = false) (hrun : s.running 0x0D0 = true)
    (hfine : op = 0 ∨ 10 ≤ op ∨ slot ≠ 0 ∧ (8 ≤ slot ∨ op = 7)) : s.keyCmd op slot f = f s.keyBusy := by
  have hgood : ¬ (op ≠ 0 && op < 10 && (slot = 0 || (slot < 8 && op ≠ 7))) = true := by
    simp only [Bool.and_eq_true, Bool.or_eq_true, decide_eq_true_eq]
    omega
  rw [s.keyCmd_free op slot f h, if_neg (by rw [hrun]; decide), if_neg hgood]

end

/-! ### Commands that make a key -/

section
variable (op slot : Nat) (f : State → Nat → State)

theorem State.keyTarget_busy (any : Bool) (h : s.bit Reg.KEY_STAT 0 = true) : s.keyTarget op slot any f = s.raise 0x0D0 9 := if_pos h

/-- A command that names its slot, or that `ANY` does not help, is a command of that slot. -/
theorem State.keyTarget_named (any : Bool) (h : s.bit Reg.KEY_STAT 0 = false) (hany : (any && s.running 0x0D0) = false) :
    s.keyTarget op slot any f = s.keyCmd op slot fun s =>
      if (s.keySlot slot).pend.isSome then s.keyStart op slot (some 12) else f s slot :=
  (if_neg (Bool.eq_false_iff.mp h)).trans (if_neg (Bool.eq_false_iff.mp hany))

theorem State.keyTarget_stopped (any : Bool) (h : s.bit Reg.KEY_STAT 0 = false) (hrun : s.running 0x0D0 = false) :
    s.keyTarget op slot any f = s.keyBusy.keyStart op slot (some 15) := by
  rw [s.keyTarget_named op slot f any h (by rw [hrun, Bool.and_false]), s.keyCmd_stopped op slot _ h hrun]

theorem State.keyTarget_refused (h : s.bit Reg.KEY_STAT 0 = false) (hrun : s.running 0x0D0 = true) (hop : op ≠ 0 ∧ op < 10 ∧ op ≠ 7)
    (hslot : slot < 8) : s.keyTarget op slot false f = s.keyBusy.keyStart op slot (some 2) := by
  obtain ⟨hop0, hop10, hop7⟩ := hop
  rw [s.keyTarget_named op slot f false h rfl, s.keyCmd_refused op slot _ h hrun ⟨hop0, hop10⟩ (.inr ⟨hslot, hop7⟩)]

/-- The pending half of the slot is empty. -/
theorem State.keyTarget_empty (h : s.bit Reg.KEY_STAT 0 = false) (hrun : s.running 0x0D0 = true) (hslot : 8 ≤ slot)
    (hpend : (s.keySlot slot).pend = none) : s.keyTarget op slot false f = f s.keyBusy slot := by
  rw [s.keyTarget_named op slot f false h rfl, s.keyCmd_runs op slot _ h hrun (by omega), s.keyBusy_slot,
    if_neg (by rw [hpend]; decide)]

theorem State.keyTarget_pending (h : s.bit Reg.KEY_STAT 0 = false) (hrun : s.running 0x0D0 = true) (hslot : 8 ≤ slot)
    (hpend : (s.keySlot slot).pend.isSome = true) : s.keyTarget op slot false f = s.keyBusy.keyStart op slot (some 12) := by
  rw [s.keyTarget_named op slot f false h rfl, s.keyCmd_runs op slot _ h hrun (by omega), s.keyBusy_slot, if_pos hpend]

/-- A working slot that holds no key. -/
def State.keyVacant (n : Nat) : Bool := decide (8 ≤ n) && (s.keySlot n).cur.isNone && (s.keySlot n).pend.isNone

theorem State.keyVacant_keyBusy (n : Nat) : s.keyBusy.keyVacant n = s.keyVacant n := by
  rw [State.keyVacant, s.keyBusy_slot, State.keyVacant]

theorem State.keyVacant_iff (n : Nat) :
    s.keyVacant n = true ↔ 8 ≤ n ∧ (s.keySlot n).cur = none ∧ (s.keySlot n).pend = none := by
  rw [State.keyVacant, Bool.and_eq_true, Bool.and_eq_true, decide_eq_true_iff, Option.isNone_iff_eq_none, Option.isNone_iff_eq_none,
    and_assoc]

theorem State.keyVacant_false {n : Nat} (h : n < 8 ∨ (s.keySlot n).cur.isSome = true ∨ (s.keySlot n).pend.isSome = true) :
    s.keyVacant n = false := by
  refine Bool.eq_false_iff.mpr fun hv => ?_
  obtain ⟨hlow, hcur, hpend⟩ := (s.keyVacant_iff n).mp hv
  rw [hcur, hpend] at h
  simp only [Option.isSome_none, Bool.false_eq_true, or_false] at h
  omega

theorem State.keyTarget_any (h : s.bit Reg.KEY_STAT 0 = false) (hrun : s.running 0x0D0 = true) :
    s.keyTarget op slot true f = match (List.range 64).find? s.keyVacant with
      | none => s.keyBusy.keyStart op slot (some 11)
      | some n => f s.keyBusy n := by
  rw [← funext s.keyVacant_keyBusy]
  exact (if_neg (Bool.eq_false_iff.mp h)).trans (if_pos (by rw [hrun]; rfl))

/-- `ANY` takes the lowest working slot that is empty. -/
theorem State.keyTarget_lowest (h : s.bit Reg.KEY_STAT 0 = false) (hrun : s.running 0x0D0 = true) (n : Nat) (hn : n < 64)
    (hvacant : s.keyVacant n = true) (hbelow : ∀ j, j < n → s.keyVacant j = false) : s.keyTarget op slot true f = f s.keyBusy n := by
  have hfind : (List.range 64).find? s.keyVacant = some n := by
    rw [List.find?_range_eq_some]
    exact ⟨hvacant, List.mem_range.mpr hn, fun j hj => by rw [hbelow j hj]; rfl⟩
  rw [s.keyTarget_any op slot f h hrun, hfind]

theorem State.keyTarget_full (h : s.bit Reg.KEY_STAT 0 = false) (hrun : s.running 0x0D0 = true)
    (hfull : ∀ j, j < 64 → s.keyVacant j = false) : s.keyTarget op slot true f = s.keyBusy.keyStart op slot (some 11) := by
  have hfind : (List.range 64).find? s.keyVacant = none := by
    rw [List.find?_eq_none]
    exact fun j hj => Bool.eq_false_iff.mp (hfull j (List.mem_range.mp hj))
  rw [s.keyTarget_any op slot f h hrun, hfind]

end

/-! ### Completion -/

/-- The result of a command, before the debug level that waits for it. -/
def State.keyResult (c : KeyOp) (st : Nat) : State :=
  ((s.setKey { s.key with keyOp := none }).wrN Reg.KEY_STAT (4 * c.slot + 256 * st + 65536 * c.outlen)).raise 0x0D0 8

theorem exec_keyCmdComplete_status (ok : Bool) (c : KeyOp) (st : Nat) (hop : s.key.keyOp = some c) (hst : c.status = some st) :
    exec (.keyCmdComplete ok) s = .next (s.keyResult c st).debugFollow := by
  refine congrArg Host.Outcome.next ?_
  unfold State.keyComplete
  rw [hop]
  dsimp only
  rw [hst]
  rfl

theorem State.keyResult_keyOp (c : KeyOp) (st : Nat) : (s.keyResult c st).key.keyOp = none := by
  rw [State.keyResult, (raise_frame _ _ _).key, (wrN_frame _ _ _).key]
  rfl

theorem State.rd_keyResult (c : KeyOp) (st : Nat) :
    (s.keyResult c st).rd Reg.KEY_STAT = BitVec.ofNat 32 (4 * c.slot + 256 * st + 65536 * c.outlen) := by
  rw [State.keyResult, State.rd_raise _ _ _ _ (by decide) eventReg_KEY_STAT, State.rd_wrN_same]

theorem State.keyDone_spec (c : KeyOp) (st : Nat) (hst : st < 256) (hslot : c.slot < 64) :
    (s.keyResult c st).debugFollow.key.keyOp = none ∧ (s.keyResult c st).debugFollow.bit Reg.KEY_STAT 0 = false ∧
      (s.keyResult c st).debugFollow.get Reg.KEY_STAT 15 8 = st ∧ (s.keyResult c st).debugFollow.get Reg.KEY_STAT 7 2 = c.slot ∧
      (s.keyResult c st).debugFollow.bit (Reg.PG_EVRAW 0x0D0) 8 = true := by
  have hframe := debugFollow_frame (s.keyResult c st)
  have hstat := (hframe.rd Reg.KEY_STAT eventReg_KEY_STAT (by decide)).trans (s.rd_keyResult c st)
  refine ⟨hframe.keyOp.trans (s.keyResult_keyOp c st), ?_, ?_, ?_, hframe.events _ 8 (by decide) ?_⟩
  · rw [State.bit, hstat, BitVec.getLsbD_ofNat, Nat.testBit_zero]
    simp only [Nat.reduceLT, decide_true, Bool.true_and, decide_eq_false_iff_not]
    omega
  · rw [State.get, hstat, Word.fld_ofNat]
    omega
  · rw [State.get, hstat, Word.fld_ofNat]
    omega
  · exact State.bit_raise_same _ _ _ (by decide) (by decide) (has_keyPage _)

theorem exec_keyCmdComplete_compacting (ok : Bool) (c : KeyOp) (hop : s.key.keyOp = some c) (hst : c.status = none)
    (hcomp : 1 ∈ s.compacting) : exec (.keyCmdComplete ok) s = .next s := by
  refine congrArg Host.Outcome.next ?_
  unfold State.keyComplete
  rw [hop]
  dsimp only
  rw [hst]
  exact if_pos (List.contains_iff_mem.mpr hcomp)

end

/-- Settles O48: each command by `BUSY`, the page's state and the slot it names; its completion field by field. -/
theorem keyCommands : Obligations.KeyCommands := by
  unfold Obligations.KeyCommands
  intro s slot n op any pend ok hslot hop10 hop16
  have hk : wfKey slot = true := decide_eq_true hslot
  have hres : (wfKey slot && decide (10 ≤ op) && decide (op < 16)) = true := by rw [hk, decide_eq_true hop10, decide_eq_true hop16]; rfl
  have hbad (bad : List Nat) (h : ∀ k ∈ bad, k < 64) : bad.all wfKey = true := List.all_eq_true.mpr fun k hk => decide_eq_true (h k hk)
  have hnone (h : ∀ j, 8 ≤ j → j < 64 → (s.keySlot j).cur.isSome = true ∨ (s.keySlot j).pend.isSome = true) (j : Nat) (hj : j < 64) :
      s.keyVacant j = false := s.keyVacant_false (by
    by_cases hj8 : j < 8
    · exact .inl hj8
    · exact .inr (h j (Nat.le_of_not_lt hj8) hj))
  refine ⟨fun hbusy => ?_, fun hfree => forall_eq.mpr ⟨fun hrun => ?_, fun hrun => ⟨?_, ?_, fun hlow => ?_, ?_, fun hhigh => ⟨?_, ?_, ?_, ?_,
      fun hpend => ⟨?_, ?_, ?_, ?_⟩, fun hpend => ⟨?_, ?_⟩⟩, fun hslot0 => ?_, fun hn8 hn64 hcur hpend hbelow => ?_,
      fun hfull => ⟨?_, ?_⟩⟩⟩,
    fun hidle => ?_, fun c st hop hst hlt hcs => answers_eq (exec_keyCmdComplete_status s ok c st hop hst) (s.keyDone_spec c st hlt hcs),
    exec_keyCmdComplete_compacting s ok, fun bad h hoff => ?_, fun bad h hheld hback => ?_⟩
  · have hcmd (k : Nat) (f : State → State) := s.keyCmd_busy k slot f hbusy
    have hmake (k : Nat) (f : State → Nat → State) := s.keyTarget_busy k slot f any hbusy
    simp only [List.forall_mem_cons, List.not_mem_nil, false_implies, implies_true, and_true]
    exact ⟨answer_eq hk (hcmd _ _), answer_eq hk (hmake _ _), answer_eq hk (hmake _ _), answer_eq hk (hmake _ _),
      answer_eq hk (hcmd _ _), answer_eq hk (hcmd _ _), answer_eq hk (hcmd _ _), answer_eq hk (hcmd _ _), answer_eq hk (hcmd _ _),
      answer_eq hk (hmake _ _), answer_eq hres (hcmd _ _)⟩
  · have hcmd (k : Nat) (f : State → State) := s.keyCmd_stopped k slot f hfree hrun
    have hmake (k : Nat) (f : State → Nat → State) := s.keyTarget_stopped k slot f any hfree hrun
    simp only [List.forall_mem_cons, List.not_mem_nil, false_implies, implies_true, and_true]
    exact ⟨answer_eq hk (hcmd _ _), answer_eq hk (hmake _ _), answer_eq hk (hmake _ _), answer_eq hk (hmake _ _),
      answer_eq hk (hcmd _ _), answer_eq hk (hcmd _ _), answer_eq hk (hcmd _ _), answer_eq hk (hcmd _ _), answer_eq hk (hcmd _ _),
      answer_eq hk (hmake _ _), answer_eq hres (hcmd _ _)⟩
  · exact answer_eq hk (s.keyCmd_runs 0 slot _ hfree hrun (.inl rfl))
  · exact answer_eq hres (s.keyCmd_runs op slot _ hfree hrun (.inr (.inl hop10)))
  · have hcmd (k : Nat) (f : State → State) (hop : k ≠ 0 ∧ k < 10) (h7 : k ≠ 7) :=
      s.keyCmd_refused k slot f hfree hrun hop (.inr ⟨hlow, h7⟩)
    have hmake (k : Nat) (f : State → Nat → State) (hop : k ≠ 0 ∧ k < 10 ∧ k ≠ 7) := s.keyTarget_refused k slot f hfree hrun hop hlow
    simp only [List.forall_mem_cons, List.not_mem_nil, false_implies, implies_true, and_true]
    exact ⟨answer_eq hk (hmake _ _ (by decide)), answer_eq hk (hmake _ _ (by decide)), answer_eq hk (hmake _ _ (by decide)),
      answer_eq hk (hcmd _ _ (by decide) (by decide)), answer_eq hk (hcmd _ _ (by decide) (by decide)),
      answer_eq hk (hcmd _ _ (by decide) (by decide)), answer_eq hk (hcmd _ _ (by decide) (by decide)),
      answer_eq hk (hmake _ _ (by decide))⟩
  · exact answer_eq (b := wfKey 0) (by decide) (s.keyCmd_refused 7 0 _ hfree hrun (by decide) (.inl rfl))
  · exact answer_eq hk (s.keyCmd_runs 4 slot _ hfree hrun (by omega))
  · exact answer_eq hk (s.keyCmd_runs 5 slot _ hfree hrun (by omega))
  · refine answer_eq hk ((s.keyCmd_runs 6 slot _ hfree hrun (by omega)).trans ?_)
    dsimp only
    rw [s.keyBusy_slot]
    rfl
  · exact answer_eq hk (s.keyCmd_runs 8 slot _ hfree hrun (by omega))
  · exact answer_eq hk (s.keyTarget_empty 1 slot _ hfree hrun hhigh hpend)
  · exact answer_eq hk (s.keyTarget_empty 2 slot _ hfree hrun hhigh hpend)
  · exact answer_eq hk (s.keyTarget_empty 3 slot _ hfree hrun hhigh hpend)
  · exact answer_eq hk (s.keyTarget_empty 9 slot _ hfree hrun hhigh hpend)
  · exact answer_eq hk (s.keyTarget_pending 1 slot _ hfree hrun hhigh hpend)
  · exact answer_eq hk (s.keyTarget_pending 9 slot _ hfree hrun hhigh hpend)
  · exact answer_eq hk (s.keyCmd_runs 7 slot _ hfree hrun (by omega))
  · have hlowest (k : Nat) (f : State → Nat → State) := s.keyTarget_lowest k slot f hfree hrun n hn64
      ((s.keyVacant_iff n).mpr ⟨hn8, hcur, hpend⟩) fun j hj => s.keyVacant_false (by
        by_cases hj8 : j < 8
        · exact .inl hj8
        · exact .inr (hbelow j (Nat.le_of_not_lt hj8) hj))
    exact ⟨answer_eq hk (hlowest 1 _), answer_eq hk (hlowest 9 _)⟩
  · exact answer_eq hk (s.keyTarget_full 2 slot _ hfree hrun (hnone hfull))
  · exact answer_eq hk (s.keyTarget_full 3 slot _ hfree hrun (hnone hfull))
  · refine congrArg Host.Outcome.next ?_
    unfold State.keyComplete
    rw [hidle]
  · refine answer_eq (hbad bad h) (if_pos ?_)
    rw [Bool.or_eq_true]
    exact hoff
  · exact answer_eq (hbad bad h) (if_neg (by rw [hheld, hback]; decide))

end Sys2Proof.Machine
end

section
/-!
PROOF. Crypto jobs and attestation (R516, R517, R523, R524), up to the statement CryptoAndAttestation.
-/
namespace Sys2Proof.Machine

theorem eventReg_CRY_STAT : eventReg Reg.CRY_STAT = false := eventReg_block _ (by decide) (by decide) (by decide) (by decide)
theorem eventReg_ATT_STAT : eventReg Reg.ATT_STAT = false := eventReg_block _ (by decide) (by decide) (by decide) (by decide)

theorem has_cryptoPage (s : State) : s.has 0x0D1 = true := by exact has_of_parts s 0x0D1 (by decide)
theorem has_attestationPage (s : State) : s.has 0x0D2 = true := by exact has_of_parts s 0x0D2 (by decide)

section
variable (s : State)

/-! ### `CRY.GO` -/

section
variable (f : State → State)

theorem State.cryGo_busy (h : s.bit Reg.CRY_STAT 0 = true) : s.cryGo f = s.raise 0x0D1 1 := if_pos h

theorem State.cryGo_free (h : s.bit Reg.CRY_STAT 0 = false) : s.cryGo f =
    if (!s.running 0x0D1) = true then (s.setBit Reg.CRY_STAT 0 true).cryStart 15 else f (s.setBit Reg.CRY_STAT 0 true) := by
  rw [← State.running_congr 0x0D1 (State.rd_setBit_ne s Reg.CRY_STAT _ 0 true (by decide) : _ = s.rd (Reg.PG_STAT 0x0D1))]
  exact if_neg (Bool.eq_false_iff.mp h)

/-- A job command by `BUSY` and the state of its page. -/
theorem exec_cryGo {c : Instr} (hexec : exec c s = .next (s.cryGo f)) :
    (s.bit Reg.CRY_STAT 0 = true → exec c s = .next (s.raise 0x0D1 1)) ∧
      (s.bit Reg.CRY_STAT 0 = false → s.running 0x0D1 = false → exec c s = .next ((s.setBit Reg.CRY_STAT 0 true).cryStart 15)) ∧
      (s.bit Reg.CRY_STAT 0 = false → s.running 0x0D1 = true → exec c s = .next (f (s.setBit Reg.CRY_STAT 0 true))) := by
  refine ⟨fun hbusy => ?_, fun hfree hrun => ?_, fun hfree hrun => ?_⟩
  · rw [hexec, s.cryGo_busy f hbusy]
  · rw [hexec, s.cryGo_free f hfree, if_pos (by rw [hrun]; rfl)]
  · rw [hexec, s.cryGo_free f hfree, if_neg (by rw [hrun]; decide)]

end

/-! ### The end of a job -/

/-- The output of a job in device DRAM. -/
def State.cryOutput (m : Option (Nat × List Byte)) : State :=
  match m with
  | some m => s.dramWrite m.1 m.2
  | none => s

theorem State.cryOutput_key (m : Option (Nat × List Byte)) : (s.cryOutput m).key = s.key := by
  cases m with
  | none => rfl
  | some m => rfl

theorem State.cryOutput_dram (m : Option (Nat × List Byte)) : (s.cryOutput m).dma.dram =
    match m with
    | some m => Memory.write s.dma.dram m.1 m.2
    | none => s.dma.dram := by
  cases m with
  | none => rfl
  | some m => rfl

/-- The status of a job that has written its output. -/
def State.cryShown (j : CryJob) : State :=
  (((s.setKey { s.key with cryJob := none }).cryOutput j.mem).wrN Reg.CRY_STAT (256 * j.status)).raise 0x0D1 8

theorem exec_cryJobDone_due (j : CryJob) (hjob : s.key.cryJob = some j) (harm : s.bit (Reg.PG_INJARM 0x0D1) 0 = false)
    (hregs : j.regs = []) : exec .cryJobDone s = .next (s.cryShown j).debugFollow := by
  refine congrArg Host.Outcome.next ?_
  unfold State.cryDone
  rw [hjob]
  dsimp only
  rw [s.injFires_of_disarmed 0x0D1 0x10 0 harm, s.injStep_of_disarmed 0x0D1 0x10 0 harm, hregs, if_neg Bool.false_ne_true]
  rfl

theorem State.cryShown_spec (j : CryJob) :
    (s.cryShown j).debugFollow.key.cryJob = none ∧ (s.cryShown j).debugFollow.rd Reg.CRY_STAT = BitVec.ofNat 32 (256 * j.status) ∧
      (s.cryShown j).debugFollow.bit (Reg.PG_EVRAW 0x0D1) 8 = true ∧
      (s.cryShown j).debugFollow.dma.dram = (match j.mem with
        | some m => Memory.write s.dma.dram m.1 m.2
        | none => s.dma.dram) := by
  have hframe := debugFollow_frame (s.cryShown j)
  refine ⟨?_, ?_, hframe.events _ 8 (by decide) ?_, ?_⟩
  · rw [hframe.cryJob, State.cryShown, (raise_frame _ _ _).key, (wrN_frame _ _ _).key, State.cryOutput_key]
    rfl
  · rw [hframe.rd _ eventReg_CRY_STAT (by decide), State.cryShown, State.rd_raise _ _ _ _ (by decide) eventReg_CRY_STAT,
      State.rd_wrN_same]
  · exact State.bit_raise_same _ _ _ (by decide) (by decide) (has_cryptoPage _)
  · rw [hframe.dma, State.cryShown, (raise_frame _ _ _).dma, (wrN_frame _ _ _).dma, State.cryOutput_dram]
    rfl

/-! ### Attestation -/

section
variable (f : State → State)

theorem State.attCmd_busy (h : s.bit Reg.ATT_STAT 0 = true) : s.attCmd f = s.raise 0x0D2 1 := if_pos h

theorem State.attCmd_stopped (h : s.bit Reg.ATT_STAT 0 = false) (hrun : s.running 0x0D2 = false) : s.attCmd f = s.attDone 3 0 :=
  (if_neg (Bool.eq_false_iff.mp h)).trans (if_pos (by rw [hrun]; rfl))

theorem State.attCmd_runs (h : s.bit Reg.ATT_STAT 0 = false) (hrun : s.running 0x0D2 = true) : s.attCmd f = f s :=
  (if_neg (Bool.eq_false_iff.mp h)).trans (if_neg (by rw [hrun]; decide))

end

theorem State.attDone_spec (status n : Nat) :
    (s.attDone status n).rd Reg.ATT_STAT = BitVec.ofNat 32 (256 * status + 65536 * n) ∧
      (s.attDone status n).bit (Reg.PG_EVRAW 0x0D2) 8 = true ∧ (s.attDone status n).key = s.key := by
  refine ⟨?_, ?_, ?_⟩
  · rw [State.attDone, State.rd_raise _ _ _ _ (by decide) eventReg_ATT_STAT, State.rd_wrN_same]
  · exact State.bit_raise_same _ _ _ (by decide) (by decide) (has_attestationPage _)
  · rw [State.attDone, (raise_frame _ _ _).key, (wrN_frame _ _ _).key]

/-- A report begins: `BUSY` until its end. -/
def State.attBegun : State := (s.setKey { s.key with attBusy := true }).setBit Reg.ATT_STAT 0 true

theorem State.attBegun_spec : s.attBegun.bit Reg.ATT_STAT 0 = true ∧ s.attBegun.key = { s.key with attBusy := true } ∧
    s.keepsRegs s.attBegun [Reg.ATT_STAT] :=
  ⟨State.bit_setBit_same _ _ _ _ (by decide), (put_frame _ _ _ _ _).key, fun a ha =>
    State.rd_setBit_ne (s.setKey { s.key with attBusy := true }) _ a _ _ fun h => ha (by rw [h]; exact List.mem_singleton_self _)⟩

/-- The end of a report that finds no key. -/
def State.attKeyless : State := ((s.setKey { s.key with attBusy := false }).attDone 1 0).debugFollow

theorem State.attReport_keyless (hbusy : s.key.attBusy = true) (hkey : s.attKey = none) : s.attReport = s.attKeyless := by
  have hsame : (s.setKey { s.key with attBusy := false }).attKey = s.attKey := rfl
  unfold State.attReport
  rw [if_neg (by rw [hbusy]; decide)]
  dsimp only
  rw [hsame, hkey]
  rfl

theorem State.attKeyless_spec :
    s.attKeyless.get Reg.ATT_STAT 15 8 = 1 ∧ s.attKeyless.bit Reg.ATT_STAT 0 = false ∧ s.attKeyless.key.attBusy = false := by
  have hframe := debugFollow_frame ((s.setKey { s.key with attBusy := false }).attDone 1 0)
  obtain ⟨hrd, -, hkey⟩ := (s.setKey { s.key with attBusy := false }).attDone_spec 1 0
  have hstat := (hframe.rd Reg.ATT_STAT eventReg_ATT_STAT (by decide)).trans hrd
  refine ⟨?_, ?_, ?_⟩
  · rw [State.attKeyless, State.get, hstat]
    rfl
  · rw [State.attKeyless, State.bit, hstat]
    rfl
  · rw [State.attKeyless, hframe.attBusy, hkey]
    rfl

end

/-- Settles O49: each command by `BUSY` and the page's state; the end of a job and of a report by what it shows. -/
theorem cryptoAndAttestation : Obligations.CryptoAndAttestation := by
  unfold Obligations.CryptoAndAttestation
  intro s
  refine ⟨?_, fun hidle => ?_, fun j hjob harm _ hregs => answers_eq (exec_cryJobDone_due s j hjob harm hregs) (s.cryShown_spec j),
    fun hbusy => ?_, fun hfree hrun => ?_, fun hfree hrun => ⟨?_, ?_, ?_, ?_⟩, fun hidle => ?_, fun hbusy => ?_⟩
  · simp only [List.forall_mem_cons, List.not_mem_nil, false_implies, implies_true, and_true]
    exact ⟨exec_cryGo s _ rfl, exec_cryGo s _ rfl, exec_cryGo s (·.cryGcm true) rfl, exec_cryGo s (·.cryGcm false) rfl,
      exec_cryGo s _ rfl, exec_cryGo s _ rfl, exec_cryGo s _ rfl, exec_cryGo s _ rfl, exec_cryGo s (·.cryStart 1) rfl⟩
  · refine congrArg Host.Outcome.next ?_
    unfold State.cryDone
    rw [hidle]
  · have hcmd (f : State → State) : (.next (s.attCmd f) : Answer) = .next (s.raise 0x0D2 1) := congrArg _ (s.attCmd_busy f hbusy)
    simp only [List.forall_mem_cons, List.not_mem_nil, false_implies, implies_true, and_true]
    exact ⟨hcmd _, hcmd _, hcmd _, hcmd _⟩
  · have hcmd {c : Instr} (f : State → State) (hexec : exec c s = .next (s.attCmd f)) :
        Answers (exec c s) fun t => t.rd Reg.ATT_STAT = 768 ∧ t.bit (Reg.PG_EVRAW 0x0D2) 8 = true ∧ t.key = s.key :=
      answers_eq (hexec.trans (congrArg Host.Outcome.next (s.attCmd_stopped f hfree hrun))) (s.attDone_spec 3 0)
    simp only [List.forall_mem_cons, List.not_mem_nil, false_implies, implies_true, and_true]
    exact ⟨hcmd _ rfl, hcmd _ rfl, hcmd _ rfl, hcmd _ rfl⟩
  · exact congrArg Host.Outcome.next (s.attCmd_runs _ hfree hrun)
  · exact answers_eq (congrArg Host.Outcome.next (s.attCmd_runs _ hfree hrun)) s.attBegun_spec
  · exact congrArg Host.Outcome.next (s.attCmd_runs _ hfree hrun)
  · exact congrArg Host.Outcome.next (s.attCmd_runs _ hfree hrun)
  · exact congrArg Host.Outcome.next (if_pos (by rw [hidle]; rfl))
  · split
    next hkey => exact answers_eq (congrArg Host.Outcome.next (s.attReport_keyless hbusy hkey)) s.attKeyless_spec
    next => rfl

end Sys2Proof.Machine
end

section
/-!
PROOF. The coxswain mailbox: a command that is written, and its completion (R373, R376, R377), up to the statement MailboxCommands.
-/
namespace Sys2Proof.Machine

theorem eventReg_COX_STAT : eventReg Reg.COX_STAT = false := eventReg_block _ (by decide) (by decide) (by decide) (by decide)

theorem eventReg_COX_RSP (w : Nat) (hw : w < 4) : eventReg (Reg.COX_RSP w) = false := by
  have hrsp : Reg.COX_RSP w = 0x80088 + 4 * w := by
    unfold Reg.COX_RSP
    omega
  exact eventReg_block _ (by omega) (by omega) (by omega) (by omega)

theorem COX_RSP_ne_STAT (w : Nat) : Reg.COX_RSP w ≠ Reg.COX_STAT := by
  unfold Reg.COX_RSP Reg.COX_STAT
  omega

theorem COX_RSP_ne (w v : Nat) (h : w ≠ v) : Reg.COX_RSP w ≠ Reg.COX_RSP v := by
  unfold Reg.COX_RSP
  omega

theorem COX_ARG_ne_STAT (w : Nat) (hw : w < 16) : Reg.COX_ARG w ≠ Reg.COX_STAT := by
  unfold Reg.COX_ARG Reg.COX_STAT
  omega

theorem has_mailboxPage (s : State) : s.has 0x080 = true := by exact has_of_parts s 0x080 (by decide)

section
variable (s : State)

/-! ### A command that is written -/

/-- The mailbox while a command is under way. -/
def State.mbxBusy : State := s.setBit Reg.COX_STAT 0 true

/-- The state and result of a body, as what the mailbox waits to show. -/
def mbxHeld (op seat : Nat) (r : State × MbxResult) : State := { r.1 with mbx := some { op := op, seat := seat, result := r.2 } }

section
variable (op : Nat) (easyOk : Bool) (body : MbxBody)

theorem State.mbxBusy_arg (w : Nat) (hw : w < 16) : s.mbxBusy.arg w = s.arg w := State.rd_setBit_ne _ _ _ _ _ (COX_ARG_ne_STAT w hw)

theorem State.mbxBusy_argSeat : s.mbxBusy.argSeat = s.argSeat := by
  rw [State.argSeat, s.mbxBusy_arg 0 (by decide), State.argSeat]

theorem State.mbxBusy_easy : s.mbxBusy.easy = s.easy := by
  rw [State.easy, State.mbxBusy, State.bit_setBit_ne _ _ _ _ _ _ (by decide), State.easy]

theorem State.mbxRun_busy (h : s.bit Reg.COX_STAT 0 = true) : s.mbxRun op easyOk body = s.raise 0x080 9 := if_pos h

theorem State.mbxRun_free (h : s.bit Reg.COX_STAT 0 = false) : s.mbxRun op easyOk body =
    mbxHeld op s.argSeat (if (s.easy && !easyOk) = true then refuse s.mbxBusy 9
      else if (s.arg 0).fld 31 16 ≠ 0 then refuse s.mbxBusy 2 else body s.mbxBusy s.argSeat) := by
  rw [← s.mbxBusy_argSeat, ← s.mbxBusy_easy, ← s.mbxBusy_arg 0 (by decide)]
  exact if_neg (Bool.eq_false_iff.mp h)

theorem State.mbxRun_easy (h : s.bit Reg.COX_STAT 0 = false) (heasy : s.easy = true) (hop : easyOk = false) :
    s.mbxRun op easyOk body = mbxHeld op s.argSeat (refuse s.mbxBusy 9) := by
  rw [s.mbxRun_free op easyOk body h, if_pos (by rw [heasy, hop]; rfl)]

theorem State.mbx_offered (hoffer : s.easy = false ∨ easyOk = true) : ¬ (s.easy && !easyOk) = true := by
  obtain h | h := hoffer
  · rw [h, Bool.false_and]
    exact Bool.false_ne_true
  · rw [h, Bool.not_true, Bool.and_false]
    exact Bool.false_ne_true

theorem State.mbxRun_reserved (h : s.bit Reg.COX_STAT 0 = false) (hoffer : s.easy = false ∨ easyOk = true)
    (hres : (s.arg 0).fld 31 16 ≠ 0) : s.mbxRun op easyOk body = mbxHeld op s.argSeat (refuse s.mbxBusy 2) := by
  rw [s.mbxRun_free op easyOk body h, if_neg (s.mbx_offered easyOk hoffer), if_pos hres]

theorem State.mbxRun_runs (h : s.bit Reg.COX_STAT 0 = false) (hoffer : s.easy = false ∨ easyOk = true)
    (hres : (s.arg 0).fld 31 16 = 0) : s.mbxRun op easyOk body = mbxHeld op s.argSeat (body s.mbxBusy s.argSeat) := by
  rw [s.mbxRun_free op easyOk body h, if_neg (s.mbx_offered easyOk hoffer), if_neg (not_not_intro hres)]

/-- A mailbox command: dropped, refused by Easy mode, refused for its reserved bits, or run. -/
theorem exec_mbxRun {c : Instr} (hexec : exec c s = .next (s.mbxRun op easyOk body)) :
    (s.bit Reg.COX_STAT 0 = true → exec c s = .next (s.raise 0x080 9)) ∧
      (s.bit Reg.COX_STAT 0 = false → ∀ b : State, b = s.setBit Reg.COX_STAT 0 true →
        (s.easy = true → easyOk = false → exec c s =
          .next { b with mbx := some { op := op, seat := s.argSeat, result := some (9, []) } }) ∧
        (s.easy = false ∨ easyOk = true → (s.arg 0).fld 31 16 ≠ 0 → exec c s =
          .next { b with mbx := some { op := op, seat := s.argSeat, result := some (2, []) } }) ∧
        (s.easy = false ∨ easyOk = true → (s.arg 0).fld 31 16 = 0 → exec c s =
          .next { (body b s.argSeat).1 with mbx := some { op := op, seat := s.argSeat, result := (body b s.argSeat).2 } })) := by
  refine ⟨fun hbusy => ?_, fun hfree => forall_eq.mpr ⟨fun heasy hop => ?_, fun hoffer hres => ?_, fun hoffer hres => ?_⟩⟩
  · rw [hexec, s.mbxRun_busy op easyOk body hbusy]
  · rw [hexec, s.mbxRun_easy op easyOk body hfree heasy hop]
    rfl
  · rw [hexec, s.mbxRun_reserved op easyOk body hfree hoffer hres]
    rfl
  · rw [hexec, s.mbxRun_runs op easyOk body hfree hoffer hres]
    rfl

end

/-! ### Completion -/

section
variable (rsp : List Word)

theorem State.rspWrite_same (g : State → List (List Word × Nat × Nat) × Option Mbx) (hg : ∀ (t : State) a v, g (t.wr a v) = g t)
    (hfree : ∀ t : State, g t.useFree = g t) (w : Nat) : g (s.rspWrite rsp w) = g s := by
  unfold State.rspWrite
  split
  · exact hg _ _ _
  · exact (hg _ _ _).trans (hfree s)

theorem State.rd_rspWrite_ne (w a : Nat) (h : a ≠ Reg.COX_RSP w) : (s.rspWrite rsp w).rd a = s.rd a := by
  unfold State.rspWrite
  split
  · exact State.rd_wr_ne _ _ _ _ h
  · exact State.rd_wr_ne _ _ _ _ h

theorem State.rd_rspWrite_given (w : Nat) (v : Word) (h : rsp[w]? = some v) : (s.rspWrite rsp w).rd (Reg.COX_RSP w) = v := by
  unfold State.rspWrite
  rw [h]
  exact State.rd_wr_same _ _ _

/-- The response words 0 to `n − 1` are written. -/
def State.rspAll (n : Nat) : State := s.each (List.range n) fun s w => s.rspWrite rsp w

theorem State.rspAll_succ (n : Nat) : s.rspAll rsp (n + 1) = (s.rspAll rsp n).rspWrite rsp n := by
  rw [State.rspAll, State.each, List.range_succ, List.foldl_append]
  rfl

theorem State.rd_rspAll_given (n w : Nat) (v : Word) (hw : w < n) (h : rsp[w]? = some v) :
    (s.rspAll rsp n).rd (Reg.COX_RSP w) = v := by
  induction n with
  | zero => cases hw
  | succ n ih =>
    rw [s.rspAll_succ]
    obtain rfl | hlt := Nat.eq_or_lt_of_le (Nat.le_of_lt_succ hw)
    · exact State.rd_rspWrite_given _ _ _ _ h
    · rw [State.rd_rspWrite_ne _ _ _ _ (COX_RSP_ne w n (Nat.ne_of_lt hlt)), ih hlt]

end

/-- The command has left the mailbox for the log. -/
def State.mbxLogged (m : Nat) : State :=
  { s with mbx := none, mbxLog := ((List.range 16).map s.arg, m, s.now) :: s.mbxLog.take 15 }

/-- The response words and the status of a command that ends. -/
def State.mbxShown (st : Nat) (rsp : List Word) : State :=
  ((s.mbxLogged st).rspAll rsp 4).wrN Reg.COX_STAT (256 * st + 65536 * ((s.get Reg.COX_STAT 31 16 + 1) % 65536))

theorem exec_mbxCommandDone_result (m : Mbx) (st : Nat) (rsp : List Word) (hm : s.mbx = some m) (hres : m.result = some (st, rsp)) :
    exec .mbxCommandDone s = .next ((s.mbxShown st rsp).raise 0x080 8) := by
  refine congrArg Host.Outcome.next ?_
  unfold State.mbxDone
  rw [hm]
  dsimp only
  rw [hres]
  rfl

theorem State.mbxShown_same (st : Nat) (rsp : List Word) :
    (s.mbxShown st rsp).mbx = none ∧ (s.mbxShown st rsp).mbxLog = ((List.range 16).map s.arg, st, s.now) :: s.mbxLog.take 15 := by
  have hrsp : (((s.mbxLogged st).rspAll rsp 4).mbxLog, ((s.mbxLogged st).rspAll rsp 4).mbx) = ((s.mbxLogged st).mbxLog, (s.mbxLogged st).mbx) :=
    State.each_same (fun t => (t.mbxLog, t.mbx)) _ (fun t w => t.rspWrite_same rsp (fun t => (t.mbxLog, t.mbx)) (fun _ _ _ => rfl) (fun _ => rfl) w) _ _
  obtain ⟨hlog, hmbx⟩ := Prod.mk.inj hrsp
  have hframe := wrN_frame ((s.mbxLogged st).rspAll rsp 4) Reg.COX_STAT (256 * st + 65536 * ((s.get Reg.COX_STAT 31 16 + 1) % 65536))
  exact ⟨hframe.mbx.trans hmbx, hframe.mbxLog.trans hlog⟩

theorem State.mbxShown_stat (st : Nat) (rsp : List Word) : (s.mbxShown st rsp).rd Reg.COX_STAT =
    BitVec.ofNat 32 (256 * st + 65536 * ((s.get Reg.COX_STAT 31 16 + 1) % 65536)) := State.rd_wrN_same _ _ _

/-- What a completion shows. -/
theorem State.mbxDone_spec (st : Nat) (rsp : List Word) (hst : st < 256) :
    ((s.mbxShown st rsp).raise 0x080 8).mbx = none ∧ ((s.mbxShown st rsp).raise 0x080 8).bit Reg.COX_STAT 0 = false ∧
      ((s.mbxShown st rsp).raise 0x080 8).get Reg.COX_STAT 15 8 = st ∧
      ((s.mbxShown st rsp).raise 0x080 8).get Reg.COX_STAT 31 16 = (s.get Reg.COX_STAT 31 16 + 1) % 65536 ∧
      ((s.mbxShown st rsp).raise 0x080 8).bit (Reg.PG_EVRAW 0x080) 8 = true ∧
      ((s.mbxShown st rsp).raise 0x080 8).mbxLog.length ≤ 16 ∧
      ∀ w v, w < 4 → rsp[w]? = some v → ((s.mbxShown st rsp).raise 0x080 8).rd (Reg.COX_RSP w) = v := by
  have hframe := raise_frame (s.mbxShown st rsp) 0x080 8
  obtain ⟨hmbx, hlog⟩ := s.mbxShown_same st rsp
  have hstat := (State.rd_raise _ _ _ _ (by decide) eventReg_COX_STAT : ((s.mbxShown st rsp).raise 0x080 8).rd Reg.COX_STAT = _).trans
    (s.mbxShown_stat st rsp)
  refine ⟨hframe.mbx.trans hmbx, ?_, ?_, ?_, ?_, ?_, fun w v hw hv => ?_⟩
  · rw [State.bit, hstat, BitVec.getLsbD_ofNat, Nat.testBit_zero]
    simp only [Nat.reduceLT, decide_true, Bool.true_and, decide_eq_false_iff_not]
    omega
  · rw [State.get, hstat, Word.fld_ofNat]
    omega
  · rw [State.get, hstat, Word.fld_ofNat]
    omega
  · exact State.bit_raise_same _ _ _ (by decide) (by decide) (has_mailboxPage _)
  · rw [hframe.mbxLog, hlog, List.length_cons]
    exact Nat.succ_le_succ (List.length_take_le _ _)
  · rw [State.rd_raise _ _ _ _ (by decide) (eventReg_COX_RSP w hw), State.mbxShown, State.rd_wrN_ne _ _ _ _ (COX_RSP_ne_STAT w)]
    exact State.rd_rspAll_given _ _ _ _ _ hw hv

end

/-- Settles O35: every mailbox command runs by one rule; the completion field by field. -/
theorem mailboxCommands : Obligations.MailboxCommands := by
  unfold Obligations.MailboxCommands
  intro s data ok
  refine ⟨?_, fun hidle => ?_, fun m hm hres => ?_,
    fun m st rsp hm hres hst => answers_eq (exec_mbxCommandDone_result s m st rsp hm hres) (s.mbxDone_spec st rsp hst)⟩
  · intro x hx
    refine exec_mbxRun s x.2.1 x.2.2.1 x.2.2.2 ?_
    revert x
    simp only [List.forall_mem_cons, List.not_mem_nil, false_implies, implies_true, and_true]
    exact ⟨rfl, rfl, rfl, rfl, rfl, rfl, rfl, rfl, rfl, rfl, rfl, rfl, rfl, rfl, rfl, rfl, rfl, rfl, rfl, rfl, rfl, rfl, rfl, rfl⟩
  · refine congrArg Host.Outcome.next ?_
    unfold State.mbxDone
    rw [hidle]
  · refine congrArg Host.Outcome.next ?_
    unfold State.mbxDone
    rw [hm]
    dsimp only
    rw [hres]

end Sys2Proof.Machine
end

section
/-!
PROOF. What the mailbox refuses of seats, queues, rings and grants (R374 to R376, R379, R380, R383), up to the statement
SeatOperations.
-/
namespace Sys2Proof.Machine

section
variable (s : State) (i : Nat)

/-! ### Seats that accept an op -/

theorem State.liveSeat_iff : s.liveSeat i = 0 ↔ i < 64 ∧ (s.seatState i = 1 ∨ s.seatState i = 2) := by
  unfold State.liveSeat
  simp only [Bool.or_eq_true, decide_eq_true_eq]
  split
  next h => exact iff_of_false (by decide) fun hl => absurd hl.1 (Nat.not_lt.mpr h)
  next h =>
    split
    next hl => exact iff_of_true rfl ⟨Nat.lt_of_not_le h, hl⟩
    next hl => exact iff_of_false (by decide) fun hb => hl hb.2

theorem State.liveSeat_resetting (hi : i < 64) (h : s.seatState i = 3) : s.liveSeat i = 3 := by
  rw [State.liveSeat, if_neg (Nat.not_le.mpr hi), if_neg (by rw [h]; decide)]

theorem State.busySeat_resetting (h : s.seatState i = 3) : s.busySeat i = 5 := if_pos h

theorem State.busySeat_live (h : s.liveSeat i = 0) : s.busySeat i = 0 := by
  have hstate := ((s.liveSeat_iff i).mp h).2
  rw [State.busySeat, if_neg (by omega), h]

/-! ### Closing, resetting and binding -/

theorem seatCloseBody_seat0 : seatCloseBody s 0 = refuse s 3 := rfl

theorem seatCloseBody_none : seatCloseBody s 64 = refuse s 2 := rfl

theorem seatCloseBody_closes (hi : i < 64) (h0 : i ≠ 0) (hstate : s.seatState i ≠ 0) : seatCloseBody s i = (s.resetStart i true, none) := by
  unfold seatCloseBody
  rw [if_neg (Nat.not_le.mpr hi), if_neg (by simp only [Bool.or_eq_true, decide_eq_true_eq, h0, hstate, or_self, not_false_eq_true])]

theorem seatResetBody_refused (hi : i < 64) (h : s.seatState i = 0 ∨ s.seatState i = 3) : seatResetBody s i = refuse s 3 := by
  unfold seatResetBody
  rw [if_neg (Nat.not_le.mpr hi), if_pos (by simpa only [Bool.or_eq_true, decide_eq_true_eq] using h)]

theorem seatResetBody_resets (hi : i < 64) (h0 : s.seatState i ≠ 0) (h3 : s.seatState i ≠ 3) :
    seatResetBody s i = (s.resetStart i false, none) := by
  unfold seatResetBody
  rw [if_neg (Nat.not_le.mpr hi), if_neg (by simp only [Bool.or_eq_true, decide_eq_true_eq, h0, h3, or_self, not_false_eq_true])]

/-- A word 1 that SEAT_SHARE accepts for a seat. -/
theorem seatShareBody_given (hi : i < 64) (hres : (s.arg 1).fld 31 8 = 0) (hstate : s.seatState i ≠ 0)
    (hshare : i ≠ 0 ∨ (s.arg 1).fld 7 0 ≠ 0) :
    seatShareBody s i = accept (s.modSeat i fun t => { t with shareNext := some ((s.arg 1).fld 7 0) }) := by
  unfold seatShareBody
  dsimp only
  rw [if_neg, if_neg hstate]
  simp only [Bool.or_eq_true, Bool.and_eq_true, decide_eq_true_eq]
  omega

theorem seatShareBody_seat0 (hshare : (s.arg 1).fld 7 0 = 0) : seatShareBody s 0 = refuse s 2 := by
  unfold seatShareBody
  dsimp only
  rw [if_pos]
  rw [hshare, Bool.or_eq_true]
  exact .inr rfl

theorem seatBindBody_down (h : s.liveSeat i = 0) (hres : (s.arg 1).fld 31 1 = 0) (hport : s.portUp ((s.arg 1).fld 0 0) = false) :
    seatBindBody s i = refuse s 11 := by
  unfold seatBindBody
  dsimp only
  rw [if_neg (not_not_intro hres), if_neg (not_not_intro (s.busySeat_live i h)), if_pos (by rw [hport]; rfl)]

theorem seatBindBody_resetting (h : s.seatState i = 3) (hres : (s.arg 1).fld 31 1 = 0) : seatBindBody s i = refuse s 5 := by
  have hbusy := s.busySeat_resetting i h
  unfold seatBindBody
  dsimp only
  rw [if_neg (not_not_intro hres), if_pos (by rw [hbusy]; decide), hbusy]

theorem seatLostBody_loses (hi : i < 64) (h0 : i ≠ 0) (h : s.seatState i = 1 ∨ s.seatState i = 2) :
    seatLostBody s i = accept (s.seatLose i) := by
  unfold seatLostBody
  rw [if_neg (Nat.not_le.mpr hi), if_neg]
  simp only [Bool.or_eq_true, Bool.and_eq_true, decide_eq_true_eq]
  omega

theorem seatLostBody_seat0 : seatLostBody s 0 = refuse s 3 := rfl

/-- A seat that SEAT_OPEN names, with a word 1 it accepts. -/
theorem seatOpenBody_named (hi : i < 64) (hport : (s.arg 1).fld 7 1 = 0) (hres : (s.arg 1).fld 31 16 = 0) :
    seatOpenBody s i = if s.seatState i ≠ 0 then refuse s 3 else if (!s.portUp ((s.arg 1).fld 0 0)) = true then refuse s 11
      else accept (s.openSeat i ((s.arg 1).fld 0 0) ((s.arg 1).fld 15 8) (s.arg 2).toNat) [BitVec.ofNat 32 i] := by
  unfold seatOpenBody
  dsimp only
  rw [if_neg, if_neg (by omega)]
  simp only [Bool.or_eq_true, Bool.and_eq_true, decide_eq_true_eq]
  omega

theorem seatInfoBody_named (hi : i < 64) : seatInfoBody s i = accept s [s.rd (Reg.ST_STAT i), s.rd (Reg.ST_QSET i),
    BitVec.ofNat 32 ((s.rd (Reg.ST_GRANTS i)).fld 8 0), s.rd (Reg.ST_LOSTTO i)] := if_neg (Nat.not_le.mpr hi)

/-! ### Queues and rings -/

/-- A RESETTING seat accepts no queue, ring or translation. -/
theorem queueOps_resetting (hi : i < 64) (h : s.seatState i = 3) : queueSetBody s i = refuse s 3 ∧ queueDelBody s i = refuse s 3 ∧
    ringSetBody s i = refuse s 3 ∧ ringDelBody s i = refuse s 3 ∧ xlateSetBody s i = refuse s 3 := by
  have hlive := s.liveSeat_resetting i hi h
  have hne : s.liveSeat i ≠ 0 := by rw [hlive]; decide
  refine ⟨?_, ?_, ?_, ?_, ?_⟩
  · exact (if_pos hne).trans (congrArg (refuse s) hlive)
  · exact (if_pos hne).trans (congrArg (refuse s) hlive)
  · exact (if_pos hne).trans (congrArg (refuse s) hlive)
  · exact (if_pos hne).trans (congrArg (refuse s) hlive)
  · exact (if_pos hne).trans (congrArg (refuse s) hlive)

theorem grantBody_resetting (h : s.seatState i = 3) : grantBody s i = refuse s 5 := by
  have hbusy := s.busySeat_resetting i h
  exact (if_pos (by rw [hbusy]; decide)).trans (congrArg (refuse s) hbusy)

/-- QUEUE_SET with well-formed words for a seat that accepts it. -/
theorem queueSetBody_formed (h : s.liveSeat i = 0) (hword : badQueueWord (s.arg 1) = false) (hbase : s.argAddr 3 % 4096 = 0)
    (hlink : (s.arg 5).fld 31 3 = 0) : queueSetBody s i = if (!goodDepth (s.arg 2).toNat) = true then refuse s 8
      else if s.queueUp i ((s.arg 1).fld 1 0) ((s.arg 1).fld 6 4) = true then refuse s 5
      else if ((s.arg 1).fld 1 0 = 0 && (s.cqOf i ((s.arg 5).fld 2 0)).isNone) = true then refuse s 2
      else accept (s.setQueue i ((s.arg 1).fld 1 0) ((s.arg 1).fld 6 4) (s.arg 2).toNat (s.argAddr 3) ((s.arg 5).fld 2 0)) := by
  unfold queueSetBody
  dsimp only
  rw [if_neg (not_not_intro h), if_neg]
  simp only [hword, hbase, hlink, ne_eq, not_true_eq_false, decide_false, Bool.or_self, Bool.false_eq_true, not_false_eq_true]

theorem queueDelBody_unset (h : s.liveSeat i = 0) (hup : s.queueUp i ((s.arg 1).fld 1 0) ((s.arg 1).fld 6 4) = false) :
    queueDelBody s i = refuse s 2 := by
  unfold queueDelBody
  dsimp only
  rw [if_neg (not_not_intro h), if_pos (by rw [hup, Bool.not_false, Bool.or_true])]

/-! ### Grants -/

theorem grantBody_live (h : s.liveSeat i = 0) : grantBody s i = match s.named i with
    | none => refuse s 2
    | some n =>
      if n.idxs.any fun x => !s.resourceAt n.kind x then refuse s 7
      else if (n.idxs.any fun x => s.heldBy i n.kind x) || (n.kind == 7 && s.macHeld i) then refuse s 6
      else accept (((s.each n.idxs fun s x => s.grantOne i n.kind x).grantsFollow i).chPagesFollow) :=
  if_neg (not_not_intro (s.busySeat_live i h))

theorem revokeBody_seat (hi : i < 64) : revokeBody s i = match s.named i with
    | none => refuse s 2
    | some n =>
      if n.idxs.any fun x => !s.resourceAt n.kind x then refuse s 7
      else if n.idxs.any fun x => s.heldBy i n.kind x then refuse s 6
      else accept (((s.each n.idxs fun s x => s.revokeOne n.kind x).grantsFollow i).chPagesFollow) :=
  if_neg (Nat.not_le.mpr hi)

/-- No resource is absent where each is present. -/
theorem State.present_of_all (n : Named) (h : (n.idxs.all fun x => s.resourceAt n.kind x) = true) :
    (n.idxs.any fun x => !s.resourceAt n.kind x) = false := by
  rw [List.any_eq_false]
  exact fun x hx => by rw [List.all_eq_true.mp h x hx]; decide

end

/-- Settles O36: each body by the state of its seat and the words it is given. -/
theorem seatOperations : Obligations.SeatOperations := by
  unfold Obligations.SeatOperations
  intro s i hi
  refine ⟨⟨seatCloseBody_seat0 s, seatCloseBody_none s⟩, seatCloseBody_closes s i hi, seatResetBody_refused s i hi,
    seatResetBody_resets s i hi, fun _ => seatShareBody_seat0 s, seatShareBody_given s i hi, seatBindBody_down s i,
    seatLostBody_loses s i hi, seatLostBody_seat0 s, fun hport hres hstate => ?_, fun hport hres hstate hup => ?_, fun hstate => ?_,
    fun hlive hword hbase hlink => ⟨fun hdepth => ?_, fun hdepth hup => ?_, fun hdepth hup hkind => ?_⟩,
    fun hlive _ => queueDelBody_unset s i hlive, fun hlive hnone => ⟨?_, ?_⟩, fun n hlive hnamed habsent => ⟨?_, ?_⟩,
    fun n hlive hnamed hpresent hheld => ?_, seatInfoBody_named s i hi, fun hshut => if_pos hshut⟩
  · rw [seatOpenBody_named s i hi hport hres, if_pos hstate]
  · rw [seatOpenBody_named s i hi hport hres, if_neg (not_not_intro hstate), if_neg (by rw [hup]; decide)]
  · obtain ⟨hset, hdel, hring, hringDel, hxlate⟩ := queueOps_resetting s i hi hstate
    exact ⟨hset, hdel, hring, hringDel, hxlate, grantBody_resetting s i hstate, seatBindBody_resetting s i hstate⟩
  · rw [queueSetBody_formed s i hlive hword hbase hlink, if_pos (by rw [hdepth]; rfl)]
  · rw [queueSetBody_formed s i hlive hword hbase hlink, if_neg (by rw [hdepth]; decide), if_pos hup]
  · rw [queueSetBody_formed s i hlive hword hbase hlink, if_neg (by rw [hdepth]; decide), if_neg (Bool.eq_false_iff.mp hup), if_neg]
    rw [Bool.and_eq_true, decide_eq_true_eq, Option.isNone_iff_eq_none]
    rintro ⟨hzero, hnone⟩
    rw [hnone] at hkind
    exact hkind.elim (fun h => h hzero) Bool.false_ne_true
  · rw [grantBody_live s i hlive, hnone]
  · rw [revokeBody_seat s i hi, hnone]
  · rw [grantBody_live s i hlive, hnamed]
    exact if_pos habsent
  · rw [revokeBody_seat s i hi, hnamed]
    exact if_pos habsent
  · rw [grantBody_live s i hlive, hnamed]
    refine (if_neg (Bool.eq_false_iff.mp (s.present_of_all n hpresent))).trans (if_pos ?_)
    rw [hheld, Bool.true_or]

end Sys2Proof.Machine
end

section
/-!
PROOF. Authenticated operations (R518 to R520), up to the statement AuthenticatedOperations.
-/
namespace Sys2Proof.Machine

section
variable (s : State)

/-- The attempt uses up the nonce. -/
def State.nonceUsed : State := s.setKey { s.key with authNonce := none }

theorem State.mbxBusy_key : s.mbxBusy.key = s.key := (put_frame _ _ _ _ _).key

theorem State.mbxBusy_nonceUsed : s.mbxBusy.nonceUsed = s.mbxBusy.setKey { s.key with authNonce := none } := by
  rw [State.nonceUsed, s.mbxBusy_key]

/-! ### Failures -/

theorem State.authFail_result (reason : Nat) : (s.authFail reason).2 = some (10, [BitVec.ofNat 32 reason]) := rfl

theorem State.authFail_key (reason : Nat) : (s.authFail reason).1.key =
    { s.key with authFails := s.key.authFails + 1, authShut := s.key.authShut || decide (4 ≤ s.key.authFails + 1) } := rfl

theorem State.authFail_rd (reason a : Nat) : (s.authFail reason).1.rd a = s.rd a := rfl

theorem State.authFail_shuts (reason : Nat) (h : 3 ≤ s.key.authFails) : (s.authFail reason).1.key.authShut = true := by
  rw [s.authFail_key, decide_eq_true (Nat.succ_le_succ h), Bool.or_true]

/-- Without a nonce no token passes. -/
theorem State.tokenFault_stale (op : Nat) (t : List Byte) : s.tokenFault none op t ≠ none := by
  unfold State.tokenFault
  dsimp only
  split
  · exact Option.some_ne_none _
  · rw [if_pos Bool.not_false]
    exact Option.some_ne_none _

/-! ### An operation that is written -/

section
variable {c : Instr} {op : Nat} {tok : Option (List Byte)} {body : State → List Byte → State × MbxResult}

theorem exec_execute_busy (hexec : exec c s = s.execute op tok body) (h : s.bit Reg.COX_STAT 0 = true) :
    exec c s = .next (s.raise 0x080 9) := hexec.trans (congrArg Host.Outcome.next (s.mbxRun_busy 24 true _ h))

theorem exec_execute_free (hexec : exec c s = s.execute op tok body) (h : s.bit Reg.COX_STAT 0 = false) (hres : (s.arg 0).fld 31 16 = 0) :
    exec c s = .next (mbxHeld 24 s.argSeat (executeBody op tok body s.mbxBusy s.argSeat)) :=
  hexec.trans (congrArg Host.Outcome.next (s.mbxRun_runs 24 true _ h (.inr rfl) hres))

/-- An operation whose token cannot be read. -/
theorem exec_execute_unread (hexec : exec c s = s.execute op none body) (h : s.bit Reg.COX_STAT 0 = false)
    (hres : (s.arg 0).fld 31 16 = 0) : Answers (exec c s) fun t => t.key.authNonce = none ∧ t.key.authFails = s.key.authFails + 1 ∧
      t.mbx = some { op := 24, seat := s.argSeat, result := some (10, [8]) } ∧ s.keepsRegs t [Reg.COX_STAT] := by
  refine answers_eq (exec_execute_free s hexec h hres) ⟨rfl, ?_, rfl, fun a ha => ?_⟩
  · change s.mbxBusy.key.authFails + 1 = _
    rw [s.mbxBusy_key]
  · exact State.rd_setBit_ne s _ a _ _ fun h => ha (by rw [h]; exact List.mem_singleton_self _)

theorem exec_execute_read {t : List Byte} (hexec : exec c s = s.execute op (some t) body) (h : s.bit Reg.COX_STAT 0 = false)
    (hres : (s.arg 0).fld 31 16 = 0) (b : State) (hb : b = s.mbxBusy.setKey { s.key with authNonce := none }) :
    exec c s = match b.tokenFault s.key.authNonce op t with
      | some r => .next (mbxHeld 24 s.argSeat (b.authFail r))
      | none => .next (mbxHeld 24 s.argSeat (body b t)) := by
  rw [← s.mbxBusy_nonceUsed] at hb
  have hbody : executeBody op (some t) body s.mbxBusy s.argSeat = match b.tokenFault s.key.authNonce op t with
      | some r => b.authFail r
      | none => body b t := by
    rw [hb, ← s.mbxBusy_key]
    rfl
  rw [exec_execute_free s hexec h hres, hbody]
  cases b.tokenFault s.key.authNonce op t with
  | some r => rfl
  | none => rfl

end

end

/-- Settles O50: each operation by its token and the first check that fails. -/
theorem authenticatedOperations : Obligations.AuthenticatedOperations := by
  unfold Obligations.AuthenticatedOperations
  intro s ok tok
  refine ⟨fun hbusy t => ?_, fun hfree hres => ⟨?_, fun b hb x hx => ?_⟩, s.tokenFault_stale 1 tok, s.authFail_shuts 1,
    answers_next ⟨rfl, rfl⟩, fun hshut => answers_eq (congrArg Host.Outcome.next (if_pos hshut)) ⟨rfl, rfl⟩,
    fun hshut => congrArg Host.Outcome.next (if_neg (Bool.eq_false_iff.mp hshut))⟩
  · simp only [List.forall_mem_cons, List.not_mem_nil, false_implies, implies_true, and_true]
    exact ⟨exec_execute_busy s rfl hbusy, exec_execute_busy s rfl hbusy, exec_execute_busy s rfl hbusy,
      exec_execute_busy s rfl hbusy, exec_execute_busy s rfl hbusy, exec_execute_busy s rfl hbusy⟩
  · simp only [List.forall_mem_cons, List.not_mem_nil, false_implies, implies_true, and_true]
    exact ⟨exec_execute_unread s rfl hfree hres, exec_execute_unread s rfl hfree hres, exec_execute_unread s rfl hfree hres,
      exec_execute_unread s rfl hfree hres, exec_execute_unread s rfl hfree hres, exec_execute_unread s rfl hfree hres⟩
  · refine exec_execute_read s (body := x.2.2) ?_ hfree hres b hb
    clear hb
    revert x
    simp only [List.forall_mem_cons, List.not_mem_nil, false_implies, implies_true, and_true]
    exact ⟨rfl, rfl, rfl, rfl, rfl, rfl⟩

end Sys2Proof.Machine
end

section
/-!
PROOF. Ports of the switch core, tunnels and the seat interface (R409, R422, R425 to R430), up to the statement SwitchPorts.
-/
namespace Sys2Proof.Machine

theorem eventReg_PORT_STAT (p : Nat) (hp : p < 12) : eventReg (Reg.PORT_STAT p) = false := by
  have hstat : Reg.PORT_STAT p = 0xA0108 + 0x40 * p := by
    unfold Reg.PORT_STAT
    omega
  exact eventReg_block _ (by omega) (by omega) (by omega) (by omega)

theorem eventReg_ETH_LINK : eventReg Reg.ETH_LINK = false := eventReg_block _ (by decide) (by decide) (by decide) (by decide)

theorem PORT_STAT_ne_ETH_LINK (p : Nat) : Reg.PORT_STAT p ≠ Reg.ETH_LINK := by
  unfold Reg.PORT_STAT Reg.ETH_LINK
  omega

theorem has_switchPage (s : State) : s.has 0x0A0 = true := by exact has_of_parts s 0x0A0 (by decide)

section
variable (s : State)

/-! ### Links (R422) -/

section
variable (p : Nat) (hp : p < 12)
include hp

/-- An Ethernet port that enters UP shows it, with its event. -/
theorem State.ethUp_spec : (s.ethUp p).ethState p = 2 ∧ (s.ethUp p).bit Reg.ETH_LINK p = true ∧
    (s.ethUp p).bit (Reg.PG_EVRAW 0x0A0) 8 = true := by
  refine ⟨?_, ?_, State.bit_raise_same _ _ _ (by decide) (by decide) (has_switchPage _)⟩
  · rw [State.ethState, State.ethUp, get_raise _ _ _ _ (by decide) (eventReg_PORT_STAT p hp),
      State.get_setBit_ne _ _ _ _ _ _ _ (PORT_STAT_ne_ETH_LINK p)]
    exact State.get_put_same _ _ _ _ _ (by decide) (by decide)
  · rw [State.ethUp, bit_raise _ _ _ _ (by decide) eventReg_ETH_LINK, State.bit_setBit_same _ _ _ _ (by omega)]

theorem exec_ethLinkDown (heth : s.hasEth p = true) (h : s.ethState p = 2) : exec (.ethLinkDown p) s =
    .next (((((s.put (Reg.PORT_STAT p) 1 0 1).count (Reg.PORT_STAT p) 31 16).setBit Reg.ETH_LINK p false).raise 0x0A0 9).portFlush p) :=
  answer_eq (decide_eq_true hp) ((if_pos heth).trans (if_neg (not_not_intro h)))

theorem exec_ethLinkDown_same (h : s.hasEth p = false ∨ s.ethState p ≠ 2) : exec (.ethLinkDown p) s = .next s := by
  refine answer_eq (decide_eq_true hp) ?_
  obtain hno | hdown := h
  · exact if_neg (Bool.eq_false_iff.mp hno)
  · by_cases heth : s.hasEth p = true
    · exact (if_pos heth).trans (if_pos hdown)
    · exact if_neg heth

theorem exec_ethFlushDone (ready : Bool) (heth : s.hasEth p = true) (h : s.ethState p = 1) : exec (.ethFlushDone p ready) s =
    .next (if (ready && s.ethEnabled p) = true then s.ethUp p else s.put (Reg.PORT_STAT p) 1 0 0) :=
  answer_eq (decide_eq_true hp) (if_pos (by rw [heth, h]; rfl))

theorem exec_ethLinkUp (heth : s.hasEth p = true) (h : s.ethState p = 0) :
    exec (.ethLinkUp p) s = .next (if s.ethEnabled p = true then s.ethUp p else s) :=
  answer_eq (decide_eq_true hp) (by rw [heth, h]; rfl)

end

theorem State.ethStopped_spec (p : Nat) : (s.put (Reg.PORT_STAT p) 1 0 0).ethState p = 0 ∧
    s.keepsRegs (s.put (Reg.PORT_STAT p) 1 0 0) [Reg.PORT_STAT p] :=
  ⟨State.get_put_same _ _ _ _ _ (by decide) (by decide),
    (State.keepsRegs.refl s _).put _ _ _ _ (List.mem_singleton_self _)⟩

/-! ### Frames (R410, R425) -/

theorem State.ethRx_unusable (q : Nat) (bytes : List Byte) (fcsOk : Bool) (ts : Nat)
    (h : s.hasPort q = false ∨ s.portUsable q = false) : s.ethRx q bytes fcsOk ts = s := by
  refine if_pos ?_
  rw [Bool.or_eq_true, Bool.not_eq_true', Bool.not_eq_true']
  exact h

/-- A frame that is too short is an error of its port. -/
theorem State.ethRx_runt (q : Nat) (bytes : List Byte) (fcsOk : Bool) (ts : Nat) (hport : s.hasPort q = true)
    (huse : s.portUsable q = true) (harm : s.bit (Reg.PG_INJARM 0x0A0) 0 = false) (hlen : frameLen bytes < 64) :
    s.ethRx q bytes fcsOk ts = s.portCount q (Reg.PORT_ERR q) 31 16 := by
  have hinj : (s.when (decide (q < 12)) fun s => s.injStep 0x0A0 0x10 q) = s := by
    unfold State.when
    dsimp only
    rw [s.injStep_of_disarmed 0x0A0 0x10 q harm, ite_self]
  unfold State.ethRx
  dsimp only
  rw [if_neg (by rw [hport, huse]; decide), hinj, if_pos hlen]

/-- A reassembly that never completes is dropped and counted. -/
theorem exec_tunnelReassemblyTimeout (t frame : Nat) (ht : t < 8) :
    exec (.tunnelReassemblyTimeout t frame) s = .next (if (s.sw.tunAsm.any fun x => x.tun == t && x.frame == frame) = true then
      (s.setSw { s.sw with tunAsm := s.sw.tunAsm.filter fun x => !(x.tun == t && x.frame == frame) }).count (Reg.TUN_LOST t) 31 0
      else s) := answer_next (decide_eq_true ht) _

/-- The tunnel without the segments of a frame. -/
def State.asmDropped (t frame : Nat) : State :=
  s.setSw { s.sw with tunAsm := s.sw.tunAsm.filter fun x => !(x.tun == t && x.frame == frame) }

theorem State.asmLost_spec (t frame : Nat) :
    (∀ x ∈ ((s.asmDropped t frame).count (Reg.TUN_LOST t) 31 0).sw.tunAsm, ¬ (x.tun = t ∧ x.frame = frame)) ∧
      ((s.asmDropped t frame).count (Reg.TUN_LOST t) 31 0).get (Reg.TUN_LOST t) 31 0 =
        min (s.get (Reg.TUN_LOST t) 31 0 + 1) (2 ^ 32 - 1) ∧
      s.keepsRegs ((s.asmDropped t frame).count (Reg.TUN_LOST t) 31 0) [Reg.TUN_LOST t] := by
  have hkeep : s.keepsRegs (s.asmDropped t frame) [Reg.TUN_LOST t] := (State.keepsRegs.refl s _).same fun _ => rfl
  refine ⟨fun x hx => ?_, State.get_count_same (s.asmDropped t frame) _ _ _ _ (by decide) (by decide),
    hkeep.count _ _ _ _ (List.mem_singleton_self _)⟩
  rw [(count_frame _ _ _ _ _).sw] at hx
  have hkept := (List.mem_filter.mp hx).2
  rw [Bool.not_eq_true', Bool.and_eq_false_iff, beq_eq_false_iff_ne, beq_eq_false_iff_ne] at hkept
  exact fun h => hkept.elim (fun hn => hn h.1) fun hn => hn h.2

end

/-- Settles O39: frames by the port's state, links by theirs, and what a seat interface polls. -/
theorem switchPorts : Obligations.SwitchPorts := by
  unfold Obligations.SwitchPorts
  intro s p t frame seg ts i bytes data desc buf fcsOk ready last rx v host hp ht hi hbytes hdata hdesc
  have hseg : (decide (t < 8) && decide (data.length ≤ 256)) = true := by rw [decide_eq_true ht, decide_eq_true hdata]; rfl
  have hpoll : (decide (i < 64) && desc.length == 16) = true := by rw [decide_eq_true hi, hdesc]; rfl
  refine ⟨fun q hq => ⟨answer_next ?_ _, s.ethRx_unusable q bytes fcsOk ts, s.ethRx_runt q bytes fcsOk ts⟩,
    fun q hq => ⟨fun hhalt => answer_eq (decide_eq_true hq) (if_pos hhalt),
      fun hhalt => answer_eq (decide_eq_true hq) (if_neg (Bool.eq_false_iff.mp hhalt))⟩,
    fun hno => ⟨answer_eq hseg (if_neg (Bool.eq_false_iff.mp hno)), answer_eq hpoll (if_pos ?_)⟩, fun hsw => answer_eq hseg (if_pos hsw),
    answer_next hpoll _, fun hrun => answer_eq hpoll (if_pos ?_), fun hall => ?_, fun hany => ?_, exec_ethLinkDown s p hp,
    exec_ethLinkDown_same s p hp, fun heth hstate hready hen => ?_, fun heth hstate hnot => ?_, fun heth hstate hen => ?_,
    fun heth hstate hen => ?_, fun heth => ?_⟩
  · rw [decide_eq_true hbytes, Bool.and_true, Bool.or_eq_true, decide_eq_true_eq, beq_iff_eq]
    exact hq
  · rw [hno]
    rfl
  · rw [hrun, Bool.not_false, Bool.or_true]
    rfl
  · rw [exec_tunnelReassemblyTimeout s t frame ht, if_neg]
    rw [List.any_eq_true]
    rintro ⟨x, hx, hmatch⟩
    have hno := List.all_eq_true.mp hall x hx
    rw [hmatch] at hno
    exact Bool.false_ne_true hno
  · exact answers_eq ((exec_tunnelReassemblyTimeout s t frame ht).trans (congrArg Host.Outcome.next (if_pos hany)))
      (s.asmLost_spec t frame)
  · refine answers_eq (exec_ethFlushDone s p hp ready heth hstate) ?_
    rw [hready, hen, Bool.true_and, if_pos rfl]
    exact s.ethUp_spec p hp
  · refine answers_eq (exec_ethFlushDone s p hp ready heth hstate) ?_
    rw [if_neg]
    · exact s.ethStopped_spec p
    · obtain h | h := hnot
      · rw [h, Bool.false_and]
        exact Bool.false_ne_true
      · rw [h, Bool.and_false]
        exact Bool.false_ne_true
  · refine answers_eq (exec_ethLinkUp s p hp heth hstate) ?_
    rw [if_pos hen]
    exact s.ethUp_spec p hp
  · rw [exec_ethLinkUp s p hp heth hstate, if_neg (Bool.eq_false_iff.mp hen)]
  · refine answers_eq (answer_eq (decide_eq_true hp) (if_pos ?_))
      ⟨State.rd_wr_same _ _ _, (State.keepsRegs.refl s _).wr _ _ (List.mem_singleton_self _)⟩
    rw [heth, has_switchPage]
    rfl

end Sys2Proof.Machine
end

section
/-!
PROOF. Doorbells and rounds (R361, R362, R369, R378), up to the statement DoorbellsAndRounds.
-/
namespace Sys2Proof.Machine

theorem routeReg_SA_ERR (i : Nat) (hi : i < 64) : routeReg (Reg.SA_ERR i) = false := by
  refine decide_eq_false ?_
  have hlast : Reg.EVT_LAST < 0x100000 := by decide
  have hdrop : Reg.EVT_DROP < 0x100000 := by decide
  unfold Reg.SA_ERR
  omega

section
variable (s : State) (i q v : Nat)

/-- An invalid doorbell is counted. -/
theorem State.dbInvalid_counts (kind idx : Nat) (hi : i < 64) :
    (s.dbInvalid i kind idx v).get (Reg.SA_ERR i) 15 0 = min (s.get (Reg.SA_ERR i) 15 0 + 1) 65535 := by
  rw [State.dbInvalid, (EventFrame.seatEvent _ i 6 _ hi).get _ 15 0 (routeReg_SA_ERR i hi)]
  exact State.get_count_same _ _ _ _ _ (by decide) (by decide)

/-! ### Submission queues -/

theorem State.sqDoorbell_off (h : s.doorbells i = false) : s.sqDoorbell i q v = s := if_pos (by rw [h]; rfl)

theorem State.sqDoorbell_unset (h : s.doorbells i = true) (hq : s.sqUp i q = none) : s.sqDoorbell i q v = s.dbInvalid i 0 q v := by
  unfold State.sqDoorbell
  rw [if_neg (by rw [h]; decide), hq]

theorem State.sqDoorbell_up (h : s.doorbells i = true) (d : SubQ) (hq : s.sqUp i q = some d) : s.sqDoorbell i q v =
    if d.depth ≤ v % 65536 then s.dbInvalid i 0 q v
    else if around d.depth (s.sqTail i q) (s.sqHead i q + d.depth - 1) < around d.depth (s.sqTail i q) (v % 65536) then
      s.dbInvalid i 0 q v
    else s.wrN (Reg.SA_SQ_TAIL i q) (v % 65536) := by
  unfold State.sqDoorbell
  rw [if_neg (by rw [h]; decide), hq]

/-- A tail that would pass the head. -/
theorem State.sqDoorbell_past (h : s.doorbells i = true) (d : SubQ) (hq : s.sqUp i q = some d)
    (hpast : around d.depth (s.sqTail i q) (s.sqHead i q + d.depth - 1) < around d.depth (s.sqTail i q) (v % 65536)) :
    s.sqDoorbell i q v = s.dbInvalid i 0 q v := by
  rw [s.sqDoorbell_up i q v h d hq, if_pos hpast, ite_self]

/-- A good tail is stored, and nothing else changes. -/
theorem State.tailStored_spec (n : Nat) (hn : n < 65536) : (s.wrN (Reg.SA_SQ_TAIL i q) n).sqTail i q = n ∧
    s.keepsRegs (s.wrN (Reg.SA_SQ_TAIL i q) n) [Reg.SA_SQ_TAIL i q] ∧ (s.wrN (Reg.SA_SQ_TAIL i q) n).seats = s.seats := by
  refine ⟨?_, (State.keepsRegs.refl s _).wrN _ _ (List.mem_singleton_self _), rfl⟩
  rw [State.sqTail, State.rd_wrN_same, BitVec.toNat_ofNat]
  exact Nat.mod_eq_of_lt (by omega)

/-! ### Completion and event queues -/

theorem State.cqDoorbell_off (h : s.doorbells i = false) : s.cqDoorbell i q v = s := if_pos (by rw [h]; rfl)

theorem State.cqDoorbell_unset (h : s.doorbells i = true) (hq : s.cqOf i q = none) : s.cqDoorbell i q v = s.dbInvalid i 1 q v := by
  unfold State.cqDoorbell
  rw [if_neg (by rw [h]; decide), hq]

/-- The completion queue with its head moved. -/
def State.cqConsumed (o : OutQ) (h : Nat) : State :=
  (s.modSeat i fun x => { x with cqs := Sparse.insert x.cqs q (o.consume h) }).wrN (Reg.SA_CQ_HEAD i q) h

theorem State.seat_wrN (a n : Nat) : (s.wrN a n).seat i = s.seat i := rfl

theorem State.seat_cqConsumed (o : OutQ) (h : Nat) :
    (s.cqConsumed i q o h).seat i = (s.modSeat i fun x => { x with cqs := Sparse.insert x.cqs q (o.consume h) }).seat i :=
  State.seat_wrN _ i _ _

theorem State.cqDoorbell_set (h : s.doorbells i = true) (o : OutQ) (hq : s.cqOf i q = some o) : s.cqDoorbell i q v =
    if o.depth ≤ v % 65536 then s.dbInvalid i 1 q v
    else (s.cqConsumed i q o (v % 65536)).cqDrain i q ((s.cqConsumed i q o (v % 65536)).seat i).heldC.length := by
  unfold State.cqDoorbell
  rw [if_neg (by rw [h]; decide), hq, s.seat_cqConsumed, State.cqConsumed]

theorem State.eqDoorbell_off (h : s.doorbells i = false) : s.eqDoorbell i v = s := if_pos (by rw [h]; rfl)

theorem State.eqDoorbell_unset (h : s.doorbells i = true) (hq : (s.seat i).eq = none) : s.eqDoorbell i v = s.dbInvalid i 2 0 v := by
  unfold State.eqDoorbell
  rw [if_neg (by rw [h]; decide), hq]

theorem State.eqDoorbell_set (h : s.doorbells i = true) (o : OutQ) (hq : (s.seat i).eq = some o) : s.eqDoorbell i v =
    if o.depth ≤ v % 65536 then s.dbInvalid i 2 0 v
    else ((s.modSeat i fun x => { x with eq := some (o.consume (v % 65536)) }).wrN (Reg.SA_EQ_HEAD i) (v % 65536)).eqOverflow i := by
  unfold State.eqDoorbell
  rw [if_neg (by rw [h]; decide), hq]

end

/-- Settles O32: each doorbell by the seat, its queue and the index it gives. -/
theorem doorbellsAndRounds : Obligations.DoorbellsAndRounds := by
  unfold Obligations.DoorbellsAndRounds
  intro s i q v hi hq hv
  have hdb : wfDb i q v = true := by rw [wfDb, decide_eq_true hi, decide_eq_true hq, decide_eq_true hv]; rfl
  have heq : wfDb i 0 v = true := by rw [wfDb, decide_eq_true hi, decide_eq_true hv]; rfl
  have hmod : v % 65536 < 65536 := Nat.mod_lt _ (by decide)
  refine ⟨fun hoff => ?_, fun hon => ⟨fun hnone => ?_, fun hnone => ?_, fun hnone => ?_, fun d hd hdepth => ?_,
      fun d hd hdepth hroom => ?_, fun d hd hpast => ?_, fun o ho hdepth => ?_, fun o ho hdepth t ht => ?_, fun o ho hdepth => ?_,
      fun o ho hdepth => ?_⟩,
    s.dbInvalid_counts i v 0 q hi, fun hbusy => ?_, fun hover hhalt => ?_⟩
  · simp only [List.forall_mem_cons, List.not_mem_nil, false_implies, implies_true, and_true]
    exact ⟨answer_eq hdb (s.sqDoorbell_off i q v hoff), answer_eq hdb (s.cqDoorbell_off i q v hoff),
      answer_eq heq (s.eqDoorbell_off i v hoff)⟩
  · exact answer_eq hdb (s.sqDoorbell_unset i q v hon hnone)
  · exact answer_eq hdb (s.cqDoorbell_unset i q v hon hnone)
  · exact answer_eq heq (s.eqDoorbell_unset i v hon hnone)
  · exact answer_eq hdb ((s.sqDoorbell_up i q v hon d hd).trans (if_pos hdepth))
  · refine answers_eq (answer_eq hdb ((s.sqDoorbell_up i q v hon d hd).trans ?_)) (s.tailStored_spec i q _ hmod)
    rw [if_neg (Nat.not_le.mpr hdepth), if_neg (Nat.not_lt.mpr hroom)]
  · exact answer_eq hdb (s.sqDoorbell_past i q v hon d hd hpast)
  · exact answer_eq hdb ((s.cqDoorbell_set i q v hon o ho).trans (if_pos hdepth))
  · subst ht
    exact answer_eq hdb ((s.cqDoorbell_set i q v hon o ho).trans (if_neg (Nat.not_le.mpr hdepth)))
  · exact answer_eq heq ((s.eqDoorbell_set i v hon o ho).trans (if_pos hdepth))
  · exact answer_eq heq ((s.eqDoorbell_set i v hon o ho).trans (if_neg (Nat.not_le.mpr hdepth)))
  · refine congrArg Host.Outcome.next (if_neg ?_)
    obtain h | h := hbusy
    · rw [h, Bool.false_and]
      exact Bool.false_ne_true
    · rw [h, Bool.not_true, Bool.and_false]
      exact Bool.false_ne_true
  · exact congrArg Host.Outcome.next (if_pos (by rw [hover, hhalt]; rfl))

end Sys2Proof.Machine
end

section
/-!
PROOF. Fetching, executing and completing submission entries (R364 to R369), up to the statement SubmissionEntries.
-/
namespace Sys2Proof.Machine

theorem State.seat_modSeat (s : State) (i : Nat) (f : Seat → Seat) : (s.modSeat i f).seat i = f (s.seat i) := by
  rw [State.seat, State.modSeat, Sparse.get_insert_same]

theorem State.seat_count (s : State) (i a hi lo n : Nat) : (s.count a hi lo n).seat i = s.seat i := rfl

section
variable (s : State) (i q cid : Nat)

/-! ### Fetching (R365) -/

section
variable (b : List Byte) (host : List (Nat × Nat))

theorem State.sqFetch_unset (h : s.sqUp i q = none) : s.sqFetch i q b host = s := by
  unfold State.sqFetch
  rw [h]

theorem State.sqFetch_blocked (d : SubQ) (h : s.sqUp i q = some d) (hmay : s.mayFetch i q d b = false) :
    s.sqFetch i q b host = s := by
  unfold State.sqFetch
  rw [h]
  exact if_pos (by rw [hmay]; rfl)

theorem State.sqFetch_starts (d : SubQ) (t u : State) (r : Xlat) (c : List Byte) (h : s.sqUp i q = some d)
    (hmay : s.mayFetch i q d b = true) (htr : s.translate host i (d.base + 64 * s.sqHead i q) false = (t, r)) (hr : r.code = 0)
    (hb : t.entryBytes r b = (u, some c)) : s.sqFetch i q b host = u.entryStart i q d c := by
  unfold State.sqFetch
  rw [h]
  refine (if_neg (by rw [hmay]; decide)).trans ?_
  dsimp only
  rw [htr]
  refine (if_neg (not_not_intro hr)).trans ?_
  rw [hb]

end

/-! ### Execution (R365, R366) -/

section
variable (opc : Nat) (bad : List Byte → Bool) (f : State → List Byte → State)

theorem State.sqe_none (h : s.nextSqe i q cid = none) : s.sqe i q cid opc bad f = s := by
  unfold State.sqe
  rw [h]

theorem State.sqe_refused (e : Started) (h : s.nextSqe i q cid = some e) (hopc : opcOf e.bytes = opc)
    (hbad : badHead e.bytes = true) : s.sqe i q cid opc bad f = s.complete i q cid 2 0 0 := by
  unfold State.sqe
  rw [h]
  exact (if_neg (not_not_intro hopc)).trans (if_pos (by rw [hbad]; rfl))

theorem State.sqe_runs (e : Started) (h : s.nextSqe i q cid = some e) (hopc : opcOf e.bytes = opc) (hhead : badHead e.bytes = false)
    (hbad : bad e.bytes = false) : s.sqe i q cid opc bad f = f (s.markRun i e) e.bytes := by
  unfold State.sqe
  rw [h]
  exact (if_neg (not_not_intro hopc)).trans (if_neg (by rw [hhead, hbad]; decide))

end

section
variable (hsqe : wfSqe i q cid = true)
include hsqe

theorem exec_sqeBadOpc_none (h : s.nextSqe i q cid = none) : exec (.sqeBadOpc i q cid) s = .next s := by
  refine answer_eq hsqe ?_
  rw [h]

theorem exec_sqeBadOpc_some (e : Started) (h : s.nextSqe i q cid = some e) (hopc : 10 ≤ opcOf e.bytes) :
    exec (.sqeBadOpc i q cid) s = .next (s.complete i q cid 1 0 0) := by
  refine answer_eq hsqe ?_
  rw [h]
  exact if_pos hopc

theorem exec_sqeRegRd_none (h : s.nextSqe i q cid = none) : exec (.sqeRegRd i q cid) s = .next s := by
  refine answer_eq hsqe ?_
  rw [h]
  exact s.sqe_none i q cid 8 _ _ h

theorem exec_sqeRegRd_runs (e : Started) (h : s.nextSqe i q cid = some e) (hhead : badHead e.bytes = false) (hopc : opcOf e.bytes = 8)
    (hcopy : ∀ a, sqeReg e.bytes = some a → s.copyHeld a = false) :
    exec (.sqeRegRd i q cid) s = .next ((s.markRun i e).sqeRead i q cid e.bytes) := by
  refine answer_eq hsqe ?_
  have hrun := s.sqe_runs i q cid 8 (fun _ => false) (fun s b => s.sqeRead i q cid b) e h hopc hhead rfl
  have hnamed : ((s.nextSqe i q cid).bind fun e => sqeReg e.bytes) = sqeReg e.bytes := by rw [h]; rfl
  rw [hnamed]
  cases hreg : sqeReg e.bytes with
  | none => exact hrun
  | some a => exact (if_neg (Bool.eq_false_iff.mp (hcopy a hreg))).trans hrun

end

/-- The state in which a PROG entry has handed over its operation. -/
def State.progHanded (o : ProgOp) : State := ({ s with progOp := some o }).setBit Reg.STEP_PSTAT 0 true

theorem State.progHanded_spec (o : ProgOp) : (s.progHanded o).progOp = some o ∧ (s.progHanded o).bit Reg.STEP_PSTAT 0 = true ∧
    ∀ a, a ≠ Reg.STEP_PSTAT → (s.progHanded o).rd a = s.rd a :=
  ⟨(put_frame _ _ _ _ _).progOp, State.bit_setBit_same _ _ _ _ (by decide),
    fun a ha => State.rd_setBit_ne { s with progOp := some o } _ a _ _ ha⟩

theorem State.sqeProg_hands (data : List Byte) (e : Started) (h : s.nextSqe i q cid = some e) (hhead : badHead e.bytes = false)
    (hopc : opcOf e.bytes = 2) (hslot : le16At e.bytes 8 < 1024) (hop : byteAt e.bytes 10 < 16) (hfree : s.progOp = none)
    (hhas : s.has 0x031 = true) : s.sqeProg i q cid data = (s.markRun i e).progHanded (progOf i q cid e.bytes data) := by
  have hargs : (1024 ≤ le16At e.bytes 8 || 16 ≤ byteAt e.bytes 10 : Bool) = false := by
    rw [decide_eq_false (Nat.not_le.mpr hslot), decide_eq_false (Nat.not_le.mpr hop)]
    rfl
  unfold State.sqeProg
  rw [if_neg (by rw [hfree]; decide), s.sqe_runs i q cid 2 _ _ e h hopc hhead hargs]
  exact if_neg (by rw [show (s.markRun i e).has 0x031 = true from hhas]; decide)

theorem State.maskRefused_completes (b : List Byte) (r : Nat) (hr : s.maskRefused i (maskCh (byteAt b 8) (le16At b 10)) = r)
    (hne : r ≠ 0) : s.sqeChan i q cid b = s.complete i q cid r 0 0 ∧ s.sqeMsg i q cid b = s.complete i q cid r 0 0 := by
  subst hr
  exact ⟨if_pos hne, if_pos hne⟩

theorem State.sqeReg_none (b : List Byte) (h : sqeReg b = none) :
    s.sqeRead i q cid b = s.complete i q cid 3 0 0 ∧ s.sqeWrite i q cid b = s.complete i q cid 3 0 0 := by
  refine ⟨?_, ?_⟩
  · unfold State.sqeRead
    rw [h]
  · unfold State.sqeWrite
    rw [h]

/-! ### Completion (R368, R369) -/

/-- What a posted completion leaves: the registers and the started entries of its seat. -/
structure PostFrame (s t : State) : Prop where
  rd : ∀ a, t.rd a = s.rd a
  started : (t.seat i).started = (s.seat i).started

theorem PostFrame.modSeat (f : Seat → Seat) (hf : ∀ x, (f x).started = x.started) : PostFrame i s (s.modSeat i f) :=
  ⟨fun _ => rfl, by rw [State.seat_modSeat, hf]⟩

theorem PostFrame.trans {s t u : State} (h : PostFrame i s t) (g : PostFrame i t u) : PostFrame i s u :=
  ⟨fun a => (g.rd a).trans (h.rd a), g.started.trans h.started⟩

theorem queueWrite_post (w : QWrite) : PostFrame i s (s.queueWrite i w) :=
  PostFrame.modSeat s i _ fun x => by split <;> rfl

theorem cqWrite_post (cq : Nat) (b : List Byte) : PostFrame i s (s.cqWrite i cq b) := by
  unfold State.cqWrite
  split
  next => exact ⟨fun _ => rfl, rfl⟩
  next o _ =>
    exact PostFrame.trans i (t := s.modSeat i fun t => { t with cqs := Sparse.insert t.cqs cq (o.push (withPhase b o.phase)) })
      (PostFrame.modSeat s i _ fun _ => rfl) (queueWrite_post _ i _)

theorem cqPost_post (cq : Nat) (b : List Byte) : PostFrame i s (s.cqPost i cq b) := by
  unfold State.cqPost
  split
  · exact ⟨fun _ => rfl, rfl⟩
  · split
    · exact cqWrite_post s i cq b
    · exact PostFrame.modSeat s i _ fun _ => rfl

variable (status detail result : Nat)

theorem State.complete_none (h : s.startedOf i q cid = none) : s.complete i q cid status detail result = s := by
  unfold State.complete
  rw [h]

/-- The entry has left the list. -/
def State.sqeEnded (e : Started) : State := s.modSeat i fun t => { t with started := t.started.erase e }

theorem State.sqeEnded_spec (e : Started) : (∀ a, (s.sqeEnded i e).rd a = s.rd a) ∧ (s.sqeEnded i e).out = s.out ∧
    ((s.sqeEnded i e).seat i).started = (s.seat i).started.erase e :=
  ⟨fun _ => rfl, rfl, by rw [State.sqeEnded, State.seat_modSeat]⟩

/-- The entry that has ended is counted. -/
def State.sqeCounted (e : Started) : State := (s.sqeEnded i e).count (Reg.ST_CNT i) 31 0

theorem State.complete_some (e : Started) (h : s.startedOf i q cid = some e) : s.complete i q cid status detail result =
    if ((byteAt e.bytes 1).testBit 1 && status == 0) = true then s.sqeCounted i e
    else match (s.sqeCounted i e).subq i q with
      | none => s.sqeCounted i e
      | some sq => (s.sqeCounted i e).cqPost i sq.cq
          (cqeBytes cid q status detail ((s.sqeCounted i e).rd (Reg.SA_SQ_HEAD i q)).toNat result) := by
  unfold State.complete
  rw [h]
  rfl

theorem State.sqeCounted_spec (e : Started) :
    (s.sqeCounted i e).get (Reg.ST_CNT i) 31 0 = min (s.get (Reg.ST_CNT i) 31 0 + 1) (2 ^ 32 - 1) ∧
      ((s.sqeCounted i e).seat i).started = (s.seat i).started.erase e ∧ (s.sqeCounted i e).out = s.out ∧
      s.keepsRegs (s.sqeCounted i e) [Reg.ST_CNT i] := by
  obtain ⟨hrd, hout, hstarted⟩ := s.sqeEnded_spec i e
  refine ⟨?_, ?_, ?_, ((State.keepsRegs.refl s _).same hrd).count _ _ _ _ (List.mem_singleton_self _)⟩
  · rw [State.sqeCounted, State.get_count_same _ _ _ _ _ (by decide) (by decide), State.get, hrd, State.get]
  · rw [State.sqeCounted, State.seat_count, hstarted]
  · rw [State.sqeCounted, State.count_out, hout]

theorem complete_post (e : Started) (h : s.startedOf i q cid = some e) :
    PostFrame i (s.sqeCounted i e) (s.complete i q cid status detail result) := by
  rw [s.complete_some i q cid status detail result e h]
  split
  · exact ⟨fun _ => rfl, rfl⟩
  · split
    · exact ⟨fun _ => rfl, rfl⟩
    · exact cqPost_post _ i _ _

end

/-- Settles O33: each row by the entry that is next in its queue; a completion by what it counts and posts. -/
theorem submissionEntries : Obligations.SubmissionEntries := by
  unfold Obligations.SubmissionEntries
  refine ⟨fun s i q cid b data host e hi hq hcid hb hdata => ?_, fun s i q cid status detail result hi hq hcid => ?_⟩
  · have hsqe : wfSqe i q cid = true := by rw [wfSqe, decide_eq_true hi, decide_eq_true hq, decide_eq_true hcid]; rfl
    have hbuf : (wfSqe i q cid && data.length == 64) = true := by rw [hsqe, hdata]; rfl
    have hfetch : (decide (i < 64) && decide (q < 8) && b.length == 64) = true := by rw [decide_eq_true hi, decide_eq_true hq, hb]; rfl
    refine ⟨fun h => answer_eq hfetch (s.sqFetch_unset i q b host h),
      fun d h hmay => answer_eq hfetch (s.sqFetch_blocked i q b host d h hmay),
      fun d t u r c h hmay htr hr hbytes => answer_eq hfetch (s.sqFetch_starts i q b host d t u r c h hmay htr hr hbytes),
      fun h => ?_, exec_sqeBadOpc_some s i q cid hsqe e, fun h hbad => ?_, fun h hhead m hm => ?_,
      fun r => s.maskRefused_completes i q cid b r, s.sqeReg_none i q cid b⟩
    · have hnone (opc : Nat) (bad : List Byte → Bool) (f : State → List Byte → State) := s.sqe_none i q cid opc bad f h
      simp only [List.forall_mem_cons, List.not_mem_nil, false_implies, implies_true, and_true]
      refine ⟨answer_eq hsqe (hnone _ _ _), answer_eq hsqe (hnone _ _ _), answer_eq hbuf ?_, answer_eq hsqe (hnone _ _ _),
        answer_eq hbuf (hnone _ _ _), answer_eq hsqe (hnone _ _ _), answer_eq hsqe (hnone _ _ _),
        exec_sqeRegRd_none s i q cid hsqe h, exec_sqeBadOpc_none s i q cid hsqe h, answer_eq hsqe (hnone _ _ _)⟩
      rw [State.sqeProg, hnone, ite_self]
    · have href (opc : Nat) (bad : List Byte → Bool) (f : State → List Byte → State) (hopc : opcOf e.bytes = opc) :=
        s.sqe_refused i q cid opc bad f e h hopc hbad
      simp only [List.forall_mem_cons, List.not_mem_nil, false_implies, implies_true, and_true]
      exact ⟨fun ho => answer_eq hsqe (href _ _ _ ho), fun ho => answer_eq hsqe (href _ _ _ ho),
        fun ho => answer_eq hsqe (href _ _ _ ho), fun ho => answer_eq hbuf (href _ _ _ ho), fun ho => answer_eq hsqe (href _ _ _ ho),
        fun ho => answer_eq hsqe (href _ _ _ ho), fun ho => answer_eq hsqe (href _ _ _ ho)⟩
    · subst hm
      have hruns (opc : Nat) (bad : List Byte → Bool) (f : State → List Byte → State) (hopc : opcOf e.bytes = opc)
          (hbad : bad e.bytes = false) := s.sqe_runs i q cid opc bad f e h hopc hhead hbad
      refine ⟨fun ho => answer_eq hsqe (hruns 0 _ _ ho rfl),
        fun ho hop => answer_eq hsqe (hruns 1 _ _ ho (decide_eq_false (Nat.not_le.mpr hop))), fun ho hslot hop hfree hhas => ?_,
        fun ho => answer_eq hsqe (hruns 3 _ _ ho rfl), fun ho hlen hres => answer_eq hbuf (hruns 4 _ _ ho ?_),
        fun ho => answer_eq hsqe (hruns 5 _ _ ho rfl), fun ho hwin hkind => answer_eq hsqe (hruns 6 _ _ ho ?_),
        fun ho hdesc => answer_eq hsqe (hruns 7 _ _ ho hdesc),
        fun ho hcopy => exec_sqeRegRd_runs s i q cid hsqe e h hhead ho hcopy, fun ho => ?_⟩
      · obtain ⟨hop', hbit, hrd⟩ := (s.markRun i e).progHanded_spec (progOf i q cid e.bytes data)
        refine answers_eq (answer_eq hbuf (s.sqeProg_hands i q cid data e h hhead ho hslot hop hfree hhas)) ⟨hop', hbit, fun a ha => ?_⟩
        exact hrd a fun heq => ha (by rw [heq]; exact List.mem_singleton_self _)
      · rw [decide_eq_false (Nat.not_lt.mpr hlen), decide_eq_false (not_not_intro hres)]
        rfl
      · rw [decide_eq_false (Nat.not_le.mpr hwin), Bool.false_or, Bool.and_eq_false_iff, decide_eq_false_iff_not,
          decide_eq_false_iff_not, Classical.not_not, Classical.not_not]
        exact hkind
      · refine answer_eq hsqe ?_
        rw [hruns 9 _ _ ho rfl]
  · refine ⟨s.complete_none i q cid status detail result, fun e h => ?_⟩
    have hpost := complete_post s i q cid status detail result e h
    obtain ⟨hcnt, hstarted, hout, hkeep⟩ := s.sqeCounted_spec i e
    refine ⟨?_, hpost.started.trans hstarted, fun hsilent hok => ?_⟩
    · rw [State.get, hpost.rd]
      exact hcnt
    · rw [s.complete_some i q cid status detail result e h, if_pos (by rw [hsilent, hok]; rfl)]
      exact ⟨hout, hkeep⟩

end Sys2Proof.Machine
end

section
/-!
PROOF. Transfer engines and the seat map unit (R388 to R405, R409), up to the statement EnginesAndTranslation.
-/
namespace Sys2Proof.Machine

theorem has_smuPage (s : State) : s.has 0x098 = true := by exact has_of_parts s 0x098 (by decide)

section
variable (s : State) (e x i : Nat) (host : List (Nat × Nat))

/-! ### Starting a chunk (R390, R391) -/

theorem State.chunkStart_none (h : s.xfer? x = none) : s.chunkStart e x host = s := by
  unfold State.chunkStart
  rw [h]

theorem State.chunkStart_blocked (t : Xfer) (h : s.xfer? x = some t) (hmay : s.mayCarry e t = false) : s.chunkStart e x host = s := by
  unfold State.chunkStart
  rw [h]
  exact if_pos (by rw [hmay]; rfl)

/-- A chunk that may be carried starts, by the kind of its transfer. -/
theorem State.chunkStart_carried (t : Xfer) (h : s.xfer? x = some t) (hmay : s.mayCarry e t = true)
    (harm : s.bit (Reg.PG_INJARM 0x098) 0 = false) : s.chunkStart e x host = match t.kind with
      | .desc _ _ => (s.spend t.seat).descChunk e x t host
      | .record r => s.recChunk e x t r host := by
  unfold State.chunkStart
  rw [h]
  refine (if_neg (by rw [hmay]; decide)).trans ?_
  rw [s.injFires_of_disarmed 0x098 0x11 0 harm, s.injStep_of_disarmed 0x098 0x11 0 harm]
  exact if_neg Bool.false_ne_true

/-! ### Data for a chunk (R391) and its end (R392) -/

theorem State.readDone_idle (data : Option (List Byte)) (h : s.engine? e = none) : s.readDone e data = s := by
  unfold State.readDone
  rw [h]

theorem State.readDone_waiting (c : Chunk) (data : Option (List Byte)) (h : s.engine? e = some c) (hc : c.data = none) :
    s.readDone e data = match data with
      | none => s.readError e
      | some d => if d.length ≠ c.want then s
          else s.setDma { s.dma with engines := Sparse.insert s.dma.engines e { c with data := some (c.pre ++ d ++ c.post) } } := by
  unfold State.readDone
  rw [h]
  exact if_neg (by rw [hc]; decide)

theorem State.engine_setDma (c : Chunk) :
    (s.setDma { s.dma with engines := Sparse.insert s.dma.engines e c }).engine? e = some c := Sparse.find?_insert_same _ _ _

theorem State.chunkDone_idle (h : s.engine? e = none) : s.chunkDone e = s := by
  unfold State.chunkDone
  rw [h]

theorem State.chunkDone_waiting (c : Chunk) (h : s.engine? e = some c) (hc : c.data = none) : s.chunkDone e = s := by
  unfold State.chunkDone
  rw [h]
  dsimp only
  rw [hc]

/-- A chunk whose data is there is written out and counted, and its transfer goes on. -/
theorem State.chunkDone_written (c : Chunk) (d : List Byte) (t : Xfer) (h : s.engine? e = some c) (hc : c.data = some d)
    (ht : s.xfer? c.x = some t) (harm : s.bit (Reg.PG_INJARM (0x090 + e)) 0 = false) :
    s.chunkDone e = (((s.chunkWrite c t d).engineIdle e).chunkCount e t.seat c.len).xferNext e c t := by
  unfold State.chunkDone
  rw [h]
  dsimp only
  rw [hc, ht]
  dsimp only
  rw [s.injFires_of_disarmed (dmaPage e) 0x10 0 harm, s.injStep_of_disarmed (dmaPage e) 0x10 0 harm]
  exact if_neg Bool.false_ne_true

/-! ### RETRY (R403, R404) -/

/-- The suspended transfers of a seat, made ready. -/
def State.retried : List (Nat × Xfer) :=
  s.dma.xfers.map fun e => if e.2.seat == i && e.2.st == .suspended then (e.1, { e.2 with st := .ready, code := 0 }) else e

theorem suspFollow_frame : EventFrame (fun _ => true) s (s.suspFollow i) := by
  unfold State.suspFollow State.putSeatBit
  split
  · exact put_frame _ _ _ _ _
  · exact put_frame _ _ _ _ _

section
variable (hi : i < 64)
include hi

theorem State.setRing_dma (r st : Nat) : (s.setRing i r st).dma = s.dma := by
  have hring (u : State) (f : Ring → Ring) : (u.modRing i r f).dma = u.dma := rfl
  have hwhen (u : State) (c : Bool) : (u.when c fun s => s.raise 0x038 10).dma = u.dma := by
    unfold State.when
    split
    · exact (raise_frame u 0x038 10).dma
    · rfl
  unfold State.setRing
  split
  · rfl
  · dsimp only
    rw [(EventFrame.seatEvent _ i 7 _ hi).dma, hwhen, hring]

theorem State.ringsFollow_dma : (s.ringsFollow i).dma = s.dma :=
  State.each_same (·.dma) _ (fun t r => State.setRing_dma t i hi r _) _ _

theorem State.smuRetry_xfers : (s.smuRetry i).dma.xfers = s.retried i := by
  unfold State.smuRetry
  dsimp only
  rw [State.ringsFollow_dma _ i hi, (suspFollow_frame _ _).dma]
  rfl

/-- After RETRY no transfer of the seat is suspended. -/
theorem State.smuRetry_resumes : ((s.smuRetry i).dma.xfers.all fun y => !(y.2.seat == i && y.2.st == .suspended)) = true := by
  rw [s.smuRetry_xfers i hi, State.retried, List.all_map, List.all_eq_true]
  intro y _
  dsimp only [Function.comp]
  by_cases h : (y.2.seat == i && y.2.st == .suspended) = true
  · rw [if_pos h, Bool.and_comm]
    rfl
  · rw [if_neg h, Bool.eq_false_iff.mpr h]
    rfl

end

/-! ### The end of a translation command (R399, R400, R409) -/

section
variable (op : Nat)

theorem State.xlateEnd_none (h : s.mbx = none) : s.xlateEnd op = s := by
  unfold State.xlateEnd
  rw [h]

theorem State.xlateEnd_stopped (h : s.running 0x098 = false) : s.xlateEnd op = s := by
  unfold State.xlateEnd
  split
  · rfl
  · refine if_pos ?_
    rw [h, Bool.not_false, Bool.or_true, Bool.true_or]

/-- The result of a command that waited. -/
theorem State.xlateEnd_done (m : Mbx) (h : s.mbx = some m) (hop : m.op = op) (hres : m.result = none) (hrun : s.running 0x098 = true)
    (hidle : s.enginesOf m.seat = []) : s.xlateEnd op = (({ s with mbx := some { m with result := some (0, []) } } : State).when (op == 15)
      fun s => s.raise 0x098 9) := by
  have hresult : s.mbxResult [op] m.seat 0 [] = { s with mbx := some { m with result := some (0, []) } } := by
    unfold State.mbxResult
    rw [h]
    refine if_pos ?_
    rw [hop, hres, beq_self_eq_true, List.contains_cons, beq_self_eq_true]
    rfl
  unfold State.xlateEnd
  rw [h]
  refine (if_neg ?_).trans ?_
  · rw [hres, hrun, hidle, decide_eq_false (not_not_intro hop)]
    decide
  · rw [hresult]

end

/-! ### The fault log (R409) -/

/-- The four words that show an entry of the fault log. -/
def State.flogShown (w : Word) (addr : Nat) (tag : Word) : State :=
  ((s.wr Reg.SMU_FLOG0 w).wr64 Reg.SMU_FLOG1 Reg.SMU_FLOG2 addr).wr Reg.SMU_FLOG3 tag

theorem State.flogShown_spec (w : Word) (addr : Nat) (tag : Word) (haddr : addr < 2 ^ 64) :
    (s.flogShown w addr tag).rd Reg.SMU_FLOG0 = w ∧ (s.flogShown w addr tag).rd64 Reg.SMU_FLOG1 Reg.SMU_FLOG2 = addr ∧
      (s.flogShown w addr tag).rd Reg.SMU_FLOG3 = tag ∧
      s.keepsRegs (s.flogShown w addr tag) [Reg.SMU_FLOG0, Reg.SMU_FLOG1, Reg.SMU_FLOG2, Reg.SMU_FLOG3] := by
  refine ⟨?_, ?_, State.rd_wr_same _ _ _, (((State.keepsRegs.refl s _).wr _ _ (by decide)).wr64 _ _ _ (by decide) (by decide)).wr _ _
    (by decide)⟩
  · rw [State.flogShown, State.rd_wr_ne _ _ _ _ (by decide), State.rd_wr64_ne _ _ _ _ _ (by decide) (by decide), State.rd_wr_same]
  · rw [State.flogShown, State.rd64_congr (State.rd_wr_ne _ _ _ _ (by decide)) (State.rd_wr_ne _ _ _ _ (by decide)),
      State.rd64_wr64_same _ _ _ _ (by decide), Nat.mod_eq_of_lt haddr]

theorem exec_faultLogRead_empty (h : s.dma.smuLog = []) : exec .faultLogRead s = .next (s.flogShown 0 0 0) := by
  refine congrArg Host.Outcome.next ?_
  rw [h]
  rfl

theorem exec_faultLogRead_oldest (w : Word) (addr : Nat) (tag : Word) (rest : List (Word × Nat × Word))
    (h : s.dma.smuLog = (w, addr, tag) :: rest) :
    exec .faultLogRead s = .next ((s.setDma { s.dma with smuLog := rest }).flogShown w addr tag) := by
  refine congrArg Host.Outcome.next ?_
  rw [h]
  rfl

theorem State.flogShown_dma (w : Word) (addr : Nat) (tag : Word) : (s.flogShown w addr tag).dma = s.dma := rfl

end

/-- Settles O37: chunks by what their engine holds, suspended work by command, and the fault log entry by entry. -/
theorem enginesAndTranslation : Obligations.EnginesAndTranslation := by
  unfold Obligations.EnginesAndTranslation
  intro s e x i host data he hi hdata
  have hwf : decide (e < 8) = true := decide_eq_true he
  have hread : (decide (e < 8) && ((some data).all fun d => decide (d.length ≤ 256))) = true := by
    rw [hwf, Option.all_some, decide_eq_true hdata]; rfl
  have hnone : (decide (e < 8) && ((none : Option (List Byte)).all fun d => decide (d.length ≤ 256))) = true := by rw [hwf]; rfl
  refine ⟨fun h => ?_, fun t ht hmay => ?_, fun t q cid hhalt ht hmay hkind harm => ?_, fun t r hhalt ht hmay hkind harm => ?_,
    fun hidle => ⟨?_, ?_, ?_⟩, fun c hc hwait hwant => ?_, fun c hc hwait => ?_, fun c hc hwait => ?_, fun c d t hc hd ht harm => ?_,
    answer_next (decide_eq_true hi) _, answer_next (decide_eq_true hi) _, s.smuRetry_resumes i hi, fun hm => ⟨?_, ?_⟩,
    fun m hm hop hres hrun hidle => ?_, fun m hm hop hres hrun hidle => ?_, fun hrun => ⟨?_, ?_⟩, fun hlog => ?_,
    fun w addr tag rest hlog haddr => ?_⟩
  · refine answer_eq hwf ?_
    obtain hhalt | hx := h
    · exact if_pos hhalt
    · rw [s.chunkStart_none e x host hx, ite_self]
  · refine answer_eq hwf ?_
    rw [s.chunkStart_blocked e x host t ht hmay, ite_self]
  · refine answer_eq hwf ((if_neg (Bool.eq_false_iff.mp hhalt)).trans ?_)
    rw [s.chunkStart_carried e x host t ht hmay harm, hkind]
  · refine answer_eq hwf ((if_neg (Bool.eq_false_iff.mp hhalt)).trans ?_)
    rw [s.chunkStart_carried e x host t ht hmay harm, hkind]
  · exact answer_eq hread (s.readDone_idle e _ hidle)
  · exact answer_eq hnone (s.readDone_idle e _ hidle)
  · exact answer_eq hwf (s.chunkDone_idle e hidle)
  · refine answers_eq (answer_eq hread ((s.readDone_waiting e c (some data) hc hwait).trans (if_neg (not_not_intro hwant.symm)))) ?_
    exact ⟨s.engine_setDma e _, rfl, rfl⟩
  · exact answer_eq hnone (s.readDone_waiting e c none hc hwait)
  · exact answer_eq hwf (s.chunkDone_waiting e c hc hwait)
  · exact answer_eq hwf (s.chunkDone_written e c d t hc hd ht harm)
  · exact congrArg Host.Outcome.next (s.xlateEnd_none 14 hm)
  · exact congrArg Host.Outcome.next (s.xlateEnd_none 15 hm)
  · exact answers_eq (congrArg Host.Outcome.next (s.xlateEnd_done 14 m hm hop hres hrun hidle)) ⟨rfl, rfl⟩
  · refine answers_eq (congrArg Host.Outcome.next (s.xlateEnd_done 15 m hm hop hres hrun hidle)) ⟨?_, ?_⟩
    · exact (raise_frame _ _ _).mbx
    · exact State.bit_raise_same _ _ _ (by decide) (by decide) (has_smuPage _)
  · exact congrArg Host.Outcome.next (s.xlateEnd_stopped 14 hrun)
  · exact congrArg Host.Outcome.next (s.xlateEnd_stopped 15 hrun)
  · obtain ⟨h0, h12, h3, hkeep⟩ := s.flogShown_spec 0 0 0 (by decide)
    exact answers_eq (exec_faultLogRead_empty s hlog) ⟨h0, h3, h12, hkeep⟩
  · obtain ⟨h0, h12, h3, hkeep⟩ := (s.setDma { s.dma with smuLog := rest }).flogShown_spec w addr tag haddr
    refine answers_eq (exec_faultLogRead_oldest s w addr tag rest hlog) ⟨?_, h0, h12, h3, hkeep⟩
    rw [State.flogShown_dma]
    rfl

end Sys2Proof.Machine
end

section
/-!
PROOF. Window accesses (R332, R333, R335, R336, R339), up to the statement WindowAccesses.
-/
namespace Sys2Proof.Machine

theorem WIN_CNT_ne_STAT (w v : Nat) : Reg.WIN_CNT w ≠ Reg.WIN_STAT v := by
  unfold Reg.WIN_CNT Reg.WIN_STAT
  omega

/-- A write that stays within 64 bytes is one part. -/
theorem splits_one (off n : Nat) (hn : 1 ≤ n) (hfit : off % 64 + n ≤ 64) : splits off n = [(off, n)] := by
  unfold splits
  rw [List.range_succ_eq_map, List.filterMap_cons_some (b := (off, n)), List.filterMap_eq_nil_iff.mpr]
  · intro i hi
    obtain ⟨j, -, rfl⟩ := List.mem_map.mp hi
    dsimp only
    rw [if_neg (Nat.succ_ne_zero j), if_neg (by omega)]
  · dsimp only
    rw [if_pos rfl, if_pos (by omega)]
    refine congrArg some (Prod.ext rfl ?_)
    dsimp only
    omega

/-! ### What leaves the device -/

theorem State.setBit_out (s : State) (a i : Nat) (b : Bool) : (s.setBit a i b).out = s.out := rfl

theorem send_frame (s : State) (o : Out) : EventFrame (fun _ => false) s (s.send o) := EventFrame.send s o

section
variable (s : State) (port w off : Nat) (a : WinAddr)

/-! ### Accesses that begin -/

theorem State.winRead_missed (n : Nat) (h : s.winOf a = none) : s.winRead port a n = s.winMissed port (winInit a) n := by
  unfold State.winRead
  rw [h]

theorem State.winWrite_missed (data : List Byte) (h : s.winOf a = none) : s.winWrite port a data = s.winMissed port (winInit a) 0 := by
  unfold State.winWrite
  rw [h]

/-- An access that no window covers reads 0 and is counted. -/
theorem State.winMissed_spec (init n : Nat) :
    (s.winMissed port init n).out = .winDone port init 0 (List.replicate n 0) :: s.out ∧
      (s.winMissed port init n).get Reg.WB_ERRCNT 31 16 = min (s.get Reg.WB_ERRCNT 31 16 + 1) 65535 ∧
      s.keepsRegs (s.winMissed port init n) [Reg.WB_ERRCNT] ∧ (s.winMissed port init n).dma = s.dma := by
  have hsend := send_frame (s.count Reg.WB_ERRCNT 31 16) (.winDone port init 0 (List.replicate n 0))
  refine ⟨?_, ?_, ((State.keepsRegs.refl s _).count _ _ _ _ (List.mem_singleton_self _)).same fun a => hsend.rd a rfl, ?_⟩
  · rw [State.winMissed, State.send_out, State.count_out]
  · rw [State.winMissed, hsend.get _ 31 16 rfl]
    exact State.get_count_same s _ _ _ _ (by decide) (by decide)
  · rw [State.winMissed, hsend.dma, (count_frame _ _ _ _ _).dma]

theorem State.winRead_covered (n : Nat) (h : s.winOf a = some (w, off)) :
    s.winRead port a n = s.winJoin w { port := port, init := winInit a, off := off, req := { win := w, size := n } } := by
  unfold State.winRead
  rw [h]

/-- The parts of a write that needs no split. -/
theorem State.winWrite_parts (n : Nat) (hn : 1 ≤ n) (hwhole : (s.win w).isReg = true ∨ off % 64 + n ≤ 64) (pcie : Bool) :
    (if (pcie && !(s.win w).isReg) = true then splits off n else [(off, n)]) = [(off, n)] := by
  split
  next h =>
    rw [Bool.and_eq_true, Bool.not_eq_true'] at h
    refine splits_one off n hn (hwhole.resolve_left fun hreg => ?_)
    rw [h.2] at hreg
    cases hreg
  next => rfl

theorem State.winWrite_covered (data : List Byte) (h : s.winOf a = some (w, off)) (hn : 1 ≤ data.length)
    (hwhole : (s.win w).isReg = true ∨ off % 64 + data.length ≤ 64) : s.winWrite port a data = s.winJoin w
      { port := port, init := winInit a, off := off, req := { win := w, write := true, size := data.length, data := data } } := by
  unfold State.winWrite
  rw [h]
  dsimp only
  rw [s.winWrite_parts w off data.length hn hwhole, State.each, List.foldl_cons, List.foldl_nil, Nat.sub_self, List.drop_zero,
    List.take_length]

theorem State.winJoin_stopped (x : WinAcc) (h : s.running 0x069 = false) : s.winJoin w x = s.winFail w x 4 := if_pos (by rw [h]; rfl)

/-! ### Accesses that end -/

theorem State.wcplRx_head (tag code : Nat) (data : List Byte) (x : WinAcc) (rest : List WinAcc) (h : s.winAccs w = x :: rest)
    (hsent : x.sent = true) (htag : x.tag = tag) : s.wcplRx w tag code data = s.winEnd w x code data := by
  unfold State.wcplRx
  rw [h, List.head?_cons]
  exact if_pos (by rw [hsent, htag, beq_self_eq_true]; rfl)

theorem State.wcplRx_idle (tag code : Nat) (data : List Byte) (h : s.winAccs w = []) (hops : s.brg.lockOps = []) :
    s.wcplRx w tag code data = s := by
  unfold State.wcplRx
  rw [h, hops]
  rfl

theorem exec_windowTimeout_idle (busy : Bool) (hw : w < 64) (h : s.winAccs w = []) (hops : s.brg.lockOps = []) :
    exec (.windowTimeout w busy) s = .next s := by
  refine answer_eq (decide_eq_true hw) ?_
  rw [h, hops]
  rfl

theorem exec_windowTimeout_head (busy : Bool) (hw : w < 64) (x : WinAcc) (rest : List WinAcc) (h : s.winAccs w = x :: rest) :
    exec (.windowTimeout w busy) s = .next (s.winEnd w x (if busy then 20 else 16) []) := by
  refine answer_eq (decide_eq_true hw) ?_
  rw [h, List.head?_cons]

theorem State.winAccs_setWinAccs (l : List WinAcc) : (s.setWinAccs w l).winAccs w = l := by
  rw [State.winAccs, State.setWinAccs, State.setBit, (put_frame _ _ _ _ _).brg]
  exact Sparse.get_set_same _ _ _ _

theorem State.win_setWinAccs (l : List WinAcc) (v : Nat) : (s.setWinAccs w l).win v = s.win v := by
  rw [State.win, State.setWinAccs, State.setBit, (put_frame _ _ _ _ _).brg]
  rfl

/-- The only access of a window ends OK. -/
def State.winEnded (x : WinAcc) (data : List Byte) : State :=
  ((s.setWinAccs w []).count (Reg.WIN_CNT w) 31 0).send (.winDone x.port x.init 0 (swapBytes (s.win w).swap data))

theorem State.winEnd_last (x : WinAcc) (data : List Byte) (h : s.winAccs w = [x]) : s.winEnd w x 0 data = s.winEnded w x data := by
  unfold State.winEnd
  dsimp only
  rw [h, List.drop_one, List.tail_cons, if_pos rfl, s.win_setWinAccs]
  rfl

theorem State.winEnded_spec (x : WinAcc) (data : List Byte) :
    (s.winEnded w x data).out = .winDone x.port x.init 0 (swapBytes (s.win w).swap data) :: s.out ∧ (s.winEnded w x data).winAccs w = [] ∧
      (s.winEnded w x data).bit (Reg.WIN_STAT w) 1 = false ∧ s.keepsRegs (s.winEnded w x data) [Reg.WIN_STAT w, Reg.WIN_CNT w] := by
  have hsend := send_frame ((s.setWinAccs w []).count (Reg.WIN_CNT w) 31 0) (.winDone x.port x.init 0 (swapBytes (s.win w).swap data))
  have hcount := count_frame (s.setWinAccs w []) (Reg.WIN_CNT w) 31 0 1
  have hkeep : s.keepsRegs (s.setWinAccs w []) [Reg.WIN_STAT w, Reg.WIN_CNT w] :=
    ((State.keepsRegs.refl s _).same fun _ => rfl).setBit _ _ _ (List.mem_cons_self)
  refine ⟨?_, ?_, ?_, (hkeep.count _ _ _ _ (List.mem_cons_of_mem _ (List.mem_singleton_self _))).same fun a => hsend.rd a rfl⟩
  · rw [State.winEnded, State.send_out, State.count_out, State.setWinAccs, State.setBit_out]
    rfl
  · rw [State.winEnded, State.winAccs, hsend.brg, hcount.brg]
    exact s.winAccs_setWinAccs w []
  · rw [State.winEnded, hsend.bit _ 1 rfl, State.bit_count_ne _ _ _ _ _ _ _ (WIN_CNT_ne_STAT w w).symm, State.setWinAccs,
      State.bit_setBit_same _ _ _ _ (by decide)]
    rfl

end

/-- Settles O28: each access by the window that covers it; each end by the access at the head. -/
theorem windowAccesses : Obligations.WindowAccesses := by
  unfold Obligations.WindowAccesses
  intro s port w off tag code n a data x rest busy hwf hlen hw hcode
  subst hlen
  have hn : 1 ≤ data.length := by
    rw [wfWin.eq_def, Bool.and_eq_true, Bool.and_eq_true, decide_eq_true_eq, decide_eq_true_eq] at hwf
    obtain ⟨⟨-, hn⟩, -⟩ := hwf
    exact hn
  have hcpl (c : Nat) (hc : c < 7 ∨ 16 ≤ c ∧ c ≤ 21) :
      (decide (w < 64) && (decide (c < 7) || (decide (16 ≤ c) && decide (c ≤ 21)))) = true := by
    simp only [Bool.and_eq_true, Bool.or_eq_true, decide_eq_true_eq]
    exact ⟨hw, hc⟩
  refine ⟨fun h => ?_, fun h => ?_, fun h => ?_, fun h hwhole => ?_, s.winJoin_stopped w x, fun h hsent htag => ?_,
    fun h hsent htag => ?_, fun h hops => ⟨?_, ?_⟩, exec_windowTimeout_head s w busy hw x rest⟩
  · obtain ⟨hout, hget, hkeep, -⟩ := s.winMissed_spec port (winInit a) data.length
    exact answers_eq (answer_eq hwf (s.winRead_missed port a _ h)) ⟨hout, hget, hkeep⟩
  · obtain ⟨hout, -, hkeep, hdma⟩ := s.winMissed_spec port (winInit a) 0
    exact answers_eq (answer_eq hwf (s.winWrite_missed port a data h)) ⟨hout, hkeep, hdma⟩
  · exact answer_eq hwf (s.winRead_covered port w off a _ h)
  · exact answer_eq hwf (s.winWrite_covered port w off a data h hn hwhole)
  · exact answer_eq (hcpl code hcode) (s.wcplRx_head w tag code data x rest h hsent htag)
  · exact answers_eq (answer_eq (hcpl 0 (by decide)) ((s.wcplRx_head w tag 0 data x [] h hsent htag).trans (s.winEnd_last w x data h)))
      (s.winEnded_spec w x data)
  · exact answer_eq (hcpl code hcode) (s.wcplRx_idle w tag code data h hops)
  · exact exec_windowTimeout_idle s w busy hw h hops

end Sys2Proof.Machine
end

section
/-!
PROOF. Locks of the window bridge and commits of windows and of the inbound filter (R338, R340 to R343, R345), up to the statement
LocksAndCommits.
-/
namespace Sys2Proof.Machine

theorem has_windowPage (s : State) : s.has 0x069 = true := by exact has_of_parts s 0x069 (by decide)

theorem eventReg_WB_CSTAT : eventReg Reg.WB_CSTAT = false := eventReg_block _ (by decide) (by decide) (by decide) (by decide)

theorem eventReg_WB_LOCKSTAT : eventReg Reg.WB_LOCKSTAT = false :=
  eventReg_block _ (by decide) (by decide) (by decide) (by decide)

theorem eventReg_WIN_STAT (w : Nat) (hw : w < 64) : eventReg (Reg.WIN_STAT w) = false := by
  have hstat : Reg.WIN_STAT w = 0x69110 + 0x20 * w := by
    unfold Reg.WIN_STAT
    omega
  exact eventReg_block _ (by omega) (by omega) (by omega) (by omega)

theorem WIN_STAT_ne_CSTAT (w : Nat) (hw : w < 64) : Reg.WIN_STAT w ≠ Reg.WB_CSTAT := by
  unfold Reg.WIN_STAT Reg.WB_CSTAT
  omega

theorem WIN_STAT_ne_WB_STAT (w : Nat) (hw : w < 64) : Reg.WIN_STAT w ≠ Reg.WB_STAT := by
  unfold Reg.WIN_STAT Reg.WB_STAT
  omega

section
variable (s : State)

/-! ### Requests for locks here -/

/-- An arrived request is served while the page runs and no injection is armed. -/
theorem State.inboundArrive_served (r : InReq) (f : State → State) (hrun : s.running 0x069 = true)
    (harm : s.bit (Reg.PG_INJARM 0x069) 0 = false) : s.inboundArrive r f = f s := by
  unfold State.inboundArrive
  rw [if_neg (by rw [hrun]; decide)]
  dsimp only
  rw [s.injFires_of_disarmed _ _ _ harm, if_neg Bool.false_ne_true, s.injStep_of_disarmed _ _ _ harm]

theorem State.inboundArrive_stopped (r : InReq) (f : State → State) (hrun : s.running 0x069 = false) :
    s.inboundArrive r f = s.wcplSend r 4 [] := if_pos (by rw [hrun]; rfl)

section
variable (r : InReq) (hrun : s.running 0x069 = true) (harm : s.bit (Reg.PG_INJARM 0x069) 0 = false)
include hrun harm

/-- The holder of a space unlocks it. -/
theorem State.lockRequest_unlock (hk : r.req.kind = 2) (hheld : Sparse.find? s.brg.locks r.req.space = some (r.src, r.req.win)) :
    s.lockRequest r = (s.wcplSend r 0 []).lockFree r.req.space := by
  unfold State.lockRequest
  rw [s.inboundArrive_served r _ hrun harm]
  dsimp only
  rw [if_pos hk, if_pos hheld]

theorem State.lockRequest_unlock_lost (hk : r.req.kind = 2)
    (hheld : Sparse.find? s.brg.locks r.req.space ≠ some (r.src, r.req.win)) : s.lockRequest r = s.lockBroken r := by
  unfold State.lockRequest
  rw [s.inboundArrive_served r _ hrun harm]
  dsimp only
  rw [if_pos hk, if_neg hheld]

/-- Of two devices that lock at each other, the one with the smaller identity goes first. -/
theorem State.lockRequest_crossed (hk : r.req.kind ≠ 2) (hlocks : s.locksAt r.src = true) (hsrc : s.devId < r.src) :
    s.lockRequest r = s.wcplSend r 19 [] := by
  unfold State.lockRequest
  rw [s.inboundArrive_served r _ hrun harm]
  dsimp only
  rw [if_neg hk, if_pos (by rw [hlocks, decide_eq_true hsrc]; rfl)]

/-- A lock request that no crossing turns away is granted or waits. -/
theorem State.lockRequest_lock (hk : r.req.kind ≠ 2) (hcross : s.locksAt r.src = false ∨ r.src ≤ s.devId) :
    s.lockRequest r = if (Sparse.find? s.brg.locks r.req.space).isNone || !s.lockedOut r then s.lockGrant r
      else s.setBrg { s.brg with lockWait := s.brg.lockWait ++ [r] } := by
  have hgo : (s.locksAt r.src && decide (s.devId < r.src)) = false := by
    rcases hcross with h | h
    · rw [h, Bool.false_and]
    · rw [decide_eq_false (Nat.not_lt.mpr h), Bool.and_false]
  unfold State.lockRequest
  rw [s.inboundArrive_served r _ hrun harm]
  dsimp only
  rw [if_neg hk, if_neg (by rw [hgo]; decide)]

theorem State.lockRequest_free (hk : r.req.kind ≠ 2) (hcross : s.locksAt r.src = false ∨ r.src ≤ s.devId)
    (hfree : Sparse.find? s.brg.locks r.req.space = none) : s.lockRequest r = s.lockGrant r := by
  rw [s.lockRequest_lock r hrun harm hk hcross, hfree]
  exact if_pos rfl

theorem State.lockRequest_waits (hk : r.req.kind ≠ 2) (hcross : s.locksAt r.src = false ∨ r.src ≤ s.devId)
    (hout : s.lockedOut r = true) : s.lockRequest r = s.setBrg { s.brg with lockWait := s.brg.lockWait ++ [r] } := by
  rw [s.lockRequest_lock r hrun harm hk hcross]
  refine if_neg ?_
  rw [hout, Bool.not_true, Bool.or_false]
  intro hnone
  rw [State.lockedOut, Option.isNone_iff_eq_none.mp hnone] at hout
  cases hout

end

theorem State.lockExpire_held (space : Nat) (h : Nat × Nat) (hheld : Sparse.find? s.brg.locks space = some h) :
    s.lockExpire space = (s.setBrg { s.brg with lockLost := s.brg.lockLost ++ [(h.1, h.2, space)] }).lockFree space := by
  unfold State.lockExpire
  rw [hheld]

theorem State.lockExpire_free (space : Nat) (hfree : Sparse.find? s.brg.locks space = none) : s.lockExpire space = s := by
  unfold State.lockExpire
  rw [hfree]

/-! ### Locks of this device at others -/

section
variable (w : Nat) (lock : Bool)

theorem State.winLock_stopped (hrun : s.running 0x069 = false) : s.winLock w lock none = s.lockDone w 4 none :=
  if_pos (by rw [hrun]; rfl)

theorem State.winLock_refused (hrun : s.running 0x069 = true) (hok : (s.win w).lockOk = false) :
    s.winLock w true none = s.lockDone w 3 none := by
  unfold State.winLock
  dsimp only
  rw [if_neg (by rw [hrun]; decide), if_pos (by rw [hok]; rfl)]

/-- A window that is already as the command wants it answers at once. -/
theorem State.winLock_already (hrun : s.running 0x069 = true) (hok : lock = false ∨ (s.win w).lockOk = true)
    (hheld : s.bit (Reg.WIN_STAT w) 2 = lock) : s.winLock w lock none = s.lockDone w 0 none := by
  have hmay : (lock && !(s.win w).lockOk) = false := by
    rcases hok with h | h
    · rw [h, Bool.false_and]
    · rw [h, Bool.not_true, Bool.and_false]
  unfold State.winLock
  dsimp only
  rw [if_neg (by rw [hrun]; decide), if_neg (by rw [hmay]; decide), if_pos (by rw [hheld]; exact beq_self_eq_true _)]

theorem State.winLock_unreachable (hrun : s.running 0x069 = true) (hok : (s.win w).lockOk = true)
    (hheld : s.bit (Reg.WIN_STAT w) 2 = false) (hreach : s.canReach (s.win w).dev = false) :
    s.winLock w true none = s.lockDone w 1 none := by
  unfold State.winLock
  dsimp only
  rw [if_neg (by rw [hrun]; decide), if_neg (by rw [hok]; decide), if_neg (by rw [hheld]; decide), if_pos (by rw [hreach]; rfl)]

/-- A command that ends OK shows its code and raises its event. -/
theorem State.lockDone_ok : (s.lockDone w 0 none).rd Reg.WB_LOCKSTAT = BitVec.ofNat 32 (!s.brg.lockOps.isEmpty).toNat ∧
    (s.lockDone w 0 none).bit (Reg.PG_EVRAW 0x069) 11 = true ∧ (s.lockDone w 0 none).brg = s.brg := by
  have hdone : s.lockDone w 0 none = (s.wrN Reg.WB_LOCKSTAT (0 * 2 + (!s.brg.lockOps.isEmpty).toNat)).raise 0x069 11 := by
    unfold State.lockDone
    dsimp only
    rw [if_pos rfl]
  rw [hdone]
  refine ⟨?_, ?_, ?_⟩
  · rw [State.rd_raise _ _ _ _ (by decide) eventReg_WB_LOCKSTAT, State.rd_wrN_same, Nat.zero_mul, Nat.zero_add]
  · exact State.bit_raise_same _ _ _ (by decide) (by decide) (has_windowPage _)
  · rw [(raise_frame _ _ _).brg, (wrN_frame _ _ _).brg]

end

/-! ### Commits -/

/-- A commit of a window that is written. -/
theorem exec_windowCommit_taken (v : Word) (hgo : v.getLsbD 8 = true) (hbusy : s.bit Reg.WB_CSTAT 0 = false) :
    exec (.windowCommit v) s = .next ((s.setBrg { s.brg with winCommit := some (v.fld 5 0) }).setBit Reg.WB_CSTAT 0 true) := by
  refine congrArg Host.Outcome.next ?_
  rw [if_neg (by rw [hgo]; decide), if_neg (by rw [hbusy]; decide)]

theorem exec_inboundCommit_taken (v : Word) (hgo : v.getLsbD 8 = true) (hbusy : s.bit Reg.WB_CSTAT 0 = false) :
    exec (.inboundCommit v) s = .next ((s.setBrg { s.brg with inCommit := some (v.fld 4 0) }).setBit Reg.WB_CSTAT 0 true) := by
  refine congrArg Host.Outcome.next ?_
  rw [if_neg (by rw [hgo]; decide), if_neg (by rw [hbusy]; decide)]

theorem exec_commit_idle (v : Word) (hgo : v.getLsbD 8 = false) :
    exec (.windowCommit v) s = .next s ∧ exec (.inboundCommit v) s = .next s :=
  ⟨congrArg Host.Outcome.next (if_pos (by rw [hgo]; rfl)), congrArg Host.Outcome.next (if_pos (by rw [hgo]; rfl))⟩

theorem exec_commit_busy (v : Word) (hgo : v.getLsbD 8 = true) (hbusy : s.bit Reg.WB_CSTAT 0 = true) :
    exec (.windowCommit v) s = .next (s.raise 0x069 1) ∧ exec (.inboundCommit v) s = .next (s.raise 0x069 1) := by
  have hif (t : State) : (if !v.getLsbD 8 then s else if s.bit Reg.WB_CSTAT 0 then s.raise 0x069 1 else t) = s.raise 0x069 1 := by
    rw [if_neg (by rw [hgo]; decide), if_pos hbusy]
  exact ⟨congrArg Host.Outcome.next (hif _), congrArg Host.Outcome.next (hif _)⟩

theorem State.commitTaken_spec (b : Bridges) (a : Nat) :
    ((s.setBrg b).setBit a 0 true).brg = b ∧ ((s.setBrg b).setBit a 0 true).bit a 0 = true ∧
      s.keepsRegs ((s.setBrg b).setBit a 0 true) [a] := by
  refine ⟨?_, State.bit_setBit_same _ _ _ _ (by decide), ?_⟩
  · rw [State.setBit, (put_frame _ _ _ _ _).brg]
    rfl
  · exact State.keepsRegs.setBit (s := s) (t := s.setBrg b) (fun _ _ => rfl) _ _ _ (List.mem_singleton_self _)

/-- A commit that completes shows its status, raises its event and is over. -/
theorem State.commitDone_spec (status : Nat) :
    (s.commitDone status).rd Reg.WB_CSTAT = BitVec.ofNat 32 (status * 2) ∧
      (s.commitDone status).brg = { s.brg with winCommit := none, inCommit := none } ∧
      (s.commitDone status).bit (Reg.PG_EVRAW 0x069) 10 = true ∧
      ∀ a, eventReg a = false → a ≠ Reg.WB_CSTAT → (s.commitDone status).rd a = s.rd a := by
  refine ⟨?_, ?_, ?_, fun a hev ha => ?_⟩
  · rw [State.commitDone, State.rd_raise _ _ _ _ (by decide) eventReg_WB_CSTAT, State.rd_wrN_same]
  · rw [State.commitDone, (raise_frame _ _ _).brg, (wrN_frame _ _ _).brg]
    rfl
  · exact State.bit_raise_same _ _ _ (by decide) (by decide) (has_windowPage _)
  · rw [State.commitDone, State.rd_raise _ _ _ _ (by decide) hev, State.rd_wrN_ne _ _ _ _ ha]
    rfl

section
variable (w : Nat)

/-- A window takes the fields that were written. -/
def State.winTaken (s : State) (w : Nat) : State :=
  (s.setBrg { s.brg with wins := Sparse.set {} s.brg.wins w (s.winWritten w) }).setBit (Reg.WIN_STAT w) 0 true

theorem State.winTaken_brg : (s.winTaken w).winCount.brg = { s.brg with wins := Sparse.set {} s.brg.wins w (s.winWritten w) } := by
  rw [State.winCount, (put_frame _ _ _ _ _).brg, State.winTaken, State.setBit, (put_frame _ _ _ _ _).brg]
  rfl

theorem State.winApply_taken (h : (s.winWritten w).en = false ∨
    (s.winWritten w).badArg = false ∧ s.frameConflict w (s.winWritten w) = false) :
    s.winApply w = (s.winTaken w).winCount.commitDone 0 := by
  unfold State.winApply
  dsimp only
  rcases h with hen | ⟨hbad, hconf⟩
  · rw [if_neg (by rw [hen, Bool.false_and]; decide), if_neg (by rw [hen, Bool.false_and]; decide)]
    rfl
  · rw [if_neg (by rw [hbad, Bool.and_false]; decide), if_neg (by rw [hconf, Bool.and_false]; decide)]
    rfl

theorem State.winApply_bad (hen : (s.winWritten w).en = true) (hbad : (s.winWritten w).badArg = true) :
    s.winApply w = s.commitDone 1 := if_pos (by rw [hen, hbad]; rfl)

/-- A commit that applies leaves the accesses as they are. -/
theorem State.winApply_winAccs : (s.winApply w).brg.winAccs = s.brg.winAccs := by
  unfold State.winApply
  dsimp only
  split
  next =>
    obtain ⟨-, hbrg, -⟩ := s.commitDone_spec 1
    rw [hbrg]
  next =>
    split
    next =>
      obtain ⟨-, hbrg, -⟩ := s.commitDone_spec 2
      rw [hbrg]
    next =>
      obtain ⟨-, hbrg, -⟩ := (s.winTaken w).winCount.commitDone_spec 0
      refine (congrArg Bridges.winAccs hbrg).trans ?_
      rw [winTaken_brg]

/-- A window without accesses and without a lock takes its commit at once. -/
theorem State.winCommitStep_drained (timeout : Bool) (h : s.brg.winCommit = some w) (haccs : s.winAccs w = [])
    (hheld : s.bit (Reg.WIN_STAT w) 2 = false) : s.winCommitStep timeout = s.winApply w := by
  have hrest : (s.winApply w).winAccs w = [] := by
    rw [State.winAccs, s.winApply_winAccs w]
    exact haccs
  unfold State.winCommitStep
  rw [h]
  dsimp only
  rw [haccs, hheld, if_pos (by rfl), hrest]
  rfl

/-- The commit of a window that holds a lock ends with its timeout. -/
theorem State.winCommitStep_locked (h : s.brg.winCommit = some w) (hheld : s.bit (Reg.WIN_STAT w) 2 = true) :
    s.winCommitStep true = (s.commitDone 3).winPump w (s.winAccs w).length := by
  have hrest : (s.commitDone 3).winAccs w = s.winAccs w := by
    obtain ⟨-, hbrg, -⟩ := s.commitDone_spec 3
    rw [State.winAccs, hbrg, State.winAccs]
  unfold State.winCommitStep
  rw [h]
  dsimp only
  rw [hheld, if_neg (by rw [Bool.not_true, Bool.and_false]; decide), if_pos rfl, hrest]

theorem State.winApply_taken_spec (hw : w < 64) (h : (s.winWritten w).en = false ∨
    (s.winWritten w).badArg = false ∧ s.frameConflict w (s.winWritten w) = false) :
    (s.winApply w).win w = s.winWritten w ∧ (s.winApply w).bit (Reg.WIN_STAT w) 0 = true ∧ (s.winApply w).rd Reg.WB_CSTAT = 0 ∧
      (s.winApply w).brg.winCommit = none ∧ (s.winApply w).bit (Reg.PG_EVRAW 0x069) 10 = true := by
  obtain ⟨hstat, hbrg, hev, hrd⟩ := (s.winTaken w).winCount.commitDone_spec 0
  rw [s.winApply_taken w h]
  refine ⟨?_, ?_, hstat, by rw [hbrg], hev⟩
  · rw [State.win, hbrg, winTaken_brg]
    exact Sparse.get_set_same _ _ _ _
  · rw [State.bit, hrd _ (eventReg_WIN_STAT w hw) (WIN_STAT_ne_CSTAT w hw)]
    refine (State.bit_put_ne _ _ _ _ _ _ _ (WIN_STAT_ne_WB_STAT w hw)).trans ?_
    exact State.bit_setBit_same _ _ _ _ (by decide)

theorem State.winApply_bad_spec (hen : (s.winWritten w).en = true) (hbad : (s.winWritten w).badArg = true) :
    (s.winApply w).brg.wins = s.brg.wins ∧ (s.winApply w).get Reg.WB_CSTAT 3 1 = 1 ∧ (s.winApply w).brg.winCommit = none := by
  obtain ⟨hstat, hbrg, -⟩ := s.commitDone_spec 1
  rw [s.winApply_bad w hen hbad, hbrg, State.get, hstat]
  exact ⟨rfl, by decide, rfl⟩

end

section
variable (e : Nat)

/-- A filter entry that nothing uses takes its commit. -/
theorem State.inCommitStep_free (timeout : Bool) (h : s.brg.inCommit = some e) (hbusy : s.entryBusy e = false) :
    s.inCommitStep timeout =
      (s.setBrg { s.brg with filters := Sparse.insert s.brg.filters e (s.filterWritten e) }).commitDone 0 := by
  unfold State.inCommitStep
  rw [h]
  dsimp only
  rw [if_pos (by rw [hbusy]; rfl)]

theorem State.inCommitStep_busy (timeout : Bool) (h : s.brg.inCommit = some e) (hbusy : s.entryBusy e = true) :
    s.inCommitStep timeout = if timeout then s.commitDone 3 else s := by
  unfold State.inCommitStep
  rw [h]
  dsimp only
  rw [if_neg (by rw [hbusy]; decide)]

end
end

/-- Settles O30: the arms of a lock request, of a lock command, and of a commit that is written and applied. -/
theorem locksAndCommits : Obligations.LocksAndCommits := by
  unfold Obligations.LocksAndCommits
  refine ⟨?_, ?_⟩
  · intro s src init tag w space r hwf hw hspace q hq
    subst hq
    have hlock (t : State) (ht : s.lockRequest { src := src, init := init, tag := tag, req := r } = t)
        (hk : r.kind = 1 ∨ r.kind = 2) : exec (.lockRequestRx src init tag r) s = .next t := by
      refine answer_eq ?_ ht
      rw [hwf, Bool.true_and, Bool.or_eq_true, beq_iff_eq, beq_iff_eq]
      exact hk
    have hwb (t : State) (ht : s.winLock w true none = t) : exec (.wbLock w) s = .next t := answer_eq (decide_eq_true hw) ht
    have hub (t : State) (ht : s.winLock w false none = t) : exec (.wbUnlock w) s = .next t := answer_eq (decide_eq_true hw) ht
    have hne (hk : r.kind = 1) : r.kind ≠ 2 := by omega
    refine ⟨fun hrun harm => ⟨fun hk hl hs => ?_, fun hk hc hf => ?_, fun hk hc ho => ?_, fun hk hh => ?_, fun hk hh => ?_⟩,
      fun hrun hk => hlock _ (s.inboundArrive_stopped _ _ hrun) hk, fun h => ?_, fun h hh => ?_, fun hrun => ⟨?_, ?_⟩,
      fun hrun hok => hwb _ (s.winLock_refused w hrun hok), fun hrun hok hh => ?_, fun hrun hh => ?_, fun hrun hok hh hr => ?_⟩
    · exact hlock _ (s.lockRequest_crossed _ hrun harm (hne hk) hl hs) (Or.inl hk)
    · exact hlock _ (s.lockRequest_free _ hrun harm (hne hk) hc hf) (Or.inl hk)
    · exact answers_eq (hlock _ (s.lockRequest_waits _ hrun harm (hne hk) hc ho) (Or.inl hk)) ⟨rfl, rfl, rfl⟩
    · exact hlock _ (s.lockRequest_unlock _ hrun harm hk hh) (Or.inr hk)
    · exact hlock _ (s.lockRequest_unlock_lost _ hrun harm hk hh) (Or.inr hk)
    · exact answer_eq (decide_eq_true hspace) (s.lockExpire_free space h)
    · exact answer_eq (decide_eq_true hspace) (s.lockExpire_held space h hh)
    · exact hwb _ (s.winLock_stopped w true hrun)
    · exact hub _ (s.winLock_stopped w false hrun)
    · exact answers_eq (hwb _ (s.winLock_already w true hrun (Or.inr hok) hh)) (s.lockDone_ok w)
    · exact answers_eq (hub _ (s.winLock_already w false hrun (Or.inl rfl) hh)) (s.lockDone_ok w)
    · exact hwb _ (s.winLock_unreachable w hrun hok hh hr)
  · intro s v w e timeout hw he
    refine ⟨exec_commit_idle s v, exec_commit_busy s v, fun hgo hbusy => ⟨?_, ?_⟩, fun h => ?_, fun h haccs hheld => ⟨fun hok => ?_,
      fun hen hbad => ?_⟩, fun h hheld => ?_, fun h => ?_, fun h hbusy => ?_, fun h hbusy => ⟨?_, ?_⟩⟩
    · exact answers_eq (exec_windowCommit_taken s v hgo hbusy) (s.commitTaken_spec _ _)
    · exact answers_eq (exec_inboundCommit_taken s v hgo hbusy) (s.commitTaken_spec _ _)
    · refine congrArg Host.Outcome.next ?_
      rw [State.winCommitStep, h]
    · exact answers_eq (congrArg Host.Outcome.next ((s.winCommitStep_drained w timeout h haccs hheld))) (s.winApply_taken_spec w hw hok)
    · exact answers_eq (congrArg Host.Outcome.next ((s.winCommitStep_drained w timeout h haccs hheld))) (s.winApply_bad_spec w hen hbad)
    · exact congrArg Host.Outcome.next (s.winCommitStep_locked w h hheld)
    · refine congrArg Host.Outcome.next ?_
      rw [State.inCommitStep, h]
    · obtain ⟨hstat, hbrg, -⟩ :=
        (s.setBrg { s.brg with filters := Sparse.insert s.brg.filters e (s.filterWritten e) }).commitDone_spec 0
      refine answers_eq (congrArg Host.Outcome.next (s.inCommitStep_free e timeout h hbusy)) ⟨?_, hstat, by rw [hbrg]⟩
      rw [hbrg]
      exact Sparse.find?_insert_same _ _ _
    · exact congrArg Host.Outcome.next ((s.inCommitStep_busy e false h hbusy).trans (if_neg Bool.false_ne_true))
    · exact congrArg Host.Outcome.next ((s.inCommitStep_busy e true h hbusy).trans (if_pos rfl))

end Sys2Proof.Machine
end

section
/-!
PROOF. Messages, the routing table and the window error log (R344, R347, R351, R354, R355), up to the statement MessagesAndTheTable.
-/
namespace Sys2Proof.Machine

theorem has_messagePage (s : State) : s.has 0x06A = true := by exact has_of_parts s 0x06A (by decide)

theorem eventReg_MB_TSTAT : eventReg Reg.MB_TSTAT = false := eventReg_block _ (by decide) (by decide) (by decide) (by decide)

theorem eventReg_MB_CNT : eventReg Reg.MB_CNT = false := eventReg_block _ (by decide) (by decide) (by decide) (by decide)

theorem eventReg_MB_CFG : eventReg Reg.MB_CFG = false := eventReg_block _ (by decide) (by decide) (by decide) (by decide)

theorem eventReg_MB_TW (w : Nat) (hw : w < 8) : eventReg (Reg.MB_TW w) = false := by
  have htw : Reg.MB_TW w = 0x6A048 + 4 * w := by
    unfold Reg.MB_TW
    omega
  exact eventReg_block _ (by omega) (by omega) (by omega) (by omega)

theorem MB_TW_ne_TSTAT (w : Nat) (hw : w < 8) : Reg.MB_TW w ≠ Reg.MB_TSTAT := by
  unfold Reg.MB_TW Reg.MB_TSTAT
  omega

theorem MB_TW_injective : Function.Injective Reg.MB_TW := fun w v h => by
  unfold Reg.MB_TW at h
  omega

/-- Registers written one after another hold what each was given. -/
theorem State.rd_each_wr_at (f : Nat → Nat) (hf : Function.Injective f) (v : Nat → Word) (i : Nat) (l : List Nat) (s : State) :
    (s.each l fun s w => s.wr (f w) (v w)).rd (f i) = if i ∈ l then v i else s.rd (f i) := by
  induction l generalizing s with
  | nil => rfl
  | cons x l ih =>
    refine (ih (s.wr (f x) (v x))).trans ?_
    by_cases hx : i = x
    · rw [hx, State.rd_wr_same, ite_self, if_pos List.mem_cons_self]
    · rw [State.rd_wr_ne _ _ _ _ (hf.ne hx)]
      simp only [List.mem_cons, hx, false_or]

section
variable (s : State)

/-! ### Messages (R344, R351) -/

theorem State.messageRelease_held (h : (s.brg.sigs.all fun m => s.writeOpen m.1 m.2.1 m.2.2.2.2) = true) : s.messageRelease = s := by
  have hnone : (s.brg.sigs.find? fun m => !s.writeOpen m.1 m.2.1 m.2.2.2.2) = none := by
    refine List.find?_eq_none.mpr fun m hm => ?_
    rw [List.all_eq_true.mp h m hm]
    decide
  unfold State.messageRelease
  rw [hnone]

theorem State.messageRelease_free (m : Nat × Nat × Nat × List Byte × Nat)
    (h : s.brg.sigs.find? (fun m => !s.writeOpen m.1 m.2.1 m.2.2.2.2) = some m) : s.messageRelease =
      (s.setBrg { s.brg with sigs := s.brg.sigs.erase m }).fabricSend m.2.1 5 m.1 0 (.message m.2.2.1 0 m.2.2.2.1) := by
  unfold State.messageRelease
  rw [h]

theorem State.messageMatch_none (lat : Nat) (h : s.mbIn = []) : s.messageMatch lat = s := by
  unfold State.messageMatch
  rw [h]

/-- The oldest message leaves the bridge. -/
def State.mbTaken (s : State) (rest : List (MsgSrc × Nat × List Byte × Nat)) : State := { s with mbIn := rest }

theorem State.messageMatch_oldest (lat : Nat) (m : MsgSrc × Nat × List Byte × Nat) (rest : List (MsgSrc × Nat × List Byte × Nat))
    (h : s.mbIn = m :: rest) (harm : s.bit (Reg.PG_INJARM 0x06A) 0 = false) : s.messageMatch lat =
      (s.mbTaken rest).mbMatch { src := m.1, id := m.2.1, data := m.2.2.1, time := m.2.2.2 } lat := by
  unfold State.messageMatch
  rw [h]
  dsimp only
  rw [s.injFires_of_disarmed _ _ _ harm, if_neg Bool.false_ne_true, s.injStep_of_disarmed _ _ _ harm]
  rfl

/-- A message that no entry matches is counted and raises its event. -/
theorem State.mbMatch_empty (m : MbMsg) (lat : Nat) (htab : s.brg.mbTable = []) (hcfg : s.bit Reg.MB_CFG 0 = false) :
    s.mbMatch m lat = (s.count Reg.MB_CNT 31 16).raise 0x06A 10 := by
  have hsame : ((s.count Reg.MB_CNT 31 16).raise 0x06A 10).bit Reg.MB_CFG 0 = false := by
    rw [State.bit_raise _ _ _ _ (by decide) eventReg_MB_CFG, State.bit_count_ne _ _ _ _ _ _ _ (by decide), hcfg]
  unfold State.mbMatch
  rw [htab]
  refine (if_pos rfl).trans ?_
  unfold State.when
  exact if_neg (by rw [hsame]; decide)

theorem State.mbUnmatched_spec : ((s.count Reg.MB_CNT 31 16).raise 0x06A 10).mbIn = s.mbIn ∧
    ((s.count Reg.MB_CNT 31 16).raise 0x06A 10).bit (Reg.PG_EVRAW 0x06A) 10 = true ∧
    ((s.count Reg.MB_CNT 31 16).raise 0x06A 10).get Reg.MB_CNT 31 16 = min (s.get Reg.MB_CNT 31 16 + 1) 65535 := by
  refine ⟨?_, State.bit_raise_same _ _ _ (by decide) (by decide) (has_messagePage _), ?_⟩
  · rw [(raise_frame _ _ _).mbIn, (count_frame _ _ _ _ _).mbIn]
  · rw [State.get_raise _ _ _ _ (by decide) eventReg_MB_CNT]
    exact State.get_count_same s _ _ _ _ (by decide) (by decide)

/-! ### The routing table (R354) -/

theorem State.mbOp_refused (f : State → State) (h : s.settled 0x06A = false ∨ s.bit Reg.MB_TSTAT 0 = true) :
    s.mbOp f = s.raise 0x06A 1 := by
  unfold State.mbOp
  rw [if_neg (by rw [has_messagePage s]; decide)]
  refine if_pos ?_
  rcases h with h | h
  · rw [h]; rfl
  · rw [h, Bool.or_true]

theorem State.mbOp_taken (f : State → State) (hset : s.settled 0x06A = true) (hidle : s.bit Reg.MB_TSTAT 0 = false) : s.mbOp f = f s := by
  unfold State.mbOp
  rw [if_neg (by rw [has_messagePage s]; decide), if_neg (by rw [hset, hidle]; decide)]

/-- A table op that ends shows its status and raises its event. -/
theorem State.mbDone_spec (st : Nat) : (s.mbDone st).rd Reg.MB_TSTAT = BitVec.ofNat 32 (st * 256) ∧
    (s.mbDone st).bit (Reg.PG_EVRAW 0x06A) 8 = true ∧ (s.mbDone st).brg = s.brg ∧
    ∀ a, eventReg a = false → a ≠ Reg.MB_TSTAT → (s.mbDone st).rd a = s.rd a := by
  refine ⟨?_, State.bit_raise_same _ _ _ (by decide) (by decide) (has_messagePage _), ?_, fun a hev ha => ?_⟩
  · rw [State.mbDone, State.rd_raise _ _ _ _ (by decide) eventReg_MB_TSTAT, State.rd_wrN_same]
  · rw [State.mbDone, (raise_frame _ _ _).brg, (wrN_frame _ _ _).brg]
  · rw [State.mbDone, State.rd_raise _ _ _ _ (by decide) hev, State.rd_wrN_ne _ _ _ _ ha]

/-- The entry that `MB.TW0` to `MB.TW7` hold. -/
def State.mbWords (s : State) : List Word := (List.range 8).map fun w => s.rd (Reg.MB_TW w)

/-- The table with the entry that was written. -/
def State.mbStored (s : State) : State :=
  s.setBrg { s.brg with mbTable := Sparse.set (List.replicate 8 0) s.brg.mbTable (s.get Reg.MB_TIDX 10 0) s.mbWords }

theorem State.mbWrite_reserved (h : mbReserved s.mbWords = true) : s.mbWrite = s.mbDone 1 := if_pos h

theorem State.mbWrite_absent (h : mbReserved s.mbWords = false) (habs : s.mbAbsent s.mbWords = true) : s.mbWrite = s.mbDone 2 :=
  (if_neg (by rw [← State.mbWords, h]; decide)).trans (if_pos habs)

theorem State.mbWrite_stored (h : mbReserved s.mbWords = false) (habs : s.mbAbsent s.mbWords = false) :
    s.mbWrite = s.mbStored.mbDone 0 :=
  (if_neg (by rw [← State.mbWords, h]; decide)).trans (if_neg (by rw [← State.mbWords, habs]; decide))

theorem State.mbEntry_stored (j : Nat) : (s.mbStored.mbDone 0).mbEntry j =
    if j = s.get Reg.MB_TIDX 10 0 then s.mbWords else s.mbEntry j := by
  obtain ⟨-, -, hbrg, -⟩ := s.mbStored.mbDone_spec 0
  rw [State.mbEntry, hbrg]
  split
  next h =>
    rw [h]
    exact Sparse.get_set_same _ _ _ _
  next h => exact Sparse.get_set_ne _ _ _ _ _ _ h

/-- An entry that shows in `MB.TW0` to `MB.TW7`. -/
def State.mbShown (s : State) (e : List Word) : State := s.each (List.range 8) fun s w => s.wr (Reg.MB_TW w) (mbWord e w)

theorem State.mbShown_brg (e : List Word) : (s.mbShown e).brg = s.brg := State.each_same State.brg (fun s w => s.wr (Reg.MB_TW w) (mbWord e w)) (fun _ _ => rfl) _ s

theorem State.mbRead_spec : s.mbRead.rd Reg.MB_TSTAT = 0 ∧ s.mbRead.brg = s.brg ∧
    ∀ w, w < 8 → s.mbRead.rd (Reg.MB_TW w) = mbWord (s.mbEntry (s.get Reg.MB_TIDX 10 0)) w := by
  obtain ⟨hstat, -, hbrg, hrd⟩ := (s.mbShown (s.mbEntry (s.get Reg.MB_TIDX 10 0))).mbDone_spec 0
  refine ⟨hstat, hbrg.trans (s.mbShown_brg _), fun w hw => ?_⟩
  refine (hrd _ (eventReg_MB_TW w hw) (MB_TW_ne_TSTAT w hw)).trans ?_
  exact (State.rd_each_wr_at _ MB_TW_injective _ w _ s).trans (if_pos (List.mem_range.mpr hw))

/-! ### The error log (R347) -/

/-- The three words that show an entry of the error log. -/
def State.elogShown (s : State) (v addr : Nat) : State := (s.wrN Reg.WB_ELOG0 v).wr64 Reg.WB_ELOG1 Reg.WB_ELOG2 addr

theorem State.elogShown_spec (v addr : Nat) (haddr : addr < 2 ^ 64) :
    (s.elogShown v addr).rd Reg.WB_ELOG0 = BitVec.ofNat 32 v ∧ (s.elogShown v addr).rd64 Reg.WB_ELOG1 Reg.WB_ELOG2 = addr ∧
      s.keepsRegs (s.elogShown v addr) [Reg.WB_ELOG0, Reg.WB_ELOG1, Reg.WB_ELOG2] := by
  refine ⟨?_, ?_, ((State.keepsRegs.refl s _).wrN _ _ (by decide)).wr64 _ _ _ (by decide) (by decide)⟩
  · rw [State.elogShown, State.rd_wr64_ne _ _ _ _ _ (by decide) (by decide), State.rd_wrN_same]
  · rw [State.elogShown, State.rd64_wr64_same _ _ _ _ (by decide), Nat.mod_eq_of_lt haddr]

theorem State.elogShown_clear : (s.elogShown 0 0).rd Reg.WB_ELOG1 = 0 ∧ (s.elogShown 0 0).rd Reg.WB_ELOG2 = 0 :=
  ⟨(State.rd_wr_ne _ _ _ _ (by decide)).trans (State.rd_wr_same _ _ _), State.rd_wr_same _ _ _⟩

theorem State.elogShown_brg (v addr : Nat) : (s.elogShown v addr).brg = s.brg := rfl

theorem exec_werrLogRead_empty (h : s.brg.elog = []) : exec .werrLogRead s = .next (s.elogShown 0 0) := by
  refine congrArg Host.Outcome.next ?_
  rw [h]
  rfl

theorem exec_werrLogRead_oldest (code w init addr : Nat) (rest : List (Nat × Nat × Nat × Nat))
    (h : s.brg.elog = (code, w, init, addr) :: rest) : exec .werrLogRead s =
      .next ((s.setBrg { s.brg with elog := rest }).elogShown (code + w * 256 + init * 65536 + 2 ^ 31) addr) := by
  refine congrArg Host.Outcome.next ?_
  rw [h]
  rfl

end

/-- Settles O31: a message by the writes before it and by the table, a table op by its entry, the error log by its entries. -/
theorem messagesAndTheTable : Obligations.MessagesAndTheTable := by
  unfold Obligations.MessagesAndTheTable
  intro s v lat
  refine ⟨answers_next ⟨rfl, rfl, rfl⟩, fun h => congrArg Host.Outcome.next (s.messageRelease_held h),
    fun m h => congrArg Host.Outcome.next (s.messageRelease_free m h), fun h => congrArg Host.Outcome.next (s.messageMatch_none lat h),
    fun m rest h harm => congrArg Host.Outcome.next (s.messageMatch_oldest lat m rest h harm), fun m rest h harm htab hcfg => ?_,
    fun h => ?_, fun hset hidle => ?_, fun h => ?_, fun code w init addr rest h haddr => ?_⟩
  · have hmatch : exec (.messageMatch lat) s = .next (((s.mbTaken rest).count Reg.MB_CNT 31 16).raise 0x06A 10) :=
      congrArg Host.Outcome.next ((s.messageMatch_oldest lat m rest h harm).trans ((s.mbTaken rest).mbMatch_empty _ lat htab hcfg))
    exact answers_eq hmatch (s.mbTaken rest).mbUnmatched_spec
  · simp only [List.forall_mem_cons, List.not_mem_nil, false_implies, implies_true, and_true]
    exact ⟨congrArg Host.Outcome.next (s.mbOp_refused _ h), congrArg Host.Outcome.next (s.mbOp_refused _ h),
      congrArg Host.Outcome.next (s.mbOp_refused _ h), congrArg Host.Outcome.next (s.mbOp_refused _ h)⟩
  · have hop (f : State → State) {t : State} (ht : f s = t) : (.next (s.mbOp f) : Answer) = .next t :=
      congrArg Host.Outcome.next ((s.mbOp_taken f hset hidle).trans ht)
    refine ⟨?_, ?_, fun es hes => ?_, answers_eq (hop State.mbRead rfl) s.mbRead_spec⟩
    · obtain ⟨hstat, hev, hbrg, -⟩ := s.mbDone_spec 0
      exact answers_eq (hop _ rfl) ⟨hstat, hev, hbrg⟩
    · obtain ⟨hstat, hev, hbrg, -⟩ := s.mbDone_spec 1
      exact answers_eq (hop _ rfl) ⟨hstat, hev, hbrg⟩
    · rw [← State.mbWords] at hes
      subst hes
      refine ⟨fun h => ?_, fun h habs => ?_, fun h habs => ?_⟩
      · obtain ⟨hstat, -, hbrg, -⟩ := s.mbDone_spec 1
        exact answers_eq (hop _ (s.mbWrite_reserved h)) ⟨hstat, hbrg⟩
      · obtain ⟨hstat, -, hbrg, -⟩ := s.mbDone_spec 2
        exact answers_eq (hop _ (s.mbWrite_absent h habs)) ⟨hstat, hbrg⟩
      · obtain ⟨hstat, -⟩ := s.mbStored.mbDone_spec 0
        exact answers_eq (hop _ (s.mbWrite_stored h habs)) ⟨hstat, (s.mbEntry_stored _).trans (if_pos rfl),
          fun j hj => (s.mbEntry_stored j).trans (if_neg hj)⟩
  · obtain ⟨hword, -, hkeep⟩ := s.elogShown_spec 0 0 (by decide)
    exact answers_eq (exec_werrLogRead_empty s h) ⟨hword, s.elogShown_clear.1, s.elogShown_clear.2, hkeep⟩
  · obtain ⟨hword, haddr', hkeep⟩ := (s.setBrg { s.brg with elog := rest }).elogShown_spec (code + w * 256 + init * 65536 + 2 ^ 31) addr haddr
    exact answers_eq (exec_werrLogRead_oldest s code w init addr rest h) ⟨by rw [State.elogShown_brg]; rfl, hword, haddr', hkeep⟩

end Sys2Proof.Machine
end

section
/-!
PROOF. Links to other devices (R302 to R306, R313), up to the statement BruilLinks.
-/
namespace Sys2Proof.Machine

/-! ### Links and their registers -/

section
variable (s : State) (n : Nat)

theorem blPage_lt (hn : n < 8) : blPage n < 256 := by
  unfold blPage
  omega

/-- No register of a link's page above its header is one that an injection point or an event changes. -/
theorem injReg_link (hn : n < 8) (o : Nat) (ho : 0x40 ≤ o) (ho' : o < 0x1000) :
    injReg (blPage n) ((0x060 + n) * 0x1000 + o) = false := by
  have hev : eventReg ((0x060 + n) * 0x1000 + o) = false := eventReg_block _ (by omega) (by omega) (by omega) (by omega)
  have harm : ¬((0x060 + n) * 0x1000 + o = Reg.PG_INJARM (blPage n) ∨ (0x060 + n) * 0x1000 + o = Reg.INJ_FIRED) := by
    unfold Reg.PG_INJARM Reg.INJ_FIRED blPage
    omega
  rw [injReg, hev, decide_eq_false harm]
  rfl

theorem BL_STAT_ne_ERR : Reg.BL_STAT n ≠ Reg.BL_ERR n := header_ne _ _ _ (by decide)

theorem State.bl_modBl (f : BLink → BLink) : (s.modBl n f).bl n = f (s.bl n) := by
  rw [State.modBl, State.bl, Sparse.get_insert_same]

theorem State.bl_congr {s t : State} (h : t.fab = s.fab) : t.bl n = s.bl n := by rw [State.bl, h, State.bl]

theorem State.lst_congr {s t : State} (h : t.rd (Reg.BL_STAT n) = s.rd (Reg.BL_STAT n)) : t.lst n = s.lst n := by
  rw [State.lst, State.get, h, State.lst, State.get]

theorem State.lst_modBl (f : BLink → BLink) : (s.modBl n f).lst n = s.lst n := rfl

theorem State.bl_setLst (v : Nat) : (s.setLst n v).bl n = s.bl n := State.bl_congr n (put_frame _ _ _ _ _).fab

theorem State.lst_setLst (v : Nat) (hv : v < 8) : (s.setLst n v).lst n = v :=
  (State.get_put_same s _ _ _ _ (by decide) (by decide)).trans (Nat.mod_eq_of_lt hv)

theorem State.bl_count (a hi lo k : Nat) : (s.count a hi lo k).bl n = s.bl n := State.bl_congr n (count_frame _ _ _ _ _).fab

/-! ### Flits in TRAIN (R302) -/

theorem State.bl_injStep (hn : n < 8) (p q : Nat) : (s.injStep (blPage n) p q).bl n = s.bl n :=
  State.bl_congr n (injStep_frame s (blPage n) p q (blPage_lt n hn)).fab

theorem State.rd_injStep_link (hn : n < 8) (p q o : Nat) (ho : 0x40 ≤ o) (ho' : o < 0x1000) :
    (s.injStep (blPage n) p q).rd ((0x060 + n) * 0x1000 + o) = s.rd ((0x060 + n) * 0x1000 + o) :=
  (injStep_frame s (blPage n) p q (blPage_lt n hn)).rd _ (injReg_link n hn o ho ho')

/-- A bad flit in TRAIN: it is counted, and the run of good ones starts again. -/
def State.trainBad (s : State) (n : Nat) : State :=
  ((s.injStep (blPage n) 0x10 0).count (Reg.BL_ERR n) 15 0).modBl n fun b => { b with good := 0 }

/-- A good flit in TRAIN. -/
def State.trainGood (s : State) (n : Nat) : State := s.modBl n fun b => { b with good := b.good + 1 }

theorem State.flitRx_bad (bytes : List Byte) (hn : n < 8) (hlst : s.lst n = 1)
    (hcrc : crc32c (bytes.take 60) ≠ BitVec.ofNat 32 (le32At bytes 60)) : s.flitRx n bytes = s.trainBad n := by
  have hst : ((s.injStep (blPage n) 0x10 0).count (Reg.BL_ERR n) 15 0).lst n = 1 := by
    refine (State.lst_congr n ?_).trans hlst
    rw [State.rd_count_ne _ _ _ _ _ _ (BL_STAT_ne_ERR n)]
    exact s.rd_injStep_link n hn 0x10 0 0x44 (by decide) (by decide)
  have hgood : ((s.trainBad n).bl n).good = 0 := by rw [State.trainBad, State.bl_modBl]
  unfold State.flitRx
  rw [beq_eq_false_iff_ne.mpr hcrc, Bool.false_and]
  simp only [Bool.not_false, State.when, if_true]
  rw [hst]
  exact if_pos (lt_of_eq_of_lt hgood (by decide))

theorem State.trainBad_spec (hn : n < 8) (hlst : s.lst n = 1) : ((s.trainBad n).bl n).good = 0 ∧ (s.trainBad n).lst n = 1 ∧
    (s.trainBad n).get (Reg.BL_ERR n) 15 0 = min (s.get (Reg.BL_ERR n) 15 0 + 1) 65535 := by
  refine ⟨?_, ?_, ?_⟩
  · rw [State.trainBad, State.bl_modBl]
  · rw [State.trainBad, State.lst_modBl]
    refine (State.lst_congr n ?_).trans hlst
    rw [State.rd_count_ne _ _ _ _ _ _ (BL_STAT_ne_ERR n)]
    exact s.rd_injStep_link n hn 0x10 0 0x44 (by decide) (by decide)
  · have herr : (s.injStep (blPage n) 0x10 0).get (Reg.BL_ERR n) 15 0 = s.get (Reg.BL_ERR n) 15 0 :=
      congrArg (fun w : Word => w.fld 15 0) (s.rd_injStep_link n hn 0x10 0 0x48 (by decide) (by decide))
    rw [← herr]
    exact State.get_count_same (s.injStep (blPage n) 0x10 0) (Reg.BL_ERR n) 15 0 1 (by decide) (by decide)

theorem State.flitRx_good (bytes : List Byte) (hlst : s.lst n = 1)
    (hcrc : crc32c (bytes.take 60) = BitVec.ofNat 32 (le32At bytes 60)) (harm : s.bit (Reg.PG_INJARM (blPage n)) 0 = false) :
    s.flitRx n bytes = if (s.bl n).good + 1 < 64 then s.trainGood n
      else ((s.trainGood n).setLst n 2).send (.bruilIdent n ((s.trainGood n).identOf n)) := by
  have hgood : ((s.trainGood n).bl n).good = (s.bl n).good + 1 := by rw [State.trainGood, State.bl_modBl]
  unfold State.flitRx
  rw [hcrc, beq_self_eq_true, s.injFires_of_disarmed _ _ _ harm, s.injStep_of_disarmed _ _ _ harm]
  simp only [Bool.not_false, Bool.and_true, Bool.not_true, State.when, Bool.false_eq_true, if_false, if_true]
  rw [hlst, ← State.trainGood, hgood]
  rfl

theorem State.trainGood_spec (t : State) (ht : t = if (s.bl n).good + 1 < 64 then s.trainGood n
      else ((s.trainGood n).setLst n 2).send (.bruilIdent n ((s.trainGood n).identOf n))) (hlst : s.lst n = 1) :
    (t.bl n).good = (s.bl n).good + 1 ∧ t.lst n = if (s.bl n).good + 1 < 64 then 1 else 2 := by
  have hgood : ((s.trainGood n).bl n).good = (s.bl n).good + 1 := by rw [State.trainGood, State.bl_modBl]
  subst ht
  split
  next => exact ⟨by rw [hgood], hlst⟩
  next =>
    have hsend := send_frame ((s.trainGood n).setLst n 2) (.bruilIdent n ((s.trainGood n).identOf n))
    refine ⟨?_, ?_⟩
    · rw [State.bl_congr n hsend.fab, State.bl_setLst, hgood]
    · rw [State.lst_congr n (hsend.rd _ rfl), State.lst_setLst _ _ _ (by decide)]

/-! ### Identity (R302, R306) -/

section
variable (p : Peer)

theorem State.identRx_excluded (hlst : s.lst n = 5) : s.identRx n p = s.modBl n fun b => { b with peer := some p } := if_pos hlst

section
variable (hlst : s.lst n = 2) (hid : s.idValid = true) (hp : p.id.isSome = true)
include hlst hid hp

/-- In IDENT, a device that has its identifier refuses the identity of its peer or takes it. -/
theorem State.identRx_refused (why : Nat) (h : s.refusal n p = some why) : s.identRx n p = s.blExclude n why p := by
  unfold State.identRx
  rw [if_neg (by rw [hlst]; decide), if_neg (by rw [hlst]; decide)]
  simp only [hid, Option.isNone_eq_false_iff.mpr hp, Bool.not_true, Bool.and_false, Bool.false_and, Bool.false_eq_true, if_false,
    Bool.or_self, h]

theorem State.identRx_accepted (h : s.refusal n p = none) : s.identRx n p = s.blActive n p := by
  unfold State.identRx
  rw [if_neg (by rw [hlst]; decide), if_neg (by rw [hlst]; decide)]
  simp only [hid, Option.isNone_eq_false_iff.mpr hp, Bool.not_true, Bool.and_false, Bool.false_and, Bool.false_eq_true, if_false,
    Bool.or_self, h]

end

theorem State.refusal_self (h : p.serial = Config.serial) : s.refusal n p = some 4 := if_pos h

end
end

section
variable (s : State) (n : Nat) (hn : n < 8)
include hn

theorem exec_bruilFlitRx (bytes : List Byte) (hlen : bytes.length = 64) :
    exec (.bruilFlitRx n bytes) s = .next (if s.running (0x060 + n) then s.flitRx n bytes else s) := by
  refine answer_eq ?_ rfl
  rw [wfBl, decide_eq_true hn, hlen]
  rfl

theorem exec_bruilIdentRx (p : Peer) :
    exec (.bruilIdentRx n p) s = .next (if s.running (0x060 + n) then s.identRx n p else s) := answer_eq (decide_eq_true hn) rfl

/-! ### Training again, and a cause of exclusion looked at again (R302) -/

/-- A link whose page does not run, or in another state, is left alone. -/
theorem exec_bruilFailedRetrain_idle (h : (s.lst n = 4 && s.running (0x060 + n)) = false) :
    exec (.bruilFailedRetrain n) s = .next s := answer_eq (decide_eq_true hn) (if_neg (by rw [blPage, h]; decide))

theorem exec_bruilFailedRetrain_taken (hrun : s.running (0x060 + n) = true) (hlst : s.lst n = 4) :
    exec (.bruilFailedRetrain n) s = .next ((s.modBl n fun b => { b with good := 0 }).setLst n 1) :=
  answer_eq (decide_eq_true hn) (if_pos (by rw [blPage, hrun, hlst]; rfl))

omit hn in
theorem State.retrained_spec : ((s.modBl n fun b => { b with good := 0 }).setLst n 1).lst n = 1 ∧
    (((s.modBl n fun b => { b with good := 0 }).setLst n 1).bl n).good = 0 ∧
    s.keepsRegs ((s.modBl n fun b => { b with good := 0 }).setLst n 1) [Reg.BL_STAT n] := by
  refine ⟨State.lst_setLst _ _ _ (by decide), by rw [State.bl_setLst, State.bl_modBl], ?_⟩
  exact State.keepsRegs.put (s := s) (t := s.modBl n fun b => { b with good := 0 }) (fun _ _ => rfl) _ _ _ _ (List.mem_singleton_self _)

theorem exec_bruilExclRecheck_stopped (hrun : s.running (0x060 + n) = false) : exec (.bruilExclRecheck n) s = .next s :=
  answer_eq (decide_eq_true hn) (if_neg (by rw [blPage, hrun, Bool.and_false]; decide))

theorem exec_bruilExclRecheck_judged (p : Peer) (hrun : s.running (0x060 + n) = true) (hlst : s.lst n = 5)
    (hpeer : (s.bl n).peer = some p) (hid : s.idValid = true) (hp : p.id.isSome = true) :
    exec (.bruilExclRecheck n) s = .next (if (s.refusal n p).isNone then s.blActive n p else s) := by
  refine answer_eq (decide_eq_true hn) ((if_pos (by rw [blPage, hrun, hlst]; rfl)).trans ?_)
  rw [hpeer]
  dsimp only
  rw [hid, hp]
  rfl

/-! ### Failure (R313) -/

theorem exec_bruilAckTimeout_acked (h : (s.bl n).unack = []) : exec (.bruilAckTimeout n) s = .next s :=
  answer_eq (decide_eq_true hn) (if_pos (by rw [h]; rfl))

theorem exec_bruilAckTimeout_open (h : (s.bl n).unack ≠ []) : exec (.bruilAckTimeout n) s = .next (s.blFail n true) :=
  answer_eq (decide_eq_true hn) (if_neg (by rw [List.isEmpty_iff]; exact h))

omit hn in
theorem State.blFail_up (h : s.lst n = 3) (replay : Bool) :
    s.blFail n replay = ((s.count (Reg.BL_ERR2 n) 15 0).raise (0x060 + n) 9).blDown n 4 replay :=
  if_neg (by rw [State.linkUp, h]; decide)

omit hn in
theorem State.blFail_down (h : s.lst n ≠ 3) (replay : Bool) : s.blFail n replay = s :=
  if_pos (by rw [State.linkUp, beq_eq_false_iff_ne.mpr h]; rfl)

end

/-- Settles O24: what arrives on a link, by the state of the link and by the identity of its peer. -/
theorem bruilLinks : Obligations.BruilLinks := by
  unfold Obligations.BruilLinks
  intro s n why bytes p hn hlen
  have hflit (hrun : s.running (0x060 + n) = true) : exec (.bruilFlitRx n bytes) s = .next (s.flitRx n bytes) := by
    rw [exec_bruilFlitRx s n hn bytes hlen, if_pos hrun]
  have hident (hrun : s.running (0x060 + n) = true) : exec (.bruilIdentRx n p) s = .next (s.identRx n p) := by
    rw [exec_bruilIdentRx s n hn p, if_pos hrun]
  refine ⟨fun hrun => ⟨?_, ?_, ?_, exec_bruilExclRecheck_stopped s n hn hrun⟩, fun hrun => ⟨hflit hrun, hident hrun⟩,
    fun hrun hlst hcrc => ?_, fun hrun hlst hcrc harm => ?_, fun hrun hlst => ?_, fun hrun hlst hid hp => ⟨fun h => ?_, fun h => ?_⟩,
    s.refusal_self n p, fun hrun hlst => ?_, fun hrun hlst hpeer hid hp => ⟨fun h => ?_, fun h => ?_⟩,
    exec_bruilAckTimeout_acked s n hn, exec_bruilAckTimeout_open s n hn, answer_eq (decide_eq_true hn) rfl,
    answer_eq (decide_eq_true hn) rfl, s.blFail_up n, s.blFail_down n⟩
  · rw [exec_bruilFlitRx s n hn bytes hlen, if_neg (by rw [hrun]; decide)]
  · rw [exec_bruilIdentRx s n hn p, if_neg (by rw [hrun]; decide)]
  · exact exec_bruilFailedRetrain_idle s n hn (by rw [hrun, Bool.and_false])
  · exact answers_eq ((hflit hrun).trans (congrArg Host.Outcome.next (s.flitRx_bad n bytes hn hlst hcrc))) (s.trainBad_spec n hn hlst)
  · exact answers_eq ((hflit hrun).trans (congrArg Host.Outcome.next (s.flitRx_good n bytes hlst hcrc harm)))
      (s.trainGood_spec n _ rfl hlst)
  · refine answers_eq ((hident hrun).trans (congrArg Host.Outcome.next (s.identRx_excluded n p hlst))) ⟨?_, rfl⟩
    rw [State.bl_modBl]
  · rw [hident hrun, s.identRx_refused n p hlst hid hp why h]
  · rw [hident hrun, s.identRx_accepted n p hlst hid hp h]
  · exact answers_eq (exec_bruilFailedRetrain_taken s n hn hrun hlst) (s.retrained_spec n)
  · rw [exec_bruilExclRecheck_judged s n hn p hrun hlst hpeer hid hp, h]
    rfl
  · rw [exec_bruilExclRecheck_judged s n hn p hrun hlst hpeer hid hp, h]
    rfl

end Sys2Proof.Machine
end

section
/-!
PROOF. Announcements and packets of the fabric (R308, R311, R314, R315, R317), up to the statement FabricPackets.
-/
namespace Sys2Proof.Machine

section
variable (s : State)

theorem State.fabricOn_eq : s.fabricOn = s.running 0x068 := rfl

/-! ### Announcements (R308) -/

section
variable (dev serial : Nat) (nbrs : List Nat) (hdev : dev < 512) (hnbrs : ∀ d ∈ nbrs, d < 512)
include hdev hnbrs

theorem wfAnnounce : (decide (dev < 512) && nbrs.all fun d => decide (d < 512)) = true := by
  rw [decide_eq_true hdev, Bool.true_and, List.all_eq_true]
  exact fun d hd => decide_eq_true (hnbrs d hd)

/-- An announcement that the page does not take, or that says nothing new. -/
theorem exec_linkStateAnnounceRx_known
    (h : s.running 0x068 = false ∨ dev = s.devId ∨ Sparse.find? s.fab.topo dev = some (serial, nbrs)) :
    exec (.linkStateAnnounceRx dev serial nbrs) s = .next s := by
  refine answer_eq (wfAnnounce dev nbrs hdev hnbrs) (if_pos ?_)
  rw [s.fabricOn_eq, Bool.or_eq_true, Bool.or_eq_true, Bool.not_eq_true', decide_eq_true_eq, decide_eq_true_eq, or_assoc]
  exact h

/-- The announcement is kept. -/
def State.announced (s : State) (dev serial : Nat) (nbrs : List Nat) : State :=
  { s with fab := { s.fab with topo := Sparse.insert s.fab.topo dev (serial, nbrs) } }

theorem exec_linkStateAnnounceRx_new (hrun : s.running 0x068 = true) (hne : dev ≠ s.devId)
    (hnew : Sparse.find? s.fab.topo dev ≠ some (serial, nbrs)) : exec (.linkStateAnnounceRx dev serial nbrs) s =
      .next (((s.announced dev serial nbrs).updateReach.tunFollow.sleepCheck s.fab.known).flood dev serial nbrs none) := by
  refine answer_eq (wfAnnounce dev nbrs hdev hnbrs) (if_neg ?_)
  rw [s.fabricOn_eq, hrun, decide_eq_false hne, decide_eq_false hnew]
  decide

end

/-! ### Packets (R311) -/

section
variable (n : Nat) (p : Packet)

/-- The page or the link does not take packets. -/
theorem exec_bruilPacketRx_ignored
    (hwf : (wfBl n && decide (p.src < 512) && decide (p.dst < 512) && decide (p.cls < 7) && decide (p.eseq < 65536)) = true)
    (h : s.running 0x068 = false ∨ s.lst n ≠ 3) : exec (.bruilPacketRx n p) s = .next s := by
  refine answer_eq hwf (if_pos ?_)
  rw [s.fabricOn_eq, State.linkUp]
  rcases h with h | h
  · rw [h]; rfl
  · rw [beq_eq_false_iff_ne.mpr h, Bool.not_false, Bool.or_true]

theorem exec_bruilPacketRx_taken
    (hwf : (wfBl n && decide (p.src < 512) && decide (p.dst < 512) && decide (p.cls < 7) && decide (p.eseq < 65536)) = true)
    (hrun : s.running 0x068 = true) (hlst : s.lst n = 3) (harm : s.bit (Reg.PG_INJARM 0x068) 0 = false) :
    exec (.bruilPacketRx n p) s = .next (s.packetRx n p) := by
  refine answer_eq hwf ((if_neg ?_).trans ?_)
  · rw [s.fabricOn_eq, State.linkUp, hrun, hlst]
    decide
  · rw [s.injFires_of_disarmed _ _ _ harm, if_neg Bool.false_ne_true, s.injStep_of_disarmed _ _ _ harm]

theorem State.packetRx_here (h : p.dst = s.devId) : s.packetRx n p = s.packetHere p := if_pos h

theorem State.packetRx_passes (t : State) (h : p.dst ≠ s.devId) (hpath : s.forward p (s.linkDir n) = some t) : s.packetRx n p = t := by
  unfold State.packetRx
  rw [if_neg h, hpath]

theorem State.packetRx_pathless (h : p.dst ≠ s.devId) (hpath : s.forward p (s.linkDir n) = none) :
    s.packetRx n p = s.reinject p := by
  unfold State.packetRx
  rw [if_neg h, hpath]

end

/-! ### Gaps and acknowledgements (R315, R317) -/

section
variable (src cls : Nat)

theorem exec_seqGapTimeout (hsrc : src < 512) (hcls : cls < 7) :
    exec (.seqGapTimeout src cls) s = .next (if s.running 0x068 then s.gapLost src cls else s) := by
  refine answer_eq ?_ rfl
  rw [decide_eq_true hsrc, decide_eq_true hcls]
  rfl

/-- Without a held packet no gap ends. -/
theorem State.gapLost_none (h : s.fab.gapHeld = []) : s.gapLost src cls = s := by
  have hnone : s.firstHeld (src * 16 + cls) = none := by
    unfold State.firstHeld
    rw [h]
    rfl
  unfold State.gapLost
  dsimp only
  rw [hnone]

end

theorem exec_perrAckSend_off (h : s.running 0x068 = false) : exec .perrAckSend s = .next s :=
  congrArg Host.Outcome.next (if_neg (by rw [s.fabricOn_eq, h, Bool.false_and]; decide))

theorem exec_perrAckSend_on (hrun : s.running 0x068 = true) (hhalt : s.halted = false) : exec .perrAckSend s = .next
    (({ s with fab := { s.fab with ackOwed := [] } } : State).each s.fab.ackOwed fun s a =>
      s.fabricSend (a.1 / 128) 3 (a.1 % 128) 0 (.ack (a.1 % 128) a.2)) :=
  congrArg Host.Outcome.next (if_pos (by rw [s.fabricOn_eq, hrun, hhalt]; rfl))

end

/-- Settles O25: an announcement by what is known, a packet by its destination and the path to it, a gap by what is held. -/
theorem fabricPackets : Obligations.FabricPackets := by
  unfold Obligations.FabricPackets
  intro s t n dev serial src cls nbrs p hn hdev hsrc hcls hnbrs hpsrc hpdst hpcls heseq
  have hwf : (wfBl n && decide (p.src < 512) && decide (p.dst < 512) && decide (p.cls < 7) && decide (p.eseq < 65536)) = true := by
    rw [wfBl, decide_eq_true hn, decide_eq_true hpsrc, decide_eq_true hpdst, decide_eq_true hpcls, decide_eq_true heseq]
    rfl
  have hgap := exec_seqGapTimeout s src cls hsrc hcls
  refine ⟨fun hrun => ⟨?_, ?_, ?_, exec_perrAckSend_off s hrun⟩, fun h => ?_,
    exec_linkStateAnnounceRx_new s dev serial nbrs hdev hnbrs, fun h => exec_bruilPacketRx_ignored s n p hwf (Or.inr h),
    fun hrun hlst harm => ?_, fun hrun => by rw [hgap, if_pos hrun], s.gapLost_none src cls, exec_perrAckSend_on s⟩
  · exact exec_linkStateAnnounceRx_known s dev serial nbrs hdev hnbrs (Or.inl hrun)
  · exact exec_bruilPacketRx_ignored s n p hwf (Or.inl hrun)
  · rw [hgap, if_neg (by rw [hrun]; decide)]
  · exact exec_linkStateAnnounceRx_known s dev serial nbrs hdev hnbrs (Or.inr h)
  · rw [exec_bruilPacketRx_taken s n p hwf hrun hlst harm]
    refine ⟨fun h => ?_, fun h hpath => ?_, fun h hpath => ?_⟩
    · rw [s.packetRx_here n p h]
    · rw [s.packetRx_passes n p t h hpath]
    · rw [s.packetRx_pathless n p h hpath]

end Sys2Proof.Machine
end

section
/-!
PROOF. Error returns, the return to the primary link, fences and TIME flits (R312, R318 to R322, R331), up to the statement
FencesAndReturns.
-/
namespace Sys2Proof.Machine

theorem has_routingPage (s : State) : s.has 0x068 = true := by exact has_of_parts s 0x068 (by decide)

theorem eventReg_RT_FSTAT : eventReg Reg.RT_FSTAT = false := eventReg_block _ (by decide) (by decide) (by decide) (by decide)

section
variable (s : State)

/-! ### Error returns (R318) -/

section
variable (dev init : Nat) (hdev : dev < 512) (hinit : init < 65)
include hdev hinit

theorem exec_perrRx (u : Option Nat) (e : Option (Nat × Nat × Nat)) :
    exec (.perrRx dev init u e) s = .next (if s.running 0x068 then s.perrRx dev init u e else s) := by
  refine answer_eq ?_ rfl
  rw [decide_eq_true hdev, decide_eq_true hinit]
  rfl

end

/-! ### The return to the primary link (R312) -/

/-- The destination leaves its alternate. -/
def State.altLeft (s : State) (dev : Nat) : State := { s with fab := { s.fab with onAlt := Sparse.erase s.fab.onAlt dev } }

section
variable (dev : Nat) (hdev : dev < 512)
include hdev

theorem exec_routeReturn_none (h : Sparse.find? s.fab.onAlt dev = none) : exec (.routeReturn dev) s = .next s := by
  refine answer_eq (decide_eq_true hdev) ?_
  rw [h]

theorem exec_routeReturn_due (u : Nat) (h : Sparse.find? s.fab.onAlt dev = some u) (hdue : u + 20000 ≤ s.now)
    (hup : (upOnly s (s.primaryLink dev)).isSome = true) : exec (.routeReturn dev) s = .next (s.altLeft dev).altStat := by
  refine answer_eq (decide_eq_true hdev) ?_
  rw [h]
  exact if_pos (by rw [decide_eq_true hdue, hup]; rfl)

end

theorem State.altStat_spec (t : State) : t.altStat.fab = t.fab ∧ t.altStat.bit Reg.RT_STAT 17 = (!t.fab.onAlt.isEmpty) ∧
    t.keepsRegs t.altStat [Reg.RT_STAT] :=
  ⟨(put_frame _ _ _ _ _).fab, State.bit_setBit_same _ _ _ _ (by decide),
    (State.keepsRegs.refl t _).setBit _ _ _ (List.mem_singleton_self _)⟩

/-! ### Fences (R319, R320) -/

theorem State.fab_setBit (a i : Nat) (b : Bool) : (s.setBit a i b).fab = s.fab := by
  rw [State.setBit, (put_frame _ _ _ _ _).fab]

theorem exec_rtFence_off (v : Word) (h : v.getLsbD 0 = false) : exec (.rtFence v) s = .next s :=
  congrArg Host.Outcome.next (if_neg (by rw [h, Bool.false_and]; decide))

theorem exec_rtFence_on (v : Word) (h : v.getLsbD 0 = true) (hrun : s.running 0x068 = true) :
    exec (.rtFence v) s = .next ((s.setBit Reg.RT_FSTAT 0 true).fenceIssue 0 .rt) :=
  congrArg Host.Outcome.next (if_pos (by rw [h, State.fabricOn, hrun]; rfl))

/-- A fence is added to those under way, and what its initiator posted is its own. -/
theorem State.fenceIssue_spec (t : State) (init : Nat) (kind : FenceKind) : (∀ a, (t.fenceIssue init kind).rd a = t.rd a) ∧
    (t.fenceIssue init kind).fab.fences.length = t.fab.fences.length + 1 ∧
    ∀ e ∈ (t.fenceIssue init kind).fab.posted, e.1 % 128 ≠ init := by
  refine ⟨fun _ => rfl, List.length_append, fun e he => ?_⟩
  obtain ⟨-, hne⟩ := List.mem_filter.mp he
  exact bne_iff_ne.mp hne

section
variable (init : Nat) (hinit : init < 65)
include hinit

theorem exec_fence_none (h : s.fenceOf init = none) :
    exec (.fenceComplete init) s = .next s ∧ exec (.fenceTimeout init) s = .next s := by
  refine ⟨answer_eq (decide_eq_true hinit) ?_, answer_eq (decide_eq_true hinit) ?_⟩ <;> rw [h]

theorem exec_fenceTimeout_some (f : Fence) (h : s.fenceOf init = some f) :
    exec (.fenceTimeout init) s = .next (s.fenceEnd f 2) := by
  refine answer_eq (decide_eq_true hinit) ?_
  rw [h]

theorem exec_fenceComplete_some (f : Fence) (h : s.fenceOf init = some f) : exec (.fenceComplete init) s =
    .next (if f.need.all (s.ackedPast init) then s.fenceEnd f (s.fab.failedInit.contains init).toNat else s) := by
  have hstat (b : Bool) : (if b then 1 else 0) = b.toNat := by cases b <;> rfl
  refine answer_eq (decide_eq_true hinit) ?_
  rw [h, ← hstat]

end

/-- A fence of the registers that ends: its status before its event. -/
def State.fenceShown (s : State) (f : Fence) : State :=
  { s with fab := { s.fab with
      fences := s.fab.fences.erase f
      failedInit := s.fab.failedInit.filter fun i => i != f.init } }

theorem State.fenceEnd_rt (f : Fence) (status : Nat) (h : f.kind = .rt) : s.fenceEnd f status =
    ((s.fenceShown f).wrN Reg.RT_FSTAT (((s.fenceShown f).fab.fences.any fun g => g.kind == .rt).toNat + 2 * status)).raise 0x068 11 := by
  unfold State.fenceEnd
  rw [h]
  rfl

theorem State.fenceEnd_rt_spec (f : Fence) (status : Nat) (h : f.kind = .rt) (hstatus : status < 3) :
    (s.fenceEnd f status).get Reg.RT_FSTAT 2 1 = status ∧ (s.fenceEnd f status).bit (Reg.PG_EVRAW 0x068) 11 = true ∧
      f.init ∉ (s.fenceEnd f status).fab.failedInit := by
  have hmore : ((s.fenceShown f).fab.fences.any fun g => g.kind == .rt).toNat ≤ 1 := Bool.toNat_le _
  rw [s.fenceEnd_rt f status h]
  refine ⟨?_, State.bit_raise_same _ _ _ (by decide) (by decide) (has_routingPage _), ?_⟩
  · rw [State.get_raise _ _ _ _ (by decide) eventReg_RT_FSTAT, State.get_wrN_same _ _ _ _ _ (by omega)]
    omega
  · rw [(raise_frame _ _ _).fab, (wrN_frame _ _ _).fab]
    intro hmem
    obtain ⟨-, hne⟩ := List.mem_filter.mp hmem
    exact bne_iff_ne.mp hne rfl

/-! ### TIME flits (R322) -/

section
variable (n aL lP depth : Nat) (aP : Option Nat) (hn : n < 8) (hdepth : depth < 16)

/-- A bad TIME flit: none is due any more, and it is counted. -/
def State.timeBad (s : State) (n : Nat) : State := (s.modBl n fun b => { b with timeDue := false }).count (Reg.BL_TCNT n) 31 16

theorem State.timeBad_spec : ((s.timeBad n).bl n).timeDue = false ∧
    (s.timeBad n).get (Reg.BL_TCNT n) 31 16 = min (s.get (Reg.BL_TCNT n) 31 16 + 1) 65535 ∧ s.keepsRegs (s.timeBad n) [Reg.BL_TCNT n] := by
  refine ⟨?_, ?_, ?_⟩
  · rw [State.timeBad, State.bl_count, State.bl_modBl]
  · exact State.get_count_same (s.modBl n fun b => { b with timeDue := false }) _ _ _ _ (by decide) (by decide)
  · exact State.keepsRegs.count (s := s) (t := s.modBl n fun b => { b with timeDue := false }) (fun _ _ => rfl) _ _ _ _
      (List.mem_singleton_self _)

include hn hdepth

theorem exec_timeFlitRx_down (good : Bool) (h : s.lst n ≠ 3) : exec (.timeFlitRx n good aL lP aP depth) s = .next s := by
  refine answer_eq ?_ (if_pos (by rw [State.linkUp, beq_eq_false_iff_ne.mpr h]; rfl))
  rw [wfBl, decide_eq_true hn, decide_eq_true hdepth]
  rfl

theorem exec_timeFlitRx_up (good : Bool) (h : s.lst n = 3) : exec (.timeFlitRx n good aL lP aP depth) s =
    .next (if good then s.timeGood n aL lP aP depth else s.timeBad n) := by
  refine answer_eq ?_ (if_neg (by rw [State.linkUp, h]; decide))
  rw [wfBl, decide_eq_true hn, decide_eq_true hdepth]
  rfl

end

/-! ### The remote error log (R331) -/

/-- The four words that show an entry of the remote error log. -/
def State.rerrShown (s : State) (w dev : Word) (addr : Nat) : State :=
  ((s.wr Reg.RT_RERR0 w).wr Reg.RT_RERR1 dev).wr64 Reg.RT_RERR2 Reg.RT_RERR3 addr

theorem State.rerrShown_spec (w dev : Word) (addr : Nat) (haddr : addr < 2 ^ 64) :
    (s.rerrShown w dev addr).rd Reg.RT_RERR0 = w ∧ (s.rerrShown w dev addr).rd Reg.RT_RERR1 = dev ∧
      (s.rerrShown w dev addr).rd64 Reg.RT_RERR2 Reg.RT_RERR3 = addr ∧
      s.keepsRegs (s.rerrShown w dev addr) [Reg.RT_RERR0, Reg.RT_RERR1, Reg.RT_RERR2, Reg.RT_RERR3] := by
  refine ⟨?_, ?_, ?_, (((State.keepsRegs.refl s _).wr _ _ (by decide)).wr _ _ (by decide)).wr64 _ _ _ (by decide) (by decide)⟩
  · rw [State.rerrShown, State.rd_wr64_ne _ _ _ _ _ (by decide) (by decide), State.rd_wr_ne _ _ _ _ (by decide), State.rd_wr_same]
  · rw [State.rerrShown, State.rd_wr64_ne _ _ _ _ _ (by decide) (by decide), State.rd_wr_same]
  · rw [State.rerrShown, State.rd64_wr64_same _ _ _ _ (by decide), Nat.mod_eq_of_lt haddr]

theorem exec_rerrLogRead_empty (h : s.fab.rerrLog = []) : exec .rerrLogRead s = .next (s.rerrShown 0 0 0) := by
  refine congrArg Host.Outcome.next ?_
  rw [h]
  rfl

/-- The oldest entry leaves the remote error log. -/
def State.rerrTaken (s : State) (rest : List (Nat × Nat × Nat × Nat × Nat)) : State :=
  { s with fab := { s.fab with rerrLog := rest } }

theorem exec_rerrLogRead_oldest (tag init code dev addr : Nat) (rest : List (Nat × Nat × Nat × Nat × Nat))
    (h : s.fab.rerrLog = (tag, init, code, dev, addr) :: rest) : exec .rerrLogRead s = .next ((s.rerrTaken rest).rerrShown
      (BitVec.ofNat 32 (tag % 65536 + init * 65536 + 2 ^ 23 + code * 2 ^ 24)) (BitVec.ofNat 32 dev) addr) := by
  refine congrArg Host.Outcome.next ?_
  rw [h]
  rfl

theorem State.rerrShown_fab (w dev : Word) (addr : Nat) : (s.rerrShown w dev addr).fab = s.fab := rfl

end

/-- Settles O26: an error return by what it carries, a fence by what is acknowledged, a TIME flit by its link, the log by entry. -/
theorem fencesAndReturns : Obligations.FencesAndReturns := by
  unfold Obligations.FencesAndReturns
  intro s dev init upTo tag code addr n depth aL lP aP v f hdev hinit hn hdepth
  have hperr := exec_perrRx s dev init hdev hinit
  refine ⟨fun hrun => ?_, fun hrun => ?_, fun hrun u e => ?_, fun u h hdue hup => ?_, exec_routeReturn_none s dev hdev,
    exec_rtFence_off s v, fun h hrun => ?_, exec_fence_none s init hinit, fun h hneed => ?_, fun h hneed => ?_,
    exec_fenceTimeout_some s init hinit f, fun h status => s.fenceEnd_rt_spec f status h,
    fun h good => exec_timeFlitRx_down s n aL lP depth aP hn hdepth good h, fun h => ?_, fun h => ?_, fun h => ?_,
    fun rest h haddr => ?_⟩
  · refine answers_eq ((hperr _ _).trans (congrArg Host.Outcome.next (if_pos hrun))) ⟨Sparse.find?_insert_same _ _ _, rfl⟩
  · exact (hperr _ _).trans (congrArg Host.Outcome.next (if_pos hrun))
  · exact (hperr _ _).trans (congrArg Host.Outcome.next (if_neg (by rw [hrun]; decide)))
  · obtain ⟨hfab, hbit, hkeep⟩ := State.altStat_spec (s.altLeft dev)
    refine answers_eq (exec_routeReturn_due s dev hdev u h hdue hup) ⟨?_, hbit, hkeep⟩
    rw [hfab]
    exact Sparse.find?_erase_same _ _
  · obtain ⟨hrd, hlen, hposted⟩ := State.fenceIssue_spec (s.setBit Reg.RT_FSTAT 0 true) 0 .rt
    rw [State.fab_setBit] at hlen
    refine answers_eq (exec_rtFence_on s v h hrun) ⟨?_, hlen, hposted,
      ((State.keepsRegs.refl s _).setBit _ _ _ (List.mem_singleton_self _)).same hrd⟩
    rw [State.bit, hrd]
    exact State.bit_setBit_same _ _ _ _ (by decide)
  · rw [exec_fenceComplete_some s init hinit f h, if_neg ?_]
    rw [Bool.not_eq_true, ← Bool.not_eq_true', List.not_all_eq_any_not]
    exact hneed
  · rw [exec_fenceComplete_some s init hinit f h, if_pos hneed]
  · exact answers_eq (exec_timeFlitRx_up s n aL lP depth aP hn hdepth false h) (s.timeBad_spec n)
  · exact exec_timeFlitRx_up s n aL lP depth aP hn hdepth true h
  · exact answers_eq (exec_rerrLogRead_empty s h) (s.rerrShown_spec 0 0 0 (by decide))
  · obtain ⟨h0, h1, h2, hkeep⟩ := (s.rerrTaken rest).rerrShown_spec
      (BitVec.ofNat 32 (tag % 65536 + init * 65536 + 2 ^ 23 + code * 2 ^ 24)) (BitVec.ofNat 32 dev) addr haddr
    exact answers_eq (exec_rerrLogRead_oldest s tag init code dev addr rest h)
      ⟨by rw [State.rerrShown_fab]; rfl, h0, h1, h2, hkeep⟩

end Sys2Proof.Machine
end

section
/-!
PROOF. Sleep and wake of the fabric (R326 to R329), up to the statement SleepAndWake.
-/
namespace Sys2Proof.Machine

theorem eventReg_RT_SLP_STAT : eventReg Reg.RT_SLP_STAT = false := eventReg_block _ (by decide) (by decide) (by decide) (by decide)

theorem eventReg_RT_SLP_C_LO : eventReg Reg.RT_SLP_C_LO = false := eventReg_block _ (by decide) (by decide) (by decide) (by decide)

theorem eventReg_RT_SLP_C_HI : eventReg Reg.RT_SLP_C_HI = false := eventReg_block _ (by decide) (by decide) (by decide) (by decide)

section
variable (s : State)

theorem State.slp_congr {s t : State} (h : t.rd Reg.RT_SLP_STAT = s.rd Reg.RT_SLP_STAT) : t.slp = s.slp := by
  rw [State.slp, State.get, h, State.slp, State.get]

theorem State.slp_setSlp (v : Nat) (hv : v < 8) : (s.setSlp v).slp = v :=
  (State.get_put_same s _ _ _ _ (by decide) (by decide)).trans (Nat.mod_eq_of_lt hv)

/-- A state of the agreement that is entered with an event. -/
theorem State.slpEntered_spec (v b : Nat) (hv : v < 8) (hb : b < 32) :
    ((s.setSlp v).raise 0x068 b).slp = v ∧ ((s.setSlp v).raise 0x068 b).bit (Reg.PG_EVRAW 0x068) b = true := by
  refine ⟨?_, State.bit_raise_same _ _ _ (by decide) hb (has_routingPage _)⟩
  rw [State.slp_congr (State.rd_raise _ _ _ _ (by decide) eventReg_RT_SLP_STAT), State.slp_setSlp _ _ hv]

/-! ### Votes (R326, step 1) -/

theorem State.voteWrite_off (on : Bool) (h : s.running 0x068 = false) : s.voteWrite on = s.setBit Reg.RT_SLP_CTRL 0 on := by
  have hoff : (s.setBit Reg.RT_SLP_CTRL 0 on).fabricOn = false :=
    (State.running_congr 0x068 (State.rd_setBit_ne _ _ _ _ _ (by decide))).trans h
  unfold State.voteWrite
  exact if_pos (by rw [hoff]; rfl)

section
variable (dev : Nat) (hdev : dev < 512)
include hdev

theorem exec_sleepVoteRx_leader (on : Bool) (hrun : s.running 0x068 = true) (hlead : s.sleepLeader = true) :
    exec (.sleepVoteRx dev on) s = .next (s.takeVote dev on) :=
  answer_eq (decide_eq_true hdev) (if_pos (by rw [State.fabricOn, hrun, hlead]; rfl))

theorem exec_sleepVoteRx_other (on : Bool) (hlead : s.sleepLeader = false) : exec (.sleepVoteRx dev on) s = .next s :=
  answer_eq (decide_eq_true hdev) (if_neg (by rw [hlead, Bool.and_false]; decide))

/-! ### Aborts (R326, step 3) -/

theorem exec_sleepAbortRx (hrun : s.running 0x068 = true) (hlead : s.sleepLeader = false) :
    exec (.sleepAbortRx dev) s = .next s.sleepLeave := by
  refine answer_eq (decide_eq_true hdev) ((if_neg ?_).trans (if_neg ?_))
  · rw [State.fabricOn, hrun]
    decide
  · rw [hlead]
    decide

end

theorem State.sleepLeave_agreed (h : s.slp = 2) :
    s.sleepLeave = (s.setSlp (if s.bit Reg.RT_SLP_CTRL 0 then 1 else 0)).raise 0x068 13 := if_pos h

theorem State.sleepLeave_other (h : s.slp ≠ 2) : s.sleepLeave = s := if_neg h

/-! ### The agreement (R326, step 2) -/

section
variable (mark : Nat)

theorem exec_sleepAgreeRx_on (hrun : s.running 0x068 = true) : exec (.sleepAgreeRx mark) s = .next (s.agreeRx mark) :=
  congrArg Host.Outcome.next (if_pos hrun)

/-- The mark of an agreement is kept. -/
def State.markKept (s : State) (mark : Nat) : State := s.wr64 Reg.RT_SLP_C_LO Reg.RT_SLP_C_HI mark

theorem State.now_markKept : (s.markKept mark).now = s.now := by
  have hkeep (a : Nat) (hlo : a ≠ Reg.RT_SLP_C_LO) (hhi : a ≠ Reg.RT_SLP_C_HI) : (s.markKept mark).rd a = s.rd a :=
    State.rd_wr64_ne _ _ _ _ _ hlo hhi
  have hsec : (s.markKept mark).tbSec = s.tbSec :=
    State.rd64_congr (hkeep _ (by decide) (by decide)) (hkeep _ (by decide) (by decide))
  have hns : (s.markKept mark).tbNs = s.tbNs := congrArg BitVec.toNat (hkeep _ (by decide) (by decide))
  rw [State.now, hsec, hns, State.now]

/-- The device learns of the agreement too late: it waits for Z. -/
def State.wakeHolds (s : State) : State := { s with fab := { s.fab with wakeHeld := true } }

theorem State.wakeHolds_spec : s.wakeHolds.slp = s.slp ∧ s.wakeHolds.fab.wakeHeld = true := ⟨rfl, rfl⟩

theorem State.agreeRx_voted (h : s.slp = 1) : s.agreeRx mark =
    if s.now < mark * markPeriod then ((s.markKept mark).setSlp 2).raise 0x068 12 else (s.markKept mark).wakeHolds := by
  refine (if_pos h).trans ?_
  dsimp only
  rw [← State.markKept, State.now_markKept]
  rfl

theorem State.agreeRx_idle (h : s.slp = 0) : s.agreeRx mark = s.sleepAbort :=
  (if_neg (by rw [h]; decide)).trans (if_pos h)

theorem State.slp_markKept : (s.markKept mark).slp = s.slp := State.slp_congr (State.rd_wr64_ne _ _ _ _ _ (by decide) (by decide))

/-- The device will sleep, one mark after the mark that it keeps. -/
theorem State.agreed_mark (h : mark < 2 ^ 64) :
    (((s.markKept mark).setSlp 2).raise 0x068 12).rd64 Reg.RT_SLP_C_LO Reg.RT_SLP_C_HI = mark := by
  rw [State.rd64_raise _ _ _ _ _ (by decide) eventReg_RT_SLP_C_LO eventReg_RT_SLP_C_HI, State.setSlp,
    State.rd64_congr (State.rd_put_ne _ _ _ _ _ _ (by decide)) (State.rd_put_ne _ _ _ _ _ _ (by decide)), State.markKept,
    State.rd64_wr64_same _ _ _ _ (by decide), Nat.mod_eq_of_lt h]

end

/-! ### Wake requests (R326, R327) -/

theorem State.wakeAsk_none (h1 : s.slp ≠ 1) (h2 : s.slp ≠ 2) (h4 : s.slp ≠ 4) : s.wakeAsk = s := by
  unfold State.wakeAsk
  split
  next h => exact absurd h h1
  next h => exact absurd h h2
  next h => exact absurd h h4
  next => rfl

section
variable (src : Nat)

theorem State.wakeLatch_awake (h : s.feather = false) :
    s.wakeLatch src = s.wrN Reg.RT_WAKESRC (src + s.devId * 65536 + 2 ^ 31) := by
  have hsame : (s.wrN Reg.RT_WAKESRC (src + s.devId * 65536 + 2 ^ 31)).feather = false := by
    rw [State.feather, State.get_wrN_ne _ _ _ _ _ _ (by decide)]
    exact h
  unfold State.wakeLatch State.when
  exact if_neg (by rw [hsame]; decide)

/-- A device that neither votes, agreed nor sleeps only latches the source of the request. -/
theorem State.wakeRequest_latched (h1 : s.slp ≠ 1) (h2 : s.slp ≠ 2) (h4 : s.slp ≠ 4) (hfeather : s.feather = false) :
    s.wakeRequest src = s.wrN Reg.RT_WAKESRC (src + s.devId * 65536 + 2 ^ 31) := by
  have hslp : (s.wrN Reg.RT_WAKESRC (src + s.devId * 65536 + 2 ^ 31)).slp = s.slp :=
    State.slp_congr (State.rd_wrN_ne _ _ _ _ (by decide))
  rw [s.wakeRequest_eq, s.wakeLatch_awake src hfeather]
  exact State.wakeAsk_none _ (by rw [hslp]; exact h1) (by rw [hslp]; exact h2) (by rw [hslp]; exact h4)

end

section
variable (n dev : Nat) (hn : n < 8) (hdev : dev < 512)
include hn hdev

theorem exec_wakeBeaconRx : exec (.wakeBeaconRx n dev) s = .next (s.beaconRx n dev) := by
  refine answer_eq ?_ rfl
  rw [wfBl, decide_eq_true hn, decide_eq_true hdev]
  rfl

end

theorem State.beaconRx_listening (n dev : Nat) (h : s.lst n = 6) : s.beaconRx n dev =
    ((s.raise (0x060 + n) 12).wrN Reg.RT_WAKESRC (9 + n * 16 + dev * 65536 + 2 ^ 31)).startWake dev (some n) :=
  if_neg (fun hne => hne h)

end

/-- Settles O27: the agreement by the state of the device in it, a wake by its source and by that state. -/
theorem sleepAndWake : Obligations.SleepAndWake := by
  unfold Obligations.SleepAndWake
  intro s dev mark src n on hdev hsrc hsrc' hn
  have hwake : exec (.wakeRequest src) s = .next (s.wakeRequest src) :=
    answer_eq (by rw [decide_eq_true hsrc, decide_eq_true hsrc']; rfl) rfl
  refine ⟨rfl, fun hrun => ?_, exec_sleepVoteRx_leader s dev hdev on, exec_sleepVoteRx_other s dev hdev on,
    fun hrun h1 hnow hmark => ?_, fun hrun h1 hnow => ?_, fun hrun h0 => ?_, fun hrun hlead h2 => ?_, fun hrun hlead h2 => ?_,
    fun hnow => congrArg Host.Outcome.next (if_neg (Nat.not_le.mpr hnow)), fun hnow => congrArg Host.Outcome.next (if_pos hnow),
    fun h1 h2 h4 hfeather => ?_, hwake, rfl, fun h => ?_, fun h => ?_⟩
  · refine answers_eq (congrArg Host.Outcome.next (s.voteWrite_off on hrun)) ⟨State.bit_setBit_same _ _ _ _ (by decide), ?_⟩
    exact (State.keepsRegs.refl s _).setBit _ _ _ (List.mem_singleton_self _)
  · obtain ⟨hslp, hev⟩ := (s.markKept mark).slpEntered_spec 2 12 (by decide) (by decide)
    refine answers_eq ((exec_sleepAgreeRx_on s mark hrun).trans (congrArg Host.Outcome.next ?_)) ⟨hslp, s.agreed_mark mark hmark, hev⟩
    rw [s.agreeRx_voted mark h1, if_pos hnow]
  · obtain ⟨hslp, hheld⟩ := (s.markKept mark).wakeHolds_spec
    refine answers_eq ((exec_sleepAgreeRx_on s mark hrun).trans (congrArg Host.Outcome.next ?_)) ⟨?_, hheld⟩
    · rw [s.agreeRx_voted mark h1, if_neg (Nat.not_lt.mpr hnow)]
    · rw [hslp, s.slp_markKept, h1]
  · exact (exec_sleepAgreeRx_on s mark hrun).trans (congrArg Host.Outcome.next (s.agreeRx_idle mark h0))
  · have hv : (if s.bit Reg.RT_SLP_CTRL 0 then 1 else 0) < 8 := by split <;> decide
    exact answers_eq ((exec_sleepAbortRx s dev hdev hrun hlead).trans (congrArg Host.Outcome.next (s.sleepLeave_agreed h2)))
      (s.slpEntered_spec _ 13 hv (by decide))
  · exact (exec_sleepAbortRx s dev hdev hrun hlead).trans (congrArg Host.Outcome.next (s.sleepLeave_other h2))
  · refine answers_eq (hwake.trans (congrArg Host.Outcome.next (s.wakeRequest_latched src h1 h2 h4 hfeather))) ⟨State.rd_wrN_same _ _ _, ?_⟩
    exact (State.keepsRegs.refl s _).wrN _ _ (List.mem_singleton_self _)
  · exact (exec_wakeBeaconRx s n dev hn hdev).trans (congrArg Host.Outcome.next (if_pos h))
  · exact (exec_wakeBeaconRx s n dev hn hdev).trans (congrArg Host.Outcome.next (s.beaconRx_listening n dev h))

end Sys2Proof.Machine
end
